-- ==== Sys2Proof/Word.lean ====
section
/-! DEFINITION. The basic types of the U7 model: bytes, 32-bit and 64-bit register values, and sparse maps.
Spec 00 R5 to R8. -/

namespace Sys2Proof

/-- One byte (00 R5). -/
abbrev Byte := BitVec 8

/-- A 32-bit management register value (19 R536). -/
abbrev W32 := BitVec 32

/-- A 64-bit counter or device time value (04 R129, 15 R415). -/
abbrev W64 := BitVec 64

/-- A sparse map kept as a list of key and value pairs in one canonical form: keys strictly rising, and no
entry equal to what an unlisted key reads as. With bytes as values it is a list of `Host.Cell`. -/
abbrev SMap (α : Type) := List (Nat × α)

end Sys2Proof
end

