-- ==== Sys2Proof/Syntax.lean ====
section
/-! DEFINITION. The commands of the package, one constructor for each row of the opcode table with its operands, and the types of the operands. -/

namespace Sys2Proof.Machine

/-- A request pending at a scratchpad bank (06 R156, R173). Ports: 0 SE_A, 1 SE_B, 2 SE_W, 3 and 4 VU reads, 5 VU write, 6 DMA,
7 ring agent (hank writes), 8 network port, 9 scrubber. `task` is the task that a unit's request serves, by site and slot. -/
structure BankReq where
  port : Fin 10
  write : Bool
  word : Fin 32768
  rmw : Bool
  weight : Bool
  off : Fin 64
  data : List Byte
  task : Option (Fin 288 × Fin 8)
  deriving DecidableEq, Repr

/-- Inverted bits of one segment's code word (06 R167): how many, and which, by a number: 0 is the segment's lowest-numbered data bits (R172). -/
structure SegErr where
  seg : Fin 8
  bits : Fin 256
  pattern : Nat
  deriving DecidableEq, Repr

/-- The errors standing in a stored scratchpad word (06 R167): those of its segments, and how many of the three copies of its class bit are inverted. -/
structure WordErr where
  segs : List SegErr := []
  copies : Fin 4 := 0
  deriving DecidableEq, Repr

/-- What waits on a tag: the matrix unit, the vector unit, the DMA engine, a TAGOP of a task, or a pattern context. -/
inductive TagWaiter where
  | mu | vu | dma
  | tag (slot : Fin 8)
  | se (engine : Fin 3) (ctx : Fin 8)
  deriving DecidableEq, Repr

/-- A unit with an isolation gate that can disagree (17 R474). -/
inductive GateUnit where
  | site (i : Fin 288)
  | seam (k : Fin 4)
  deriving DecidableEq, Repr

/-- The access that waits at a gate: the core site and the unit that made it, with the pattern context of a stream engine (0 MU, 1 VU, 2 to 4 SE_A, SE_B and SE_W, 5 DMA, 6 CTX, 7 egress port). -/
structure GateReq where
  site : Fin 288
  unit : Fin 8
  ctx : Fin 8
  deriving DecidableEq, Repr

/-- The errors of Table XMEM-9 that a channel can report. -/
inductive ChanErr where
  /-- Command or address parity (1), write data (2), read data or LPDDR 5X link (3), with the retries made and whether one succeeded. -/
  | retried (code : Fin 3) (retries : Fin 5) (good : Bool)
  /-- A correction by link ECC or on-die ECC. -/
  | corrected
  /-- An HBM3E block that on-die ECC cannot correct: reads of it return no data until it is written. -/
  | uncorrectable
  deriving DecidableEq, Repr

/-- What a channel reports: an error, and how many 64-byte blocks of a traffic generator's run it had covered by then. -/
structure ChanReport where
  err : ChanErr
  covered : Nat
  deriving DecidableEq, Repr

/-- A 64-byte unit that a channel starts: whether it is its request's last, and how many requests of one class were moved for page hits (11 R319). -/
structure UnitStart where
  final : Bool
  reorders : Fin 17
  deriving DecidableEq, Repr

/-- A frame as a sub-port receives it: its bytes from the destination address through the FCS, and for lanes the codewords that FEC corrected and could not correct since the frame before. -/
structure RxFrame where
  bytes : List Byte
  fec : List (Fin 8 × BitVec 16 × BitVec 16)
  deriving DecidableEq, Repr

/-- A disagreement at a gate: the unit, the access that met it, and for a seam whether the transfer's repeat succeeded (02 R59). -/
structure GateReport where
  gate : GateUnit
  who : Option GateReq
  cured : Bool
  deriving DecidableEq, Repr

/-- A handshake left unanswered at a gate, and the access that waits for it. -/
structure GateWait where
  gate : GateUnit
  who : Option GateReq
  deriving DecidableEq, Repr

/-- What a boot phase came to: the ROM checks of the wardens of D0 and D1 with the presence of SYSREF_100 and XT_32K; whether the flash gave its table and its mode; whether the reads of copies A and B succeeded; the sites and seams that fail their
self-tests; the channels that fail training, as controller and channel; for RINGTRAIN nothing but that the ports are done. -/
inductive BootOutcome where
  | rom (good0 good1 sysref xt32k : Bool)
  | flash (ok : Bool)
  | verify (readA readB : Bool)
  | settings
  | clear
  | selftest (sites : List (Fin 288)) (seams : List (Fin 4))
  | memtrain (fails : List (Fin 12 × Fin 32))
  | ringtrain
  deriving DecidableEq, Repr

/-- What the sensors and regulators of a die read at an evaluation: four temperatures, the rail's current in 0.1 A, its voltage in 5 mV codes and its power in W. -/
structure DieReading where
  temps : BitVec 32
  current : BitVec 16
  measured : BitVec 8
  watts : BitVec 16
  deriving DecidableEq, Repr

/-- A register of a timer that TIMER_CONFIG_WRITE writes. -/
inductive TimerReg where
  | cfg | presc | countLo | countHi
  | cmpLo (x : Fin 4)
  | cmpHi (x : Fin 4)
  deriving DecidableEq, Repr

end Sys2Proof.Machine

namespace Sys2Proof
open Sys2Proof.Machine

/-- A command to the package: a row of the opcode table with its operands. Operands that recur: `site` a core site (32 of them a spare), `core` a virtual core, `die`, `port` a ring port (0 West, 1 East) or an Ethernet port, `sub` a sub-port, `lane` a lane position,
`slot` a task slot, `engine` and `ctx` a stream engine and its pattern context, `ctrl` and `chan` a memory controller and its channel, `model` a model number, `entry` a directory entry, `timer`, `addr` and `val` an address and a value of a management register.
An event whose cause lies outside the package carries what it observed. -/
inductive Instr where
  /-- POR (18 R497): A power-on reset from rails and PWRGD, or VAON below 0.72 V, resets everything but fuses and flash. -/
  | por (vaon : Bool)
  /-- PIN_RESET (18 R497): RESET_N held low for 500 ns or more resets everything except the VAON domain and keeps LPDDR 5X in self-refresh. -/
  | pinReset (lowNs : Nat)
  /-- TAP_RESET (18 R497): TRST_N low, or five TCK cycles with TMS high, resets only the JTAG TAP controller. -/
  | tapReset
  /-- PWRGD_FALL (20 R560): PWRGD goes low and the package is held in RESET before the rails leave range. -/
  | pwrgdFall
  /-- RESET_RELEASE (18 R499): With RESET_N and PWRGD both high, the package samples the straps and enters BOOT within 10 µs. -/
  | resetRelease (straps : Fin 32)
  /-- BOOT_PHASE_COMPLETE (18 R513): A boot phase (ROM, FLASH, VERIFY, SETTINGS, CLEAR, SELFTEST, MEMTRAIN, RINGTRAIN) completes and the next begins, or the station ends in FORMING or BOOT_FAILED. -/
  | bootPhaseComplete (outcome : BootOutcome)
  /-- FORMING_RETRAIN (18 R516): Every second in FORMING the warden writes RETRAIN to each DOWN ring port. -/
  | formingRetrain
  /-- SPEED_MONITOR_UPDATE (03 R79): Every 10 µs each speed monitor reports its step count and MIN is updated, with SPEED_LOW_EVT after three low updates. -/
  | speedMonitorUpdate (die : Fin 4) (rates : List (BitVec 12))
  /-- THROTTLE_EVALUATION (03 R83): Every 1 ms the warden evaluates the thermal and power rules and lowers or raises every die's VCORE by one code. -/
  | throttleEvaluation (readings : List DieReading)
  /-- AVS_COMPLETION (03 R82): A VCORE regulator reports completion of a commanded 5 mV change, letting the warden issue the next. -/
  | avsCompletion (die : Fin 4)
  /-- AVS_TIMEOUT (03 R86): A regulator does not report completion within 100 µs; the command is retried once and a second failure is a brown-out. -/
  | avsTimeout (die : Fin 4)
  /-- THERMAL_FENCE (03 R85): A die sensor at 105 °C or more for 100 ms while at its floor makes the warden fence the package as class S. -/
  | thermalFence (die : Fin 4)
  /-- THERMTRIP (03 R85): A sensor reading 112 °C asserts the latched THERMTRIP_N output within 10 µs and the package enters LOST. -/
  | thermtrip (die : Fin 4)
  /-- BROWN_OUT (03 R86): A VCORE below 0.55 V for over 10 µs or a regulator fault puts the package in LOST as class S. -/
  | brownOut (die : Fin 4)
  /-- SYSREF_LOSS (03 R92): Loss of SYSREF_100 stops the memory PHYs and time base and the package enters LOST. -/
  | sysrefLoss
  /-- SERREF_LOSS (03 R92): Loss or return of SERREF_156 on a die takes that die's Ethernet port down or lets it retrain. -/
  | serrefLoss (port : Fin 2) (present : Bool)
  /-- OPTREF_LOSS (03 R92): Loss or return of OPTREF_156 on a die takes that die's ring port down or lets it retrain. -/
  | optrefLoss (port : Fin 2) (present : Bool)
  /-- XT_32K_LOSS (20 R565): XT_32K shows no edge for 1 ms; an error log entry is made, sleep commands are refused and a sleeping station wakes. -/
  | xt32kLoss
  /-- SIGNAL_DETECT_WAKE (03 R89): Signal detect on a ring lane wakes a sleeping station, which relights its lasers and passes through TRAIN and FORMING. -/
  | signalDetectWake (port : Fin 2) (lane : Fin 17)
  /-- SLEEP_TICK (15 R438): In SLEEP, each XT_32K cycle advances device time and accrues the events of each timer, performing outward actions once. -/
  | sleepTick (pins : Fin 16)
  /-- WAKE_RELOCK (15 R439): On wake, at the first tick of relocked TIME_500, device time rounds down, timers return to their sources and TIMER_31 is realigned. -/
  | wakeRelock
  /-- TASK_DISPATCH (04 R100): The ingress engine places a task descriptor in a free slot, where it is checked and becomes WAITING_LAP or aborts with DESC. -/
  | taskDispatch (model : Fin 16)
  /-- END (04 R118): END places the task in ENDING, aborting a rank-0 task with NO_EMIT if it has issued no EMIT. -/
  | endTask (site : Fin 288)
  /-- TASK_END_COMPLETE (04 R118): All the ENDING task's commands complete and its slot becomes EMPTY. -/
  | taskEndComplete (site : Fin 288) (slot : Fin 8)
  /-- MMA (04 R114): An MMA computes C = A × B from the A and B slot rings and writes ROWS slots of C. -/
  | mma (site : Fin 288)
  /-- VOP (04 R116): A VOP applies FUNC to COUNT 64-lane vectors from SRC_A and SRC_B and writes the results from DST. -/
  | vop (site : Fin 288)
  /-- HANKWAIT (04 R117): A HANKWAIT registers a match and completes when the named hank of the task's lap is bound to its hank binding. -/
  | hankwait (site : Fin 288)
  /-- HANKWAIT_START (07 R200): A HANKWAIT starts once earlier HANKWAITs on its HB have completed and no active pattern uses the HB, releasing the old binding. -/
  | hankwaitStart (site : Fin 288) (slot : Fin 8)
  /-- DEPMARK (04 R106): A DEPMARK stops issue and run-ahead until every named unit completes the task's earlier commands. -/
  | depmark (site : Fin 288)
  /-- LBAR (04 R107): An LBAR stops the issue pointer until every named unit completes the task's earlier commands. -/
  | lbar (site : Fin 288)
  /-- DMA (04 R119): A DMA command starts a chain of NDESC descriptors from DESC. -/
  | dma (site : Fin 288)
  /-- PAT (04 R120): A PAT starts a stream pattern at ENTRY on the named engine with its ring skein and base. -/
  | pat (site : Fin 288)
  /-- PATTERN_START (08 R208): A pattern context starts when its engine has room, after the start checks, issued by run-ahead or the issue pointer. -/
  | patternStart (site : Fin 288) (slot : Fin 8)
  /-- SET_FULL (04 R121): TAGOP SET_FULL marks COUNT slots of a skein full. -/
  | setFull (site : Fin 288)
  /-- SET_EMPTY (04 R121): TAGOP SET_EMPTY marks COUNT slots of a skein empty. -/
  | setEmpty (site : Fin 288)
  /-- WAIT_FULL (04 R121): TAGOP WAIT_FULL blocks the issue pointer until the named slots are full. -/
  | waitFull (site : Fin 288)
  /-- WAIT_EMPTY (04 R121): TAGOP WAIT_EMPTY blocks the issue pointer until the named slots are empty. -/
  | waitEmpty (site : Fin 288)
  /-- TAGOP_RESET (07 R186): TAGOP RESET sets head and tail to slot 0 and every tag empty. -/
  | tagopReset (site : Fin 288)
  /-- CTXLOAD (14 R400): CTXLOAD, once its request holds the claim, fills the context words at SPAD from the source the directory entry selects. -/
  | ctxload (site : Fin 288)
  /-- CTXSTORE (14 R403): CTXSTORE writes the held context to its home, updates the CRC and, with RELEASE, evicts the copy and ends the claim. -/
  | ctxstore (site : Fin 288)
  /-- EMIT (04 R123): EMIT passes NWORDS of logits to the egress engine of the descriptor's port. -/
  | emit (site : Fin 288)
  /-- YIELD (04 R102): YIELD lets another READY task run, the yielding task becoming READY. -/
  | yield (site : Fin 288)
  /-- UNIT_COMMAND_COMPLETE (04 R108): A unit completes a command of a task, satisfying barriers and DEPMARKs that wait on it. -/
  | unitCommandComplete (site : Fin 288) (unit : Fin 8)
  /-- TASK_ABORT (04 R125): A faulting task is aborted: its commands discarded, patterns stopped, bindings released and context handled. -/
  | taskAbort (site : Fin 288) (slot : Fin 8)
  /-- DEADLINE_EXPIRY (04 R127): A request's effective deadline passes before its EMIT is accepted; its fallback is issued and its tasks abort with DEADLINE. -/
  | deadlineExpiry (handle : Nat)
  /-- BANK_CYCLE (06 R173): A scratchpad bank arbiter chooses one pending access by fixed priority and performs it; `upset` are errors that arise meanwhile in `word`. -/
  | bankCycle (site : Fin 288) (bank : Fin 64) (fresh : List BankReq) (word : Fin 32768) (upset : Option WordErr)
  /-- SCRUB_READ (06 R170): The scrubber reads the next word of its slice in its period, taking priority after 1 ms of starvation. -/
  | scrubRead (site : Fin 288)
  /-- REMOTE_TIMEOUT (06 R162): A global access has no response within 10 µs; the requester aborts with REMOTE and the target is reported. -/
  | remoteTimeout (site : Fin 288) (unit : Fin 8) (ctx : Fin 8) (target : Fin 288)
  /-- SPARE_REFILL_COMPLETE (06 R177): A promoted spare's slice has been cleared and refilled, and the warden declares it LIVE for its canonical index. -/
  | spareRefillComplete (site : Fin 288) (good : Bool)
  /-- SPARE_TEST (02 R56): A background test of an idle spare completes, marking it failed if it fails. -/
  | spareTest (site : Fin 288) (pass : Bool)
  /-- SKEIN_TIMEOUT (07 R194): A tag wait exceeds the skein's TIMEOUT and the owning task aborts with SKEIN_TIMEOUT. -/
  | skeinTimeout (site : Fin 288) (waiter : TagWaiter)
  /-- HANK_DELIVERY (07 R199): The ring agent writes an arriving good hank into a core's hank skein slot and tags it full, binding waiting matches. -/
  | hankDelivery (site : Fin 288)
  /-- SETA (08 R215): SETA sets an address register from a source plus an immediate. -/
  | seta (site : Fin 288) (engine : Fin 3) (ctx : Fin 8)
  /-- SETS (08 R215): SETS sets a stride register from a source plus an immediate. -/
  | sets (site : Fin 288) (engine : Fin 3) (ctx : Fin 8)
  /-- SETC (08 R216): SETC sets a loop count register, aborting if out of range. -/
  | setc (site : Fin 288) (engine : Fin 3) (ctx : Fin 8)
  /-- MOVA (08 R215): MOVA copies an address register plus an immediate into another. -/
  | mova (site : Fin 288) (engine : Fin 3) (ctx : Fin 8)
  /-- ADDA (08 R215): ADDA adds a stride register to an address register. -/
  | adda (site : Fin 288) (engine : Fin 3) (ctx : Fin 8)
  /-- LOOP (08 R217): LOOP opens a loop over the next LEN instructions with the count of its counter, or skips the body at 0. -/
  | loop (site : Fin 288) (engine : Fin 3) (ctx : Fin 8)
  /-- WORD (08 R219): WORD emits one address at the current slot position, optionally incrementing and stepping the slot. -/
  | word (site : Fin 288) (engine : Fin 3) (ctx : Fin 8)
  /-- RUN (08 R215): RUN emits N strided addresses and optionally steps the slot. -/
  | run (site : Fin 288) (engine : Fin 3) (ctx : Fin 8)
  /-- STEP (08 R220): STEP completes the current slot. -/
  | step (site : Fin 288) (engine : Fin 3) (ctx : Fin 8)
  /-- PAD (08 R219): PAD advances the slot position by N without moving data. -/
  | pad (site : Fin 288) (engine : Fin 3) (ctx : Fin 8)
  /-- PATTERN_END (08 R221): A pattern's END completes it once its writes are acknowledged and frees its context. -/
  | patternEnd (site : Fin 288) (engine : Fin 3) (ctx : Fin 8)
  /-- SLOT_STEP_COMPLETE (08 R220): A slot step takes effect once the slot's words are written or read, setting the tag and advancing tail or head. -/
  | slotStepComplete (site : Fin 288) (engine : Fin 3) (ctx : Fin 8)
  /-- DMA_DESCRIPTOR_START (08 R233): The DMA engine reads and checks the next descriptor of a chain before moving any byte. -/
  | dmaDescriptorStart (site : Fin 288)
  /-- DMA_DESCRIPTOR_COMPLETE (08 R228): Every write of a descriptor is acknowledged, letting the next descriptor start or the chain complete. -/
  | dmaDescriptorComplete (site : Fin 288)
  /-- EXTERNAL_TO_SCRATCHPAD (08 R231): KIND 0x0 moves rows from external memory to the scratchpad. -/
  | externalToScratchpad (site : Fin 288)
  /-- SCRATCHPAD_TO_EXTERNAL (08 R231): KIND 0x1 moves rows from the scratchpad to external memory. -/
  | scratchpadToExternal (site : Fin 288)
  /-- SCRATCHPAD_TO_SCRATCHPAD (08 R231): KIND 0x2 moves rows between scratchpad addresses. -/
  | scratchpadToScratchpad (site : Fin 288)
  /-- EXTERNAL_TO_SKEIN (08 R232): KIND 0x3 fills a skein as producer from external memory. -/
  | externalToSkein (site : Fin 288)
  /-- SKEIN_TO_EXTERNAL (08 R232): KIND 0x4 drains a skein as consumer to external memory. -/
  | skeinToExternal (site : Fin 288)
  /-- SCRATCHPAD_TO_SKEIN (08 R232): KIND 0x5 fills a skein as producer from the scratchpad. -/
  | scratchpadToSkein (site : Fin 288)
  /-- SKEIN_TO_SCRATCHPAD (08 R232): KIND 0x6 drains a skein as consumer to the scratchpad. -/
  | skeinToScratchpad (site : Fin 288)
  /-- CODEWORD_LOCK (09 R241): A receiver declares codeword lock on a lane after 8 decodable codewords. -/
  | codewordLock (port : Fin 2) (lane : Fin 17)
  /-- LOSS_OF_LOCK (09 R241): A lane loses signal or gives 3 uncorrectable codewords and loses lock, which retires it. -/
  | lossOfLock (port : Fin 2) (lane : Fin 17) (signal : Bool)
  /-- LANE_DEGRADE_CHECK (09 R243): Every 100 ms period, a lane over LANE_DEGRADE for 3 periods is retired. -/
  | laneDegradeCheck (port : Fin 2) (corr : List Nat) (uncorr : List Nat)
  /-- TRAINING_START (09 R246): Training lights all lanes and sends PRBS13Q for 20 ms. -/
  | trainingStart (port : Fin 2)
  /-- TS_TRAIN_START (09 R246): At 20 ms the transmitter starts coded TS_TRAIN on all lanes at LBC 0. -/
  | tsTrainStart (port : Fin 2)
  /-- TS_TRAIN (09 R244): A received TS_TRAIN is accepted on a lane towards alignment, identity and skew. -/
  | tsTrain (port : Fin 2) (lane : Fin 17) (ts : List Byte) (skew : Nat)
  /-- TS_START (09 R247): A received TS_START fixes the partner's transmit mask and the LBC at which flit mode starts. -/
  | tsStart (port : Fin 2) (lane : Fin 17) (ts : List Byte) (skew : Nat)
  /-- RX_LOCKED (09 R246): RX_MASK unchanged for 1 ms with at least 4 lanes sets RX_LOCKED. -/
  | rxLocked (port : Fin 2)
  /-- TRAINING_TIMEOUT (09 R246): Steps 3 to 6 not complete within 80 ms restart training, and after 3 attempts the port goes DOWN with TRAIN_FAIL. -/
  | trainingTimeout (port : Fin 2)
  /-- FLIT_TRANSMIT (09 R255): In each flit slot the transmitter sends the first available item by priority, with the current ACK_SEQ. -/
  | flitTransmit (port : Fin 2)
  /-- FLIT_RECEIVE (09 R254): A received flit is checked for CRC and reserved fields, its trailer used and it is handled by class. -/
  | flitReceive (port : Fin 2) (flit : List Byte)
  /-- IDLE (09 R239): An IDLE flit is received and only its trailer is used. -/
  | idle (port : Fin 2)
  /-- NAK (09 R258): A received NAK makes the transmitter resend every flit from NAK_SEQ. -/
  | nak (port : Fin 2)
  /-- WIDTH_REQ (09 R262): A received WIDTH_REQ makes the transmitter end the epoch, start one with the new mask, send WIDTH and replay. -/
  | widthReq (port : Fin 2)
  /-- WIDTH (09 R261): A received WIDTH with the current REQ_ID starts the new epoch at the receiver. -/
  | width (port : Fin 2)
  /-- DOWN (09 R266): A received DOWN flit takes the port DOWN with reason PEER. -/
  | down (port : Fin 2)
  /-- HANK (10 R286): A hank's last HANK flit arrives; the hank is checked, relayed onward and delivered or reported for reissue. -/
  | hank (port : Fin 2) (overflow : Bool)
  /-- BARRIER (10 R293): A barrier token arrives; the station votes on the collecting lap or acts on the release. -/
  | barrier (port : Fin 2)
  /-- RING_MSG (10 R289): A ring message arrives and is acted on or passed on with TTL decremented. -/
  | ringMsg (port : Fin 2)
  /-- TWIN (16 R462): A TWIN flit arrives and its layer digest entries are matched against the station's own. -/
  | twin (port : Fin 2)
  /-- IDENT (10 R271): An IDENT arrives and is checked, closing the port or recording the failed check. -/
  | ident (port : Fin 2)
  /-- NAK_REPEAT (09 R258): The expected flit has not arrived REPLAY_TO after the last NAK, so the NAK is repeated. -/
  | nakRepeat (port : Fin 2)
  /-- REPLAY_TIMEOUT (09 R259): The oldest unacknowledged flit is not acknowledged within REPLAY_TO and is replayed, the port going DOWN at REPLAY_LIMIT. -/
  | replayTimeout (port : Fin 2)
  /-- WIDTH_REQ_REPEAT (09 R261): An unanswered WIDTH_REQ is repeated every 1 µs. -/
  | widthReqRepeat (port : Fin 2)
  /-- SPARE_QUALIFIED (09 R263): Lane 16 passes 1,024 codewords of qualification and a WIDTH_REQ adds it to the mask. -/
  | spareQualified (port : Fin 2) (pass : Bool)
  /-- SIGNAL_LOSS (09 R266): Loss of signal on every lane for 1 µs takes the port DOWN with reason SIGNAL. -/
  | signalLoss (port : Fin 2)
  /-- IDENT_TIMER (10 R270): An UP port sends an IDENT every 1 ms until the partner shows PEER_OK, then every second. -/
  | identTimer (port : Fin 2)
  /-- FORM_BARRIER_START (10 R272): Station 0 with both ports closed starts a FORM barrier every 10 ms until one commits. -/
  | formBarrierStart
  /-- BARRIER_FORM (10 R272): A committed FORM barrier puts every station in READY. -/
  | barrierForm
  /-- BARRIER_ACTIVATE (10 R297): A committed ACTIVATE makes a staged image active at L_EFF or the next pinned lap start. -/
  | barrierActivate
  /-- BARRIER_ROLLBACK (10 R298): A committed ROLLBACK reactivates the previous image. -/
  | barrierRollback
  /-- BARRIER_REMOVE (10 R298): A committed REMOVE stops the model at its effect point and gives waiting requests REMOVED fallbacks. -/
  | barrierRemove
  /-- BARRIER_JOIN (10 R293): A committed JOIN puts joined stations with no active model in READY. -/
  | barrierJoin
  /-- BARRIER_REFORM (10 R303): A committed REFORM returns the ring to the closed schedule at L_EFF. -/
  | barrierReform
  /-- BARRIER_TWIN_SYNC (16 R460): A committed TWIN_SYNC starts twin comparison for the model on stations A and B. -/
  | barrierTwinSync
  /-- BARRIER_SLEEP (03 R88): A committed SLEEP barrier puts every station in SLEEP at its release. -/
  | barrierSleep
  /-- BARRIER_TIMEOUT (10 R294): The collecting lap does not return within BARRIER_TO and the leader releases ABORT. -/
  | barrierTimeout
  /-- BARRIER_DISCARD (10 R294): A station that voted and got no release discards the barrier after 2 × BARRIER_TO. -/
  | barrierDiscard
  /-- REISSUE (10 R286): The origin receives REISSUE, checks its stored copy and rewrites it from the golden copy if bad. -/
  | reissue
  /-- MIRROR_REQ (10 R287): The downstream station receives MIRROR_REQ and sends the hank from its mirror as a repair hank. -/
  | mirrorReq
  /-- FOLD_NOTICE (10 R300): A received FOLD_NOTICE aborts barriers and lets end stations count missing stations and fold, adopt or split. -/
  | foldNotice
  /-- BARRIER_REQ (10 R292): The leader receives BARRIER_REQ and queues the requested barrier. -/
  | barrierReq
  /-- FOLD_NOTICE_TIMEOUT (10 R300): No second FOLD_NOTICE within 2 × BARRIER_TO makes the station report SPLIT. -/
  | foldNoticeTimeout
  /-- LAP_LAUNCH (10 R278): An origin launches its block of a direction once the preceding block has passed, or starts the next lap. -/
  | lapLaunch (pinned : Bool) (west : Bool) (count : Nat)
  /-- ACTIVATE_REQUEST_TIMER (10 R296): A station with a staged image sends BARRIER_REQ for ACTIVATE every 10 ms until committed. -/
  | activateRequestTimer
  /-- AUTO_REFORM (10 R303): A DOWN port with signal on 4 lanes for 1 s retrains automatically when AUTO_REFORM is set. -/
  | autoReform (port : Fin 2)
  /-- REFORM_TIMER (10 R303): The leader runs REFORM every 100 ms while a joined link exists until one commits. -/
  | reformTimer
  /-- MODEL_CLEANUP (10 R298): When a removed model's last task ends, its regions are cleared, contexts freed and HBM copies discarded. -/
  | modelCleanup (model : Fin 16)
  /-- CHANNEL_UNIT_START (11 R318): A memory channel chooses a requester class by weighted credit and starts a 64-byte unit. -/
  | channelUnitStart (ctrl : Fin 12) (chan : Fin 32) (ready : List (Fin 8)) (start : UnitStart)
  /-- CHANNEL_ERROR (11 R322): A channel error is retried, corrected or reported, and may make the channel FAILING. -/
  | channelError (ctrl : Fin 12) (chan : Fin 32) (addr : Fin (2 ^ 40)) (report : ChanReport)
  /-- CHANNEL_MAP_OUT (11 R324): Within 1 ms of FAILING, the warden maps the channel out, making its granules holes and its content damaged. -/
  | channelMapOut (ctrl : Fin 12) (chan : Fin 32)
  /-- REBUILD_COMPLETE (11 R326): A rebuild of a damaged image copy completes and REBUILD_EVT is set. -/
  | rebuildComplete (model : Fin 16) (gen : BitVec 32) (kind : Fin 8)
  /-- REFRESH (11 R320): A scheduled per-bank refresh runs, doubling in rate above 85 °C. -/
  | refresh (ctrl : Fin 12) (chan : Fin 32) (temp : BitVec 8) (waiting : Nat)
  /-- TG_START (11 R328): START begins a traffic generator run of write, check or write then check. -/
  | tgStart (ctrl : Fin 12) (chan : Fin 32)
  /-- TG_STOP (11 R328): STOP ends a traffic generator run after the current block. -/
  | tgStop (ctrl : Fin 12) (chan : Fin 32) (done : Nat)
  /-- TG_RUN_COMPLETE (11 R327): A traffic generator run covers its blocks and is done. -/
  | tgRunComplete (ctrl : Fin 12) (chan : Fin 32)
  /-- LINK_RETRY (12 R335): A down Ethernet sub-port retries bring-up every 100 ms. -/
  | linkRetry (port : Fin 2) (sub : Fin 8) (locks : Bool)
  /-- AUTONEG_COMPLETE (12 R334): Clause 73 auto-negotiation resolves and link training follows, or AN_FAIL_EVT is set. -/
  | autonegComplete (port : Fin 2) (sub : Fin 8) (partner : BitVec 4) (trained : Bool)
  /-- FRAME_RECEIVE (12 R337): A received Ethernet frame is timestamped and checked in order, then dropped or passed to its consumer. -/
  | frameReceive (port : Fin 2) (sub : Fin 8) (frame : RxFrame)
  /-- PFC_REPEAT (12 R339): PFC is repeated every 32,768 quanta while the XOFF condition lasts. -/
  | pfcRepeat (port : Fin 2) (sub : Fin 8)
  /-- PFC_PAUSE_EXPIRY (12 R339): The quanta of a received PFC expire and transmission of that priority resumes. -/
  | pfcPauseExpiry (port : Fin 2) (sub : Fin 8) (prio : Fin 8)
  /-- ARP_REQUEST (12 R341): An ARP request for the sub-port's address is answered. -/
  | arpRequest (port : Fin 2) (sub : Fin 8)
  /-- NEIGHBOR_SOLICITATION (12 R341): An IPv6 Neighbor Solicitation for the sub-port's address is answered. -/
  | neighborSolicitation (port : Fin 2) (sub : Fin 8)
  /-- ANNOUNCE (12 R349): A PTP Announce is accepted for master selection. -/
  | announce (port : Fin 2)
  /-- SYNC (12 R349): A PTP Sync is accepted and gives an offset sample. -/
  | sync (port : Fin 2)
  /-- FOLLOW_UP (12 R349): A PTP Follow_Up completes a two-step Sync sample. -/
  | followUp (port : Fin 2)
  /-- DELAY_RESP (12 R349): A PTP Delay_Resp completes a delay measurement and sets the Delay_Req interval. -/
  | delayResp (port : Fin 2)
  /-- DELAY_REQ (12 R349): The PTP clock sends Delay_Req at the interval the master sets. -/
  | delayReq (port : Fin 2)
  /-- TX_SA_WAIT_EXPIRY (12 R347): Frames waiting for a new transmit SA for 1 ms are discarded and counted in TX_NOKEY. -/
  | txSaWaitExpiry (port : Fin 2) (sub : Fin 8)
  /-- SESSION_OPEN (13 R358): A partner SESSION_OPEN is decided and a session opened, replayed or refused. -/
  | sessionOpen
  /-- SESSION_CLOSE (13 R360): A partner SESSION_CLOSE makes the session DRAINING, or FREE with ABANDON semantics. -/
  | sessionClose
  /-- CREDIT (13 R366): A partner CREDIT is answered with a CREDIT carrying CREDIT_LIMIT and USED. -/
  | credit
  /-- REQUEST (13 R369): A REQUEST is checked and accepted with credits charged, or refused with an ERROR. -/
  | request
  /-- REQUEST_CONT (13 R370): A REQUEST_CONT is added to reassembly, dropped or refused, completing the request when all frames are in. -/
  | requestCont
  /-- RVP_FRAME_RECEIVE (13 R354): A received RVP frame is checked in order for version, station state and session before its body. -/
  | rvpFrameReceive
  /-- SESSION_IDLE_TIMEOUT (13 R361): A session with no frame for IDLE_TO is closed with reason IDLE. -/
  | sessionIdleTimeout (session : Nat)
  /-- REASM_TIMEOUT (13 R370): A request not complete within REASM_TO is discarded and answered with ERROR INCOMPLETE. -/
  | reasmTimeout (handle : Nat)
  /-- CREDIT_UPDATE_TIMER (13 R366): The U7 sends a CREDIT when CREDIT_LIMIT has risen and no VERDICT carried it for 50 µs. -/
  | creditUpdateTimer (session : Nat)
  /-- CONDITIONING_START (13 R373): A complete request takes a free input slot and is conditioned into tensors. -/
  | conditioningStart (model : Fin 16)
  /-- CHUNK (13 R385): A MODEL_LOAD CHUNK is accepted at NEXT, or dropped and answered, starting a load at offset 0. -/
  | chunk
  /-- ABORT (13 R387): MODEL_LOAD ABORT ends the session's load of the id or removes its staged image. -/
  | abort
  /-- REMOVE (13 R387): MODEL_LOAD REMOVE requests a REMOVE barrier for an active model. -/
  | remove
  /-- ROLLBACK (13 R387): MODEL_LOAD ROLLBACK requests a ROLLBACK barrier when a previous image is kept. -/
  | rollback
  /-- QUERY (13 R387): MODEL_LOAD QUERY reports the load in progress or the model's status. -/
  | query
  /-- LOAD_VERIFY (13 R386): A received image is verified for signature, structure, generation, capacity and budget. -/
  | loadVerify (block : Fin 2)
  /-- LOAD_STORE_COMPLETE (18 R527): The image copies are stored and read back and the image is installed and STAGED. -/
  | loadStoreComplete (block : Fin 2)
  /-- RELEASE_BEAT (15 R437): At a beat each egress engine releases every held verdict whose release instant has come. -/
  | releaseBeat
  /-- CLAIM_GRANT (14 R397): The directory grants the claim to the head of an entry's claim queue. -/
  | claimGrant (entry : Fin 65536)
  /-- LEAVING (14 R406): A LEAVING(t) message puts the directory entry in EVICTING(t). -/
  | leaving (core : Fin 256)
  /-- NOTICE (14 R406): A NOTICE(t) message puts the entry IN_MEMORY with ETAG t and releases waiters. -/
  | notice (core : Fin 256)
  /-- SNOOP (14 R407): A holder receives SNOOP and copies its context to the requester, or answers RETRY if leaving. -/
  | snoop (core : Fin 256)
  /-- RETRY (14 R407): A requester receives RETRY(t) and waits until the entry reaches ETAG t before reading the home. -/
  | retry (core : Fin 256)
  /-- DROP (14 R406): A holder receives DROP and evicts its held copy. -/
  | drop (core : Fin 256)
  /-- EVICTION_WRITEBACK_COMPLETE (14 R406): A dirty copy's home write is acknowledged or fails, and NOTICE is sent. -/
  | evictionWritebackComplete (core : Fin 256) (entry : Fin 65536)
  /-- FLOW_EXPIRY (14 R412): An unclaimed entry idle for IDLE_EXPIRE seconds becomes FREE. -/
  | flowExpiry (entry : Fin 65536)
  /-- TIMER_COMPARE_MATCH (15 R428): A count event leaves a timer equal to a compare and that compare's actions take effect. -/
  | timerCompareMatch (timer : Fin 32) (cmp : Fin 4)
  /-- TIMER_OVERFLOW (15 R427): A timer wraps from its maximum to 0 and its overflow actions take effect. -/
  | timerOverflow (timer : Fin 32)
  /-- TIMER_CAPTURE (15 R431): A capture trigger stores the timer count and sets CAP_EVT. -/
  | timerCapture (timer : Fin 32) (capture : Fin 2)
  /-- GLOBAL_START (15 R432): At the armed tick the named timers become RUNNING, optionally loading 0. -/
  | globalStart
  /-- PULSE_WIDTH_EXPIRY (15 R434): A TIMOUT pulse's WIDTH ticks elapse and the pin deasserts. -/
  | pulseWidthExpiry (pin : Fin 4)
  /-- PPS_EDGE (15 R419): A PPS_IN edge is captured and judges PPS_IN validity. -/
  | ppsEdge
  /-- REFERENCE_LOSS (15 R420): The current time reference becomes invalid and the time base holds over and qualifies a candidate. -/
  | referenceLoss
  /-- REFERENCE_COMMIT (15 R420): At the end of QUAL_WIN the best valid reference becomes current. -/
  | referenceCommit (off : Int)
  /-- REFERENCE_CANCEL (15 R421): The lost reference returns before the commit and the switch is cancelled. -/
  | referenceCancel (off : Int)
  /-- REQUAL_COMMIT (15 R422): A better reference valid for REQUAL without interruption becomes current. -/
  | requalCommit (off : Int)
  /-- SLEW_LOCKED (15 R423): The offset falls below 20 ns and the time base reports LOCKED. -/
  | slewLocked (off : Fin 39)
  /-- PTP_SYNC_LOSS (15 R419): LOSS_SYNC Sync intervals pass without a sample and the PTP reference becomes invalid. -/
  | ptpSyncLoss (port : Fin 2)
  /-- PPS_TIMEOUT (15 R419): No PPS_IN edge arrives within 1 s plus PPS_TOL and PPS_IN becomes invalid. -/
  | ppsTimeout
  /-- TWIN_WAIT_EXPIRY (16 R462): A twin entry unmatched after TWIN_WAIT is dropped as UNMATCHED. -/
  | twinWaitExpiry
  /-- DISAGREE (17 R474): The data path raises DISAGREE for a core or seam and its gate declares it SUSPECT. For a seam, a transfer of `who` has failed its parity, and so has its repeat; with `cured`, the repeat has succeeded (02 R59). -/
  | disagree (report : GateReport)
  /-- GATE_WATCHDOG (17 R474): A handshake at a unit's gate is unanswered for GATE_WD and raises DISAGREE. -/
  | gateWatchdog (wait : GateWait)
  /-- WARDEN_DECISION (17 R476): Within 1 ms the warden probes a SUSPECT unit and returns it to LIVE or reclaims and fences it. -/
  | wardenDecision (gate : GateUnit) (pass : Bool)
  /-- HEARTBEAT (17 R483): The active warden sends a heartbeat to the standby every 100 µs. -/
  | heartbeat (received : Bool)
  /-- TAKEOVER (17 R483): The standby warden takes over after three missed heartbeats, a fault report or a failed ROM check. -/
  | takeover (why : Fin 3)
  /-- STANDBY_ACK_TIMEOUT (17 R482): The standby does not acknowledge a mirror write within 100 µs and is declared LOST. -/
  | standbyAckTimeout
  /-- SET_ENDPOINT_ID (19 R532): The bus owner assigns the endpoint ID. -/
  | setEndpointId
  /-- GET_ENDPOINT_ID (19 R531): The MCTP control command returns the endpoint ID. -/
  | getEndpointId
  /-- GET_ENDPOINT_UUID (19 R532): The MCTP control command returns a UUID carrying the serial number. -/
  | getEndpointUuid
  /-- GET_MCTP_VERSION_SUPPORT (19 R531): The MCTP control command returns the supported MCTP version. -/
  | getMctpVersionSupport
  /-- GET_MESSAGE_TYPE_SUPPORT (19 R531): The MCTP control command returns the supported message types. -/
  | getMessageTypeSupport
  /-- GET_VENDOR_DEFINED_MESSAGE_SUPPORT (19 R531): The MCTP control command returns the vendor message support. -/
  | getVendorDefinedMessageSupport
  /-- VENDOR_MESSAGE (19 R535): A vendor message is queued and checked in order before its command is performed. -/
  | vendorMessage
  /-- READ (19 R536): READ returns COUNT consecutive registers, each untorn. -/
  | read
  /-- WRITE (19 R537): WRITE performs COUNT consecutive register writes in order, stopping at the first refused. -/
  | write
  /-- REGISTER_WRITE (19 R537): A write to a register with no row of its own is checked and performed, W1C bits clearing. -/
  | registerWrite (addr : BitVec 32) (val : W32)
  /-- COUNTER_LO_READ (04 R129): A read of a 64-bit counter's LO half latches its HI half. -/
  | counterLoRead (addr : BitVec 32)
  /-- FENCE (19 R541): FENCE takes the named core site, seam, channel, port or package out of service. -/
  | fence
  /-- STATE_GET (19 R540): STATE_GET returns the station state, ring state, N_LIVE and BOOT_STATUS. -/
  | stateGet
  /-- TELEMETRY (19 R543): TELEMETRY returns the 64-byte telemetry body. -/
  | telemetry
  /-- GET_ALERTS (19 R547): GET_ALERTS returns the MGT_ALERT bits and clears them. -/
  | getAlerts
  /-- LOG_READ (19 R542): LOG_READ returns error log or audit log entries from FROM onward. -/
  | logRead
  /-- SLEEP (03 R88): The SLEEP command carries a sleep request to every station in the next ring barrier. -/
  | sleep
  /-- WAKE (03 R89): The WAKE command wakes a sleeping station. -/
  | wake
  /-- RESET (19 R540): The RESET command begins a MGMT reset within 1 ms of its response. -/
  | reset
  /-- SA_INSTALL (19 R544): SA_INSTALL unwraps and installs a MACsec SA, optionally putting it in use. -/
  | saInstall
  /-- SA_DELETE (19 R544): SA_DELETE removes an installed MACsec SA other than the one in use. -/
  | saDelete
  /-- ZEROISE (12 R346): ZEROISE clears every SA of both ports. -/
  | zeroise
  /-- KEY_SLOT_PROGRAM (18 R509): KEY_SLOT program fuses a key hash into a slot in BOOT_FAILED. -/
  | keySlotProgram
  /-- KEY_SLOT_REVOKE (18 R509): KEY_SLOT revoke sets a slot's revoke bit, effective at the next boot. -/
  | keySlotRevoke
  /-- KWK_SET (19 R545): KWK_SET fuses the key-wrap key once. -/
  | kwkSet
  /-- MIN_SVN (18 R510): MIN_SVN raises the fused minimum security version. -/
  | minSvn
  /-- DEBUG_UNLOCK (18 R518): DEBUG_UNLOCK verifies a token signature and unlocks debug until reset. -/
  | debugUnlock
  /-- FLASH_ERASE (19 R546): FLASH_ERASE erases a whole 4 MiB flash slot not selected at this boot. -/
  | flashErase
  /-- FLASH_WRITE (19 R546): FLASH_WRITE programs up to 512 bytes into a flash slot not selected at this boot. -/
  | flashWrite
  /-- ALERT_RESPONSE (19 R547): A read of the Alert Response Address returns the U7's address and releases ALERT_N. -/
  | alertResponse (wins : Bool)
  /-- IDCODE (19 R548): The IDCODE instruction selects the 32-bit identification register. -/
  | idcode
  /-- SAMPLE_PRELOAD (19 R548): The SAMPLE/PRELOAD instruction samples or preloads the boundary scan chain. -/
  | samplePreload (vals : List Byte)
  /-- EXTEST (19 R548): EXTEST drives the boundary scan chain with the fabric held quiet until reset. -/
  | extest
  /-- CLAMP (19 R548): CLAMP holds outputs at the preloaded values with the bypass register selected. -/
  | clamp
  /-- HIGHZ (19 R548): HIGHZ puts outputs in high impedance with the bypass register selected. -/
  | highz
  /-- BYPASS (19 R548): BYPASS selects the 1-bit bypass register. -/
  | bypass
  /-- DEBUG_HALT (19 R549): A DBG_CTRL HALT bit halts a debug group, possibly putting the station in HALTED. -/
  | debugHalt (mask : BitVec 8)
  /-- DEBUG_RESUME (19 R549): A DBG_CTRL RESUME bit resumes a debug group, and the last resume restores the station state. -/
  | debugResume (mask : BitVec 8)
  /-- MEM_ACCESS_READ (19 R550): MEM_ACCESS with OP 1 queues one management register read. -/
  | memAccessRead (addr : BitVec 32)
  /-- MEM_ACCESS_WRITE (19 R550): MEM_ACCESS with OP 2 queues one management register write. -/
  | memAccessWrite (addr : BitVec 32) (val : BitVec 32)
  /-- CLR_ABORT (04 R129): CORE_CTRL.CLR_ABORT clears CORE_ABORT_LAST and CORE_ABORT_COUNT. -/
  | clrAbort (site : Fin 288)
  /-- CLR_SWITCH (04 R129): CORE_CTRL.CLR_SWITCH clears CORE_SWITCH. -/
  | clrSwitch (site : Fin 288)
  /-- CLR_STALL (04 R129): CORE_CTRL.CLR_STALL clears the six stall counters. -/
  | clrStall (site : Fin 288)
  /-- CLR_WR_FIRST (06 R179): CORE_SPAD_CTRL.CLR_WR_FIRST clears CORE_SPAD_WR_FIRST. -/
  | clrWrFirst (site : Fin 288)
  /-- CLR_INFO (06 R179): CORE_SPAD_CTRL.CLR_INFO clears ERR_INFO and ERR_SYN. -/
  | clrInfo (site : Fin 288)
  /-- CLR_COUNT (06 R179): CORE_SPAD_CTRL.CLR_COUNT clears CE_COUNT and UE_COUNT. -/
  | clrCount (site : Fin 288)
  /-- SE_CLR_FAULT (08 R235): CORE_SE_CTRL.CLR_FAULT clears CORE_SE_FAULT and its address. -/
  | seClrFault (site : Fin 288)
  /-- CLR_WORDS (08 R235): CORE_SE_CTRL.CLR_WORDS clears the stream engine word counters. -/
  | clrWords (site : Fin 288)
  /-- DMA_CLR_FAULT (08 R235): CORE_DMA_CTRL.CLR_FAULT clears CORE_DMA_FAULT and its address. -/
  | dmaClrFault (site : Fin 288)
  /-- CLR_BYTES (08 R235): CORE_DMA_CTRL.CLR_BYTES clears CORE_DMA_BYTES. -/
  | clrBytes (site : Fin 288)
  /-- LNK_CLR_CNT (09 R268): LNK_x_CTRL.CLR_CNT clears the link counters and per-lane counts. -/
  | lnkClrCnt (port : Fin 2)
  /-- RETRAIN (09 R267): LNK_x_CTRL.RETRAIN restarts training of a DOWN or OFF port. -/
  | retrain (port : Fin 2)
  /-- LAP_CLR_CNT (10 R304): LAP_CTRL.CLR_CNT clears the LAP_CNT counters. -/
  | lapClrCnt
  /-- REFORM_REQ (10 R303): LAP_CTRL.REFORM_REQ sends BARRIER_REQ for REFORM to the leader. -/
  | reformReq
  /-- XMEM_CLR_CNT (11 R329): The memory controller CTRL.CLR_CNT clears its counters. -/
  | xmemClrCnt (ctrl : Fin 12)
  /-- RVP_CLR_CNT (13 R389): RVP_CTRL.CLR_CNT clears the RVP counters. -/
  | rvpClrCnt
  /-- FCS_CLR_CNT (14 R414): FCS_CTRL.CLR_CNT clears the flow context store counters. -/
  | fcsClrCnt
  /-- GSTART_GO (15 R432): TIM_GSTART_CTRL.GO arms a global start, immediate or at AT, optionally with reset. -/
  | gstartGo (immediate : Bool) (reset : Bool)
  /-- TIMER_START (15 R429): TIM_nn_CTRL.START makes a stopped timer RUNNING. -/
  | timerStart (timer : Fin 32)
  /-- TIMER_STOP (15 R429): TIM_nn_CTRL.STOP stops a timer. -/
  | timerStop (timer : Fin 32)
  /-- TIMER_RESET (15 R426): TIM_nn_CTRL.RESET loads 0 into a timer and clears its prescaler. -/
  | timerReset (timer : Fin 32)
  /-- SWCAP_0 (15 R431): TIM_nn_CTRL.SWCAP_0 triggers capture 0. -/
  | swcap0 (timer : Fin 32)
  /-- SWCAP_1 (15 R431): TIM_nn_CTRL.SWCAP_1 triggers capture 1. -/
  | swcap1 (timer : Fin 32)
  /-- TIMER_CONFIG_WRITE (15 R427): A write of a timer's CFG, PRESC, COUNT or compare is accepted only while stopped and within width. -/
  | timerConfigWrite (timer : Fin 32) (reg : TimerReg) (val : W32)
  /-- DET_CLR_CNT (16 R467): DET_CTRL.CLR_CNT clears every DET_ counter. -/
  | detClrCnt
  /-- FAST_G_WRITE (16 R465): A write of DET_MODEL_nn_FAST_G sets or clears the group-size override. -/
  | fastGWrite (model : Fin 16) (val : W32)
  /-- WDN_CLR_CNT (17 R496): WDN_CTRL.CLR_CNT clears the warden counters. -/
  | wdnClrCnt
  /-- ELOG_CLR_CNT (17 R496): ELOG_CTRL.CLR_CNT clears the error log counters. -/
  | elogClrCnt
  /-- ELOG_SEL (17 R496): A write of ELOG_SEL makes ELOG_DATA show the selected entry within 10 µs and sets READY. -/
  | elogSel (seq : BitVec 32)
  /-- FCS_ENTRY_SEL (14 R414): A write of FCS_ENTRY_SEL selects the directory entry shown as one untorn set. -/
  | fcsEntrySel (entry : Fin 65536)
  /-- WEIGHT_WRITE (11 R317): A write of a channel's class weights takes effect within 1 µs with credits carried over. -/
  | weightWrite (ctrl : Fin 12) (chan : Option (Fin 32)) (high : Bool) (val : BitVec 32)
  /-- LINK_DOWN (12 R335): An Ethernet sub-port loses its link (PCS loss of lock or remote fault), setting LINK_EVT and invalidating the PTP reference of that sub-port. -/
  | linkDown (port : Fin 2) (sub : Fin 8)
  /-- LASER_BIAS_FAULT (09 R239): A ring port transmitter detects a laser bias fault on a lane, makes the class C entry 0x0405 and keeps sending. -/
  | laserBiasFault (port : Fin 2) (lane : Fin 17)
  /-- MCTP_PACKET (19 R531): An SMBus MCTP packet arrives and is assembled into a message, or dropped for a bad PEC or inconsistent byte count with PEC_DROPS increased. -/
  | mctpPacket (bytes : List Byte)
  /-- DSP0237_TIMEOUT (19 R532): The DSP0237 timeout expires on a partial MCTP message or an undelivered response, which is then discarded. -/
  | dsp0237Timeout (msg : Option (BitVec 8 × Fin 8))
  deriving DecidableEq, Repr

end Sys2Proof
end

