-- ==== Sys2Proof/Decode.lean ====
section
/-! DEFINITION. The commands that a word spells by the bits of the opcode table. -/

namespace Sys2Proof

/-- No row of the opcode table gives its command bits (each row's list of fields is empty), so no word spells one: commands reach the package as events, register accesses and messages. -/
def decodeTableWord (_nbits _w : Nat) : Option Instr := none

end Sys2Proof
end

