-- ==== Sys2Proof/Config.lean ====
section
/-! DEFINITION. The free values of the model: what the spec leaves open and the machine still fixes somehow.
No definition here has a body, so no proof can lean on a value (log entry 3). -/

namespace Sys2Proof.Config

/-- A value drawn by the package that the spec does not fix (session tokens 13 R358, boot challenge 18 R517,
syndromes 06 R172, miscorrected data 06 R169, arbitration choices 06 R173): the n-th draw. -/
opaque freeNat : Nat → Nat

/-- What the code makes of more inverted bits in a segment than it detects (06 R169): by the class (true: weight), their number and which they are. Modulo 3: uncorrectable, miscorrected, unseen. -/
opaque eccOutcome : Bool → Nat → Nat → Nat

/-- The bits, as bytes to be exclusive-ored, by which the data of such a segment is wrong when read: miscorrected from index 0, unseen from index 16. -/
opaque eccMask : Bool → Nat → Nat → Nat → Byte

/-- What the code of one class makes of segment `k` of a word stored with the check bits of the other (06 R167, two or three of the class copies inverted): by the class decoded, the bytes stored and the
errors of the segments. Modulo 3: no error, corrected, uncorrectable. -/
opaque crossOutcome : Bool → List Byte → List (Nat × Nat × Nat) → Nat → Nat

/-- The bits by which the data of such a segment then reads wrong. -/
opaque crossMask : Bool → List Byte → List (Nat × Nat × Nat) → Nat → Nat → Byte

/-- The metres of fibre from Port E of a station to Port W of the next (01 R34; 09 R260): an installation's own figure, for which the spec gives a station no register. -/
opaque fibreM : Nat → Nat

/-- The good lanes of a link between two other stations, by the station at its Port E, the direction (true for eastbound) and device time (01 R34), reckoned from 4: the spec has "the ring as it stands" and no
way by which a station learns the width of a link that is not its own. -/
opaque linkLanes : Nat → Bool → Nat → Nat

/-- Whether another station has lost a seam at a device time, so that its hop latency is the longer (17 R486). -/
opaque seamLostAt : Nat → Nat → Bool

/-- Which column of 01 Table MODEL-3 the ingress engine uses for T_lap, t_in and t_out when it judges a deadline (01 R38, 04 R126), for the spec does not say: true for the guaranteed corner. -/
opaque cornerFigures : Bool

end Sys2Proof.Config
end

