-- ==== Sys2Proof/Machine/RegAddr.lean ====
section
/-! DEFINITION. The addresses of the management registers (19 R551): one function for each row of the register tables, giving
the byte address of an instance of an array of registers, and the enumeration of the rows. -/

namespace Sys2Proof

/-- The rows of the register tables, by the register's name in the spec. -/
inductive RegId where
  | MGT_ID | MGT_SERIAL_LO | MGT_SERIAL_HI | MGT_STATE | MGT_SMB | MGT_ALERT | MGT_ALERT_EN | MGT_KEYS
  | MGT_DEBUG | MGT_JTAG_LAST | MGT_MSG_CNT_LO | MGT_MSG_CNT_HI | MGT_PKG_INV | MGT_SITE_FUSE_LO | MGT_SITE_FUSE_MID | MGT_SITE_FUSE_HI
  | MGT_SPARE | MGT_SEAM_STATUS | MGT_VCORE_CFG | MGT_VCORE_STAT | MGT_THROTTLE_CFG | MGT_PWR_STATUS | MGT_TEMP | MGT_SPEED
  | MGT_SPEED_MIN | MGT_SPAD_CFG | MGT_NET_SPLIT | MGT_CANON_MAP | WDN_STATUS | WDN_EVT | WDN_CFG | WDN_CTRL
  | WDN_DIE | WDN_CNT_LO | WDN_CNT_HI | WDN_SITE | TIM_GSTART_MASK | TIM_GSTART_AT_LO | TIM_GSTART_AT_HI | TIM_GSTART_CTRL
  | TIM_GSTATUS | TIM_MEVT | TIM_OUT_CFG | TIM_CFG | TIM_PRESC | TIM_CTRL | TIM_STATUS | TIM_COUNT_LO
  | TIM_COUNT_HI | TIM_CAP_CFG | TIM_CMP_LO | TIM_CMP_HI | TIM_PRE_LO | TIM_PRE_HI | TIM_ACT | TIM_CAP_LO
  | TIM_CAP_HI | TBS_TIME_LO | TBS_TIME_HI | TBS_STATUS | TBS_EVT | TBS_CFG | TBS_CFG2 | TBS_LOSS_CFG
  | TBS_OFFSET | TBS_FREQ | TBS_REQUAL_LEFT | TBS_PPS_CAP_LO | TBS_PPS_CAP_HI | TBS_CNT_LO | TBS_CNT_HI | LNK_STATUS
  | LNK_TX_MASK | LNK_RX_MASK | LNK_TX_RETIRED | LNK_RX_RETIRED | LNK_DOWN_INFO | LNK_CFG | LNK_EVT | LNK_CTRL
  | LNK_SEQ_TX | LNK_SEQ_RX | LNK_CNT_LO | LNK_CNT_HI | LNK_LANE_STAT | LNK_LANE_CORR | LNK_LANE_UNCORR | LNK_LANE_LOL
  | LAP_STATION | LAP_INSTALL | LAP_STATE | LAP_EVT | LAP_CFG | LAP_HSTORE | LAP_CTRL | LAP_RLAP
  | LAP_PLAP | LAP_BARRIER | LAP_NBR | LAP_PERIOD | LAP_MODEL_STAT | LAP_MODEL_GEN | LAP_CNT_LO | LAP_CNT_HI
  | HBM_STATUS | HBM_MAPOUT | HBM_CAPACITY | HBM_EVT | HBM_CTRL | HBM_CFG | HBM_RGN_A | HBM_RGN_B
  | HBM_WEIGHT_ALL_LO | HBM_WEIGHT_ALL_HI | HBM_CNT_LO | HBM_CNT_HI | HBM_CH_WEIGHT_LO | HBM_CH_WEIGHT_HI | HBM_CH_STAT | HBM_TG_CFG
  | HBM_TG_CTRL | HBM_TG_FIRST | HBM_TG_BLOCKS | HBM_TG_STATUS | HBM_TG_ERRORS | HBM_TG_SKIPPED | HBM_TG_SEED_LO | HBM_TG_SEED_HI
  | HBM_TG_FAIL_ADDR_LO | HBM_TG_FAIL_ADDR_HI | HBM_TG_FAIL_EXP_LO | HBM_TG_FAIL_EXP_HI | HBM_TG_FAIL_ACT_LO | HBM_TG_FAIL_ACT_HI | LPX_STATUS | LPX_MAPOUT
  | LPX_CAPACITY | LPX_EVT | LPX_CTRL | LPX_CFG | LPX_RGN_A | LPX_RGN_B | LPX_WEIGHT_ALL_LO | LPX_WEIGHT_ALL_HI
  | LPX_CNT_LO | LPX_CNT_HI | LPX_CH_WEIGHT_LO | LPX_CH_WEIGHT_HI | LPX_CH_STAT | LPX_TG_CFG | LPX_TG_CTRL | LPX_TG_FIRST
  | LPX_TG_BLOCKS | LPX_TG_STATUS | LPX_TG_ERRORS | LPX_TG_SKIPPED | LPX_TG_SEED_LO | LPX_TG_SEED_HI | LPX_TG_FAIL_ADDR_LO | LPX_TG_FAIL_ADDR_HI
  | LPX_TG_FAIL_EXP_LO | LPX_TG_FAIL_EXP_HI | LPX_TG_FAIL_ACT_LO | LPX_TG_FAIL_ACT_HI | ETH_CFG | ETH_PTP_ASYM | ETH_STATUS | ETH_EVT
  | ETH_LANE_CFG | ETH_LANE_FEC | ETH_SP_MAC_LO | ETH_SP_MAC_HI | ETH_SP_IPV4 | ETH_SP_IPV6 | ETH_SP_VLAN | ETH_SP_L3
  | ETH_SP_PFC | ETH_SP_MACSEC | ETH_SP_TX_PN_LO | ETH_SP_TX_PN_HI | ETH_SP_CNT_LO | ETH_SP_CNT_HI | RVP_CFG | RVP_CREDIT_CFG
  | RVP_LOAD_CFG | RVP_STATUS | RVP_EVT | RVP_CTRL | RVP_SESS_SEL | RVP_SESS_INFO | RVP_RET | RVP_SESS_PARTNER_LO
  | RVP_SESS_PARTNER_HI | RVP_SESS_LIMIT | RVP_LOAD_STAT | RVP_LOAD_NEXT_LO | RVP_LOAD_NEXT_HI | RVP_LOAD_GEN | RVP_CNT_LO | RVP_CNT_HI
  | FCS_CFG | FCS_LIVE | FCS_RETIRED | FCS_EVT | FCS_CTRL | FCS_ENTRY_SEL | FCS_ENTRY_STAT | FCS_ENTRY_TAG
  | FCS_ENTRY_IDLE | FCS_ENTRY_KEY | FCS_CNT_LO | FCS_CNT_HI | DET_CHOICE_LO | DET_CHOICE_HI | DET_EVT | DET_CTRL
  | DET_TWIN_STATUS | DET_TWIN_CFG | DET_AUDIT_CAP | DET_AUDIT_DROP | DET_DIV_SEL | DET_DIV_COUNT | DET_DIV_POS | DET_DIV_CORE
  | DET_AUDIT_HEAD_LO | DET_AUDIT_HEAD_HI | DET_TIMING_LO | DET_TIMING_HI | DET_TWIN_CNT_LO | DET_TWIN_CNT_HI | DET_DIV_REQ_LO | DET_DIV_REQ_HI
  | DET_DIV_LOCAL_LO | DET_DIV_LOCAL_HI | DET_DIV_PEER_LO | DET_DIV_PEER_HI | DET_DIV_TIME_LO | DET_DIV_TIME_HI | DET_MODEL_MODE | DET_MODEL_BUDGET
  | DET_MODEL_FAST_G | DET_MODEL_LATE_LO | DET_MODEL_LATE_HI | DET_MODEL_CHOICE_LO | DET_MODEL_CHOICE_HI | DET_VMAP | ELOG_STATUS | ELOG_EVT
  | ELOG_ALERT_MASK | ELOG_CTRL | ELOG_HEAD | ELOG_SPILL_CAP | ELOG_SEL | ELOG_SEL_STATUS | ELOG_DATA | ELOG_CNT_LO
  | ELOG_CNT_HI | CORE_ID | CORE_CTRL | CORE_TASK | CORE_TASK_PC | CORE_ABORT_LAST | CORE_ABORT_PC | CORE_ABORT_COUNT
  | CORE_STALL_LO | CORE_STALL_HI | CORE_SWITCH_LO | CORE_SWITCH_HI | CORE_ISSUE_LO | CORE_ISSUE_HI | CORE_SKEIN_BASE | CORE_SKEIN_GEOM
  | CORE_SKEIN_PTR | CORE_HANK_COUNT | CORE_SKEIN_STAT | CORE_SE_CTX_STAT | CORE_SE_CTX_POS | CORE_SE_WORDS_LO | CORE_SE_WORDS_HI | CORE_SE_FAULT
  | CORE_SE_FAULT_ADDR | CORE_SE_CTRL | CORE_DMA_STAT | CORE_DMA_DESC | CORE_DMA_FAULT | CORE_DMA_CTRL | CORE_DMA_FAULT_ADDR_LO | CORE_DMA_FAULT_ADDR_HI
  | CORE_DMA_BYTES_LO | CORE_DMA_BYTES_HI | CORE_NET_LO | CORE_NET_HI | CORE_SPAD_STATUS | CORE_SPAD_CE_COUNT | CORE_SPAD_UE_COUNT | CORE_SPAD_ERR_INFO
  | CORE_SPAD_ERR_SYN | CORE_SPAD_SCRUB | CORE_SPAD_CTRL | CORE_SPAD_INJECT | CORE_SPAD_WR_FIRST_LO | CORE_SPAD_WR_FIRST_HI | BOOT_STATUS | BOOT_COPY
  | BOOT_COPY_SEQ | BOOT_COPY_SVN | BOOT_KEYS | BOOT_MIN_SVN | BOOT_SETTING_FAIL | BOOT_TIME | BOOT_DEBUG | BOOT_CHALLENGE
  | BOOT_IMAGE_DIGEST
  deriving DecidableEq, Repr

namespace Reg

abbrev MGT_ID : Nat := 0x0
abbrev MGT_SERIAL_LO : Nat := 0x4
abbrev MGT_SERIAL_HI : Nat := 0x8
abbrev MGT_STATE : Nat := 0xc
abbrev MGT_SMB : Nat := 0x10
abbrev MGT_ALERT : Nat := 0x14
abbrev MGT_ALERT_EN : Nat := 0x18
abbrev MGT_KEYS : Nat := 0x1c
abbrev MGT_DEBUG : Nat := 0x20
abbrev MGT_JTAG_LAST : Nat := 0x24
abbrev MGT_MSG_CNT_LO (i : Nat) : Nat := 0x40 + 8 * i
abbrev MGT_MSG_CNT_HI (i : Nat) : Nat := 0x44 + 8 * i
abbrev MGT_PKG_INV : Nat := 0x100
abbrev MGT_SITE_FUSE_LO (i : Nat) : Nat := 0x110 + 16 * i
abbrev MGT_SITE_FUSE_MID (i : Nat) : Nat := 0x114 + 16 * i
abbrev MGT_SITE_FUSE_HI (i : Nat) : Nat := 0x118 + 16 * i
abbrev MGT_SPARE (i : Nat) : Nat := 0x150 + 4 * i
abbrev MGT_SEAM_STATUS : Nat := 0x160
abbrev MGT_VCORE_CFG (i : Nat) : Nat := 0x200 + 4 * i
abbrev MGT_VCORE_STAT (i : Nat) : Nat := 0x210 + 4 * i
abbrev MGT_THROTTLE_CFG : Nat := 0x220
abbrev MGT_PWR_STATUS : Nat := 0x224
abbrev MGT_TEMP (i : Nat) : Nat := 0x230 + 4 * i
abbrev MGT_SPEED (i j : Nat) : Nat := 0x240 + 32 * i + 4 * j
abbrev MGT_SPEED_MIN (i : Nat) : Nat := 0x2c0 + 4 * i
abbrev MGT_SPAD_CFG : Nat := 0x300
abbrev MGT_NET_SPLIT : Nat := 0x304
abbrev MGT_CANON_MAP (i : Nat) : Nat := 0x400 + 4 * i
abbrev WDN_STATUS : Nat := 0x10000
abbrev WDN_EVT : Nat := 0x10004
abbrev WDN_CFG : Nat := 0x10008
abbrev WDN_CTRL : Nat := 0x1000c
abbrev WDN_DIE : Nat := 0x10010
abbrev WDN_CNT_LO (i : Nat) : Nat := 0x10040 + 8 * i
abbrev WDN_CNT_HI (i : Nat) : Nat := 0x10044 + 8 * i
abbrev WDN_SITE (i : Nat) : Nat := 0x11000 + 4 * i
abbrev TIM_GSTART_MASK : Nat := 0x20000
abbrev TIM_GSTART_AT_LO : Nat := 0x20004
abbrev TIM_GSTART_AT_HI : Nat := 0x20008
abbrev TIM_GSTART_CTRL : Nat := 0x2000c
abbrev TIM_GSTATUS : Nat := 0x20010
abbrev TIM_MEVT : Nat := 0x20014
abbrev TIM_OUT_CFG (i : Nat) : Nat := 0x20020 + 4 * i
abbrev TIM_CFG (i : Nat) : Nat := 0x21000 + 256 * i
abbrev TIM_PRESC (i : Nat) : Nat := 0x21004 + 256 * i
abbrev TIM_CTRL (i : Nat) : Nat := 0x21008 + 256 * i
abbrev TIM_STATUS (i : Nat) : Nat := 0x2100c + 256 * i
abbrev TIM_COUNT_LO (i : Nat) : Nat := 0x21010 + 256 * i
abbrev TIM_COUNT_HI (i : Nat) : Nat := 0x21014 + 256 * i
abbrev TIM_CAP_CFG (i : Nat) : Nat := 0x21018 + 256 * i
abbrev TIM_CMP_LO (i j : Nat) : Nat := 0x21020 + 256 * i + 8 * j
abbrev TIM_CMP_HI (i j : Nat) : Nat := 0x21024 + 256 * i + 8 * j
abbrev TIM_PRE_LO (i j : Nat) : Nat := 0x21040 + 256 * i + 8 * j
abbrev TIM_PRE_HI (i j : Nat) : Nat := 0x21044 + 256 * i + 8 * j
abbrev TIM_ACT (i j : Nat) : Nat := 0x21060 + 256 * i + 4 * j
abbrev TIM_CAP_LO (i j : Nat) : Nat := 0x21080 + 256 * i + 8 * j
abbrev TIM_CAP_HI (i j : Nat) : Nat := 0x21084 + 256 * i + 8 * j
abbrev TBS_TIME_LO : Nat := 0x28000
abbrev TBS_TIME_HI : Nat := 0x28004
abbrev TBS_STATUS : Nat := 0x28008
abbrev TBS_EVT : Nat := 0x2800c
abbrev TBS_CFG : Nat := 0x28010
abbrev TBS_CFG2 : Nat := 0x28014
abbrev TBS_LOSS_CFG : Nat := 0x28018
abbrev TBS_OFFSET : Nat := 0x28020
abbrev TBS_FREQ : Nat := 0x28024
abbrev TBS_REQUAL_LEFT : Nat := 0x28030
abbrev TBS_PPS_CAP_LO : Nat := 0x28028
abbrev TBS_PPS_CAP_HI : Nat := 0x2802c
abbrev TBS_CNT_LO (i : Nat) : Nat := 0x28040 + 8 * i
abbrev TBS_CNT_HI (i : Nat) : Nat := 0x28044 + 8 * i
abbrev LNK_STATUS (i : Nat) : Nat := 0x30000 + 32768 * i
abbrev LNK_TX_MASK (i : Nat) : Nat := 0x30004 + 32768 * i
abbrev LNK_RX_MASK (i : Nat) : Nat := 0x30008 + 32768 * i
abbrev LNK_TX_RETIRED (i : Nat) : Nat := 0x3000c + 32768 * i
abbrev LNK_RX_RETIRED (i : Nat) : Nat := 0x30010 + 32768 * i
abbrev LNK_DOWN_INFO (i : Nat) : Nat := 0x30014 + 32768 * i
abbrev LNK_CFG (i : Nat) : Nat := 0x30020 + 32768 * i
abbrev LNK_EVT (i : Nat) : Nat := 0x30024 + 32768 * i
abbrev LNK_CTRL (i : Nat) : Nat := 0x30028 + 32768 * i
abbrev LNK_SEQ_TX (i : Nat) : Nat := 0x30030 + 32768 * i
abbrev LNK_SEQ_RX (i : Nat) : Nat := 0x30034 + 32768 * i
abbrev LNK_CNT_LO (i j : Nat) : Nat := 0x30040 + 32768 * i + 8 * j
abbrev LNK_CNT_HI (i j : Nat) : Nat := 0x30044 + 32768 * i + 8 * j
abbrev LNK_LANE_STAT (i j : Nat) : Nat := 0x30100 + 32768 * i + 16 * j
abbrev LNK_LANE_CORR (i j : Nat) : Nat := 0x30104 + 32768 * i + 16 * j
abbrev LNK_LANE_UNCORR (i j : Nat) : Nat := 0x30108 + 32768 * i + 16 * j
abbrev LNK_LANE_LOL (i j : Nat) : Nat := 0x3010c + 32768 * i + 16 * j
abbrev LAP_STATION : Nat := 0x40000
abbrev LAP_INSTALL : Nat := 0x40004
abbrev LAP_STATE : Nat := 0x40008
abbrev LAP_EVT : Nat := 0x4000c
abbrev LAP_CFG : Nat := 0x40010
abbrev LAP_HSTORE : Nat := 0x40014
abbrev LAP_CTRL : Nat := 0x40018
abbrev LAP_RLAP : Nat := 0x40030
abbrev LAP_PLAP : Nat := 0x40034
abbrev LAP_BARRIER : Nat := 0x40040
abbrev LAP_NBR (i : Nat) : Nat := 0x40020 + 4 * i
abbrev LAP_PERIOD (i : Nat) : Nat := 0x40038 + 4 * i
abbrev LAP_MODEL_STAT (i : Nat) : Nat := 0x40100 + 16 * i
abbrev LAP_MODEL_GEN (i j : Nat) : Nat := 0x40104 + 16 * i + 4 * j
abbrev LAP_CNT_LO (i : Nat) : Nat := 0x40200 + 8 * i
abbrev LAP_CNT_HI (i : Nat) : Nat := 0x40204 + 8 * i
abbrev HBM_STATUS (i : Nat) : Nat := 0x50000 + 4096 * i
abbrev HBM_MAPOUT (i : Nat) : Nat := 0x50004 + 4096 * i
abbrev HBM_CAPACITY (i : Nat) : Nat := 0x50008 + 4096 * i
abbrev HBM_EVT (i : Nat) : Nat := 0x5000c + 4096 * i
abbrev HBM_CTRL (i : Nat) : Nat := 0x50010 + 4096 * i
abbrev HBM_CFG (i : Nat) : Nat := 0x50014 + 4096 * i
abbrev HBM_RGN_A (i j : Nat) : Nat := 0x50020 + 4096 * i + 8 * j
abbrev HBM_RGN_B (i j : Nat) : Nat := 0x50024 + 4096 * i + 8 * j
abbrev HBM_WEIGHT_ALL_LO (i : Nat) : Nat := 0x50040 + 4096 * i
abbrev HBM_WEIGHT_ALL_HI (i : Nat) : Nat := 0x50044 + 4096 * i
abbrev HBM_CNT_LO (i j : Nat) : Nat := 0x50080 + 4096 * i + 8 * j
abbrev HBM_CNT_HI (i j : Nat) : Nat := 0x50084 + 4096 * i + 8 * j
abbrev HBM_CH_WEIGHT_LO (i j : Nat) : Nat := 0x50100 + 4096 * i + 8 * j
abbrev HBM_CH_WEIGHT_HI (i j : Nat) : Nat := 0x50104 + 4096 * i + 8 * j
abbrev HBM_CH_STAT (i j : Nat) : Nat := 0x50200 + 4096 * i + 4 * j
abbrev HBM_TG_CFG (i j : Nat) : Nat := 0x50800 + 4096 * i + 64 * j
abbrev HBM_TG_CTRL (i j : Nat) : Nat := 0x50804 + 4096 * i + 64 * j
abbrev HBM_TG_FIRST (i j : Nat) : Nat := 0x50810 + 4096 * i + 64 * j
abbrev HBM_TG_BLOCKS (i j : Nat) : Nat := 0x50814 + 4096 * i + 64 * j
abbrev HBM_TG_STATUS (i j : Nat) : Nat := 0x50818 + 4096 * i + 64 * j
abbrev HBM_TG_ERRORS (i j : Nat) : Nat := 0x5081c + 4096 * i + 64 * j
abbrev HBM_TG_SKIPPED (i j : Nat) : Nat := 0x50838 + 4096 * i + 64 * j
abbrev HBM_TG_SEED_LO (i j : Nat) : Nat := 0x50808 + 4096 * i + 64 * j
abbrev HBM_TG_SEED_HI (i j : Nat) : Nat := 0x5080c + 4096 * i + 64 * j
abbrev HBM_TG_FAIL_ADDR_LO (i j : Nat) : Nat := 0x50820 + 4096 * i + 64 * j
abbrev HBM_TG_FAIL_ADDR_HI (i j : Nat) : Nat := 0x50824 + 4096 * i + 64 * j
abbrev HBM_TG_FAIL_EXP_LO (i j : Nat) : Nat := 0x50828 + 4096 * i + 64 * j
abbrev HBM_TG_FAIL_EXP_HI (i j : Nat) : Nat := 0x5082c + 4096 * i + 64 * j
abbrev HBM_TG_FAIL_ACT_LO (i j : Nat) : Nat := 0x50830 + 4096 * i + 64 * j
abbrev HBM_TG_FAIL_ACT_HI (i j : Nat) : Nat := 0x50834 + 4096 * i + 64 * j
abbrev LPX_STATUS (i : Nat) : Nat := 0x60000 + 4096 * i
abbrev LPX_MAPOUT (i : Nat) : Nat := 0x60004 + 4096 * i
abbrev LPX_CAPACITY (i : Nat) : Nat := 0x60008 + 4096 * i
abbrev LPX_EVT (i : Nat) : Nat := 0x6000c + 4096 * i
abbrev LPX_CTRL (i : Nat) : Nat := 0x60010 + 4096 * i
abbrev LPX_CFG (i : Nat) : Nat := 0x60014 + 4096 * i
abbrev LPX_RGN_A (i j : Nat) : Nat := 0x60020 + 4096 * i + 8 * j
abbrev LPX_RGN_B (i j : Nat) : Nat := 0x60024 + 4096 * i + 8 * j
abbrev LPX_WEIGHT_ALL_LO (i : Nat) : Nat := 0x60040 + 4096 * i
abbrev LPX_WEIGHT_ALL_HI (i : Nat) : Nat := 0x60044 + 4096 * i
abbrev LPX_CNT_LO (i j : Nat) : Nat := 0x60080 + 4096 * i + 8 * j
abbrev LPX_CNT_HI (i j : Nat) : Nat := 0x60084 + 4096 * i + 8 * j
abbrev LPX_CH_WEIGHT_LO (i j : Nat) : Nat := 0x60100 + 4096 * i + 8 * j
abbrev LPX_CH_WEIGHT_HI (i j : Nat) : Nat := 0x60104 + 4096 * i + 8 * j
abbrev LPX_CH_STAT (i j : Nat) : Nat := 0x60200 + 4096 * i + 4 * j
abbrev LPX_TG_CFG (i j : Nat) : Nat := 0x60800 + 4096 * i + 64 * j
abbrev LPX_TG_CTRL (i j : Nat) : Nat := 0x60804 + 4096 * i + 64 * j
abbrev LPX_TG_FIRST (i j : Nat) : Nat := 0x60810 + 4096 * i + 64 * j
abbrev LPX_TG_BLOCKS (i j : Nat) : Nat := 0x60814 + 4096 * i + 64 * j
abbrev LPX_TG_STATUS (i j : Nat) : Nat := 0x60818 + 4096 * i + 64 * j
abbrev LPX_TG_ERRORS (i j : Nat) : Nat := 0x6081c + 4096 * i + 64 * j
abbrev LPX_TG_SKIPPED (i j : Nat) : Nat := 0x60838 + 4096 * i + 64 * j
abbrev LPX_TG_SEED_LO (i j : Nat) : Nat := 0x60808 + 4096 * i + 64 * j
abbrev LPX_TG_SEED_HI (i j : Nat) : Nat := 0x6080c + 4096 * i + 64 * j
abbrev LPX_TG_FAIL_ADDR_LO (i j : Nat) : Nat := 0x60820 + 4096 * i + 64 * j
abbrev LPX_TG_FAIL_ADDR_HI (i j : Nat) : Nat := 0x60824 + 4096 * i + 64 * j
abbrev LPX_TG_FAIL_EXP_LO (i j : Nat) : Nat := 0x60828 + 4096 * i + 64 * j
abbrev LPX_TG_FAIL_EXP_HI (i j : Nat) : Nat := 0x6082c + 4096 * i + 64 * j
abbrev LPX_TG_FAIL_ACT_LO (i j : Nat) : Nat := 0x60830 + 4096 * i + 64 * j
abbrev LPX_TG_FAIL_ACT_HI (i j : Nat) : Nat := 0x60834 + 4096 * i + 64 * j
abbrev ETH_CFG (i : Nat) : Nat := 0x70000 + 16384 * i
abbrev ETH_PTP_ASYM (i : Nat) : Nat := 0x70004 + 16384 * i
abbrev ETH_STATUS (i : Nat) : Nat := 0x70008 + 16384 * i
abbrev ETH_EVT (i : Nat) : Nat := 0x7000c + 16384 * i
abbrev ETH_LANE_CFG (i j : Nat) : Nat := 0x70100 + 16384 * i + 16 * j
abbrev ETH_LANE_FEC (i j k : Nat) : Nat := 0x70104 + 16384 * i + 16 * j + 4 * k
abbrev ETH_SP_MAC_LO (i j : Nat) : Nat := 0x71000 + 16384 * i + 512 * j
abbrev ETH_SP_MAC_HI (i j : Nat) : Nat := 0x71004 + 16384 * i + 512 * j
abbrev ETH_SP_IPV4 (i j : Nat) : Nat := 0x71008 + 16384 * i + 512 * j
abbrev ETH_SP_IPV6 (i j k : Nat) : Nat := 0x71010 + 16384 * i + 512 * j + 4 * k
abbrev ETH_SP_VLAN (i j : Nat) : Nat := 0x71020 + 16384 * i + 512 * j
abbrev ETH_SP_L3 (i j : Nat) : Nat := 0x71024 + 16384 * i + 512 * j
abbrev ETH_SP_PFC (i j : Nat) : Nat := 0x71028 + 16384 * i + 512 * j
abbrev ETH_SP_MACSEC (i j : Nat) : Nat := 0x71030 + 16384 * i + 512 * j
abbrev ETH_SP_TX_PN_LO (i j : Nat) : Nat := 0x71038 + 16384 * i + 512 * j
abbrev ETH_SP_TX_PN_HI (i j : Nat) : Nat := 0x7103c + 16384 * i + 512 * j
abbrev ETH_SP_CNT_LO (i j k : Nat) : Nat := 0x71100 + 16384 * i + 512 * j + 8 * k
abbrev ETH_SP_CNT_HI (i j k : Nat) : Nat := 0x71104 + 16384 * i + 512 * j + 8 * k
abbrev RVP_CFG : Nat := 0x80000
abbrev RVP_CREDIT_CFG : Nat := 0x80004
abbrev RVP_LOAD_CFG : Nat := 0x80008
abbrev RVP_STATUS : Nat := 0x8000c
abbrev RVP_EVT : Nat := 0x80010
abbrev RVP_CTRL : Nat := 0x80014
abbrev RVP_SESS_SEL : Nat := 0x80040
abbrev RVP_SESS_INFO : Nat := 0x80044
abbrev RVP_RET (i j : Nat) : Nat := 0x80020 + 8 * i + 4 * j
abbrev RVP_SESS_PARTNER_LO : Nat := 0x80048
abbrev RVP_SESS_PARTNER_HI : Nat := 0x8004c
abbrev RVP_SESS_LIMIT (i : Nat) : Nat := 0x80050 + 4 * i
abbrev RVP_LOAD_STAT (i : Nat) : Nat := 0x80080 + 16 * i
abbrev RVP_LOAD_NEXT_LO (i : Nat) : Nat := 0x80084 + 16 * i
abbrev RVP_LOAD_NEXT_HI (i : Nat) : Nat := 0x80088 + 16 * i
abbrev RVP_LOAD_GEN (i : Nat) : Nat := 0x8008c + 16 * i
abbrev RVP_CNT_LO (i : Nat) : Nat := 0x80100 + 8 * i
abbrev RVP_CNT_HI (i : Nat) : Nat := 0x80104 + 8 * i
abbrev FCS_CFG : Nat := 0x90000
abbrev FCS_LIVE : Nat := 0x90004
abbrev FCS_RETIRED : Nat := 0x90008
abbrev FCS_EVT : Nat := 0x9000c
abbrev FCS_CTRL : Nat := 0x90010
abbrev FCS_ENTRY_SEL : Nat := 0x90020
abbrev FCS_ENTRY_STAT : Nat := 0x90024
abbrev FCS_ENTRY_TAG : Nat := 0x90028
abbrev FCS_ENTRY_IDLE : Nat := 0x90040
abbrev FCS_ENTRY_KEY (i : Nat) : Nat := 0x90030 + 4 * i
abbrev FCS_CNT_LO (i : Nat) : Nat := 0x90100 + 8 * i
abbrev FCS_CNT_HI (i : Nat) : Nat := 0x90104 + 8 * i
abbrev DET_CHOICE_LO : Nat := 0xa0000
abbrev DET_CHOICE_HI : Nat := 0xa0004
abbrev DET_EVT : Nat := 0xa0008
abbrev DET_CTRL : Nat := 0xa000c
abbrev DET_TWIN_STATUS : Nat := 0xa0010
abbrev DET_TWIN_CFG : Nat := 0xa0014
abbrev DET_AUDIT_CAP : Nat := 0xa0028
abbrev DET_AUDIT_DROP : Nat := 0xa002c
abbrev DET_DIV_SEL : Nat := 0xa0200
abbrev DET_DIV_COUNT : Nat := 0xa0204
abbrev DET_DIV_POS : Nat := 0xa0210
abbrev DET_DIV_CORE : Nat := 0xa0214
abbrev DET_AUDIT_HEAD_LO : Nat := 0xa0020
abbrev DET_AUDIT_HEAD_HI : Nat := 0xa0024
abbrev DET_TIMING_LO (i : Nat) : Nat := 0xa0040 + 8 * i
abbrev DET_TIMING_HI (i : Nat) : Nat := 0xa0044 + 8 * i
abbrev DET_TWIN_CNT_LO (i : Nat) : Nat := 0xa0080 + 8 * i
abbrev DET_TWIN_CNT_HI (i : Nat) : Nat := 0xa0084 + 8 * i
abbrev DET_DIV_REQ_LO : Nat := 0xa0208
abbrev DET_DIV_REQ_HI : Nat := 0xa020c
abbrev DET_DIV_LOCAL_LO : Nat := 0xa0218
abbrev DET_DIV_LOCAL_HI : Nat := 0xa021c
abbrev DET_DIV_PEER_LO : Nat := 0xa0220
abbrev DET_DIV_PEER_HI : Nat := 0xa0224
abbrev DET_DIV_TIME_LO : Nat := 0xa0228
abbrev DET_DIV_TIME_HI : Nat := 0xa022c
abbrev DET_MODEL_MODE (i : Nat) : Nat := 0xa0420 + 32 * i
abbrev DET_MODEL_BUDGET (i : Nat) : Nat := 0xa0424 + 32 * i
abbrev DET_MODEL_FAST_G (i : Nat) : Nat := 0xa0438 + 32 * i
abbrev DET_MODEL_LATE_LO (i : Nat) : Nat := 0xa0428 + 32 * i
abbrev DET_MODEL_LATE_HI (i : Nat) : Nat := 0xa042c + 32 * i
abbrev DET_MODEL_CHOICE_LO (i : Nat) : Nat := 0xa0430 + 32 * i
abbrev DET_MODEL_CHOICE_HI (i : Nat) : Nat := 0xa0434 + 32 * i
abbrev DET_VMAP (i : Nat) : Nat := 0xa0800 + 4 * i
abbrev ELOG_STATUS : Nat := 0xb0000
abbrev ELOG_EVT : Nat := 0xb0004
abbrev ELOG_ALERT_MASK : Nat := 0xb0008
abbrev ELOG_CTRL : Nat := 0xb000c
abbrev ELOG_HEAD : Nat := 0xb0010
abbrev ELOG_SPILL_CAP : Nat := 0xb0014
abbrev ELOG_SEL : Nat := 0xb0020
abbrev ELOG_SEL_STATUS : Nat := 0xb0024
abbrev ELOG_DATA (i : Nat) : Nat := 0xb0040 + 4 * i
abbrev ELOG_CNT_LO (i : Nat) : Nat := 0xb0080 + 8 * i
abbrev ELOG_CNT_HI (i : Nat) : Nat := 0xb0084 + 8 * i
abbrev CORE_ID (i : Nat) : Nat := 0x100000 + 4096 * i
abbrev CORE_CTRL (i : Nat) : Nat := 0x100004 + 4096 * i
abbrev CORE_TASK (i j : Nat) : Nat := 0x100010 + 4096 * i + 4 * j
abbrev CORE_TASK_PC (i j : Nat) : Nat := 0x100030 + 4096 * i + 4 * j
abbrev CORE_ABORT_LAST (i : Nat) : Nat := 0x100050 + 4096 * i
abbrev CORE_ABORT_PC (i : Nat) : Nat := 0x100054 + 4096 * i
abbrev CORE_ABORT_COUNT (i : Nat) : Nat := 0x100058 + 4096 * i
abbrev CORE_STALL_LO (i j : Nat) : Nat := 0x100060 + 4096 * i + 8 * j
abbrev CORE_STALL_HI (i j : Nat) : Nat := 0x100064 + 4096 * i + 8 * j
abbrev CORE_SWITCH_LO (i : Nat) : Nat := 0x100090 + 4096 * i
abbrev CORE_SWITCH_HI (i : Nat) : Nat := 0x100094 + 4096 * i
abbrev CORE_ISSUE_LO (i : Nat) : Nat := 0x100098 + 4096 * i
abbrev CORE_ISSUE_HI (i : Nat) : Nat := 0x10009c + 4096 * i
abbrev CORE_SKEIN_BASE (i j : Nat) : Nat := 0x100100 + 4096 * i + 16 * j
abbrev CORE_SKEIN_GEOM (i j : Nat) : Nat := 0x100104 + 4096 * i + 16 * j
abbrev CORE_SKEIN_PTR (i j : Nat) : Nat := 0x100108 + 4096 * i + 16 * j
abbrev CORE_HANK_COUNT (i : Nat) : Nat := 0x1004f8 + 4096 * i
abbrev CORE_SKEIN_STAT (i j : Nat) : Nat := 0x10010c + 4096 * i + 16 * j
abbrev CORE_SE_CTX_STAT (i j k : Nat) : Nat := 0x100500 + 4096 * i + 64 * j + 8 * k
abbrev CORE_SE_CTX_POS (i j k : Nat) : Nat := 0x100504 + 4096 * i + 64 * j + 8 * k
abbrev CORE_SE_WORDS_LO (i j : Nat) : Nat := 0x1005c0 + 4096 * i + 8 * j
abbrev CORE_SE_WORDS_HI (i j : Nat) : Nat := 0x1005c4 + 4096 * i + 8 * j
abbrev CORE_SE_FAULT (i : Nat) : Nat := 0x1005d8 + 4096 * i
abbrev CORE_SE_FAULT_ADDR (i : Nat) : Nat := 0x1005dc + 4096 * i
abbrev CORE_SE_CTRL (i : Nat) : Nat := 0x1005e0 + 4096 * i
abbrev CORE_DMA_STAT (i : Nat) : Nat := 0x100600 + 4096 * i
abbrev CORE_DMA_DESC (i : Nat) : Nat := 0x100604 + 4096 * i
abbrev CORE_DMA_FAULT (i : Nat) : Nat := 0x100608 + 4096 * i
abbrev CORE_DMA_CTRL (i : Nat) : Nat := 0x100620 + 4096 * i
abbrev CORE_DMA_FAULT_ADDR_LO (i : Nat) : Nat := 0x10060c + 4096 * i
abbrev CORE_DMA_FAULT_ADDR_HI (i : Nat) : Nat := 0x100610 + 4096 * i
abbrev CORE_DMA_BYTES_LO (i : Nat) : Nat := 0x100618 + 4096 * i
abbrev CORE_DMA_BYTES_HI (i : Nat) : Nat := 0x10061c + 4096 * i
abbrev CORE_NET_LO (i j : Nat) : Nat := 0x100640 + 4096 * i + 8 * j
abbrev CORE_NET_HI (i j : Nat) : Nat := 0x100644 + 4096 * i + 8 * j
abbrev CORE_SPAD_STATUS (i : Nat) : Nat := 0x100700 + 4096 * i
abbrev CORE_SPAD_CE_COUNT (i : Nat) : Nat := 0x100704 + 4096 * i
abbrev CORE_SPAD_UE_COUNT (i : Nat) : Nat := 0x100708 + 4096 * i
abbrev CORE_SPAD_ERR_INFO (i : Nat) : Nat := 0x10070c + 4096 * i
abbrev CORE_SPAD_ERR_SYN (i : Nat) : Nat := 0x100710 + 4096 * i
abbrev CORE_SPAD_SCRUB (i : Nat) : Nat := 0x100714 + 4096 * i
abbrev CORE_SPAD_CTRL (i : Nat) : Nat := 0x100720 + 4096 * i
abbrev CORE_SPAD_INJECT (i : Nat) : Nat := 0x100724 + 4096 * i
abbrev CORE_SPAD_WR_FIRST_LO (i : Nat) : Nat := 0x100718 + 4096 * i
abbrev CORE_SPAD_WR_FIRST_HI (i : Nat) : Nat := 0x10071c + 4096 * i
abbrev BOOT_STATUS : Nat := 0x300000
abbrev BOOT_COPY (i : Nat) : Nat := 0x300010 + 16 * i
abbrev BOOT_COPY_SEQ (i : Nat) : Nat := 0x300014 + 16 * i
abbrev BOOT_COPY_SVN (i : Nat) : Nat := 0x300018 + 16 * i
abbrev BOOT_KEYS : Nat := 0x300030
abbrev BOOT_MIN_SVN : Nat := 0x300034
abbrev BOOT_SETTING_FAIL : Nat := 0x300038
abbrev BOOT_TIME (i : Nat) : Nat := 0x300040 + 4 * i
abbrev BOOT_DEBUG : Nat := 0x300048
abbrev BOOT_CHALLENGE (i : Nat) : Nat := 0x300050 + 4 * i
abbrev BOOT_IMAGE_DIGEST (i : Nat) : Nat := 0x300080 + 4 * i

end Reg

end Sys2Proof
end

