-- ==== Sys2Proof/Machine/State.lean ====
section
/-! DEFINITION. The state of one U7 package as a block: plain data, every piece of state the spec gives the machine. -/

namespace Sys2Proof.Machine

/-- The machine of this spec has no stop: every fault of the spec is a next state. No meaning raises this; the type is
closed and its one constructor is a reason no rule uses (safe: nothing raises it). -/
inductive Fault where
  /-- Raised by nobody: kept so that the type of faults has a name for "none". Safe. -/
  | none
  deriving DecidableEq, Repr

/-- Why the model refuses a command. -/
inductive Refusal where
  /-- Raised by an arm of `exec` whose command has no meaning yet: the command's mnemonic. Safe: nothing is claimed of it. -/
  | notModelled (mnemonic : String)
  deriving DecidableEq, Repr

/-- How a register of the map pairs with its neighbour: a register of its own, or the LO or HI half of a 64-bit pair (04 R129). -/
inductive RegKind where
  | one | lo | hi
  deriving DecidableEq, Repr

/-- A row of the register tables: the base address, the array dimensions as (count, stride), the pairing, the masks of the
fields by access code (00 R11) and the reset value. -/
structure RegGroup where
  id : RegId
  base : Nat
  dims : List (Nat × Nat)
  kind : RegKind
  ro : W32
  rw : W32
  rwl : W32
  w1c : W32
  wo : W32
  rst : W32
  deriving DecidableEq, Repr

/-- What was fused when the part was made and never changes (02 R50, R51, R69; 19 Table MGMT-12): grade S or A, the
fused-out package sites, the LPDDR 5X capacity code, the serial number. -/
structure Part where
  gradeS : Bool := false
  fusedOut : List Nat := []
  lpxCap : Nat := 2
  serial : Nat := 0
  deriving DecidableEq, Repr

/-- One of the four key slots (18 R509). -/
structure KeySlot where
  hash : List Byte := []
  provisioned : Bool := false
  revoked : Bool := false
  deriving DecidableEq, Repr

/-- The fuses that the package programs itself, each one way (18 R509, R510; 19 R545). -/
structure Fuses where
  keys : List KeySlot := [{}, {}, {}, {}]
  minSvn : Nat := 0
  kwk : Option (List Byte) := none
  deriving DecidableEq, Repr

/-- The register file: register values that differ from reset, by address; 64-bit pairs by the address of LO; the latch of each
pair by the address of LO (04 R129). -/
structure Regs where
  val : SMap W32 := []
  cnt : SMap W64 := []
  latch : SMap W32 := []
  deriving DecidableEq, Repr

/-- The declared state of a core site (17 Table FAULT-2), by code of WDN_SITE STATE. -/
inductive SiteSt where
  | absent | spare | spareFailed | promoting | live | suspect | fenced
  deriving DecidableEq, Repr

/-- The code of a declared site state (17 Table FAULT-8). -/
def SiteSt.code : SiteSt → Nat
  | .absent => 0 | .spare => 1 | .spareFailed => 2 | .promoting => 3 | .live => 4 | .suspect => 5 | .fenced => 6

/-- What the warden keeps of a core site (17 Table FAULT-8, R476): its declared state, the cause of its fence, its DISAGREE
count, the times at which it became SUSPECT in the last second, whether a decision and a fence without a probe are pending, whether it is a spare that was
promoted, and the canonical index it serves or is to serve. -/
structure SiteInfo where
  st : SiteSt
  cause : Nat := 0
  disagrees : Nat := 0
  suspects : List Nat := []
  deciding : Bool := false
  mgmtFence : Bool := false
  promoted : Bool := false
  canon : Option Nat := none
  deriving DecidableEq, Repr

/-- The state of a seam (02 Table PKG-10, 17 Table FAULT-2). -/
inductive SeamSt where
  | checking | up | suspect | lost
  deriving DecidableEq, Repr

/-- A seam as the warden sees it. -/
structure SeamInfo where
  st : SeamSt := .checking
  suspects : List Nat := []
  deciding : Bool := false
  mgmtFence : Bool := false
  deriving DecidableEq, Repr

/-- An error log entry (17 Table FAULT-6). -/
structure ElogEntry where
  time : Nat
  seq : Nat
  boot : Nat
  cls : Nat
  block : Nat
  code : Nat
  rep : Nat := 0
  unit : Nat
  detail : Nat
  spilled : Bool := true
  deriving DecidableEq, Repr

/-- An access of a unit's command that the data path has reported as unanswered (17 R474): the unit (04 Table CORE-12 MASK) of a site and its context, the site (0 to 287) or seam (288 to 291) that does not answer, and the
time from which it waits. -/
structure Stuck where
  site : Nat
  unit : Nat
  ctx : Nat
  gate : Nat
  since : Nat
  deriving DecidableEq, Repr

/-- The wardens and the error log (17). `active` is the die of the acting warden; `standby` 0 mirroring, 1 acting, 2 lost; `missed` heartbeats in a row; the entries on die and in the spill, oldest first; `bootId` is 0xFFFF until MEMTRAIN;
`noSpare` the indices fenced without a spare; `dead` says that no warden lives (R488); `shown` is the entry that ELOG_DATA shows (R496). -/
structure Wdn where
  stuck : List Stuck := []
  sites : SMap SiteInfo := []
  seams : List SeamInfo := [{}, {}, {}, {}]
  dieLost : List Bool := [false, false, false, false]
  active : Nat := 0
  standby : Nat := 0
  missed : Nat := 0
  elog : List ElogEntry := []
  spill : List ElogEntry := []
  elogSeq : Nat := 0
  bootId : Nat := 0xFFFF
  noSpare : List Nat := []
  canonSite : SMap Nat := []
  dead : Bool := false
  shown : Option ElogEntry := none
  deriving DecidableEq, Repr

/-! ### Model images (18) and their states at the station (10) -/

/-- A row of HANK_TABLE (18 Table BOOT-12). -/
structure HankDef where
  layer : Nat
  hank : Nat
  crc : Nat
  deriving DecidableEq, Repr

/-- A task template (18 Table BOOT-12, TEMPLATES). -/
structure Template where
  keyA : Nat
  flags : Nat
  cmdSkein : Nat
  keyB : Nat
  cmdStart : Nat
  param : List Byte
  deriving DecidableEq, Repr

/-- A model image: its header (18 Table BOOT-11), the bodies of its sections by type in image order (18 Table BOOT-12; HANK_BODIES is kept in the
image area of HBM), the tables the engines use, and its digest. -/
structure Image where
  id : Nat := 0
  ringed : Bool := false
  fast : Bool := false
  twin : Bool := false
  flow : Bool := false
  gen : Nat := 0
  keyIndex : Nat := 0
  flowClass : Nat := 0
  budget : Nat := 0
  defDeadline : Nat := 1
  maxPayload : Nat := 0
  cohort : Nat := 1
  place : Nat := 1
  layers : Nat := 1
  nLogits : Nat := 1
  nClass : Nat := 1
  scoreIdx : Nat := 0
  defAction : Nat := 1
  winWords : Nat := 0
  winSkeins : Nat := 0
  winPatterns : Nat := 0
  winTags : Nat := 0
  programDigest : List Byte := []
  digest : List Byte := []
  size : Nat := 0
  hanks : List HankDef := []
  templates : List Template := []
  secs : List (Nat × List Byte) := []
  participants : List Nat := []
  deriving DecidableEq, Repr

/-- A model id at the station (10 Table LAP-8, R293 to R298): the active, staged and previous images, the images left behind by a switch whose last tasks still run, the image in force before the last switch, what a barrier has
decided for the next switch (`pend`: 0 nothing, 1 activate, 2 rollback, 3 remove) and the lap at which it takes effect, whether its current lap is a seeding lap, and the latest laps with the times of their
starts at this station, newest first. `twinOn` is the twin comparison of 16, `exactFail` a failed EXACT placement, `lastRank0` one above the
canonical index last given rank 0 (0 before any). `owner` is the session and token that staged the image, `refused` the lowest refusing station's reason and the REFUSE bitmap of the last barrier (13 R386). -/
structure ModelSt where
  active : Option Image := none
  staged : Option Image := none
  prev : Option Image := none
  going : List Image := []
  old : Option Image := none
  pend : Nat := 0
  effLap : Option Nat := none
  seeding : Bool := false
  starts : List (Nat × Nat) := []
  twinOn : Bool := false
  exactFail : Bool := false
  lastRank0 : Nat := 0
  owner : Option (Nat × Nat) := none
  refused : Nat × Nat := (0, 0)
  deriving DecidableEq, Repr

/-! ### Cores, tasks, skeins and engines (04, 07, 08) -/

/-- Task states (04 Table CORE-3). -/
inductive TaskSt where
  | empty | waitingLap | ready | running | blocked | aborting | ending
  deriving DecidableEq, Repr

/-- The code of a task state (04 Table CORE-3). -/
def TaskSt.code : TaskSt → Nat
  | .empty => 0 | .waitingLap => 1 | .ready => 2 | .running => 3 | .blocked => 4 | .aborting => 5 | .ending => 6

/-- A hank binding of a task: the slot of the hank skein and the position of the HANKWAIT that bound it (07 R200). -/
structure HBind where
  slot : Nat
  pos : Nat
  deriving DecidableEq, Repr

/-- A registered match of a HANKWAIT (07 R200, R201). -/
structure HMatch where
  hb : Nat
  pos : Nat
  layer : Nat
  hank : Nat
  deriving DecidableEq, Repr

/-- One task slot (04 R101). `issue` and `ra` count command words from CMD_START in program order; the index of a word is
taken modulo the length of the command skein (04 R104). `layers` are the positions, layers and hanks of the HANKWAITs issued and `parts` the words
written by position, for twin mode (16 R461). `since` is the time at which its TAGOP began to wait on slot `tagSlot`, and `again` says that its request had been dispatched before (07 R194, 04 R126). -/
structure Task where
  st : TaskSt := .empty
  desc : List Byte := []
  cause : Nat := 7
  issue : Nat := 0
  started : List Nat := []
  lap : Nat := 0
  emitted : Bool := false
  hb : List (Option HBind) := [none, none, none, none]
  hmatch : List HMatch := []
  waited : List Nat := []
  fault : Option (Nat × Nat) := none
  req : Nat := 0
  joined : Bool := false
  twin : Bool := false
  layers : List (Nat × Nat × Nat) := []
  parts : List (Nat × List Byte) := []
  layersSent : Nat := 0
  since : Nat := 0
  tagSlot : Nat := 0
  again : Bool := false
  deriving DecidableEq, Repr

/-- A DMA descriptor that has been checked (08 Table STREAM-8), with the bytes already moved. -/
structure DmaDesc where
  kind : Nat
  cls : Bool
  rows : Nat
  len : Nat
  src : Nat
  dst : Nat
  srcStride : Int
  dstStride : Int
  moved : Nat := 0
  finished : Bool := false
  deriving DecidableEq, Repr

/-- A command in a unit queue (04 Table CORE-4), with the progress of its execution: the two weight tiles and the row of an MMA, one
in use and one loading, the vectors of a VOP, the descriptors of a DMA chain. `wait` is the blocking cause on which it waits (04 Table CORE-5), 7 for none, from the time `since`. -/
structure QCmd where
  slot : Nat
  pos : Nat
  word : BitVec 128
  k : Nat := 0
  r : Nat := 0
  haveTile : Bool := false
  tile : List Byte := []
  haveNext : Bool := false
  next : List Byte := []
  acc : List Int := []
  begun : Bool := false
  desc : Option DmaDesc := none
  wait : Nat := 7
  since : Nat := 0
  done : Bool := false
  deriving DecidableEq, Repr

/-- Who holds the producer or consumer role of a skein (07 R187): the core site, the task slot and the unit
(0 MU, 2 SE_A, 3 SE_B, 4 SE_W, 5 DMA). -/
structure Role where
  site : Nat
  slot : Nat
  unit : Nat
  pos : Nat
  deriving DecidableEq, Repr

/-- A skein (07 Table SKEIN-1, R185). `tags` holds one bit for each slot. -/
structure Skein where
  defd : Bool := false
  base : Nat := 0
  size : Nat := 0
  count : Nat := 0
  tagged : Bool := false
  reach : Bool := false
  ecc : Bool := false
  timeout : Nat := 0
  head : Nat := 0
  tail : Nat := 0
  tags : Nat := 0
  prod : Option Role := none
  cons : Option Role := none
  evt : Bool := false
  owner : Nat := 0
  deriving DecidableEq, Repr

/-- A hank held in a slot of the hank skein (07 R199). -/
structure HSlot where
  model : Nat
  layer : Nat
  hank : Nat
  lap : Nat
  order : Nat
  deriving DecidableEq, Repr

/-- An open loop of a pattern (08 Table STREAM-2). -/
structure Loop where
  ctr : Nat
  start : Nat
  stop : Nat
  left : Nat
  deriving DecidableEq, Repr

/-- A pattern context (08 Table STREAM-2, Table STREAM-11). `st`: 0 free, 1 running, 2 waiting for base, 3 waiting on a tag, from
the time `since`. `part` counts the words that its RUN or PAD has moved. -/
structure PatCtx where
  st : Nat := 0
  task : Nat := 0
  pos : Nat := 0
  skein : Nat := 0
  entry : Nat := 0
  pc : Nat := 0
  a : List Nat := [0, 0, 0, 0]
  s : List Nat := [0, 0, 0, 0]
  c : List Nat := [0, 0, 0, 0]
  base : Nat := 0
  arg : Nat := 0
  f : Nat := 0
  loops : List Loop := []
  baseSel : Bool := false
  hb : Nat := 0
  pairPos : Nat := 0
  stepPending : Bool := false
  part : Nat := 0
  since : Nat := 0
  deriving DecidableEq, Repr

/-- A copy of a flow context held in a core's slice (14 R401), with the request whose task loaded it. -/
structure HeldCtx where
  entry : Nat
  spad : Nat
  words : Nat
  slot : Nat
  claimed : Bool
  dirty : Bool
  order : Nat
  leaving : Option Nat
  attr : Nat
  req : Nat
  deriving DecidableEq, Repr

/-- One core site (04 R98). `scrubWait` is the time from which the scrubber has waited for its bank (06 R170), `seen` the hanks that have passed, `turn` the context that each stream engine served last (08 R209). -/
structure Core where
  tasks : List Task := List.replicate 8 {}
  run : Option Nat := none
  last : Nat := 0
  mu : List QCmd := []
  vu : List QCmd := []
  dma : List QCmd := []
  ctx : List QCmd := []
  egr : List QCmd := []
  skeins : SMap Skein := []
  hslots : List (Option HSlot) := []
  horder : Nat := 0
  se : SMap PatCtx := []
  pats : SMap W32 := []
  held : List HeldCtx := []
  bank : List BankReq := []
  locked : List BankReq := []
  bankOut : List (Nat × List Byte) := []
  ceWindow : Nat := 0
  scrubWait : Option Nat := none
  ue : SMap Nat := []
  seen : List HSlot := []
  turn : List Nat := [7, 7, 7]
  deriving DecidableEq, Repr

/-- The memories: scratchpad bytes at (site x 32768 + word) x 64 + byte, the protection class of each scratchpad word
(true: weight), the errors standing in words, the words whose last write carried an injection (06 R171), and external memory bytes at their 40-bit address (06, 11). -/
structure Mem where
  spad : List Host.Cell := []
  cls : SMap Bool := []
  err : SMap WordErr := []
  inj : SMap Bool := []
  ext : List Host.Cell := []
  extErr : SMap Nat := []
  deriving DecidableEq, Repr
/-! ### The flow context store (14) -/

/-- The state of a directory entry (14 Table FLOW-2). -/
inductive DirSt where
  | free | inMemory | held (core : Nat) | evicting (core : Nat) (t : Nat)
  deriving DecidableEq, Repr

/-- A directory entry (14 R394). `claims` is the claim queue: request handles in order; `granted` says that the head holds the claim; `ports` are
the sub-ports at which requests of the flow have arrived (R399). RETIRED is the state of the home's memory and is not kept here. -/
structure DirEntry where
  st : DirSt := .free
  model : Nat := 0
  key : List Byte := []
  cls : Nat := 0
  lost : Bool := false
  zero : Bool := false
  etag : Nat := 0
  crc : Nat := 0
  claims : List Nat := []
  granted : Bool := false
  lastEnd : Nat := 0
  ports : List Nat := []
  dropMark : Bool := false
  failMark : Bool := false
  deriving DecidableEq, Repr

/-- A message between a holder and the directory (14 R406, R407). A SNOOP that the holder has taken ahead of a write to the copy carries the words of the copy, or nothing
where one of them is uncorrectable (R402). -/
inductive FlowMsg where
  | leaving (core entry t : Nat)
  | notice (core entry t : Nat)
  | snoop (holder entry req spad slot : Nat) (taken : Option (List Byte))
  | retry (core entry t spad slot : Nat)
  | drop (holder entry : Nat)
  deriving DecidableEq, Repr

/-- A load that waits for an entry to reach a tag (14 R407, R408). -/
structure FlowWait where
  core : Nat
  slot : Nat
  entry : Nat
  t : Nat
  deriving DecidableEq, Repr

/-- The flow context store: the directory, messages on their way in the order sent, and waiting loads. `shown` holds the
FCS_ENTRY registers STAT, TAG, KEY_0 to KEY_3 and IDLE as the last write of FCS_ENTRY_SEL captured them (14 R414), nothing before the first. -/
structure Fcs where
  dir : SMap DirEntry := []
  msgs : List FlowMsg := []
  waits : List FlowWait := []
  shown : List Nat := []
  deriving DecidableEq, Repr


/-! ### Start-up (18) -/

/-- Start-up: the copy in use in bytes, the times at which BOOT and TRAIN were entered, and whether MEMTRAIN has ended. The phase, the cause of the reset, the straps,
the copy, boot lock and the debug policy stand in BOOT_STATUS (18 Table BOOT-13). -/
structure Boot where
  image : List Byte := []
  bootFrom : Nat := 0
  trainFrom : Nat := 0
  memDone : Bool := false
  deriving DecidableEq, Repr
/-! ### Determinism and audit (16) -/

/-- A layer digest entry of twin mode (16 R461). -/
structure TwinEntry where
  req : Nat
  layer : Nat
  hank : Nat
  vcore : Nat
  digest : Nat
  time : Nat := 0
  mine : Bool := true
  model : Nat := 0
  canon : Nat := 0
  site : Nat := 0
  deriving DecidableEq, Repr

/-- A divergence report (16 R463). -/
structure DivReport where
  req : Nat
  model : Nat
  layer : Nat
  hank : Nat
  vcore : Nat
  canon : Nat
  site : Nat
  mine : Nat
  peer : Nat
  time : Nat
  deriving DecidableEq, Repr

/-- Placement of virtual cores as (host canonical index, window), twin comparison, and the audit log's on-die buffer with its bounds (16 R443, R455 to R463). `shown` is the
report that the last write of DET_DIV_SEL found (16 R467). -/
structure Det where
  vmap : SMap (Nat × Nat) := []
  store : List TwinEntry := []
  send : List TwinEntry := []
  divs : List DivReport := []
  diverged : List Nat := []
  audBuf : List (List Byte) := []
  audSeq : Nat := 0
  shown : Option DivReport := none
  deriving DecidableEq, Repr

/-! ### Ethernet (12) -/

/-- An installed MACsec SA (12 R345 to R348). `pn` is the next packet number to send, or one above the highest received; `low` the lowest acceptable number as
installed. -/
structure Sa where
  an : Nat
  sci : List Byte
  ssci : List Byte
  key : List Byte
  salt : List Byte
  pn : Nat
  low : Nat
  deriving DecidableEq, Repr

/-- A received frame that waits for its consumer: the sub-port, the source, the frame's length and priority in the ingress buffer, its timestamp, and the payload
above UDP, or the whole ARP, neighbour discovery or PTP message. -/
structure RxDgram where
  port : Nat
  sp : Nat
  mac : List Byte
  ip : List Byte
  udp : Nat
  time : Nat
  flen : Nat
  prio : Nat
  data : List Byte
  deriving DecidableEq, Repr

/-- A frame handed to a sub-port before MACsec: destination, the bytes after the two addresses, and the time of hand-over. `verdict` counts the records it carries, and `event` marks a PTP event message, which is
timestamped as it leaves. -/
structure TxFrame where
  dst : List Byte
  body : List Byte
  time : Nat
  verdict : Bool := false
  event : Bool := false
  deriving DecidableEq, Repr

/-- A sub-port: the abilities and pause bits last advertised, link, auto-negotiation, the priorities for which XOFF stands, the priorities that the partner has paused, SAs by transmit and receive SC, the SA in
use, and frames that wait. -/
structure SubPort where
  page : Option (BitVec 4 × BitVec 2) := none
  up : Bool := false
  an : Bool := false
  xoff : List Nat := []
  paused : List Nat := []
  tx : List Sa := []
  txAn : Option Nat := none
  rxSc : List (List Sa) := [[], [], [], [], [], [], [], []]
  queue : List TxFrame := []
  deriving DecidableEq, Repr

/-- The Ethernet ports: sub-ports by 8 n + s, frames waiting for their consumers, and the frames sent, in order, as (port, sub-port, bytes with FCS). -/
structure Eth where
  sp : SMap SubPort := []
  arp : List RxDgram := []
  nd : List RxDgram := []
  ptp : List RxDgram := []
  out : List (Nat × Nat × List Byte) := []
  deriving DecidableEq, Repr


/-! ### The Serby link (09) -/

/-- A physical receive position of a port (09 R241 to R245): signal, codeword lock, training sets accepted in a row and the LBC the next
should carry, the logical lane named, the skew, whether the position is excluded or retired, and the periods in a row over LANE_DEGRADE. -/
structure Lane where
  signal : Bool := false
  lock : Bool := false
  ts : Nat := 0
  nextLbc : Nat := 0
  logical : Option Nat := none
  skew : Nat := 0
  excluded : Bool := false
  retired : Bool := false
  degraded : Nat := 0
  deriving DecidableEq, Repr

/-- A sequenced flit without its SEQ and trailer: TYPE, MODEL, INFO and payload (09 Table LINK-5). -/
structure Flit where
  typ : Nat
  model : Nat
  info : List Byte
  data : List Byte
  deriving DecidableEq, Repr

/-- A part of a hank as a HANK flit carries it (09 R251). -/
structure HankPart where
  part : Nat
  model : Nat
  hmeta : List Byte
  data : List Byte
  deriving DecidableEq, Repr

/-- A flit on the lanes (09 R248): the LBC at which its epoch starts, the mask, the flit's number in the epoch, and its 272 bytes. -/
structure TxOut where
  epoch : Nat
  mask : Nat
  number : Nat
  bytes : List Byte
  deriving DecidableEq, Repr

/-- A ring port (09). `st`: 0 OFF, 1 ADAPT, 2 TRAIN, 3 UP, 4 DOWN. `sending`: 0 dark, 1 PRBS13Q, 2 TS_TRAIN, 3 TS_START, 4 flits. `expected` is x of R257. `replay` holds the
unacknowledged flits from SEQ `oldest`; `replayAt` is the next of them to resend. `ctl` holds received link-local flits as (TYPE, SEQ, INFO), `rx` sequenced payloads as
(TYPE, payload), `parts` the parts of the hank that is arriving, `hanks` the hanks that have arrived. -/
structure Port where
  st : Nat := 0
  attempt : Nat := 0
  sending : Nat := 0
  lanes : List Lane := List.replicate 17 {}
  rxLocked : Bool := false
  peerLocked : Bool := false
  txMask : Nat := 0
  rxMask : Nat := 0
  txRetired : Nat := 0
  rxUp : Bool := false
  startTx : Nat := 0
  startRx : Nat := 0
  epoch : Nat := 0
  number : Nat := 0
  oldest : Nat := 0
  replay : List Flit := []
  replayAt : Option Nat := none
  replays : Nat := 0
  expected : Nat := 0
  accepted : Bool := false
  nakSent : Bool := false
  nakDue : Bool := false
  reqId : Nat := 0
  reqMask : Nat := 0
  reqDue : Bool := false
  reqOpen : Bool := false
  served : Nat := 0
  widthDue : Option (Nat × Nat) := none
  discarding : Bool := false
  qualify : Bool := false
  downDue : Nat := 0
  idleGap : Nat := 0
  reason : Nat := 0
  peerCode : Nat := 0
  protoAt : Option Nat := none
  bar : List (List Byte) := []
  ident : List (List Byte) := []
  msg : List (List Byte) := []
  twin : List (List Byte) := []
  hankQ : List (List HankPart) := []
  ctl : List (Nat × Nat × List Byte) := []
  rx : List (Nat × List Byte) := []
  parts : List HankPart := []
  hanks : List (List HankPart) := []
  out : List TxOut := []
  deriving DecidableEq, Repr

/-! ### The management interface (19) -/

/-- A vendor request in the warden's queue (19 R533, R534), from an MCTP requester (its endpoint id and tag) or from JTAG. -/
structure VReq where
  jtag : Bool := false
  eid : Nat := 0
  tag : Nat := 0
  version : Nat := 1
  cmd : Nat := 0
  flags : Nat := 0
  rsvd : Nat := 0
  seq : Nat := 0
  status : Nat := 0
  body : List Byte := []
  deriving DecidableEq, Repr

/-- An MCTP control request (DSP0236, log entry 9): the requester, its tag and instance id, the command and its data. -/
structure CtlReq where
  eid : Nat
  tag : Nat
  inst : Nat
  cmd : Nat
  data : List Byte
  deriving DecidableEq, Repr

/-- An MCTP message in assembly: the requester, its tag, the next packet's sequence number, the size of the first packet's payload, the bytes so far. -/
structure Partial where
  eid : Nat
  tag : Nat
  next : Nat
  unit : Nat
  bytes : List Byte
  deriving DecidableEq, Repr

/-- The TAP (19 R548 to R550): the instruction register's code, whether EXTEST has been entered and only a reset ends it, the boundary values preloaded, the MEM_ACCESS status and data, and what the selected data register captured. -/
structure Tap where
  instr : Nat := 0x01
  extest : Bool := false
  preload : List Byte := []
  memStatus : Nat := 0
  memData : Nat := 0
  dr : Nat := 0xB007A1D5
  deriving DecidableEq, Repr

/-- The management interface (19): the endpoint id, messages in assembly, control requests, the vendor requests waiting, the one being executed, the responses sent (requester, tag, bytes), oldest
first, the addresses returned at the Alert Response Address, and the TAP. -/
structure Mgmt where
  eid : Option Nat := none
  parts : List Partial := []
  ctl : List CtlReq := []
  queue : List VReq := []
  cur : Option VReq := none
  out : List (Nat × Nat × List Byte) := []
  ara : List Nat := []
  tap : Tap := {}
  deriving DecidableEq, Repr

/-! ### Power, clocks and pins (03, 20) -/

/-- Clocks and pins: SERREF_156 and OPTREF_156 of their two dies, SYSREF_100 and XT_32K present; the levels of RESET_N and PWRGD, and the THERMTRIP_N latch on VAON (asserted when true);
`low` the SPEED updates in a row below the guaranteed minimum, by die; `avs` the AVSBus command under way by rail (0 none, 1 issued, 2 retried); `goal` the code to which the warden moves a die one code at a time, 0 for none (03 R82); `atFloor` that the last evaluation demanded a reduction with every die at its floor; `darkAt` is when the lasers of a lost station go dark (17 R488); `wakeDue` says that a wake event came while the sleep barrier was in flight (03 R89). -/
structure Pwr where
  serref : List Bool := [true, true]
  optref : List Bool := [true, true]
  sysref : Bool := true
  xt32k : Bool := true
  resetN : Bool := false
  pwrgd : Bool := false
  thermtrip : Bool := false
  low : List Nat := [0, 0, 0, 0]
  avs : List Nat := [0, 0, 0, 0]
  goal : List Nat := [0, 0, 0, 0]
  atFloor : Bool := false
  darkAt : Option Nat := none
  wakeDue : Bool := false
  deriving DecidableEq, Repr

/-! ### Ring operation (10) -/

/-- The neighbour at a port (10 Table LAP-8 LAP_NBR): what the last IDENT said, the check that failed (0 none), whether the partner shows PEER_OK, and its station state. -/
structure Nbr where
  seen : Bool := false
  ok : Bool := false
  peerOk : Bool := false
  ringId : Nat := 0
  station : Nat := 0
  reason : Nat := 0
  state : Nat := 4
  twin : Option Nat := none
  deriving DecidableEq, Repr

/-- A ring barrier token (10 Table LAP-5). -/
structure Token where
  kind : Nat
  phase : Nat := 1
  outcome : Nat := 0
  leader : Nat := 0
  id : Nat := 0
  model : Nat := 0
  gen : Nat := 0
  leff : Nat := 0
  ready : Nat := 0
  refuse : Nat := 0
  digest : List Byte := List.replicate 48 0
  arg : List Byte := List.replicate 8 0
  reasons : List Nat := List.replicate 64 0
  due : Bool := true
  deriving DecidableEq, Repr

/-- A ring message (10 Table LAP-4), with the port at which it arrived. -/
structure RingMsg where
  kind : Nat
  src : Nat
  dst : Nat
  ttl : Nat
  body : List Byte
  port : Nat := 0
  deriving DecidableEq, Repr

/-- The progress of a direction of a schedule (10 R278): the lap, the hanks of the direction that have passed in it, and the blocks launched here. -/
structure Progress where
  lap : Nat := 0
  next : Nat := 0
  deriving DecidableEq, Repr

/-- A hank in the alignment store (10 R281). `dir` 0 E, 1 W. -/
structure Aligned where
  ringed : Bool
  model : Nat
  pos : Nat
  lap : Nat
  dir : Nat
  gen : Nat
  body : List Byte
  deriving DecidableEq, Repr

/-- Hanks of a position on their way to cores (07 R199): the sites that have not taken them. -/
structure Delivery where
  model : Nat
  lap : Nat
  hanks : List (Nat × Nat × List Byte)
  sites : List Nat
  deriving DecidableEq, Repr

/-- A place of the hank store (10 R283): the hank, the canonical index of its slice, its place in the slice, and whether it must be read from the golden copy. -/
structure StoreEnt where
  model : Nat
  gen : Nat
  index : Nat
  canon : Nat
  place : Nat
  bad : Bool := false
  deriving DecidableEq, Repr

/-- The ring at this station (10). `mode`: 0 FORMING, 1 CLOSED, 2 FOLDED, 3 SPLIT. Directions and ports: 0 W and 1 E for ports, 0 E and 1 W for directions of the schedule.
`held` stops launches of an interrupted lap; `voted` is the barrier on which this station voted; `flight` the barrier this station leads and whether it is in its releasing lap; `queue` the barriers it is
asked to lead; `commits` commits not yet acted on; `msgs` messages for this station; `noticeW` and `noticeE` the stations at the ends of the line; `joined` says that the station has joined a ring since reset (17 R489), `joinSeen` that
a joined link has been reported to this leader, `reformAt` the lap of a committed REFORM. -/
structure Ring where
  mode : Nat := 0
  nLive : Nat := 0
  leader : Nat := 0
  adopted : Option Nat := none
  loopW : Bool := false
  loopE : Bool := false
  nbr : List Nbr := [{}, {}]
  rlap : Nat := 0
  plap : Nat := 0
  rStart : Nat := 0
  pStart : Nat := 0
  rRun : Bool := false
  pRun : Bool := false
  rPeriod : Nat := 0
  pPeriod : Nat := 0
  prog : List Progress := [{}, {}]
  pprog : List Progress := [{}, {}]
  held : Bool := false
  interrupted : Bool := false
  voted : Option Token := none
  lastKind : Nat := 0
  lastOutcome : Nat := 0
  lastId : Nat := 0
  nextId : Nat := 0
  flight : Option Token := none
  queue : List Token := []
  commits : List Token := []
  msgs : List RingMsg := []
  noticeW : Option Nat := none
  noticeE : Option Nat := none
  joined : Bool := false
  joinSeen : Bool := false
  reformAt : Option Nat := none
  reissued : List (Nat × Nat × Nat) := []
  checked : List (Nat × Nat × Nat) := []
  mirrorAsked : List (Nat × Nat) := []
  align : List Aligned := []
  deliver : List Delivery := []
  store : List StoreEnt := []
  deriving DecidableEq, Repr
/-! ### The request/verdict protocol (13) -/

/-- An RVP session (13 R358, R364). `st`: 1 OPEN, 2 DRAINING. `limitSent` is the CREDIT_LIMIT that the last VERDICT frame or unsolicited CREDIT carried and `rise` the time at which it rose since. -/
structure Session where
  st : Nat
  partner : Nat
  nonce : Nat
  role : Nat
  fallback : Nat
  port : Nat
  sp : Nat
  mac : List Byte
  ip : List Byte
  udp : Nat
  token : Nat
  used : Nat := 0
  freed : Nat := 0
  grant : Nat := 0
  idleFrom : Nat := 0
  limitSent : Nat := 0
  rise : Nat := 0
  deriving DecidableEq, Repr

/-- The stages of a request from its acceptance to its release (13 R370 to R381). -/
inductive ReqSt where
  | reasm | queued | ready | dispatched | held
  deriving DecidableEq, Repr

/-- A request, by handle; handles rise in order of acceptance. `blocks` are its retention blocks, `got` the received frames as (index, offset, length), `budget` and `defDl` the release
budget and default deadline of the image it was accepted for, `tasks` the ranks, sites and slots of its group, `aborted` the sites that aborted a task of it, `sessFb` its session's fallback, `late` that its record was not ready at its instant or missed the beat of its instant in a debug halt, `gone` that its model was removed while it was in reassembly, `joined`, `lap` and `phase` the last lap that it
joined, `aud` bytes 0 to 95 of its audit preimage, `mode` its mode byte, `imageGen` its generation, `fb` its fallback reason. -/
structure Req where
  st : ReqSt
  sess : Nat
  discard : Bool := false
  released : Bool := false
  reqId : Nat
  model : Nat
  flow : Bool
  flowEnd : Bool
  fallback : Nat
  sessFb : Nat := 1
  late : Bool := false
  gone : Bool := false
  frames : Nat
  metaLen : Nat
  payLen : Nat
  deadlineUs : Nat
  flowKey : List Byte
  port : Nat
  sp : Nat
  cost : Nat
  blocks : List Nat
  budget : Nat := 0
  defDl : Nat := 0
  got : List (Nat × Nat × Nat) := []
  opened : Nat := 0
  order : Nat := 0
  arrival : Nat := 0
  deadline : Nat := 0
  release : Nat := 0
  digest : List Byte := []
  slot : Option Nat := none
  slotGen : Nat := 0
  inBase : Nat := 0
  inWords : Nat := 0
  waited : Bool := false
  entry : Option Nat := none
  claimFrom : Nat := 0
  group : Nat := 0
  tasks : List (Nat × Nat × Nat) := []
  aborted : List Nat := []
  retried : Bool := false
  emitted : Bool := false
  joined : Bool := false
  lap : Nat := 0
  phase : Nat := 0
  truncated : Bool := false
  shortMeta : Bool := false
  raised : Bool := false
  ctxReset : Bool := false
  aud : List Byte := []
  mode : Nat := 2
  imageGen : Nat := 0
  fb : Nat := 0
  cls : Nat := 0
  score : Nat := 0
  action : Nat := 0
  rule : Nat := 0
  deriving DecidableEq, Repr

/-- A model load (13 R385, R386), kept in its register block after it ends; `owned` says that the session that started it is still the one with its number. -/
structure Load where
  model : Nat
  sess : Nat
  owned : Bool := true
  gen : Nat
  size : Nat
  next : Nat := 0
  status : Nat := 1
  bytes : List Byte := []
  busy : Bool := true
  reason : Nat := 0
  barReason : Nat := 0
  refuse : Nat := 0
  lastAck : Nat := 0
  deriving DecidableEq, Repr

/-- The RVP engine. `errs` counts ERROR frames of each sub-port in the current millisecond; `reqOps` the operations, models and sessions
that wait for a REMOVE or ROLLBACK. -/
structure Rvp where
  sess : SMap Session := []
  tokens : SMap Nat := []
  reqs : SMap Req := []
  nextReq : Nat := 1
  nextOrder : Nat := 0
  loads : List (Option Load) := [none, none]
  errMs : Nat := 0
  errs : SMap Nat := []
  rx : List RxDgram := []
  body : List RxDgram := []
  reqOps : List (Nat × Nat × Nat) := []
  deriving DecidableEq, Repr

/-! ### Timers and device time (15) -/

/-- A timer (15 R424 to R433): the counter, the prescaler's accumulator, the fraction of a source event carried in SLEEP (in 1/128), the compares in force, the
preloads, the LO halves written and not yet taken, the captures, and what waits for the next tick: a self RESET, linked RESET and START, and an overflow
to be counted by other timers. -/
structure Timer where
  running : Bool := false
  count : Nat := 0
  acc : Nat := 0
  frac : Nat := 0
  cmp : List Nat := [0, 0, 0, 0]
  pre : List Nat := [0, 0, 0, 0]
  lo : List (Option Nat) := [none, none, none, none]
  cap : List Nat := [0, 0]
  selfReset : Bool := false
  linkReset : Bool := false
  linkStart : Bool := false
  ovf : Bool := false
  deriving DecidableEq, Repr

/-- An armed global start (15 R432). -/
structure GStart where
  at_ : Nat
  immediate : Bool
  reset : Bool
  deriving DecidableEq, Repr

/-- A PTP master as its Announce describes it, in the order of the dataset comparison (15 R418; IEEE 1588). -/
structure PtpMaster where
  port : List Byte
  prio1 : Nat
  clsAcc : Nat
  variance : Nat
  prio2 : Nat
  gm : List Byte
  steps : Nat
  deriving DecidableEq, Repr

/-- A master heard on a port: its dataset, the logarithm of its Announce interval as the message gives it, and when its last Announce and the one before came. -/
structure PtpForeign where
  data : PtpMaster
  logInt : Nat
  last : Nat
  prev : Option Nat := none
  deriving DecidableEq, Repr

/-- The slave clock of an Ethernet port (12 R349): the masters heard and the one selected, the last two-step Sync waiting for its Follow_Up with its correction `corr`, the last Sync times, the delay
measurement and its interval, the last Delay_Req: when it was handed over and when it left. -/
structure PtpClock where
  foreign : List PtpForeign := []
  master : Option PtpMaster := none
  syncSeq : Nat := 0
  syncRx : Nat := 0
  twoStep : Bool := false
  corr : Int := 0
  t1 : Int := 0
  t2 : Int := 0
  delay : Int := 0
  reqSeq : Nat := 0
  reqLast : Option Nat := none
  reqAt : Nat := 0
  reqOut : Bool := false
  interval : Option Nat := none
  deriving DecidableEq, Repr

/-- Timers, pins and the time base (15). `left` counts the ticks for which each TIMOUT pin stays asserted; `frac` is the fraction of device time in SLEEP, in 1/128 ns;
`valid` is indexed PTP_0, PTP_1, PPS_IN; `lost` is the reference whose loss is being qualified, from the time `lostFrom`; `pins` holds the levels of TIMIN_0 to TIMIN_3 at the last sleep tick; `beat` says that a release beat has been posted. -/
structure Tim where
  timers : SMap Timer := []
  gstart : Option GStart := none
  left : List Nat := [0, 0, 0, 0]
  frac : Nat := 0
  pins : Nat := 0
  beat : Bool := false
  stopped : Bool := false
  current : Nat := 0
  requal : Option Nat := none
  requalFrom : Nat := 0
  phase : Nat := 0
  todValid : Bool := false
  valid : List Bool := [false, false, false]
  lost : Option Nat := none
  lostFrom : Nat := 0
  first : Bool := true
  offset : Int := 0
  freq : Int := 0
  ppsLast : Option Nat := none
  ptp : List PtpClock := [{}, {}]
  deriving DecidableEq, Repr

/-! ### External memory (11) -/

/-- A copy of a model image's hanks in the image area of a stack (11 Table XMEM-6): the model id and generation, the kind (0 pinned full, 1 pinned mirror,
2 own shard E, 3 own shard W, 4 mirror shard E, 5 mirror shard W), the stack, the lap positions of its hanks and the granules that hold them, 32 a hank. -/
structure ImgCopy where
  model : Nat
  gen : Nat
  kind : Nat
  stack : Nat
  hanks : List Nat
  granules : List Nat
  damaged : Bool := false
  deriving DecidableEq, Repr

/-- The memory controllers 0 to 3 (HBM) and 4 to 11 (LPDDR 5X). Channels are numbered 32 u + c. `why` is the cause of a FAILING channel (17 code 0x0603). -/
structure Xmem where
  weights : SMap (List Nat) := []
  credits : SMap (List Int) := []
  last : SMap Nat := []
  retryWin : SMap Nat := []
  why : SMap Nat := []
  inReq : SMap Nat := []
  copies : List ImgCopy := []
  deriving DecidableEq, Repr

/-- Everything in the package but the queue of commands, the fuses it programs and the flash: the part, device time, the station state code (01 Table MODEL-4), the level of ALERT_N, the halted debug groups, the blocks, and the
number of free values drawn (log entry 3: the model's own). -/
structure Dev where
  part : Part := {}
  now : Nat := 0
  code : Nat := 0
  alertN : Bool := true
  halted : List Nat := []
  regs : Regs := {}
  core : SMap Core := []
  mem : Mem := {}
  wdn : Wdn := {}
  fcs : Fcs := {}
  model : SMap ModelSt := []
  ports : List Port := [{}, {}]
  ring : Ring := {}
  xmem : Xmem := {}
  rvp : Rvp := {}
  eth : Eth := {}
  tim : Tim := {}
  det : Det := {}
  pwr : Pwr := {}
  boot : Boot := {}
  mgmt : Mgmt := {}
  free : Nat := 0
  deriving DecidableEq, Repr

/-- The machine: the commands that wait, first in first out; the fuses it programs; the boot flash, bytes by address; and everything else. -/
structure State where
  pending : List Instr := []
  fuse : Fuses := {}
  flash : List Host.Cell := []
  dev : Dev := {}
  deriving DecidableEq, Repr

/-- The package right after a power-on reset, held in RESET (18 R497, R499): no command waits, and every register at its reset value. The part is a grade A with no site fused out, 32 GiB LPDDR 5X packages and
serial 0, the fuses are unprogrammed and the flash is erased (DESIGN CHOICE, log entries 5 and 7). -/
def State.reset : State :=
  { pending := [], fuse := {}, flash := [],
    dev := { regs := { val := [(Reg.MGT_ALERT_EN, 0xff), (Reg.ELOG_ALERT_MASK, 0x1c), (Reg.BOOT_STATUS, 0x10)] } } }

end Sys2Proof.Machine
end

