-- ==== Sys2Proof/Machine/RegTable.lean ====
section
/-! DEFINITION. The management register map as a table: one row for each register (or array of registers) of the spec's
register tables, with the masks of its fields by access code (00 R11) and its reset value. Written from Tables PKG-6 to PKG-10,
SPEED-8 to SPEED-11, CORE-18, SPAD-7, SPAD-8, SKEIN-4, SKEIN-5, STREAM-11, STREAM-12, LINK-10, LAP-8, XMEM-12, ETH-4, RVP-15,
FLOW-6, TIME-7 to TIME-9, DET-7, FAULT-8, FAULT-9, BOOT-13 and MGMT-12. -/

namespace Sys2Proof.Machine

/-- Part 0 of the register table. -/
def regTable0 : List RegGroup := [
  ⟨.MGT_ID, 0x0, [], .one, 0xffff0000, 0, 0, 0, 0, 0xb0070000⟩,
  ⟨.MGT_SERIAL_LO, 0x4, [], .one, 0xffffffff, 0, 0, 0, 0, 0⟩,
  ⟨.MGT_SERIAL_HI, 0x8, [], .one, 0xffffffff, 0, 0, 0, 0, 0⟩,
  ⟨.MGT_STATE, 0xc, [], .one, 0x0000000f, 0, 0, 0, 0, 0⟩,
  ⟨.MGT_SMB, 0x10, [], .one, 0x0001ff7f, 0, 0, 0, 0, 0⟩,
  ⟨.MGT_ALERT, 0x14, [], .one, 0, 0, 0, 0x000000ff, 0, 0⟩,
  ⟨.MGT_ALERT_EN, 0x18, [], .one, 0, 0x000000ff, 0, 0, 0, 0x000000ff⟩,
  ⟨.MGT_KEYS, 0x1c, [], .one, 0x00000001, 0, 0, 0, 0, 0⟩,
  ⟨.MGT_DEBUG, 0x20, [], .one, 0x0000ff00, 0, 0, 0, 0, 0⟩,
  ⟨.MGT_JTAG_LAST, 0x24, [], .one, 0x0000ffff, 0, 0, 0, 0, 0⟩,
  ⟨.MGT_MSG_CNT_LO, 0x40, [(5, 8)], .lo, 0xffffffff, 0, 0, 0, 0, 0⟩,
  ⟨.MGT_MSG_CNT_HI, 0x44, [(5, 8)], .hi, 0xffffffff, 0, 0, 0, 0, 0⟩,
  ⟨.MGT_PKG_INV, 0x100, [], .one, 0x000fffff, 0, 0, 0, 0, 0x00003000⟩,
  ⟨.MGT_SITE_FUSE_LO, 0x110, [(4, 16)], .one, 0xffffffff, 0, 0, 0, 0, 0⟩,
  ⟨.MGT_SITE_FUSE_MID, 0x114, [(4, 16)], .one, 0xffffffff, 0, 0, 0, 0, 0⟩,
  ⟨.MGT_SITE_FUSE_HI, 0x118, [(4, 16)], .one, 0x000000ff, 0, 0, 0, 0, 0⟩,
  ⟨.MGT_SPARE, 0x150, [(4, 4)], .one, 0x00ffffff, 0, 0, 0, 0, 0⟩,
  ⟨.MGT_SEAM_STATUS, 0x160, [], .one, 0x0000ffff, 0, 0, 0x000f0000, 0, 0x00002222⟩,
  ⟨.MGT_VCORE_CFG, 0x200, [(4, 4)], .one, 0, 0, 0x00ff00ff, 0, 0, 0⟩,
  ⟨.MGT_VCORE_STAT, 0x210, [(4, 4)], .one, 0xffffffff, 0, 0, 0, 0, 0⟩,
  ⟨.MGT_THROTTLE_CFG, 0x220, [], .one, 0, 0, 0x03ff00ff, 0, 0, 0⟩,
  ⟨.MGT_PWR_STATUS, 0x224, [], .one, 0xffff0003, 0, 0, 0x00000f00, 0, 0⟩,
  ⟨.MGT_TEMP, 0x230, [(4, 4)], .one, 0xffffffff, 0, 0, 0, 0, 0⟩,
  ⟨.MGT_SPEED, 0x240, [(4, 32), (8, 4)], .one, 0x00000fff, 0, 0, 0, 0, 0⟩,
  ⟨.MGT_SPEED_MIN, 0x2c0, [(4, 4)], .one, 0x0fff0fff, 0, 0, 0, 0, 0⟩,
  ⟨.MGT_SPAD_CFG, 0x300, [], .one, 0, 0, 0x1fff03ff, 0, 0, 0⟩,
  ⟨.MGT_NET_SPLIT, 0x304, [], .one, 0, 0, 0x00000fff, 0, 0, 0⟩,
  ⟨.MGT_CANON_MAP, 0x400, [(256, 4)], .one, 0xc00001ff, 0, 0, 0, 0, 0⟩,
  ⟨.WDN_STATUS, 0x10000, [], .one, 0x00000f0f, 0, 0, 0, 0, 0⟩,
  ⟨.WDN_EVT, 0x10004, [], .one, 0, 0, 0, 0x0000001f, 0, 0⟩,
  ⟨.WDN_CFG, 0x10008, [], .one, 0, 0, 0xffff000f, 0, 0, 0⟩,
  ⟨.WDN_CTRL, 0x1000c, [], .one, 0, 0, 0, 0, 0x00000001, 0⟩,
  ⟨.WDN_DIE, 0x10010, [], .one, 0x000000ff, 0, 0, 0, 0, 0⟩,
  ⟨.WDN_CNT_LO, 0x10040, [(8, 8)], .lo, 0xffffffff, 0, 0, 0, 0, 0⟩,
  ⟨.WDN_CNT_HI, 0x10044, [(8, 8)], .hi, 0xffffffff, 0, 0, 0, 0, 0⟩,
  ⟨.WDN_SITE, 0x11000, [(288, 4)], .one, 0x00ffff0f, 0, 0, 0, 0, 0⟩,
  ⟨.TIM_GSTART_MASK, 0x20000, [], .one, 0, 0xffffffff, 0, 0, 0, 0⟩,
  ⟨.TIM_GSTART_AT_LO, 0x20004, [], .lo, 0, 0xffffffff, 0, 0, 0, 0⟩,
  ⟨.TIM_GSTART_AT_HI, 0x20008, [], .hi, 0, 0xffffffff, 0, 0, 0, 0⟩,
  ⟨.TIM_GSTART_CTRL, 0x2000c, [], .one, 0, 0, 0, 0, 0x00000007, 0⟩]

/-- Part 1 of the register table. -/
def regTable1 : List RegGroup := [
  ⟨.TIM_GSTATUS, 0x20010, [], .one, 0x00000001, 0, 0, 0x00000002, 0, 0⟩,
  ⟨.TIM_MEVT, 0x20014, [], .one, 0, 0, 0, 0xffffffff, 0, 0⟩,
  ⟨.TIM_OUT_CFG, 0x20020, [(4, 4)], .one, 0, 0x8000ffff, 0, 0, 0, 0⟩,
  ⟨.TIM_CFG, 0x21000, [(32, 256)], .one, 0, 0xfc1ffffb, 0, 0, 0, 0⟩,
  ⟨.TIM_PRESC, 0x21004, [(32, 256)], .one, 0, 0xffffffff, 0, 0, 0, 0⟩,
  ⟨.TIM_CTRL, 0x21008, [(32, 256)], .one, 0, 0, 0, 0, 0x0000001f, 0⟩,
  ⟨.TIM_STATUS, 0x2100c, [(32, 256)], .one, 0xc0000000, 0, 0, 0x00000f1f, 0, 0⟩,
  ⟨.TIM_COUNT_LO, 0x21010, [(32, 256)], .lo, 0, 0xffffffff, 0, 0, 0, 0⟩,
  ⟨.TIM_COUNT_HI, 0x21014, [(32, 256)], .hi, 0, 0xffffffff, 0, 0, 0, 0⟩,
  ⟨.TIM_CAP_CFG, 0x21018, [(32, 256)], .one, 0, 0x000000ff, 0, 0, 0, 0⟩,
  ⟨.TIM_CMP_LO, 0x21020, [(32, 256), (4, 8)], .lo, 0, 0xffffffff, 0, 0, 0, 0⟩,
  ⟨.TIM_CMP_HI, 0x21024, [(32, 256), (4, 8)], .hi, 0, 0xffffffff, 0, 0, 0, 0⟩,
  ⟨.TIM_PRE_LO, 0x21040, [(32, 256), (4, 8)], .lo, 0xffffffff, 0, 0, 0, 0, 0⟩,
  ⟨.TIM_PRE_HI, 0x21044, [(32, 256), (4, 8)], .hi, 0xffffffff, 0, 0, 0, 0, 0⟩,
  ⟨.TIM_ACT, 0x21060, [(32, 256), (5, 4)], .one, 0, 0x000003ff, 0, 0, 0, 0⟩,
  ⟨.TIM_CAP_LO, 0x21080, [(32, 256), (2, 8)], .lo, 0xffffffff, 0, 0, 0, 0, 0⟩,
  ⟨.TIM_CAP_HI, 0x21084, [(32, 256), (2, 8)], .hi, 0xffffffff, 0, 0, 0, 0, 0⟩,
  ⟨.TBS_TIME_LO, 0x28000, [], .lo, 0xffffffff, 0, 0, 0, 0, 0⟩,
  ⟨.TBS_TIME_HI, 0x28004, [], .hi, 0xffffffff, 0, 0, 0, 0, 0⟩,
  ⟨.TBS_STATUS, 0x28008, [], .one, 0xffff0700, 0, 0, 0, 0, 0x0ff10000⟩,
  ⟨.TBS_EVT, 0x2800c, [], .one, 0, 0, 0, 0x0000007f, 0, 0⟩,
  ⟨.TBS_CFG, 0x28010, [], .one, 0, 0, 0xffff0007, 0, 0, 0⟩,
  ⟨.TBS_CFG2, 0x28014, [], .one, 0, 0, 0xffff01ff, 0, 0, 0⟩,
  ⟨.TBS_LOSS_CFG, 0x28018, [], .one, 0, 0, 0xffff00ff, 0, 0, 0⟩,
  ⟨.TBS_OFFSET, 0x28020, [], .one, 0xffffffff, 0, 0, 0, 0, 0⟩,
  ⟨.TBS_FREQ, 0x28024, [], .one, 0xffffffff, 0, 0, 0, 0, 0⟩,
  ⟨.TBS_REQUAL_LEFT, 0x28030, [], .one, 0xffffffff, 0, 0, 0, 0, 0⟩,
  ⟨.TBS_PPS_CAP_LO, 0x28028, [], .lo, 0xffffffff, 0, 0, 0, 0, 0⟩,
  ⟨.TBS_PPS_CAP_HI, 0x2802c, [], .hi, 0xffffffff, 0, 0, 0, 0, 0⟩,
  ⟨.TBS_CNT_LO, 0x28040, [(5, 8)], .lo, 0xffffffff, 0, 0, 0, 0, 0⟩,
  ⟨.TBS_CNT_HI, 0x28044, [(5, 8)], .hi, 0xffffffff, 0, 0, 0, 0, 0⟩,
  ⟨.LNK_STATUS, 0x30000, [(2, 32768)], .one, 0x001f1fcf, 0, 0, 0, 0, 0⟩,
  ⟨.LNK_TX_MASK, 0x30004, [(2, 32768)], .one, 0x0001ffff, 0, 0, 0, 0, 0⟩,
  ⟨.LNK_RX_MASK, 0x30008, [(2, 32768)], .one, 0x0001ffff, 0, 0, 0, 0, 0⟩,
  ⟨.LNK_TX_RETIRED, 0x3000c, [(2, 32768)], .one, 0x0001ffff, 0, 0, 0, 0, 0⟩,
  ⟨.LNK_RX_RETIRED, 0x30010, [(2, 32768)], .one, 0x0001ffff, 0, 0, 0, 0, 0⟩,
  ⟨.LNK_DOWN_INFO, 0x30014, [(2, 32768)], .one, 0x0000ffff, 0, 0, 0, 0, 0⟩,
  ⟨.LNK_CFG, 0x30020, [(2, 32768)], .one, 0, 0, 0x03ffffff, 0, 0, 0⟩,
  ⟨.LNK_EVT, 0x30024, [(2, 32768)], .one, 0, 0, 0, 0x0000003f, 0, 0⟩,
  ⟨.LNK_CTRL, 0x30028, [(2, 32768)], .one, 0, 0, 0, 0, 0x00000003, 0⟩]

/-- Part 2 of the register table. -/
def regTable2 : List RegGroup := [
  ⟨.LNK_SEQ_TX, 0x30030, [(2, 32768)], .one, 0xffffffff, 0, 0, 0, 0, 0⟩,
  ⟨.LNK_SEQ_RX, 0x30034, [(2, 32768)], .one, 0xffff0fff, 0, 0, 0, 0, 0⟩,
  ⟨.LNK_CNT_LO, 0x30040, [(2, 32768), (13, 8)], .lo, 0xffffffff, 0, 0, 0, 0, 0⟩,
  ⟨.LNK_CNT_HI, 0x30044, [(2, 32768), (13, 8)], .hi, 0xffffffff, 0, 0, 0, 0, 0⟩,
  ⟨.LNK_LANE_STAT, 0x30100, [(2, 32768), (17, 16)], .one, 0xffff803f, 0, 0, 0, 0, 0⟩,
  ⟨.LNK_LANE_CORR, 0x30104, [(2, 32768), (17, 16)], .one, 0xffffffff, 0, 0, 0, 0, 0⟩,
  ⟨.LNK_LANE_UNCORR, 0x30108, [(2, 32768), (17, 16)], .one, 0xffffffff, 0, 0, 0, 0, 0⟩,
  ⟨.LNK_LANE_LOL, 0x3010c, [(2, 32768), (17, 16)], .one, 0xffffffff, 0, 0, 0, 0, 0⟩,
  ⟨.LAP_STATION, 0x40000, [], .one, 0x7fff00ff, 0, 0, 0, 0, 0⟩,
  ⟨.LAP_INSTALL, 0x40004, [], .one, 0xffffffff, 0, 0, 0, 0, 0⟩,
  ⟨.LAP_STATE, 0x40008, [], .one, 0xffffff3f, 0, 0, 0, 0, 0x0000ff00⟩,
  ⟨.LAP_EVT, 0x4000c, [], .one, 0, 0, 0, 0x000000ff, 0, 0⟩,
  ⟨.LAP_CFG, 0x40010, [], .one, 0, 0, 0x83ffffff, 0, 0, 0⟩,
  ⟨.LAP_HSTORE, 0x40014, [], .one, 0, 0, 0xffff7fff, 0, 0, 0⟩,
  ⟨.LAP_CTRL, 0x40018, [], .one, 0, 0, 0, 0, 0x00000003, 0⟩,
  ⟨.LAP_RLAP, 0x40030, [], .one, 0xffffffff, 0, 0, 0, 0, 0⟩,
  ⟨.LAP_PLAP, 0x40034, [], .one, 0xffffffff, 0, 0, 0, 0, 0⟩,
  ⟨.LAP_BARRIER, 0x40040, [], .one, 0xffe0ffff, 0, 0, 0, 0, 0⟩,
  ⟨.LAP_NBR, 0x40020, [(2, 4)], .one, 0xfff000ff, 0, 0, 0, 0, 0⟩,
  ⟨.LAP_PERIOD, 0x40038, [(2, 4)], .one, 0xffffffff, 0, 0, 0, 0, 0⟩,
  ⟨.LAP_MODEL_STAT, 0x40100, [(16, 16)], .one, 0xfe000000, 0, 0, 0, 0, 0⟩,
  ⟨.LAP_MODEL_GEN, 0x40104, [(16, 16), (3, 4)], .one, 0xffffffff, 0, 0, 0, 0, 0⟩,
  ⟨.LAP_CNT_LO, 0x40200, [(13, 8)], .lo, 0xffffffff, 0, 0, 0, 0, 0⟩,
  ⟨.LAP_CNT_HI, 0x40204, [(13, 8)], .hi, 0xffffffff, 0, 0, 0, 0, 0⟩,
  ⟨.HBM_STATUS, 0x50000, [(4, 4096)], .one, 0xff80ff0f, 0, 0, 0, 0, 0⟩,
  ⟨.HBM_MAPOUT, 0x50004, [(4, 4096)], .one, 0xffffffff, 0, 0, 0, 0, 0⟩,
  ⟨.HBM_CAPACITY, 0x50008, [(4, 4096)], .one, 0xffffffff, 0, 0, 0, 0, 0⟩,
  ⟨.HBM_EVT, 0x5000c, [(4, 4096)], .one, 0, 0, 0, 0x0000003f, 0, 0⟩,
  ⟨.HBM_CTRL, 0x50010, [(4, 4096)], .one, 0, 0, 0, 0, 0x00000001, 0⟩,
  ⟨.HBM_CFG, 0x50014, [(4, 4096)], .one, 0, 0, 0xffff00ff, 0, 0, 0⟩,
  ⟨.HBM_RGN_A, 0x50020, [(4, 4096), (4, 8)], .one, 0, 0, 0xf000ffff, 0, 0, 0⟩,
  ⟨.HBM_RGN_B, 0x50024, [(4, 4096), (4, 8)], .one, 0, 0, 0x0000ffff, 0, 0, 0⟩,
  ⟨.HBM_WEIGHT_ALL_LO, 0x50040, [(4, 4096)], .one, 0, 0, 0, 0, 0xffffffff, 0⟩,
  ⟨.HBM_WEIGHT_ALL_HI, 0x50044, [(4, 4096)], .one, 0, 0, 0, 0, 0xffffffff, 0⟩,
  ⟨.HBM_CNT_LO, 0x50080, [(4, 4096), (10, 8)], .lo, 0xffffffff, 0, 0, 0, 0, 0⟩,
  ⟨.HBM_CNT_HI, 0x50084, [(4, 4096), (10, 8)], .hi, 0xffffffff, 0, 0, 0, 0, 0⟩,
  ⟨.HBM_CH_WEIGHT_LO, 0x50100, [(4, 4096), (32, 8)], .one, 0, 0xffffffff, 0, 0, 0, 0⟩,
  ⟨.HBM_CH_WEIGHT_HI, 0x50104, [(4, 4096), (32, 8)], .one, 0, 0xffffffff, 0, 0, 0, 0⟩,
  ⟨.HBM_CH_STAT, 0x50200, [(4, 4096), (32, 4)], .one, 0xff00ffff, 0, 0, 0, 0, 0⟩,
  ⟨.HBM_TG_CFG, 0x50800, [(4, 4096), (32, 64)], .one, 0, 0x00000730, 0, 0, 0, 0⟩]

/-- Part 3 of the register table. -/
def regTable3 : List RegGroup := [
  ⟨.HBM_TG_CTRL, 0x50804, [(4, 4096), (32, 64)], .one, 0, 0, 0, 0, 0x00000003, 0⟩,
  ⟨.HBM_TG_FIRST, 0x50810, [(4, 4096), (32, 64)], .one, 0, 0xffffffff, 0, 0, 0, 0⟩,
  ⟨.HBM_TG_BLOCKS, 0x50814, [(4, 4096), (32, 64)], .one, 0, 0xffffffff, 0, 0, 0, 0⟩,
  ⟨.HBM_TG_STATUS, 0x50818, [(4, 4096), (32, 64)], .one, 0xe0000000, 0, 0, 0, 0, 0⟩,
  ⟨.HBM_TG_ERRORS, 0x5081c, [(4, 4096), (32, 64)], .one, 0xffffffff, 0, 0, 0, 0, 0⟩,
  ⟨.HBM_TG_SKIPPED, 0x50838, [(4, 4096), (32, 64)], .one, 0xffffffff, 0, 0, 0, 0, 0⟩,
  ⟨.HBM_TG_SEED_LO, 0x50808, [(4, 4096), (32, 64)], .lo, 0, 0xffffffff, 0, 0, 0, 0⟩,
  ⟨.HBM_TG_SEED_HI, 0x5080c, [(4, 4096), (32, 64)], .hi, 0, 0xffffffff, 0, 0, 0, 0⟩,
  ⟨.HBM_TG_FAIL_ADDR_LO, 0x50820, [(4, 4096), (32, 64)], .lo, 0xffffffff, 0, 0, 0, 0, 0⟩,
  ⟨.HBM_TG_FAIL_ADDR_HI, 0x50824, [(4, 4096), (32, 64)], .hi, 0x000000ff, 0, 0, 0, 0, 0⟩,
  ⟨.HBM_TG_FAIL_EXP_LO, 0x50828, [(4, 4096), (32, 64)], .lo, 0xffffffff, 0, 0, 0, 0, 0⟩,
  ⟨.HBM_TG_FAIL_EXP_HI, 0x5082c, [(4, 4096), (32, 64)], .hi, 0xffffffff, 0, 0, 0, 0, 0⟩,
  ⟨.HBM_TG_FAIL_ACT_LO, 0x50830, [(4, 4096), (32, 64)], .lo, 0xffffffff, 0, 0, 0, 0, 0⟩,
  ⟨.HBM_TG_FAIL_ACT_HI, 0x50834, [(4, 4096), (32, 64)], .hi, 0xffffffff, 0, 0, 0, 0, 0⟩,
  ⟨.LPX_STATUS, 0x60000, [(8, 4096)], .one, 0xff80ff0f, 0, 0, 0, 0, 0⟩,
  ⟨.LPX_MAPOUT, 0x60004, [(8, 4096)], .one, 0xffffffff, 0, 0, 0, 0, 0⟩,
  ⟨.LPX_CAPACITY, 0x60008, [(8, 4096)], .one, 0xffffffff, 0, 0, 0, 0, 0⟩,
  ⟨.LPX_EVT, 0x6000c, [(8, 4096)], .one, 0, 0, 0, 0x0000003f, 0, 0⟩,
  ⟨.LPX_CTRL, 0x60010, [(8, 4096)], .one, 0, 0, 0, 0, 0x00000001, 0⟩,
  ⟨.LPX_CFG, 0x60014, [(8, 4096)], .one, 0, 0, 0xffff00ff, 0, 0, 0⟩,
  ⟨.LPX_RGN_A, 0x60020, [(8, 4096), (4, 8)], .one, 0, 0, 0xf000ffff, 0, 0, 0⟩,
  ⟨.LPX_RGN_B, 0x60024, [(8, 4096), (4, 8)], .one, 0, 0, 0x0000ffff, 0, 0, 0⟩,
  ⟨.LPX_WEIGHT_ALL_LO, 0x60040, [(8, 4096)], .one, 0, 0, 0, 0, 0xffffffff, 0⟩,
  ⟨.LPX_WEIGHT_ALL_HI, 0x60044, [(8, 4096)], .one, 0, 0, 0, 0, 0xffffffff, 0⟩,
  ⟨.LPX_CNT_LO, 0x60080, [(8, 4096), (10, 8)], .lo, 0xffffffff, 0, 0, 0, 0, 0⟩,
  ⟨.LPX_CNT_HI, 0x60084, [(8, 4096), (10, 8)], .hi, 0xffffffff, 0, 0, 0, 0, 0⟩,
  ⟨.LPX_CH_WEIGHT_LO, 0x60100, [(8, 4096), (4, 8)], .one, 0, 0xffffffff, 0, 0, 0, 0⟩,
  ⟨.LPX_CH_WEIGHT_HI, 0x60104, [(8, 4096), (4, 8)], .one, 0, 0xffffffff, 0, 0, 0, 0⟩,
  ⟨.LPX_CH_STAT, 0x60200, [(8, 4096), (4, 4)], .one, 0xff00ffff, 0, 0, 0, 0, 0⟩,
  ⟨.LPX_TG_CFG, 0x60800, [(8, 4096), (4, 64)], .one, 0, 0x00000730, 0, 0, 0, 0⟩,
  ⟨.LPX_TG_CTRL, 0x60804, [(8, 4096), (4, 64)], .one, 0, 0, 0, 0, 0x00000003, 0⟩,
  ⟨.LPX_TG_FIRST, 0x60810, [(8, 4096), (4, 64)], .one, 0, 0xffffffff, 0, 0, 0, 0⟩,
  ⟨.LPX_TG_BLOCKS, 0x60814, [(8, 4096), (4, 64)], .one, 0, 0xffffffff, 0, 0, 0, 0⟩,
  ⟨.LPX_TG_STATUS, 0x60818, [(8, 4096), (4, 64)], .one, 0xe0000000, 0, 0, 0, 0, 0⟩,
  ⟨.LPX_TG_ERRORS, 0x6081c, [(8, 4096), (4, 64)], .one, 0xffffffff, 0, 0, 0, 0, 0⟩,
  ⟨.LPX_TG_SKIPPED, 0x60838, [(8, 4096), (4, 64)], .one, 0xffffffff, 0, 0, 0, 0, 0⟩,
  ⟨.LPX_TG_SEED_LO, 0x60808, [(8, 4096), (4, 64)], .lo, 0, 0xffffffff, 0, 0, 0, 0⟩,
  ⟨.LPX_TG_SEED_HI, 0x6080c, [(8, 4096), (4, 64)], .hi, 0, 0xffffffff, 0, 0, 0, 0⟩,
  ⟨.LPX_TG_FAIL_ADDR_LO, 0x60820, [(8, 4096), (4, 64)], .lo, 0xffffffff, 0, 0, 0, 0, 0⟩,
  ⟨.LPX_TG_FAIL_ADDR_HI, 0x60824, [(8, 4096), (4, 64)], .hi, 0x000000ff, 0, 0, 0, 0, 0⟩]

/-- Part 4 of the register table. -/
def regTable4 : List RegGroup := [
  ⟨.LPX_TG_FAIL_EXP_LO, 0x60828, [(8, 4096), (4, 64)], .lo, 0xffffffff, 0, 0, 0, 0, 0⟩,
  ⟨.LPX_TG_FAIL_EXP_HI, 0x6082c, [(8, 4096), (4, 64)], .hi, 0xffffffff, 0, 0, 0, 0, 0⟩,
  ⟨.LPX_TG_FAIL_ACT_LO, 0x60830, [(8, 4096), (4, 64)], .lo, 0xffffffff, 0, 0, 0, 0, 0⟩,
  ⟨.LPX_TG_FAIL_ACT_HI, 0x60834, [(8, 4096), (4, 64)], .hi, 0xffffffff, 0, 0, 0, 0, 0⟩,
  ⟨.ETH_CFG, 0x70000, [(2, 16384)], .one, 0, 0, 0xff073017, 0, 0, 0⟩,
  ⟨.ETH_PTP_ASYM, 0x70004, [(2, 16384)], .one, 0, 0, 0xffffffff, 0, 0, 0⟩,
  ⟨.ETH_STATUS, 0x70008, [(2, 16384)], .one, 0x0000ffff, 0, 0, 0, 0, 0⟩,
  ⟨.ETH_EVT, 0x7000c, [(2, 16384)], .one, 0, 0, 0, 0x00000007, 0, 0⟩,
  ⟨.ETH_LANE_CFG, 0x70100, [(2, 16384), (8, 16)], .one, 0, 0, 0x00000003, 0, 0, 0⟩,
  ⟨.ETH_LANE_FEC, 0x70104, [(2, 16384), (8, 16), (2, 4)], .one, 0xffffffff, 0, 0, 0, 0, 0⟩,
  ⟨.ETH_SP_MAC_LO, 0x71000, [(2, 16384), (8, 512)], .one, 0, 0, 0xffffffff, 0, 0, 0⟩,
  ⟨.ETH_SP_MAC_HI, 0x71004, [(2, 16384), (8, 512)], .one, 0, 0, 0x0000ffff, 0, 0, 0⟩,
  ⟨.ETH_SP_IPV4, 0x71008, [(2, 16384), (8, 512)], .one, 0, 0, 0xffffffff, 0, 0, 0⟩,
  ⟨.ETH_SP_IPV6, 0x71010, [(2, 16384), (8, 512), (4, 4)], .one, 0, 0, 0xffffffff, 0, 0, 0⟩,
  ⟨.ETH_SP_VLAN, 0x71020, [(2, 16384), (8, 512)], .one, 0, 0, 0x8007efff, 0, 0, 0⟩,
  ⟨.ETH_SP_L3, 0x71024, [(2, 16384), (8, 512)], .one, 0, 0, 0xffffff3f, 0, 0, 0⟩,
  ⟨.ETH_SP_PFC, 0x71028, [(2, 16384), (8, 512)], .one, 0, 0, 0xffffffff, 0, 0, 0⟩,
  ⟨.ETH_SP_MACSEC, 0x71030, [(2, 16384), (8, 512)], .one, 0x00030000, 0, 0x8000ffff, 0, 0, 0⟩,
  ⟨.ETH_SP_TX_PN_LO, 0x71038, [(2, 16384), (8, 512)], .lo, 0xffffffff, 0, 0, 0, 0, 0⟩,
  ⟨.ETH_SP_TX_PN_HI, 0x7103c, [(2, 16384), (8, 512)], .hi, 0xffffffff, 0, 0, 0, 0, 0⟩,
  ⟨.ETH_SP_CNT_LO, 0x71100, [(2, 16384), (8, 512), (20, 8)], .lo, 0xffffffff, 0, 0, 0, 0, 0⟩,
  ⟨.ETH_SP_CNT_HI, 0x71104, [(2, 16384), (8, 512), (20, 8)], .hi, 0xffffffff, 0, 0, 0, 0, 0⟩,
  ⟨.RVP_CFG, 0x80000, [], .one, 0, 0, 0xffffffff, 0, 0, 0⟩,
  ⟨.RVP_CREDIT_CFG, 0x80004, [], .one, 0, 0, 0xffff03ff, 0, 0, 0⟩,
  ⟨.RVP_LOAD_CFG, 0x80008, [], .one, 0, 0, 0x8000ffff, 0, 0, 0⟩,
  ⟨.RVP_STATUS, 0x8000c, [], .one, 0x1fff0003, 0, 0, 0, 0, 0⟩,
  ⟨.RVP_EVT, 0x80010, [], .one, 0, 0, 0, 0x0000001f, 0, 0⟩,
  ⟨.RVP_CTRL, 0x80014, [], .one, 0, 0, 0, 0, 0x00000001, 0⟩,
  ⟨.RVP_SESS_SEL, 0x80040, [], .one, 0, 0x00001fff, 0, 0, 0, 0⟩,
  ⟨.RVP_SESS_INFO, 0x80044, [], .one, 0xffc0ffff, 0, 0, 0, 0, 0⟩,
  ⟨.RVP_RET, 0x80020, [(2, 8), (2, 4)], .one, 0xffffffff, 0, 0, 0, 0, 0⟩,
  ⟨.RVP_SESS_PARTNER_LO, 0x80048, [], .lo, 0xffffffff, 0, 0, 0, 0, 0⟩,
  ⟨.RVP_SESS_PARTNER_HI, 0x8004c, [], .hi, 0xffffffff, 0, 0, 0, 0, 0⟩,
  ⟨.RVP_SESS_LIMIT, 0x80050, [(3, 4)], .one, 0xffffffff, 0, 0, 0, 0, 0⟩,
  ⟨.RVP_LOAD_STAT, 0x80080, [(2, 16)], .one, 0xff1f1fff, 0, 0, 0, 0, 0⟩,
  ⟨.RVP_LOAD_NEXT_LO, 0x80084, [(2, 16)], .lo, 0xffffffff, 0, 0, 0, 0, 0⟩,
  ⟨.RVP_LOAD_NEXT_HI, 0x80088, [(2, 16)], .hi, 0xffffffff, 0, 0, 0, 0, 0⟩,
  ⟨.RVP_LOAD_GEN, 0x8008c, [(2, 16)], .one, 0xffffffff, 0, 0, 0, 0, 0⟩,
  ⟨.RVP_CNT_LO, 0x80100, [(17, 8)], .lo, 0xffffffff, 0, 0, 0, 0, 0⟩,
  ⟨.RVP_CNT_HI, 0x80104, [(17, 8)], .hi, 0xffffffff, 0, 0, 0, 0, 0⟩]

/-- Part 5 of the register table. -/
def regTable5 : List RegGroup := [
  ⟨.FCS_CFG, 0x90000, [], .one, 0, 0, 0xffff000f, 0, 0, 0⟩,
  ⟨.FCS_LIVE, 0x90004, [], .one, 0x0001ffff, 0, 0, 0, 0, 0⟩,
  ⟨.FCS_RETIRED, 0x90008, [], .one, 0x0001ffff, 0, 0, 0, 0, 0⟩,
  ⟨.FCS_EVT, 0x9000c, [], .one, 0, 0, 0, 0x0000001f, 0, 0⟩,
  ⟨.FCS_CTRL, 0x90010, [], .one, 0, 0, 0, 0, 0x00000001, 0⟩,
  ⟨.FCS_ENTRY_SEL, 0x90020, [], .one, 0, 0x0000ffff, 0, 0, 0, 0⟩,
  ⟨.FCS_ENTRY_STAT, 0x90024, [], .one, 0xfcfff01f, 0, 0, 0, 0, 0⟩,
  ⟨.FCS_ENTRY_TAG, 0x90028, [], .one, 0xffffffff, 0, 0, 0, 0, 0⟩,
  ⟨.FCS_ENTRY_IDLE, 0x90040, [], .one, 0xffffffff, 0, 0, 0, 0, 0⟩,
  ⟨.FCS_ENTRY_KEY, 0x90030, [(4, 4)], .one, 0xffffffff, 0, 0, 0, 0, 0⟩,
  ⟨.FCS_CNT_LO, 0x90100, [(15, 8)], .lo, 0xffffffff, 0, 0, 0, 0, 0⟩,
  ⟨.FCS_CNT_HI, 0x90104, [(15, 8)], .hi, 0xffffffff, 0, 0, 0, 0, 0⟩,
  ⟨.DET_CHOICE_LO, 0xa0000, [], .lo, 0xffffffff, 0, 0, 0, 0, 0⟩,
  ⟨.DET_CHOICE_HI, 0xa0004, [], .hi, 0xffffffff, 0, 0, 0, 0, 0⟩,
  ⟨.DET_EVT, 0xa0008, [], .one, 0, 0, 0, 0x0000001f, 0, 0⟩,
  ⟨.DET_CTRL, 0xa000c, [], .one, 0, 0, 0, 0, 0x00000001, 0⟩,
  ⟨.DET_TWIN_STATUS, 0xa0010, [], .one, 0xff80ffff, 0, 0, 0, 0, 0⟩,
  ⟨.DET_TWIN_CFG, 0xa0014, [], .one, 0, 0, 0x0000ffff, 0, 0, 0⟩,
  ⟨.DET_AUDIT_CAP, 0xa0028, [], .one, 0xffffffff, 0, 0, 0, 0, 0⟩,
  ⟨.DET_AUDIT_DROP, 0xa002c, [], .one, 0xffffffff, 0, 0, 0, 0, 0⟩,
  ⟨.DET_DIV_SEL, 0xa0200, [], .one, 0, 0x0000003f, 0, 0, 0, 0⟩,
  ⟨.DET_DIV_COUNT, 0xa0204, [], .one, 0x0000007f, 0, 0, 0, 0, 0⟩,
  ⟨.DET_DIV_POS, 0xa0210, [], .one, 0xffffffff, 0, 0, 0, 0, 0⟩,
  ⟨.DET_DIV_CORE, 0xa0214, [], .one, 0xfffdffff, 0, 0, 0, 0, 0⟩,
  ⟨.DET_AUDIT_HEAD_LO, 0xa0020, [], .lo, 0xffffffff, 0, 0, 0, 0, 0⟩,
  ⟨.DET_AUDIT_HEAD_HI, 0xa0024, [], .hi, 0xffffffff, 0, 0, 0, 0, 0⟩,
  ⟨.DET_TIMING_LO, 0xa0040, [(5, 8)], .lo, 0xffffffff, 0, 0, 0, 0, 0⟩,
  ⟨.DET_TIMING_HI, 0xa0044, [(5, 8)], .hi, 0xffffffff, 0, 0, 0, 0, 0⟩,
  ⟨.DET_TWIN_CNT_LO, 0xa0080, [(6, 8)], .lo, 0xffffffff, 0, 0, 0, 0, 0⟩,
  ⟨.DET_TWIN_CNT_HI, 0xa0084, [(6, 8)], .hi, 0xffffffff, 0, 0, 0, 0, 0⟩,
  ⟨.DET_DIV_REQ_LO, 0xa0208, [], .lo, 0xffffffff, 0, 0, 0, 0, 0⟩,
  ⟨.DET_DIV_REQ_HI, 0xa020c, [], .hi, 0xffffffff, 0, 0, 0, 0, 0⟩,
  ⟨.DET_DIV_LOCAL_LO, 0xa0218, [], .lo, 0xffffffff, 0, 0, 0, 0, 0⟩,
  ⟨.DET_DIV_LOCAL_HI, 0xa021c, [], .hi, 0xffffffff, 0, 0, 0, 0, 0⟩,
  ⟨.DET_DIV_PEER_LO, 0xa0220, [], .lo, 0xffffffff, 0, 0, 0, 0, 0⟩,
  ⟨.DET_DIV_PEER_HI, 0xa0224, [], .hi, 0xffffffff, 0, 0, 0, 0, 0⟩,
  ⟨.DET_DIV_TIME_LO, 0xa0228, [], .lo, 0xffffffff, 0, 0, 0, 0, 0⟩,
  ⟨.DET_DIV_TIME_HI, 0xa022c, [], .hi, 0xffffffff, 0, 0, 0, 0, 0⟩,
  ⟨.DET_MODEL_MODE, 0xa0420, [(16, 32)], .one, 0x0000ff07, 0, 0, 0, 0, 0⟩,
  ⟨.DET_MODEL_BUDGET, 0xa0424, [(16, 32)], .one, 0xffffffff, 0, 0, 0, 0, 0⟩]

/-- Part 6 of the register table. -/
def regTable6 : List RegGroup := [
  ⟨.DET_MODEL_FAST_G, 0xa0438, [(16, 32)], .one, 0x01ff0000, 0, 0x000081ff, 0, 0, 0⟩,
  ⟨.DET_MODEL_LATE_LO, 0xa0428, [(16, 32)], .lo, 0xffffffff, 0, 0, 0, 0, 0⟩,
  ⟨.DET_MODEL_LATE_HI, 0xa042c, [(16, 32)], .hi, 0xffffffff, 0, 0, 0, 0, 0⟩,
  ⟨.DET_MODEL_CHOICE_LO, 0xa0430, [(16, 32)], .lo, 0xffffffff, 0, 0, 0, 0, 0⟩,
  ⟨.DET_MODEL_CHOICE_HI, 0xa0434, [(16, 32)], .hi, 0xffffffff, 0, 0, 0, 0, 0⟩,
  ⟨.DET_VMAP, 0xa0800, [(256, 4)], .one, 0x80000fff, 0, 0, 0, 0, 0⟩,
  ⟨.ELOG_STATUS, 0xb0000, [], .one, 0xffff1fff, 0, 0, 0, 0, 0⟩,
  ⟨.ELOG_EVT, 0xb0004, [], .one, 0, 0, 0, 0x0000000f, 0, 0⟩,
  ⟨.ELOG_ALERT_MASK, 0xb0008, [], .one, 0x00000018, 0x00000007, 0, 0, 0, 0x0000001c⟩,
  ⟨.ELOG_CTRL, 0xb000c, [], .one, 0, 0, 0, 0, 0x00000001, 0⟩,
  ⟨.ELOG_HEAD, 0xb0010, [], .one, 0xffffffff, 0, 0, 0, 0, 0⟩,
  ⟨.ELOG_SPILL_CAP, 0xb0014, [], .one, 0xffffffff, 0, 0, 0, 0, 0⟩,
  ⟨.ELOG_SEL, 0xb0020, [], .one, 0, 0xffffffff, 0, 0, 0, 0⟩,
  ⟨.ELOG_SEL_STATUS, 0xb0024, [], .one, 0x00000103, 0, 0, 0, 0, 0⟩,
  ⟨.ELOG_DATA, 0xb0040, [(8, 4)], .one, 0xffffffff, 0, 0, 0, 0, 0⟩,
  ⟨.ELOG_CNT_LO, 0xb0080, [(7, 8)], .lo, 0xffffffff, 0, 0, 0, 0, 0⟩,
  ⟨.ELOG_CNT_HI, 0xb0084, [(7, 8)], .hi, 0xffffffff, 0, 0, 0, 0, 0⟩,
  ⟨.CORE_ID, 0x100000, [(288, 4096)], .one, 0x03ff81ff, 0, 0, 0, 0, 0⟩,
  ⟨.CORE_CTRL, 0x100004, [(288, 4096)], .one, 0, 0, 0, 0, 0x00000007, 0⟩,
  ⟨.CORE_TASK, 0x100010, [(288, 4096), (8, 4)], .one, 0x001f073f, 0, 0, 0, 0, 0x00000700⟩,
  ⟨.CORE_TASK_PC, 0x100030, [(288, 4096), (8, 4)], .one, 0x00ffffff, 0, 0, 0, 0, 0⟩,
  ⟨.CORE_ABORT_LAST, 0x100050, [(288, 4096)], .one, 0x031fff07, 0, 0, 0, 0, 0⟩,
  ⟨.CORE_ABORT_PC, 0x100054, [(288, 4096)], .one, 0x00ffffff, 0, 0, 0, 0, 0⟩,
  ⟨.CORE_ABORT_COUNT, 0x100058, [(288, 4096)], .one, 0xffffffff, 0, 0, 0, 0, 0⟩,
  ⟨.CORE_STALL_LO, 0x100060, [(288, 4096), (6, 8)], .lo, 0xffffffff, 0, 0, 0, 0, 0⟩,
  ⟨.CORE_STALL_HI, 0x100064, [(288, 4096), (6, 8)], .hi, 0xffffffff, 0, 0, 0, 0, 0⟩,
  ⟨.CORE_SWITCH_LO, 0x100090, [(288, 4096)], .lo, 0xffffffff, 0, 0, 0, 0, 0⟩,
  ⟨.CORE_SWITCH_HI, 0x100094, [(288, 4096)], .hi, 0xffffffff, 0, 0, 0, 0, 0⟩,
  ⟨.CORE_ISSUE_LO, 0x100098, [(288, 4096)], .lo, 0xffffffff, 0, 0, 0, 0, 0⟩,
  ⟨.CORE_ISSUE_HI, 0x10009c, [(288, 4096)], .hi, 0xffffffff, 0, 0, 0, 0, 0⟩,
  ⟨.CORE_SKEIN_BASE, 0x100100, [(288, 4096), (64, 16)], .one, 0x80ffffff, 0, 0, 0, 0, 0⟩,
  ⟨.CORE_SKEIN_GEOM, 0x100104, [(288, 4096), (64, 16)], .one, 0xffffffff, 0, 0, 0, 0, 0⟩,
  ⟨.CORE_SKEIN_PTR, 0x100108, [(288, 4096), (63, 16)], .one, 0xffffffff, 0, 0, 0, 0, 0⟩,
  ⟨.CORE_HANK_COUNT, 0x1004f8, [(288, 4096)], .one, 0xffffffff, 0, 0, 0, 0, 0⟩,
  ⟨.CORE_SKEIN_STAT, 0x10010c, [(288, 4096), (64, 16)], .one, 0xffff7fff, 0, 0, 0x00008000, 0, 0⟩,
  ⟨.CORE_SE_CTX_STAT, 0x100500, [(288, 4096), (3, 64), (8, 8)], .one, 0xffe0ffff, 0, 0, 0, 0, 0⟩,
  ⟨.CORE_SE_CTX_POS, 0x100504, [(288, 4096), (3, 64), (8, 8)], .one, 0xffff1fff, 0, 0, 0, 0, 0⟩,
  ⟨.CORE_SE_WORDS_LO, 0x1005c0, [(288, 4096), (3, 8)], .lo, 0xffffffff, 0, 0, 0, 0, 0⟩,
  ⟨.CORE_SE_WORDS_HI, 0x1005c4, [(288, 4096), (3, 8)], .hi, 0xffffffff, 0, 0, 0, 0, 0⟩,
  ⟨.CORE_SE_FAULT, 0x1005d8, [(288, 4096)], .one, 0xff8fff00, 0, 0, 0, 0, 0⟩]

/-- Part 7 of the register table. -/
def regTable7 : List RegGroup := [
  ⟨.CORE_SE_FAULT_ADDR, 0x1005dc, [(288, 4096)], .one, 0x00ffffff, 0, 0, 0, 0, 0⟩,
  ⟨.CORE_SE_CTRL, 0x1005e0, [(288, 4096)], .one, 0, 0, 0, 0, 0x00000003, 0⟩,
  ⟨.CORE_DMA_STAT, 0x100600, [(288, 4096)], .one, 0xf8ffff00, 0, 0, 0, 0, 0⟩,
  ⟨.CORE_DMA_DESC, 0x100604, [(288, 4096)], .one, 0x00ffffff, 0, 0, 0, 0, 0⟩,
  ⟨.CORE_DMA_FAULT, 0x100608, [(288, 4096)], .one, 0x80fff0ff, 0, 0, 0, 0, 0⟩,
  ⟨.CORE_DMA_CTRL, 0x100620, [(288, 4096)], .one, 0, 0, 0, 0, 0x00000003, 0⟩,
  ⟨.CORE_DMA_FAULT_ADDR_LO, 0x10060c, [(288, 4096)], .lo, 0xffffffff, 0, 0, 0, 0, 0⟩,
  ⟨.CORE_DMA_FAULT_ADDR_HI, 0x100610, [(288, 4096)], .hi, 0xffffffff, 0, 0, 0, 0, 0⟩,
  ⟨.CORE_DMA_BYTES_LO, 0x100618, [(288, 4096)], .lo, 0xffffffff, 0, 0, 0, 0, 0⟩,
  ⟨.CORE_DMA_BYTES_HI, 0x10061c, [(288, 4096)], .hi, 0xffffffff, 0, 0, 0, 0, 0⟩,
  ⟨.CORE_NET_LO, 0x100640, [(288, 4096), (3, 8)], .lo, 0xffffffff, 0, 0, 0, 0, 0⟩,
  ⟨.CORE_NET_HI, 0x100644, [(288, 4096), (3, 8)], .hi, 0xffffffff, 0, 0, 0, 0, 0⟩,
  ⟨.CORE_SPAD_STATUS, 0x100700, [(288, 4096)], .one, 0x000000c0, 0, 0, 0x0000000f, 0, 0⟩,
  ⟨.CORE_SPAD_CE_COUNT, 0x100704, [(288, 4096)], .one, 0xffffffff, 0, 0, 0, 0, 0⟩,
  ⟨.CORE_SPAD_UE_COUNT, 0x100708, [(288, 4096)], .one, 0xffffffff, 0, 0, 0, 0, 0⟩,
  ⟨.CORE_SPAD_ERR_INFO, 0x10070c, [(288, 4096)], .one, 0xf8007fff, 0, 0, 0, 0, 0⟩,
  ⟨.CORE_SPAD_ERR_SYN, 0x100710, [(288, 4096)], .one, 0x00f1ffff, 0, 0, 0, 0, 0⟩,
  ⟨.CORE_SPAD_SCRUB, 0x100714, [(288, 4096)], .one, 0xffff7fff, 0, 0, 0, 0, 0⟩,
  ⟨.CORE_SPAD_CTRL, 0x100720, [(288, 4096)], .one, 0, 0, 0, 0, 0x00000007, 0⟩,
  ⟨.CORE_SPAD_INJECT, 0x100724, [(288, 4096)], .one, 0, 0, 0xfe007fff, 0, 0, 0⟩,
  ⟨.CORE_SPAD_WR_FIRST_LO, 0x100718, [(288, 4096)], .lo, 0xffffffff, 0, 0, 0, 0, 0⟩,
  ⟨.CORE_SPAD_WR_FIRST_HI, 0x10071c, [(288, 4096)], .hi, 0xffffffff, 0, 0, 0, 0, 0⟩,
  ⟨.BOOT_STATUS, 0x300000, [], .one, 0xfc1f00ff, 0, 0, 0, 0, 0⟩,
  ⟨.BOOT_COPY, 0x300010, [(2, 16)], .one, 0xff030000, 0, 0, 0, 0, 0⟩,
  ⟨.BOOT_COPY_SEQ, 0x300014, [(2, 16)], .one, 0xffffffff, 0, 0, 0, 0, 0⟩,
  ⟨.BOOT_COPY_SVN, 0x300018, [(2, 16)], .one, 0x0000003f, 0, 0, 0, 0, 0⟩,
  ⟨.BOOT_KEYS, 0x300030, [], .one, 0x000000ff, 0, 0, 0, 0, 0⟩,
  ⟨.BOOT_MIN_SVN, 0x300034, [], .one, 0x0000003f, 0, 0, 0, 0, 0⟩,
  ⟨.BOOT_SETTING_FAIL, 0x300038, [], .one, 0xffffffff, 0, 0, 0, 0, 0⟩,
  ⟨.BOOT_TIME, 0x300040, [(2, 4)], .one, 0xffffffff, 0, 0, 0, 0, 0⟩,
  ⟨.BOOT_DEBUG, 0x300048, [], .one, 0x00000003, 0, 0, 0, 0, 0⟩,
  ⟨.BOOT_CHALLENGE, 0x300050, [(4, 4)], .one, 0xffffffff, 0, 0, 0, 0, 0⟩,
  ⟨.BOOT_IMAGE_DIGEST, 0x300080, [(12, 4)], .one, 0xffffffff, 0, 0, 0, 0, 0⟩]

/-- The whole register table (19 R551). -/
def regTable : List RegGroup :=
  regTable0 ++ regTable1 ++ regTable2 ++ regTable3 ++ regTable4 ++ regTable5 ++ regTable6 ++ regTable7

end Sys2Proof.Machine
end

