-- ==== Sys2Proof/Machine/Ops.lean ====
section
/-! DEFINITION. The named operations over memory and registers: sparse maps, byte strings, the register file, counters, events,
alerts and the error log. -/

namespace Sys2Proof.Machine

/-! ### Sparse maps -/

/-- What is listed at a key. -/
def smFind {α : Type} (k : Nat) : SMap α → Option α
  | [] => none
  | (a, w) :: r => if a = k then some w else smFind k r

/-- The map with an entry at a key; a sorted map stays sorted. -/
def smInsert {α : Type} (k : Nat) (v : α) : SMap α → SMap α
  | [] => [(k, v)]
  | (a, w) :: r => if a < k then (a, w) :: smInsert k v r else if a = k then (k, v) :: r else (k, v) :: (a, w) :: r

/-- The map with the entry at a key replaced, or removed by `none`. -/
def smPut {α : Type} (k : Nat) (ov : Option α) (m : SMap α) : SMap α :=
  match ov with
  | none => m.filter (fun x => decide (x.1 ≠ k))
  | some v => smInsert k v m

/-- What a key reads as, with `d` for unlisted keys. -/
def smGet {α : Type} (d : α) (m : SMap α) (k : Nat) : α := (smFind k m).getD d

/-- A write: writing what an unlisted key reads as removes the entry. -/
def smSet {α : Type} [DecidableEq α] (d : α) (m : SMap α) (k : Nat) (v : α) : SMap α :=
  smPut k (if v = d then none else some v) m

/-- The canonical form: keys strictly rising and no entry equal to the default. -/
def smWf {α : Type} [DecidableEq α] (d : α) : SMap α → Bool
  | [] => true
  | [(_, v)] => decide (v ≠ d)
  | (a, v) :: (b, w) :: r => decide (v ≠ d) && decide (a < b) && smWf d ((b, w) :: r)

/-! ### Byte strings (00 R5, R6) -/

/-- The byte of a number. -/
def byteOf (n : Nat) : Byte := BitVec.ofNat 8 n

/-- Little-endian bytes of a number. -/
def leBytes : Nat → Nat → List Byte
  | 0, _ => []
  | k + 1, n => byteOf n :: leBytes k (n / 256)

/-- The number that little-endian bytes spell. -/
def leNat : List Byte → Nat
  | [] => 0
  | b :: bs => b.toNat + 256 * leNat bs

/-- Big-endian bytes of a number. -/
def beBytes (k n : Nat) : List Byte := (leBytes k n).reverse

/-- The number that big-endian bytes spell. -/
def beNat (bs : List Byte) : Nat := leNat bs.reverse

/-- `n` bytes of a string from `i`. -/
def slice (bs : List Byte) (i n : Nat) : List Byte := (bs.drop i).take n

/-- The little-endian field of `n` bytes at `i`. -/
def leAt (bs : List Byte) (i n : Nat) : Nat := leNat (slice bs i n)

/-- The big-endian field of `n` bytes at `i`. -/
def beAt (bs : List Byte) (i n : Nat) : Nat := beNat (slice bs i n)

/-- A string cut or padded with zeros to `n` bytes. -/
def padTo (n : Nat) (bs : List Byte) : List Byte := bs.take n ++ List.replicate (n - bs.length) 0

/-- The bit field [hi:lo] of a number. -/
def bits (n hi lo : Nat) : Nat := n / 2 ^ lo % 2 ^ (hi + 1 - lo)

/-- A list with the element at an index replaced. -/
def setAt {α : Type} (l : List α) (i : Nat) (v : α) : List α := l.set i v

/-- A list with the element at an index changed. -/
def modAt {α : Type} (l : List α) (i : Nat) (f : α → α) : List α := l.modify i f

/-! ### Memory (06 R164, 11) -/

/-- What a scratchpad or external byte that nothing has written reads as (06 R165; log entry 6). -/
def memDefault : Byte := 0

/-- The byte of a memory at an address. -/
def memByte (m : List Host.Cell) (a : Nat) : Byte := smGet memDefault m a

/-- `n` bytes of a memory from an address. -/
def memRead (m : List Host.Cell) (a : Nat) : Nat → List Byte
  | 0 => []
  | n + 1 => memByte m a :: memRead m (a + 1) n

/-- A memory with bytes written from an address. -/
def memWrite (m : List Host.Cell) (a : Nat) : List Byte → List Host.Cell
  | [] => m
  | b :: bs => memWrite (smSet memDefault m a b) (a + 1) bs

/-- The canonical form of a memory. -/
abbrev Memory.wf (m : List Host.Cell) : Prop := smWf memDefault m = true

/-! ### Registers (19 R536 to R538) -/

/-- The stored value of a register. -/
def rd (d : Dev) (a : Nat) : W32 := smGet 0 d.regs.val a

/-- The stored value of a register as a number. -/
def rdn (d : Dev) (a : Nat) : Nat := (rd d a).toNat

/-- A register set. -/
def wr (d : Dev) (a : Nat) (v : W32) : Dev := { d with regs := { d.regs with val := smSet 0 d.regs.val a v } }

/-- The field [hi:lo] of a register. -/
def fld (d : Dev) (a hi lo : Nat) : Nat := bits (rdn d a) hi lo

/-- The value of a register word with a field replaced. -/
def fieldSet (v : W32) (hi lo n : Nat) : W32 :=
  BitVec.ofNat 32 (v.toNat - bits v.toNat hi lo * 2 ^ lo + n % 2 ^ (hi + 1 - lo) * 2 ^ lo)

/-- The field [hi:lo] of a register set. -/
def setFld (d : Dev) (a hi lo n : Nat) : Dev := wr d a (fieldSet (rd d a) hi lo n)

/-- An event bit set (00 R11, W1C). -/
def evt (d : Dev) (a bit : Nat) : Dev := wr d a (rd d a ||| BitVec.ofNat 32 (2 ^ bit))

/-- A bit cleared. -/
def clrBit (d : Dev) (a bit : Nat) : Dev := wr d a (rd d a &&& ~~~(BitVec.ofNat 32 (2 ^ bit)))

/-- The 64-bit value of a pair, by the address of LO. -/
def cnt (d : Dev) (a : Nat) : W64 := smGet 0 d.regs.cnt a

/-- A 64-bit value set. -/
def cntSet (d : Dev) (a : Nat) (v : W64) : Dev := { d with regs := { d.regs with cnt := smSet 0 d.regs.cnt a v } }

/-- A 64-bit counter increased; counters wrap at 2^64 (04 R129). -/
def cntAdd (d : Dev) (a n : Nat) : Dev := cntSet d a (cnt d a + BitVec.ofNat 64 n)

/-- A 64-bit counter increased by one. -/
def cntInc (d : Dev) (a : Nat) : Dev := cntAdd d a 1

/-- A 64-bit counter cleared, and its latch with it (04 R129). -/
def cntClr (d : Dev) (a : Nat) : Dev :=
  { d with regs := { d.regs with cnt := smSet 0 d.regs.cnt a 0, latch := smSet 0 d.regs.latch a 0 } }

/-- Counters cleared at `n` pairs from an address with a stride of 8. -/
def cntClrN (d : Dev) (a : Nat) : Nat → Dev
  | 0 => d
  | n + 1 => cntClr (cntClrN d a n) (a + 8 * n)

/-- A saturating 32-bit counter held in a register (06 R179). -/
def satAdd (d : Dev) (a n : Nat) : Dev := wr d a (BitVec.ofNat 32 (min (rdn d a + n) 0xffffffff))

/-- A wrapping 32-bit counter held in a register. -/
def inc32 (d : Dev) (a : Nat) : Dev := wr d a (rd d a + 1)

/-! ### Free values (log entry 3) -/

/-- The next free value and the package with the draw counted. -/
def draw (d : Dev) : Nat × Dev := (Config.freeNat d.free, { d with free := d.free + 1 })

/-! ### Alerts (19 R547) and the station state (01 R42) -/

/-- A bit of MGT_ALERT set; a bit newly set and enabled asserts ALERT_N (19 R547). -/
def alert (d : Dev) (b : Nat) : Dev :=
  if (rd d Reg.MGT_ALERT).getLsbD b then d
  else
    let d1 := evt d Reg.MGT_ALERT b
    if (rd d Reg.MGT_ALERT_EN).getLsbD b then { d1 with alertN := false } else d1

/-- Twin comparison suspended (16 R464): unmatched entries are dropped as UNMATCHED, and no model is compared until a new TWIN_SYNC. -/
def twinSuspend (d : Dev) : Dev :=
  if d.model.any (fun x => x.2.twinOn) then
    let d := evt (cntAdd d (Reg.DET_TWIN_CNT_LO 5) d.det.store.length) Reg.DET_EVT 4
    { d with det := { d.det with store := [] }, model := d.model.foldl (fun m x => smSet {} m x.1 { x.2 with twinOn := false }) d.model }
  else d

/-- The station state code set; a change sets the STATE alert (19 Table MGMT-10 bit 6), and one that leaves SERVING, DEGRADED and SWAPPING
suspends twin comparison (16 R464). -/
def setCode (d : Dev) (c : Nat) : Dev :=
  if d.code = c then d
  else
    let d := alert { d with code := c } 6
    if c = 6 ∨ c = 7 ∨ c = 0xD then d else twinSuspend d

/-! ### The error log (17 R490 to R495) -/

/-- Whether an entry of the same block, code and unit was made within the last 1 ms (17 R492). -/
def elogSame (d : Dev) (block code unit : Nat) (e : ElogEntry) : Bool :=
  decide (e.block = block) && decide (e.code = code) && decide (e.unit = unit) && decide (e.boot = d.wdn.bootId) &&
    decide (d.now ≤ e.time + 1000000)

/-- An entry with one more merged event; REPEAT saturates (17 Table FAULT-6). -/
def ElogEntry.more (e : ElogEntry) : ElogEntry := { e with rep := min (e.rep + 1) 0xffff }

/-- The newest entry that matches changed: entries are kept oldest first. -/
def mergeLast (p : ElogEntry → Bool) (l : List ElogEntry) : List ElogEntry :=
  let r := l.reverse
  match r.span (fun e => !p e) with
  | (pre, e :: post) => (pre ++ e.more :: post).reverse
  | (_, []) => l

/-- The spill capacity in entries (17 R491). -/
def spillCap (d : Dev) : Nat := rdn d Reg.ELOG_SPILL_CAP

/-- Whether a spill copy is written (17 Table FAULT-9 SPILL_A, SPILL_B). -/
def spillOn (d : Dev) : Bool := (rd d Reg.ELOG_STATUS).getLsbD 11 || (rd d Reg.ELOG_STATUS).getLsbD 12

/-- An event merged into the newest entries that match, on die and in the spill, and counted. -/
def elogMerge (same : ElogEntry → Bool) (d : Dev) : Dev :=
  let d := cntInc d (Reg.ELOG_CNT_LO 5)
  { d with wdn := { d.wdn with elog := mergeLast same d.wdn.elog, spill := mergeLast same d.wdn.spill } }

/-- Whether a new entry takes the place of one that the spill does not hold. -/
def elogLoses (d : Dev) : Bool := decide (d.wdn.elog.length = 1024) && (match d.wdn.elog with | o :: _ => !o.spilled | [] => false)

/-- The oldest entry on die given up for a new one: an entry lost when the spill does not hold it. -/
def elogRoom (d : Dev) : Dev := if elogLoses d then cntInc (evt d Reg.ELOG_EVT 2) (Reg.ELOG_CNT_LO 6) else d

/-- A new entry kept on die (the newest 1,024) and in the spill. -/
def elogPush (e : ElogEntry) (d : Dev) : Dev :=
  let log := (if d.wdn.elog.length = 1024 then d.wdn.elog.drop 1 else d.wdn.elog) ++ [e]
  let sp := if spillOn d then (d.wdn.spill ++ [e]) else d.wdn.spill
  { d with wdn := { d.wdn with elog := log, spill := sp.drop (sp.length - spillCap d), elogSeq := d.wdn.elogSeq + 1 } }

/-- The events of a new entry of a class and the alert of 17 R495. -/
def elogTell (cls : Nat) (d : Dev) : Dev :=
  let e := evt d Reg.ELOG_EVT 0
  let e := if 4 ≤ cls then evt e Reg.ELOG_EVT 1 else e
  if (rd e Reg.ELOG_ALERT_MASK).getLsbD (cls - 1) then alert e 0 else e

/-- An error log event: the class counter, then a merge into an entry of the last 1 ms or a new entry, with its events and
the alert of 17 R495. -/
def elog (cls block code unit detail : Nat) (d : Dev) : Dev :=
  let d := cntInc d (Reg.ELOG_CNT_LO (cls - 1))
  let same := elogSame d block code unit
  if d.wdn.elog.any same then elogMerge same d
  else
    elogTell cls (elogPush { time := d.now, seq := d.wdn.elogSeq, boot := d.wdn.bootId, cls := cls, block := block, code := code,
                             unit := unit, detail := detail, spilled := spillOn d } (elogRoom d))

end Sys2Proof.Machine
end

