-- ==== Sys2Proof/Machine/Crypto.lean ====
section
/-! DEFINITION. Check codes, digests, signatures and ciphers the spec names: CRC-32C (09 R253), CRC-64 (16), the Ethernet FCS, SHA-256,
SHA-384, ECDSA over P-384 (00 R16), AES-256 with key wrap (19 R544) and GCM (12 R346). The algorithms' constants come from their standards
(PRESUMED, log entry 8). -/

namespace Sys2Proof.Machine

/-- One bit of a reflected CRC with polynomial `poly`. -/
def crcBit (poly : Nat) (c : Nat) : Nat := if c % 2 = 1 then (c / 2) ^^^ poly else c / 2

/-- One byte of a reflected CRC. -/
def crcByte (poly : Nat) (c : Nat) (b : Byte) : Nat :=
  let c := c ^^^ b.toNat
  crcBit poly (crcBit poly (crcBit poly (crcBit poly (crcBit poly (crcBit poly (crcBit poly (crcBit poly c)))))))

/-- A reflected CRC over bytes, from an initial remainder. -/
def crcRun (poly : Nat) : Nat → List Byte → Nat
  | c, [] => c
  | c, b :: bs => crcRun poly (crcByte poly c b) bs

/-- CRC-32C (09 R253). -/
def crc32c (bs : List Byte) : Nat := crcRun 0x82F63B78 0xFFFFFFFF bs ^^^ 0xFFFFFFFF

/-- The CRC-32 of the Ethernet frame check sequence (12 R337). -/
def crc32 (bs : List Byte) : Nat := crcRun 0xEDB88320 0xFFFFFFFF bs ^^^ 0xFFFFFFFF

/-- The CRC-64 of twin digests (16 R461): polynomial 0x42F0_E1EB_A9EA_3693, reflected. -/
def crc64 (bs : List Byte) : Nat := crcRun 0xC96C5795D7870F42 0xFFFFFFFFFFFFFFFF bs ^^^ 0xFFFFFFFFFFFFFFFF

/-! ### SHA-2 (FIPS 180-4)

The standard takes its constants from the roots of the first primes, and they are computed here from that rule. -/

/-- The largest `r < 2^n` whose `e`-th power is at most `x`, found bit by bit from the top. -/
def rootFloor (e x : Nat) : Nat → Nat → Nat
  | 0, r => r
  | n + 1, r => rootFloor e x n (if (r + 2 ^ n) ^ e ≤ x then r + 2 ^ n else r)

/-- The first `b` bits after the binary point of the `e`-th root of `x`, for `x` below 512. -/
def rootFrac (e b x : Nat) : Nat := rootFloor e (x * 2 ^ (e * b)) (b + 5) 0 % 2 ^ b

/-- The primes below 410, of which there are 80. -/
def shaPrimes : List Nat :=
  (List.range 410).filter (fun x => decide (2 ≤ x) && ((List.range 19).map (fun k => k + 2)).all (fun q => decide (x = q) || decide (x % q ≠ 0)))

/-- The round constants of 64 bits: the cube roots of the primes. The 32-bit constants are the high halves of the first 64. -/
def shaRoots : List Nat := shaPrimes.map (rootFrac 3 64)

/-- The amounts of one of the standard's mixing functions: two rotations, and a third rotation or a shift. -/
structure ShaMix where
  first : Nat
  second : Nat
  third : Nat
  shifts : Bool
  deriving DecidableEq, Repr

/-- A word under a mixing function. -/
def ShaMix.run {b : Nat} (x : ShaMix) (v : BitVec b) : BitVec b :=
  v.rotateRight x.first ^^^ v.rotateRight x.second ^^^ (if x.shifts then v >>> x.third else v.rotateRight x.third)

/-- What separates the SHA-2 functions of one word size: the rounds, the mixing functions of the round (`up` of a, `down` of e) and of
the schedule (`far` of the older word, `near` of the newer). -/
structure ShaKind where
  rounds : Nat
  up : ShaMix
  down : ShaMix
  far : ShaMix
  near : ShaMix
  deriving DecidableEq, Repr

/-- The functions of 32-bit words. -/
def sha32 : ShaKind :=
  { rounds := 64, up := ⟨2, 13, 22, false⟩, down := ⟨6, 11, 25, false⟩, far := ⟨7, 18, 3, true⟩, near := ⟨17, 19, 10, true⟩ }

/-- The functions of 64-bit words. -/
def sha64 : ShaKind :=
  { rounds := 80, up := ⟨28, 34, 39, false⟩, down := ⟨14, 18, 41, false⟩, far := ⟨1, 8, 7, true⟩, near := ⟨19, 61, 6, true⟩ }

/-- The chaining value, and the working value of a round. -/
structure ShaRegs (b : Nat) where
  top : Vector (BitVec b) 4
  low : Vector (BitVec b) 4
  deriving DecidableEq, Repr

/-- The bits of `low` chosen by its first word, and the majority of the first three of `top`. -/
def ShaRegs.pick {b : Nat} (r : ShaRegs b) : BitVec b × BitVec b :=
  (r.low[2] ^^^ (r.low[0] &&& (r.low[1] ^^^ r.low[2])), (r.top[0] &&& (r.top[1] ||| r.top[2])) ||| (r.top[1] &&& r.top[2]))

/-- One round with a constant and a schedule word. -/
def ShaKind.turn {b : Nat} (k : ShaKind) (r : ShaRegs b) (x : BitVec b) : ShaRegs b :=
  let add := r.low[3] + k.down.run r.low[0] + r.pick.1 + x
  { top := #v[add + k.up.run r.top[0] + r.pick.2, r.top[0], r.top[1], r.top[2]],
    low := #v[r.top[3] + add, r.low[0], r.low[1], r.low[2]] }

/-- The rounds over the constants left, with the window of the next sixteen schedule words, the oldest first. -/
def ShaKind.rollOn {b : Nat} (k : ShaKind) : List Nat → List (BitVec b) → ShaRegs b → ShaRegs b
  | [], _, r => r
  | c :: cs, win, r =>
    let next := win.getD 0 0 + k.far.run (win.getD 1 0) + win.getD 9 0 + k.near.run (win.getD 14 0)
    k.rollOn cs (win.drop 1 ++ [next]) (k.turn r (BitVec.ofNat b (c / 2 ^ (64 - b)) + win.headD 0))

/-- The chaining value after one block of sixteen words. -/
def ShaKind.absorb {b : Nat} (k : ShaKind) (h : ShaRegs b) (win : List (BitVec b)) : ShaRegs b :=
  let r := k.rollOn (shaRoots.take k.rounds) win h
  { top := Vector.zipWith (fun x y => x + y) h.top r.top, low := Vector.zipWith (fun x y => x + y) h.low r.low }

/-- A message with its end bit, zeros to a whole block of `16 * u` bytes and its length in bits over `2 * u` bytes. -/
def shaPad (u : Nat) (m : List Byte) : List Byte :=
  m ++ byteOf 0x80 :: List.replicate ((32 * u - (m.length + 1 + 2 * u) % (16 * u)) % (16 * u)) 0 ++ beBytes (2 * u) (8 * m.length)

/-- The digest bytes of a message: words of `b` bits, the chaining value starting from the square roots of the primes `iv`. -/
def ShaKind.hash (k : ShaKind) (b : Nat) (iv : List Nat) (m : List Byte) : List Byte :=
  let u := b / 8
  let text := shaPad u m
  let start : Nat → Vector (BitVec b) 4 := fun j => Vector.ofFn (fun i : Fin 4 => BitVec.ofNat b (rootFrac 2 b (iv.getD (j + i.val) 0)))
  let r := (List.range (text.length / (16 * u))).foldl
    (fun h n => k.absorb h ((List.range 16).map (fun i => BitVec.ofNat b (beAt text ((16 * n + i) * u) u)))) ⟨start 0, start 4⟩
  (r.top.toList ++ r.low.toList).flatMap (fun x => beBytes u x.toNat)

/-- SHA-256. -/
def sha256 (m : List Byte) : List Byte := sha32.hash 32 (shaPrimes.take 8) m

/-- SHA-384 (00 R16): its start values come from the ninth to sixteenth primes, and the digest is cut to 48 bytes. -/
def sha384 (m : List Byte) : List Byte := (sha64.hash 64 ((shaPrimes.drop 8).take 8) m).take 48

/-! ### ECDSA over P-384 (FIPS 186-4) -/

/-- The prime of P-384. -/
def p384P : Nat := 2 ^ 384 - 2 ^ 128 - 2 ^ 96 + 2 ^ 32 - 1
/-- The order of the base point. -/
def p384N : Nat := 0xffffffffffffffffffffffffffffffffffffffffffffffffc7634d81f4372ddf581a0db248b0a77aecec196accc52973
/-- The coefficient b. -/
def p384B : Nat := 0xb3312fa7e23ee7e4988e056be3f82d19181d9c6efe8141120314088f5013875ac656398d8a2ed19d2a85c8edd3ec2aef
/-- The base point. -/
def p384G : Nat × Nat × Nat :=
  (0xaa87ca22be8b05378eb1c71ef320ad746e1d3b628ba79b9859f741e082542a385502f25dbf55296c3a545e3872760ab7,
   0x3617de4a96262c6f5d9e98bf9292dc29f8f41dbd289a147ce9da3113b5f0b8c00a60b1ce1d7e819d7a431d7c90ea0e5f, 1)

/-- Modular power by squaring over the bits of the exponent, most significant first, `fuel` bits. -/
def modPow (m b e : Nat) : Nat → Nat → Nat
  | 0, acc => acc
  | k + 1, acc => let s := acc * acc % m; modPow m b e k (if e.testBit k then s * b % m else s)

/-- The inverse modulo a prime of 384 bits. -/
def modInv (m a : Nat) : Nat := modPow m (a % m) (m - 2) 384 1

/-- Doubling in Jacobian coordinates; the point at infinity has z = 0. -/
def ecDbl (q : Nat × Nat × Nat) : Nat × Nat × Nat :=
  let m := p384P
  let (x, y, z) := q
  if z = 0 ∨ y = 0 then (1, 1, 0)
  else
    let y2 := y * y % m
    let s := 4 * x * y2 % m
    let z2 := z * z % m
    let t := 3 * (x + (m - z2)) * (x + z2) % m
    let x3 := (t * t + (m - 2 * s % m)) % m
    let y3 := (t * (s + (m - x3)) + (m - 8 * y2 * y2 % m)) % m
    (x3, y3, 2 * y * z % m)

/-- Addition in Jacobian coordinates. -/
def ecAdd (a b : Nat × Nat × Nat) : Nat × Nat × Nat :=
  let m := p384P
  if a.2.2 = 0 then b else if b.2.2 = 0 then a
  else
    let (x1, y1, z1) := a
    let (x2, y2, z2) := b
    let z12 := z1 * z1 % m
    let z22 := z2 * z2 % m
    let u1 := x1 * z22 % m
    let u2 := x2 * z12 % m
    let s1 := y1 * z2 * z22 % m
    let s2 := y2 * z1 * z12 % m
    if u1 = u2 then (if s1 = s2 then ecDbl a else (1, 1, 0))
    else
      let h := (u2 + (m - u1)) % m
      let r := (s2 + (m - s1)) % m
      let h2 := h * h % m
      let h3 := h * h2 % m
      let v := u1 * h2 % m
      let x3 := (r * r + (m - h3) + (m - 2 * v % m)) % m
      let y3 := (r * (v + (m - x3)) + (m - s1 * h3 % m)) % m
      (x3, y3, h * z1 * z2 % m)

/-- u1 * G + u2 * Q over the bits of both, most significant first. -/
def ecMul2 (u1 : Nat) (g : Nat × Nat × Nat) (u2 : Nat) (q : Nat × Nat × Nat) : Nat → Nat × Nat × Nat → Nat × Nat × Nat
  | 0, acc => acc
  | k + 1, acc =>
    let d := ecDbl acc
    let d := if u1.testBit k then ecAdd d g else d
    let d := if u2.testBit k then ecAdd d q else d
    ecMul2 u1 g u2 q k d

/-- Whether a public key (X then Y, 48 bytes each, big-endian) is a point of the curve. -/
def p384KeyOk (key : List Byte) : Bool :=
  let x := beAt key 0 48
  let y := beAt key 48 48
  decide (key.length = 96) && decide (x < p384P) && decide (y < p384P) &&
    decide (y * y % p384P = (x * x * x + (p384P - 3) * x + p384B) % p384P)

/-- Verification of an ECDSA P-384 signature (r then s, 48 bytes each, big-endian) over a digest (00 R16). -/
def ecdsaVerify (key : List Byte) (digest : List Byte) (sig : List Byte) : Bool :=
  let n := p384N
  let r := beAt sig 0 48
  let s := beAt sig 48 48
  let ok := p384KeyOk key && decide (sig.length = 96) && decide (0 < r) && decide (r < n) && decide (0 < s) && decide (s < n)
  if !ok then false
  else
    let w := modInv n s
    let e := beNat digest
    let u1 := e * w % n
    let u2 := r * w % n
    let pt := ecMul2 u1 p384G u2 (beAt key 0 48, beAt key 48 48, 1) 384 (1, 1, 0)
    if pt.2.2 = 0 then false
    else
      let zi := modInv p384P pt.2.2
      let x := pt.1 * (zi * zi % p384P) % p384P
      decide (x % n = r)

/-! ### AES-256 (FIPS 197) -/

/-- Multiplication by x in GF(2^8). -/
def xtime (b : Nat) : Nat := if b < 128 then 2 * b else (2 * b) ^^^ 0x11b

/-- Multiplication in GF(2^8), over the `k` low bits of the second operand. -/
def gmul (a b : Nat) : Nat → Nat
  | 0 => 0
  | k + 1 => (if b % 2 = 1 then a else 0) ^^^ gmul (xtime a) (b / 2) k

/-- The inverse in GF(2^8): the 254th power. -/
def ginv (a : Nat) : Nat :=
  let a2 := gmul a a 8
  let a3 := gmul a2 a 8
  let a12 := gmul (gmul a3 a3 8) (gmul a3 a3 8) 8
  let a15 := gmul a12 a3 8
  let sq := fun x => gmul x x 8
  let a240 := sq (sq (sq (sq a15)))
  gmul a240 (gmul a12 a2 8) 8

/-- The S-box. -/
def sbox (a : Nat) : Nat :=
  let b := ginv a
  let rl := fun n => (b * 2 ^ n + b / 2 ^ (8 - n)) % 256
  b ^^^ rl 1 ^^^ rl 2 ^^^ rl 3 ^^^ rl 4 ^^^ 0x63

/-- The inverse S-box, by its affine inverse. -/
def sboxInv (a : Nat) : Nat :=
  let rl := fun n => (a * 2 ^ n + a / 2 ^ (8 - n)) % 256
  ginv (rl 1 ^^^ rl 3 ^^^ rl 6 ^^^ 0x05)

/-- The key schedule as bytes, newest word first; `n` further words, `i` the index of the next word. -/
def aesSched : Nat → Nat → Nat → List (List Nat) → List (List Nat)
  | 0, _, _, l => l
  | n + 1, i, rcon, l =>
    let prev := l.headD []
    let old := l.getD 7 []
    let t := if i % 8 = 0 then
        (match prev with
         | [a, b, c, d] => [sbox b ^^^ rcon, sbox c, sbox d, sbox a]
         | _ => prev)
      else if i % 8 = 4 then prev.map sbox else prev
    aesSched n (i + 1) (if i % 8 = 0 then xtime rcon else rcon) (List.zipWith (fun x y => x ^^^ y) old t :: l)

/-- The 15 round keys of AES-256. -/
def aesKeys (key : List Byte) : List (List Nat) :=
  let k := key.map BitVec.toNat
  let ws := (List.range 8).map (fun i => (k.drop (4 * i)).take 4)
  let all := (aesSched 52 8 1 ws.reverse).reverse
  (List.range 15).map (fun r => ((all.drop (4 * r)).take 4).flatten)

/-- XOR of two byte lists. -/
def xorN (a b : List Nat) : List Nat := List.zipWith (fun x y => x ^^^ y) a b

/-- The row shift by an index map. -/
def aesPerm (f : Nat → Nat) (s : List Nat) : List Nat := (List.range 16).map (fun i => s.getD (f i) 0)

/-- The column mix with a coefficient row. -/
def aesMix (c : List Nat) (s : List Nat) : List Nat :=
  (List.range 16).map (fun i =>
    let col := i / 4 * 4
    let r := i % 4
    (List.range 4).foldl (fun acc j => acc ^^^ gmul (s.getD (col + j) 0) (c.getD ((4 + j - r) % 4) 0) 8) 0)

/-- One AES-256 block encryption. -/
def aesEnc (key blk : List Byte) : List Byte :=
  let ks := aesKeys key
  let sr := aesPerm (fun i => (i + 4 * (i % 4)) % 16)
  let s0 := xorN (blk.map BitVec.toNat) (ks.headD [])
  let s := ((ks.drop 1).take 13).foldl (fun s k => xorN (aesMix [2, 3, 1, 1] (sr (s.map sbox))) k) s0
  (xorN (sr (s.map sbox)) (ks.getD 14 [])).map byteOf

/-- One AES-256 block decryption. -/
def aesDec (key blk : List Byte) : List Byte :=
  let ks := (aesKeys key).reverse
  let isr := aesPerm (fun i => (i + 16 - 4 * (i % 4)) % 16)
  let s0 := xorN (blk.map BitVec.toNat) (ks.headD [])
  let s := ((ks.drop 1).take 13).foldl (fun s k => aesMix [14, 11, 13, 9] (xorN ((isr s).map sboxInv) k)) s0
  (xorN ((isr s).map sboxInv) (ks.getD 14 [])).map byteOf

/-- AES key unwrap (RFC 3394): the steps from t = 6n down to 1 on the register A and the n blocks R. -/
def unwrapGo (key : List Byte) (n : Nat) : Nat → List Byte → List (List Byte) → List Byte × List (List Byte)
  | 0, a, rs => (a, rs)
  | t + 1, a, rs =>
    let i := t % n
    let at' := beBytes 8 (beNat a ^^^ (t + 1))
    let b := aesDec key (at' ++ rs.getD i [])
    unwrapGo key n t (b.take 8) (setAt rs i (b.drop 8))

/-- AES key unwrap: the plaintext, or nothing when the integrity check fails (19 R544). -/
def keyUnwrap (key wrapped : List Byte) : Option (List Byte) :=
  let n := wrapped.length / 8 - 1
  let rs := (List.range n).map (fun i => slice wrapped (8 * (i + 1)) 8)
  let (a, rs) := unwrapGo key n (6 * n) (wrapped.take 8) rs
  if a = List.replicate 8 0xA6 then some rs.flatten else none

/-! ### GCM (NIST SP 800-38D) -/

/-- Multiplication in the field of GHASH; bit 127 of the number is the first bit of the block. -/
def ghMul (y : Nat) : Nat → Nat → Nat → Nat
  | 0, _, z => z
  | k + 1, v, z =>
    ghMul y k (if v % 2 = 1 then (v / 2) ^^^ (0xE1 * 2 ^ 120) else v / 2) (if y.testBit k then z ^^^ v else z)

/-- The 16-byte blocks of a string, the last padded with zeros. -/
def blocks16 (bs : List Byte) : List (List Byte) :=
  (List.range ((bs.length + 15) / 16)).map (fun i => padTo 16 (slice bs (16 * i) 16))

/-- GHASH under the key block `h`. -/
def ghash (h : Nat) (bs : List (List Byte)) : Nat := bs.foldl (fun y b => ghMul (y ^^^ beNat b) 128 h 0) 0

/-- Counter mode with a 12-byte nonce, from counter value `c`. -/
def gctr (key nonce : List Byte) (c : Nat) (bs : List Byte) : List Byte :=
  let ks := ((List.range ((bs.length + 15) / 16)).map (fun i => aesEnc key (nonce ++ beBytes 4 (c + i)))).flatten
  List.zipWith (fun x y => x ^^^ y) bs ks

/-- The GCM tag of a ciphertext. -/
def gcmTag (key nonce aad ct : List Byte) : List Byte :=
  let h := beNat (aesEnc key (List.replicate 16 0))
  let s := ghash h (blocks16 aad ++ blocks16 ct ++ [beBytes 8 (8 * aad.length) ++ beBytes 8 (8 * ct.length)])
  gctr key nonce 1 (beBytes 16 s)

/-- GCM encryption: ciphertext and tag. -/
def gcmSeal (key nonce aad pt : List Byte) : List Byte × List Byte :=
  let ct := gctr key nonce 2 pt
  (ct, gcmTag key nonce aad ct)

/-- GCM decryption: the plaintext, or nothing when the tag does not match. -/
def gcmOpen (key nonce aad ct tag : List Byte) : Option (List Byte) :=
  if gcmTag key nonce aad ct = tag then some (gctr key nonce 2 ct) else none

end Sys2Proof.Machine
end

