-- ==== Sys2Proof/Machine/Geometry.lean ====
section
/-! DEFINITION. The anatomy of the package (02): sites, canonical indices, who serves them, seams, and the fault classes that the
station state follows (01 R42, R43; 17 R469). -/

namespace Sys2Proof.Machine

/-- The number of core sites (02 R45, R47). -/
def nSites : Nat := 288

/-- The die of a package site index (02 R47). -/
def siteDie (i : Nat) : Nat := i / 72

/-- Whether a site is a spare: column 4 (02 R48). -/
def isSpareSite (i : Nat) : Bool := i % 72 % 9 = 4

/-- The canonical position of a non-spare site on its die (02 R49). -/
def positionOf (i : Nat) : Nat :=
  let s := i % 72
  let col := s % 9
  8 * (s / 9) + (if col < 4 then col else col - 1)

/-- The die-local site at a canonical position (02 R49). -/
def siteAtPosition (p : Nat) : Nat := 9 * (p / 8) + (if p % 8 < 4 then p % 8 else p % 8 + 1)

/-- Whether a site is fused out (02 R51). -/
def isFused (pt : Part) (i : Nat) : Bool := pt.fusedOut.contains i

/-- The non-spare sites of a die that are not fused out, in ascending order (02 R51). -/
def liveSitesOfDie (pt : Part) (k : Nat) : List Nat :=
  ((List.range 72).map (fun s => 72 * k + s)).filter (fun i => !isSpareSite i && !isFused pt i)

/-- The index of an element in a list. -/
def indexIn (x : Nat) : List Nat → Nat → Option Nat
  | [], _ => none
  | y :: ys, n => if x = y then some n else indexIn x ys (n + 1)

/-- The canonical index of a non-spare site that is not fused out (02 R50, R51). -/
def canonOfSite (pt : Part) (i : Nat) : Option Nat :=
  if isSpareSite i || isFused pt i then none
  else if pt.gradeS then (indexIn i (liveSitesOfDie pt (siteDie i)) 0).map (fun j => 64 * siteDie i + j)
  else some (64 * siteDie i + positionOf i)

/-- The original site of a canonical index, when the grade exposes it (02 R50, R51). -/
def siteOfCanon (pt : Part) (c : Nat) : Option Nat :=
  if 256 ≤ c then none
  else if pt.gradeS then (liveSitesOfDie pt (c / 64))[c % 64]?
  else some (72 * (c / 64) + siteAtPosition (c % 64))

/-- The declared state of a site at reset (17 Table FAULT-8, "Fused"): fused-out sites are ABSENT, column 4 SPARE, the rest LIVE. -/
def siteInit (pt : Part) (i : Nat) : SiteInfo :=
  if isFused pt i then { st := .absent }
  else if isSpareSite i then { st := .spare }
  else { st := .live, canon := canonOfSite pt i }

/-- What the warden keeps of a site. -/
def siteInfo (d : Dev) (i : Nat) : SiteInfo := (smFind i d.wdn.sites).getD (siteInit d.part i)

/-- The record of a site replaced. -/
def setSite (d : Dev) (i : Nat) (x : SiteInfo) : Dev :=
  { d with wdn := { d.wdn with sites := smPut i (if x = siteInit d.part i then none else some x) d.wdn.sites } }

/-- Whether a site's unit is in service: LIVE, or SUSPECT and still passing traffic (17 R475). -/
def inService (d : Dev) (i : Nat) : Bool :=
  match (siteInfo d i).st with
  | .live => true | .suspect => true | _ => false

/-- The spares of a die. -/
def sparesOfDie (k : Nat) : List Nat := (List.range 8).map (fun r => 72 * k + 9 * r + 4)

/-- The site that serves a canonical index now: its original site, or the spare promoted for it (02 R53, R54). -/
def servingSite (d : Dev) (c : Nat) : Option Nat :=
  match siteOfCanon d.part c with
  | none => none
  | some o =>
    if inService d o && (siteInfo d o).canon == some c then some o
    else (sparesOfDie (siteDie o)).find? (fun i => inService d i && (siteInfo d i).canon == some c)

/-- The core at a site. -/
def coreAt (d : Dev) (i : Nat) : Core := smGet {} d.core i

/-- The core at a site replaced. -/
def setCore (d : Dev) (i : Nat) (c : Core) : Dev := { d with core := smSet {} d.core i c }

/-- The core at a site changed. -/
def modCore (d : Dev) (i : Nat) (f : Core → Core) : Dev := setCore d i (f (coreAt d i))

/-- What a package word address names (06 R155). -/
inductive Loc where
  | word (site w : Nat)
  | hole
  | gone
  deriving DecidableEq, Repr

/-- The word that a package word address names: DIE, INDEX, ROW and BANK (06 Table SPAD-1). An index whose site is fenced and not yet
replaced names no word and is not a hole (06 R155, R162). -/
def resolve (d : Dev) (addr : Nat) : Loc :=
  let k := bits addr 23 22
  let j := bits addr 21 15
  let w := bits addr 14 0
  if 64 ≤ j then .hole
  else
    let c := 64 * k + j
    match siteOfCanon d.part c with
    | none => .hole
    | some _ =>
      match servingSite d c with
      | some i => .word i w
      | none => if d.wdn.noSpare.contains c then .hole else .gone

/-- The canonical index a site serves. -/
def canonAt (d : Dev) (i : Nat) : Nat := (siteInfo d i).canon.getD 0

/-- The package word address of word 0 of the slice that serves canonical index `c`. -/
def sliceBase (c : Nat) : Nat := (c / 64) * 2 ^ 22 + (c % 64) * 2 ^ 15

/-- Neighbour reach (06 R158): the local slice and the four neighbouring positions of the original site, on one die. -/
def inNeighbour (d : Dev) (c addr : Nat) : Bool :=
  let c' := 64 * bits addr 23 22 + bits addr 21 15
  match siteOfCanon d.part c, siteOfCanon d.part c' with
  | some o, some o' =>
    let p := positionOf o
    let q := positionOf o'
    decide (siteDie o = siteDie o') &&
      (decide (p = q) || (decide (p / 8 = q / 8) && (decide (q = p + 1) || decide (p = q + 1))) || decide (q = p + 8) || decide (p = q + 8))
  | _, _ => false

/-- The result of checking an address against the task's reach (06 R158, R162, Table SPAD-4). -/
inductive Acc where
  | ok (site w : Nat)
  | hole
  | reach
  | gone
  deriving DecidableEq, Repr

/-- A scratchpad access of a task on canonical index `c`, with global or neighbour reach. -/
def access (d : Dev) (c : Nat) (global : Bool) (addr : Nat) : Acc :=
  match resolve d addr with
  | .hole => .hole
  | .gone => if global || inNeighbour d c addr then .gone else .reach
  | .word i w => if global || inNeighbour d c addr then .ok i w else .reach

/-- The state of a seam: 0 S01, 1 S13, 2 S32, 3 S20. -/
def seamAt (d : Dev) (k : Nat) : SeamInfo := d.wdn.seams.getD k {}

/-- A seam replaced. -/
def setSeam (d : Dev) (k : Nat) (x : SeamInfo) : Dev := { d with wdn := { d.wdn with seams := setAt d.wdn.seams k x } }

/-- The dies that a seam joins (02 R57). -/
def seamDies (k : Nat) : Nat × Nat := match k with | 0 => (0, 1) | 1 => (1, 3) | 2 => (3, 2) | _ => (2, 0)

/-- Whether a seam ends at a die. -/
def seamAtDie (k die : Nat) : Bool := decide ((seamDies k).1 = die) || decide ((seamDies k).2 = die)

/-- The place of a die on the cycle D0, D1, D3, D2; seam `k` joins places `k` and `k + 1`. -/
def dieLoop (k : Nat) : Nat := match k with | 2 => 3 | 3 => 2 | k => k

/-- The seams from one die to another in the order in which they are crossed (02 Table PKG-3): one seam between neighbours, forward D0, D1, D3, D2, D0 between opposite dies. When the route uses a lost
seam, the only path along the line replaces it (02 R63). -/
def seamRoute (lost : Nat → Bool) (a b : Nat) : List Nat :=
  let p := dieLoop a
  let n := (dieLoop b + 4 - p) % 4
  let fwd := (List.range n).map (fun k => (p + k) % 4)
  let back := (List.range (4 - n)).map (fun k => (p + 3 - k) % 4)
  if n = 0 then []
  else
    let usual := if n = 3 then back else fwd
    if usual.any lost then (if n = 3 then fwd else back) else usual

/-- The route between two dies as the seams stand. -/
def routeNow (d : Dev) (a b : Nat) : List Nat := seamRoute (fun k => decide ((seamAt d k).st = .lost)) a b

/-- The seams that an access from one die to another uses: its request's, and those of the response, which between opposite dies are others (02 R60). -/
def crossing (d : Dev) (a b : Nat) : List Nat := routeNow d a b ++ routeNow d b a

/-- The seams lost. -/
def seamsLost (d : Dev) : Nat := (d.wdn.seams.filter (fun x => decide (x.st = .lost))).length

/-- A site out of service that had a part to play: FENCED (17 R469). -/
def anyFenced (d : Dev) : Bool := d.wdn.sites.any (fun x => decide (x.2.st = .fenced) || x.2.promoted)

end Sys2Proof.Machine
end

