-- ==== Sys2Proof/Machine/Numerics.lean ====
section
/-! DEFINITION. Number formats and arithmetic (05): exact values in fixed point, one rounding to the destination. A finite value is
an integer multiple of 2^-300, which holds every operand, every product of two operands and every sum of them exactly. -/

namespace Sys2Proof.Machine

/-- The eight formats (04 Table CORE-7). -/
inductive Fmt where
  | int8 | int4 | e4m3 | e5m2 | bf16 | fp16 | fp32 | int32
  deriving DecidableEq, Repr

/-- The format of a code; codes 8 to 15 are reserved (04 Table CORE-7). -/
def Fmt.ofCode : Nat → Option Fmt
  | 0 => some .int8 | 1 => some .int4 | 2 => some .e4m3 | 3 => some .e5m2
  | 4 => some .bf16 | 5 => some .fp16 | 6 => some .fp32 | 7 => some .int32 | _ => none

/-- Words that one 64-lane vector occupies (04 Table CORE-7). -/
def Fmt.words : Fmt → Nat
  | .int8 => 1 | .int4 => 1 | .e4m3 => 1 | .e5m2 => 1 | .bf16 => 2 | .fp16 => 2 | .fp32 => 4 | .int32 => 4

/-- Bits of one element (05 Table NUM-1). -/
def Fmt.bits : Fmt → Nat
  | .int8 => 8 | .int4 => 4 | .e4m3 => 8 | .e5m2 => 8 | .bf16 => 16 | .fp16 => 16 | .fp32 => 32 | .int32 => 32

/-- Whether the format is an integer format (05 R132). -/
def Fmt.isInt : Fmt → Bool
  | .int8 => true | .int4 => true | .int32 => true | _ => false

/-- Exponent bits, mantissa bits and bias of a floating-point format (05 Table NUM-2). -/
def Fmt.layout : Fmt → Nat × Nat × Nat
  | .e4m3 => (4, 3, 7) | .e5m2 => (5, 2, 15) | .fp16 => (5, 10, 15) | .bf16 => (8, 7, 127) | _ => (8, 23, 127)

/-- An operand or exact result: a NaN, a signed infinity, a signed zero, or a finite value in units of 2^-300. -/
inductive Val where
  | nan
  | inf (neg : Bool)
  | zero (neg : Bool)
  | fin (n : Int)
  deriving DecidableEq, Repr

/-- The binary point of exact values. -/
def fixBits : Nat := 300

/-- The value of an integer. -/
def Val.ofInt (z : Int) : Val := if z = 0 then .zero false else .fin (z * (2 ^ fixBits : Nat))

/-- Two's complement of the low `b` bits. -/
def signExtend (b n : Nat) : Int := if n % 2 ^ b < 2 ^ (b - 1) then (n % 2 ^ b : Nat) else (n % 2 ^ b : Nat) - (2 ^ b : Nat)

/-- The value of an encoding (05 R132, Table NUM-2). Every encoding is accepted. -/
def decodeFmt (f : Fmt) (bits : Nat) : Val :=
  if f.isInt then Val.ofInt (signExtend f.bits bits)
  else
    let (eb, mb, bias) := f.layout
    let m := bits % 2 ^ mb
    let e := bits / 2 ^ mb % 2 ^ eb
    let neg := bits / 2 ^ (mb + eb) % 2 = 1
    let sgn : Int := if neg then -1 else 1
    let top := 2 ^ eb - 1
    if f = .e4m3 ∧ e = top ∧ m = 7 then .nan
    else if f ≠ .e4m3 ∧ e = top then (if m = 0 then .inf neg else .nan)
    else if e = 0 ∧ m = 0 then .zero neg
    else if e = 0 then .fin (sgn * (m * 2 ^ (fixBits + 1 - bias - mb) : Nat))
    else .fin (sgn * ((2 ^ mb + m) * 2 ^ (fixBits + e - bias - mb) : Nat))

/-- Round-to-nearest-even of `n / d` for natural `n` and positive `d` (05 R135). -/
def rneDiv (n d : Nat) : Nat :=
  let q := n / d
  let r := n % d
  if 2 * r < d then q else if d < 2 * r then q + 1 else if q % 2 = 0 then q else q + 1

/-- The floor of the binary logarithm of `n / d`, for positive `n` and `d`. -/
def floorLog2 (n d : Nat) : Int :=
  let g : Int := (Nat.log2 n : Int) - (Nat.log2 d : Int)
  let le : Bool := if 0 ≤ g then decide (d * 2 ^ g.toNat ≤ n) else decide (d ≤ n * 2 ^ (-g).toNat)
  if le then g else g - 1

/-- Saturation of an integer to the range of an integer format (05 Table NUM-3), as its two's complement encoding. -/
def encodeInt (b : Nat) (z : Int) : Nat :=
  let hi : Int := (2 ^ (b - 1) : Nat) - 1
  let lo : Int := -(2 ^ (b - 1) : Nat)
  let c := if hi < z then hi else if z < lo then lo else z
  (c % (2 ^ b : Nat)).toNat

/-- The encoding of the sign of a floating-point format. -/
def signBit (f : Fmt) (neg : Bool) : Nat := if neg then 2 ^ (f.bits - 1) else 0

/-- The NaN of a destination (05 Table NUM-3). -/
def nanOf : Fmt → Nat
  | .e4m3 => 0x7f | .e5m2 => 0x7e | .fp16 => 0x7e00 | .bf16 => 0x7fc0 | .fp32 => 0x7fc00000 | _ => 0

/-- The result of a value beyond the range of a floating-point destination: saturated for the 8-bit formats, infinity for the
others (05 Table NUM-3). -/
def overflowOf (f : Fmt) (neg : Bool) : Nat :=
  signBit f neg + (match f with
    | .e4m3 => 0x7e | .e5m2 => 0x7b | .fp16 => 0x7c00 | .bf16 => 0x7f80 | .fp32 => 0x7f800000 | _ => 0)

/-- An infinity converted to a floating-point destination (05 Table NUM-3). -/
def infOf (f : Fmt) (neg : Bool) : Nat :=
  match f with
  | .e5m2 => signBit f neg + 0x7c
  | _ => overflowOf f neg

/-- One rounding of the positive rational `n / d` with sign `neg` to a floating-point format (05 R135 to R137). -/
def roundFp (f : Fmt) (neg : Bool) (n d : Nat) : Nat :=
  let (eb, mb, bias) := f.layout
  let emin : Int := 1 - (bias : Int)
  let e := max (floorLog2 n d) emin
  -- the unit in the last place is 2^(e - mb)
  let u : Int := e - mb
  let q := if 0 ≤ u then rneDiv n (d * 2 ^ u.toNat) else rneDiv (n * 2 ^ (-u).toNat) d
  let (q, e) := if q = 2 ^ (mb + 1) then (2 ^ mb, e + 1) else (q, e)
  if q = 0 then signBit f neg
  else if q < 2 ^ mb then signBit f neg + q
  else
    let be := (e + bias).toNat
    let maxBe := if f = .e4m3 then 2 ^ eb - 1 else 2 ^ eb - 2
    let tooBig : Bool := maxBe < be || (f = .e4m3 && be = maxBe && q = 2 ^ mb + 7)
    if tooBig then overflowOf f neg else signBit f neg + be * 2 ^ mb + (q - 2 ^ mb)

/-- Conversion of an exact value to a destination format, rounded once (05 R135 to R139, Table NUM-3). -/
def encodeFmt (f : Fmt) (v : Val) : Nat :=
  if f.isInt then
    match v with
    | .nan => 0
    | .inf neg => encodeInt f.bits (if neg then -(2 ^ 40 : Nat) else (2 ^ 40 : Nat))
    | .zero _ => 0
    | .fin n => encodeInt f.bits (if n < 0 then -((rneDiv n.natAbs (2 ^ fixBits) : Nat) : Int) else (rneDiv n.natAbs (2 ^ fixBits) : Nat))
  else
    match v with
    | .nan => nanOf f
    | .inf neg => infOf f neg
    | .zero neg => signBit f neg
    | .fin n => if n = 0 then 0 else roundFp f (decide (n < 0)) n.natAbs (2 ^ fixBits)

/-- The sign of a value that is not a NaN. -/
def Val.neg? : Val → Bool
  | .nan => false | .inf b => b | .zero b => b | .fin n => decide (n < 0)

/-- Negation. -/
def Val.negate : Val → Val
  | .nan => .nan | .inf b => .inf (!b) | .zero b => .zero (!b) | .fin n => .fin (-n)

/-- The exact sum of two values (05 R138, R139). -/
def Val.add : Val → Val → Val
  | .nan, _ => .nan
  | _, .nan => .nan
  | .inf a, .inf b => if a = b then .inf a else .nan
  | .inf a, _ => .inf a
  | _, .inf b => .inf b
  | .zero a, .zero b => .zero (a && b)
  | .zero _, .fin n => .fin n
  | .fin n, .zero _ => .fin n
  | .fin m, .fin n => if m + n = 0 then .zero false else .fin (m + n)

/-- The exact product of two values (05 R138, R139). A zero product takes the exclusive-or of the signs also where the operands are the
integers of INT32 and the result is floating, where R144 could be read to give +0 (DESIGN CHOICE, log entry 120). Both operands are finite multiples of 2^-150 at most, so the product is a
multiple of 2^-300. -/
def Val.mul (x y : Val) : Val :=
  let s := xor x.neg? y.neg?
  match x, y with
  | .nan, _ => .nan
  | _, .nan => .nan
  | .inf _, .zero _ => .nan
  | .zero _, .inf _ => .nan
  | .inf _, _ => .inf s
  | _, .inf _ => .inf s
  | .zero _, _ => .zero s
  | _, .zero _ => .zero s
  | .fin m, .fin n => .fin (m * n / (2 ^ fixBits : Nat))

/-- Numeric order of values that are not NaNs, with -0 below +0. -/
def Val.lt : Val → Val → Bool
  | .nan, _ => false
  | _, .nan => false
  | .inf a, .inf b => a && !b
  | .inf a, _ => a
  | _, .inf b => !b
  | .zero a, .zero b => a && !b
  | .zero _, .fin n => decide (0 < n)
  | .fin n, .zero _ => decide (n < 0)
  | .fin m, .fin n => decide (m < n)

/-- The larger of two values; a NaN operand gives NaN; MAX(+0, -0) = +0 (05 Table NUM-5). -/
def Val.max (x y : Val) : Val :=
  if x = .nan ∨ y = .nan then .nan else if x.lt y then y else x

/-- The smaller of two values; MIN(+0, -0) = -0 (05 Table NUM-5). -/
def Val.min (x y : Val) : Val :=
  if x = .nan ∨ y = .nan then .nan else if x.lt y then x else y

/-- The exact sum of a list of values: every addend counts before the one rounding (05 R142). An empty list sums to +0. -/
def sumVals : List Val → Val
  | [] => .zero false
  | [v] => v
  | v :: vs => v.add (sumVals vs)

/-! ### Correctly rounded functions (05 R147, R149) -/

/-- Fractional bits of the working precision of the transcendental functions. -/
def wp : Nat := 640

/-- A working value from a numerator over a denominator, rounded down. -/
def wOf (n : Int) (d : Nat) : Int := n * (2 ^ wp : Nat) / d

/-- The product of two working values. -/
def wMul (x y : Int) : Int := x * y / (2 ^ wp : Nat)

/-- Terms `t, t*x/k, t*x*x/(k(k+1)), …` summed: the Taylor series of e^x from term `k`, `fuel` terms. -/
def expSeries (x : Int) : Nat → Nat → Int → Int
  | 0, _, t => t
  | fuel + 1, k, t => t + expSeries x fuel (k + 1) (wMul t x / k)

/-- `x` squared `n` times. -/
def sqTimes : Nat → Int → Int
  | 0, x => x
  | n + 1, x => sqTimes n (wMul x x)

/-- e^x for a working value of magnitude below 2^8: the argument is divided by 2^16 and the result squared 16 times. -/
def wExp (x : Int) : Int := sqTimes 16 (expSeries (x / (2 ^ 16 : Nat)) 60 1 (2 ^ wp : Nat))

/-- Terms of the series of erf: t(n) = t(n-1) * 2 z^2 / (2 n + 1). -/
def erfSeries (z2 : Int) : Nat → Nat → Int → Int
  | 0, _, t => t
  | fuel + 1, n, t => t + erfSeries z2 fuel (n + 1) (wMul t (2 * z2) / (2 * n + 1))

/-- The arctangent series of 1/m, `fuel` terms. -/
def atanInv (m : Nat) : Nat → Nat → Int → Int
  | 0, _, _ => 0
  | fuel + 1, k, t => t / (2 * k + 1) - atanInv m fuel (k + 1) (t / (m * m : Nat))

/-- Pi as a working value, by Machin's formula. -/
def wPi : Int :=
  4 * (4 * atanInv 5 300 0 ((2 ^ wp : Nat) / 5) - atanInv 239 120 0 ((2 ^ wp : Nat) / 239))

/-- Newton's iteration for the integer square root. -/
def isqrtGo : Nat → Nat → Nat → Nat
  | 0, _, g => g
  | fuel + 1, n, g => let h := (g + n / g) / 2; if g ≤ h then g else isqrtGo fuel n h

/-- The integer square root, rounded down. -/
def isqrt (n : Nat) : Nat := if n = 0 then 0 else isqrtGo (Nat.log2 n + 8) n (2 ^ (Nat.log2 n / 2 + 1))

/-- The standard normal distribution of a working value `x >= 0` of magnitude below 16:
1/2 + e^(-x^2/2) / sqrt(2 pi) * sum of x^(2n+1) / (1*3*5*...*(2n+1)). -/
def wPhi (x : Int) : Int :=
  let s := erfSeries (wMul x x / 2) 1400 1 x
  let e := wExp (-(wMul x x / 2))
  let r : Int := isqrt ((2 * wPi).toNat * 2 ^ wp)
  (2 ^ (wp - 1) : Nat) + wMul e s * (2 ^ wp : Nat) / r

/-- A positive working value rounded to FP32. -/
def wRound (neg : Bool) (w : Int) : Nat :=
  if w ≤ 0 then signBit .fp32 neg else roundFp .fp32 neg w.toNat (2 ^ wp)

/-- The working value of an exact value. -/
def wOfFix (n : Int) : Int := n * (2 ^ (wp - fixBits) : Nat)

/-- e^A (05 Table NUM-5), as an FP32 encoding. -/
def fnExp : Val → Nat
  | .nan => nanOf .fp32
  | .inf true => 0
  | .inf false => infOf .fp32 false
  | .zero _ => 0x3f800000
  | .fin n =>
    if (2 ^ (fixBits + 7) : Nat) < n then overflowOf .fp32 false
    else if n < -(2 ^ (fixBits + 7) : Nat) then 0
    else wRound false (wExp (wOfFix n))

/-- 1 / (1 + e^-A) (05 Table NUM-5), as an FP32 encoding. -/
def fnSigmoid : Val → Nat
  | .nan => nanOf .fp32
  | .inf true => 0
  | .inf false => 0x3f800000
  | .zero _ => 0x3f000000
  | .fin n =>
    if (2 ^ (fixBits + 7) : Nat) < n then 0x3f800000
    else if n < -(2 ^ (fixBits + 7) : Nat) then 0
    else
      let e := wExp (-wOfFix n)
      wRound false ((2 ^ (2 * wp) : Nat) / ((2 ^ wp : Nat) + e))

/-- tanh(A) (05 Table NUM-5), as an FP32 encoding. A zero operand keeps its sign: the table names no sign there (DESIGN CHOICE, log entry 119). For magnitudes below 2^-20 the value lies just inside A, so that A - A^3/3 decides
the rounding. -/
def fnTanh : Val → Nat
  | .nan => nanOf .fp32
  | .inf b => signBit .fp32 b + 0x3f800000
  | .zero b => signBit .fp32 b
  | .fin n =>
    let neg := decide (n < 0)
    let m : Int := n.natAbs
    if (2 ^ (fixBits + 7) : Nat) < m then signBit .fp32 neg + 0x3f800000
    else
      let x := wOfFix m
      if m < (2 ^ (fixBits - 20) : Nat) then
        wRound neg (x - max 1 (wMul (wMul x x) x / 3))
      else
        let e := wExp (2 * x)
        wRound neg ((e - (2 ^ wp : Nat)) * (2 ^ wp : Nat) / (e + (2 ^ wp : Nat)))

/-- A * Phi(A) (05 Table NUM-5), as an FP32 encoding. -/
def fnGelu : Val → Nat
  | .nan => nanOf .fp32
  | .inf true => 0
  | .inf false => infOf .fp32 false
  | .zero b => signBit .fp32 b
  | .fin n =>
    let neg := decide (n < 0)
    let m : Int := n.natAbs
    let x := wOfFix m
    if (16 * 2 ^ fixBits : Nat) < m then (if neg then signBit .fp32 true else wRound false x)
    else
      let p := wPhi x
      let q := if neg then (2 ^ wp : Nat) - p else p
      wRound neg (wMul x q)

/-- 1 / A (05 Table NUM-5), as an FP32 encoding. -/
def fnRecip : Val → Nat
  | .nan => nanOf .fp32
  | .inf b => signBit .fp32 b
  | .zero b => infOf .fp32 b
  | .fin n => roundFp .fp32 (decide (n < 0)) (2 ^ fixBits) n.natAbs

/-- 1 / sqrt(A) (05 Table NUM-5), as an FP32 encoding: 1/sqrt(n/2^300) = 2^150 / sqrt(n), taken with a sticky bit from the integer
square root of 2^(300+2*200) / n. -/
def fnRsqrt : Val → Nat
  | .nan => nanOf .fp32
  | .inf true => nanOf .fp32
  | .inf false => 0
  | .zero b => infOf .fp32 b
  | .fin n =>
    if n < 0 then nanOf .fp32
    else
      let m := n.toNat
      let t := 2 ^ (fixBits + 400) / m
      let r := isqrt t
      let exact : Bool := r * r * m = 2 ^ (fixBits + 400)
      roundFp .fp32 false (2 * r + (if exact then 0 else 1)) (2 ^ 201)

end Sys2Proof.Machine
end

