-- ==== Sys2Proof/Machine/Operands.lean ====
section
/-! DEFINITION. The operand forms of the core: task descriptors (04 Table CORE-2) and command words (04 Tables CORE-6 to CORE-15) with
the checks of 04 R112. -/

namespace Sys2Proof.Machine

/-! ### Task descriptors -/

/-- MODEL_ID of a descriptor. -/
def dModel (ds : List Byte) : Nat := leAt ds 0 1
/-- FLAGS of a descriptor: bit 0 MODE, bit 1 REACH, bit 2 CTX. -/
def dFlags (ds : List Byte) : Nat := leAt ds 1 1
/-- Switch mode (04 R109). -/
def dSwitch (ds : List Byte) : Bool := (dFlags ds).testBit 0
/-- Global reach (06 R158). -/
def dGlobal (ds : List Byte) : Bool := (dFlags ds).testBit 1
/-- The task uses a flow context. -/
def dCtx (ds : List Byte) : Bool := (dFlags ds).testBit 2
/-- The command skein. -/
def dSkein (ds : List Byte) : Nat := leAt ds 2 1 % 64
/-- The virtual core. -/
def dVcore (ds : List Byte) : Nat := leAt ds 3 1
/-- Index of the first command word. -/
def dStart (ds : List Byte) : Nat := leAt ds 4 4
/-- Request sequence number. -/
def dReqSeq (ds : List Byte) : Nat := leAt ds 8 8
/-- Arrival timestamp. -/
def dArrival (ds : List Byte) : Nat := leAt ds 16 8
/-- Effective deadline. -/
def dDeadline (ds : List Byte) : Nat := leAt ds 24 8
/-- Directory entry of the flow context. -/
def dFlowIndex (ds : List Byte) : Nat := leAt ds 40 2
/-- Size class of the flow context. -/
def dFlowClass (ds : List Byte) : Nat := leAt ds 42 1
/-- Number of tasks of the group. -/
def dGroupSize (ds : List Byte) : Nat := leAt ds 44 2
/-- Rank of this task in the group. -/
def dRank (ds : List Byte) : Nat := leAt ds 46 2
/-- Egress record handle and port. -/
def dEgress (ds : List Byte) : Nat := leAt ds 48 4
/-- PARAM_LO and PARAM_HI as two's complement (08 Table STREAM-4). -/
def dParam (ds : List Byte) (hi : Bool) : Int := signExtend 32 (leAt ds (if hi then 56 else 52) 4)

/-- Whether a descriptor uses a reserved field or encoding (04 Table CORE-2, 14 R396). -/
def descReserved (ds : List Byte) (fast : Bool) : Bool :=
  decide (dModel ds = 0) || decide (16 < dModel ds) || decide (8 ≤ dFlags ds) || decide (64 ≤ leAt ds 2 1) ||
    (fast && decide (dVcore ds ≠ 0)) || decide (2 ^ 24 ≤ dStart ds) || decide (2 ^ 24 ≤ leAt ds 32 4) ||
    (!dCtx ds && (decide (dFlowIndex ds ≠ 0) || decide (dFlowClass ds ≠ 0))) || decide (9 ≤ dFlowClass ds) || decide (leAt ds 43 1 ≠ 0) ||
    decide (dGroupSize ds = 0) || decide (256 < dGroupSize ds) || decide (2 ^ 17 ≤ dEgress ds) || (dCtx ds && decide (dRank ds ≠ 0))

/-- DESC_CRC (04 R99). -/
def descCrcOk (ds : List Byte) : Bool := decide (ds.length = 64) && decide (leAt ds 60 4 = crc32c (ds.take 60))

/-! ### Command words -/

/-- The command families (04 Table CORE-6). -/
inductive Family where
  | end_ | mma | vop | hankwait | depmark | lbar | dma | pat | tagop | ctxload | ctxstore | emit | yield
  deriving DecidableEq, Repr

/-- The family of a code; 0xD to 0xF are reserved. -/
def familyOf : Nat → Option Family
  | 0 => some .end_ | 1 => some .mma | 2 => some .vop | 3 => some .hankwait | 4 => some .depmark | 5 => some .lbar | 6 => some .dma
  | 7 => some .pat | 8 => some .tagop | 9 => some .ctxload | 10 => some .ctxstore | 11 => some .emit | 12 => some .yield | _ => none

/-- FAMILY of a command word. -/
def wFamily (w : Nat) : Option Family := familyOf (bits w 127 124)

/-- The abort causes (04 Table CORE-16). -/
abbrev cCmdReserved : Nat := 0x01
abbrev cCmdFormat : Nat := 0x02
abbrev cCmdRange : Nat := 0x03
abbrev cSlotSize : Nat := 0x04
abbrev cSkeinDisabled : Nat := 0x05
abbrev cSkeinTimeout : Nat := 0x06
abbrev cTagRaw : Nat := 0x07
abbrev cSkeinBusy : Nat := 0x08
abbrev cPatternAddr : Nat := 0x09
abbrev cPatternReserved : Nat := 0x0A
abbrev cSpadUncorr : Nat := 0x0B
abbrev cXmemFault : Nat := 0x0C
abbrev cDmaFault : Nat := 0x0D
abbrev cReach : Nat := 0x0E
abbrev cVopRange : Nat := 0x0F
abbrev cCtxFault : Nat := 0x10
abbrev cEmitTwice : Nat := 0x11
abbrev cNoEmit : Nat := 0x12
abbrev cDesc : Nat := 0x13
abbrev cDeadline : Nat := 0x14
abbrev cSibling : Nat := 0x15
abbrev cReclaim : Nat := 0x16
abbrev cRemote : Nat := 0x17

/-- The allowed format pairs of an MMA with the words of an A slot and a B slot and the rows of A in a slot (04 Table CORE-9). -/
def mmaPair : Fmt → Fmt → Option (Nat × Nat × Nat)
  | .int8, .int8 => some (1, 64, 1)
  | .int8, .int4 => some (1, 32, 1)
  | .int4, .int4 => some (1, 32, 2)
  | .e4m3, .e4m3 => some (1, 64, 1)
  | .e4m3, .e5m2 => some (1, 64, 1)
  | .e5m2, .e4m3 => some (1, 64, 1)
  | .e5m2, .e5m2 => some (1, 64, 1)
  | .bf16, .bf16 => some (2, 128, 1)
  | .fp16, .fp16 => some (2, 128, 1)
  | _, _ => none

/-- Whether a VOP function reads a B operand (04 Table CORE-11). -/
def vopReadsB (f : Nat) : Bool := [1, 2, 3, 4, 5, 6, 14].contains f

/-- Whether a VOP function allows USE_IMM (04 Table CORE-10). -/
def vopImmOk (f : Nat) : Bool := [1, 2, 3, 5, 6, 14].contains f

/-- Whether a VOP function is allowed with IFMT INT32 (05 R144). -/
def vopIntOk (f : Nat) : Bool := [0, 1, 2, 3, 5, 6, 7, 14, 15, 16].contains f

/-- The reserved fields and encodings of a command word (04 R112), by family. -/
def wordReserved (w : Nat) : Bool :=
  match wFamily w with
  | none => true
  | some .end_ | some .yield => decide (bits w 123 0 ≠ 0)
  | some .mma => decide (8 ≤ bits w 123 120) || decide (8 ≤ bits w 119 116) || decide (64 < bits w 97 91) || decide (bits w 78 0 ≠ 0)
  | some .vop =>
    let f := bits w 123 118
    let useImm := w.testBit 5
    decide (0x11 ≤ f) || decide (8 ≤ bits w 113 110) || decide (bits w 4 0 ≠ 0) ||
      ((!vopReadsB f || useImm) && decide (bits w 85 62 ≠ 0)) ||
      (!(decide (f = 4) || useImm) && decide (bits w 21 6 ≠ 0))
  | some .hankwait => decide (bits w 123 120 ≠ 0) || decide (bits w 79 0 ≠ 0)
  | some .depmark | some .lbar => decide (bits w 123 120 ≠ 0) || decide (bits w 111 0 ≠ 0)
  | some .dma => decide (bits w 123 120 ≠ 0) || decide (bits w 87 0 ≠ 0)
  | some .pat =>
    decide (bits w 123 122 = 3) || decide (bits w 48 0 ≠ 0) ||
      (!w.testBit 107 && decide (bits w 106 105 ≠ 0)) || (w.testBit 107 && decide (bits w 104 81 ≠ 0))
  | some .tagop =>
    decide (5 ≤ bits w 123 120) || decide (bits w 81 0 ≠ 0) ||
      (decide (bits w 123 120 = 4) && (decide (bits w 113 98 ≠ 0) || decide (bits w 97 82 ≠ 0)))
  | some .ctxload =>
    decide (bits w 123 120 ≠ 0) || decide (bits w 73 0 ≠ 0) || decide (9 ≤ bits w 79 76) || w.testBit 75 ||
      (w.testBit 74 && decide (bits w 95 76 ≠ 0))
  | some .ctxstore =>
    decide (bits w 123 120 ≠ 0) || decide (bits w 73 0 ≠ 0) || decide (9 ≤ bits w 79 76) || (w.testBit 74 && decide (bits w 95 76 ≠ 0))
  | some .emit => decide (bits w 95 88 = 0) || decide (bits w 87 0 ≠ 0)

/-- Fields valid in themselves but not allowed together (04 R112, CMD_FORMAT), as far as the word alone decides. -/
def wordFormat (w : Nat) : Bool :=
  match wFamily w with
  | some .mma =>
    (match Fmt.ofCode (bits w 123 120), Fmt.ofCode (bits w 119 116) with
     | some a, some b => (mmaPair a b).isNone
     | _, _ => true) || decide (bits w 115 110 = bits w 109 104)
  | some .vop =>
    let f := bits w 123 118
    let i := bits w 117 114
    let useImm := w.testBit 5
    !(decide (i = 4) || decide (i = 6) || decide (i = 7)) || (useImm && !vopImmOk f) ||
      (decide (i = 7) && (!vopIntOk f || (useImm && decide (f ≠ 14))))
  | some .hankwait => decide (bits w 119 114 ≠ 63)
  | some .pat => w.testBit 107 && decide (bits w 123 122 = 2)
  | some .emit => !(decide (bits w 123 120 = 4) || decide (bits w 123 120 = 6) || decide (bits w 123 120 = 7))
  | _ => false

/-- The package word addresses that the fields of a command word name (04 Tables CORE-10, CORE-13 to CORE-15). -/
def wordAddrs (w : Nat) : List Nat :=
  match wFamily w with
  | some .vop => [bits w 109 86, bits w 61 38] ++ (if vopReadsB (bits w 123 118) && !w.testBit 5 then [bits w 85 62] else [])
  | some .dma | some .ctxload | some .ctxstore | some .emit => [bits w 119 96]
  | some .pat => if w.testBit 107 then [] else [bits w 104 81]
  | _ => []

/-- The check of a command word at the issue pointer: reserved first, then format (04 R112). -/
def checkWord (w : Nat) : Option Nat :=
  if wordReserved w then some cCmdReserved else if wordFormat w then some cCmdFormat else none

end Sys2Proof.Machine
end

