-- ==== Sys2Proof/Machine/TaskOps.lean ====
section
/-! DEFINITION. Task slots and skeins of a core (04 R101 to R104, 07 R185 to R193): reading and changing them, the choice of the running task, and marking a task
for abort. -/

namespace Sys2Proof.Machine

/-- A task slot of a core. -/
def taskAt (c : Core) (n : Nat) : Task := c.tasks.getD n {}

/-- A task slot replaced. -/
def setTask (d : Dev) (i n : Nat) (t : Task) : Dev := modCore d i (fun c => { c with tasks := setAt c.tasks n t })

/-- A task slot changed. -/
def modTask (d : Dev) (i n : Nat) (f : Task → Task) : Dev := modCore d i (fun c => { c with tasks := modAt c.tasks n f })

/-- A skein of a core. -/
def skeinAt (c : Core) (n : Nat) : Skein := smGet {} c.skeins n

/-- A skein replaced. -/
def setSkein (d : Dev) (i n : Nat) (s : Skein) : Dev := modCore d i (fun c => { c with skeins := smSet {} c.skeins n s })

/-- Whether the debug group of a site's die is halted (19 R549). -/
def siteHalted (d : Dev) (i : Nat) : Bool := d.halted.contains (siteDie i)

/-! ### Skeins (07 R185 to R193) -/

/-- Words of the command skein of a task, in command words (04 Table CORE-2). -/
def Skein.cmdLen (s : Skein) : Nat := 4 * s.size * s.count

/-- Whether a slot is tagged full. -/
def Skein.full (s : Skein) (i : Nat) : Bool := s.tags.testBit i

/-- A tag set or cleared. -/
def Skein.setTag (s : Skein) (i : Nat) (v : Bool) : Skein :=
  { s with tags := if v then s.tags ||| 2 ^ i else if s.tags.testBit i then s.tags ^^^ 2 ^ i else s.tags }

/-- The slot after a slot (07 R185). -/
def Skein.next (s : Skein) (i : Nat) : Nat := if i + 1 < s.count then i + 1 else 0

/-- A producer's slot step (07 R185, R190). -/
def Skein.prodStep (s : Skein) : Skein :=
  let s1 := if s.tagged then s.setTag s.tail true else s
  { s1 with tail := s.next s.tail }

/-- A consumer's slot step (07 R185, R190). -/
def Skein.consStep (s : Skein) : Skein :=
  let s1 := if s.tagged then s.setTag s.head false else s
  { s1 with head := s.next s.head }

/-- The reset of a skein (07 R186): head and tail 0 and every tag empty; the roles end. -/
def Skein.reset (s : Skein) : Skein := { s with head := 0, tail := 0, tags := 0, prod := none, cons := none }

/-- The first word of a slot (07 R185). -/
def Skein.slotAddr (s : Skein) (i : Nat) : Nat := s.base + i * s.size

/-- Slots tagged full. -/
def Skein.fullCount (s : Skein) : Nat := ((List.range s.count).filter (fun i => s.full i)).length

/-! ### Command words -/

/-- The task's command skein. -/
def cmdSkein (c : Core) (t : Task) : Skein := skeinAt c (dSkein t.desc)

/-- The index of the command word at a program position (04 R104). -/
def wordIndex (c : Core) (t : Task) (pos : Nat) : Nat := (dStart t.desc + pos) % max 1 (cmdSkein c t).cmdLen

/-! ### Choosing and aborting (04 R102, R109, R125) -/

/-- The READY task with the earliest deadline, the lower slot on equal deadlines, leaving one slot out (04 R102). -/
def bestReady (c : Core) (skip : Option Nat) : Option Nat :=
  (List.range 8).foldl (fun best n =>
    let t := taskAt c n
    if decide (t.st = .ready) && decide (skip ≠ some n) then
      match best with
      | none => some n
      | some b => if dDeadline t.desc < dDeadline (taskAt c b).desc then some n else best
    else best) none

/-- A task switch counted: CORE_SWITCH and one timing-only choice (04 R109, 16 Table DET-2). -/
def countSwitch (d : Dev) (i : Nat) : Dev := cntInc (cntInc d (Reg.CORE_SWITCH_LO i)) (Reg.DET_TIMING_LO 0)

/-- A choice of the sequencer when no task runs (04 R102). A choice that follows a switch-mode block is counted (04 R109). -/
def chooseTask (d : Dev) (i : Nat) : Dev :=
  let c := coreAt d i
  match c.run with
  | some _ => d
  | none =>
    match bestReady c none with
    | none => d
    | some n =>
      let switched := decide ((taskAt c c.last).st = .blocked) && decide (c.last ≠ n)
      let d := setCore d i { c with run := some n, last := n, tasks := modAt c.tasks n (fun t => { t with st := .running }) }
      if switched then countSwitch d i else d

/-- A task marked for abort with a cause and the index of the word (04 R125): the first fault detected is recorded. It stops issuing at once. -/
def faultTask (d : Dev) (i n cause pos : Nat) : Dev :=
  let c := coreAt d i
  let t := taskAt c n
  if t.st = .empty ∨ t.fault.isSome then d
  else
    let d := setTask d i n { t with st := .aborting, cause := 7, fault := some (cause, wordIndex c t pos) }
    let d := if c.run = some n then modCore d i (fun c => { c with run := none }) else d
    chooseTask d i

end Sys2Proof.Machine
end

