-- ==== Sys2Proof/WellFormed.lean ====
section
/-! DEFINITION. Which terms of Instr are commands that the package's surroundings can send: the bounds on operands that their types do not carry. -/

namespace Sys2Proof
open Sys2Proof.Machine

/-- The channels of a memory controller: 32 of an HBM3E stack, 4 of an LPDDR 5X package (11 Table XMEM-1). -/
def chanOk (ctrl : Fin 12) (chan : Fin 32) : Bool := decide (ctrl.val < 4) || decide (chan.val < 4)

/-- A request that a port can pose at a bank (06 R156, R163): the VU's read ports read, its write port and the ring agent write. A read carries no bytes. Every
unit writes whole words, where the VU may leave the rest of a word to be filled with zeros; the DMA engine alone writes part of a word, as a locked
read-modify-write, at its own port or through the network port of another slice. The scrubber's own request is not posed from outside. -/
def bankReqOk (r : BankReq) : Bool :=
  match r.port.val with
  | 9 => false
  | 3 | 4 => !r.write && r.data.isEmpty && !r.rmw
  | 5 => r.write && !r.rmw && decide (r.off.val = 0) && !r.data.isEmpty && decide (r.data.length ≤ 64)
  | 7 => r.write && !r.rmw && decide (r.off.val = 0) && decide (r.data.length = 64)
  | p =>
    if !r.write then r.data.isEmpty && !r.rmw
    else if r.rmw then decide (p = 6 ∨ p = 8) && !r.data.isEmpty && decide (r.off.val + r.data.length ≤ 64)
    else decide (r.off.val = 0) && decide (r.data.length = 64)

/-- What a boot phase came to names sites, seams and channels once each. -/
def bootOutcomeOk : BootOutcome → Bool
  | .selftest sites seams => decide sites.Nodup && decide seams.Nodup
  | .memtrain fails => decide fails.Nodup && fails.all (fun x => chanOk x.1 x.2)
  | _ => true

/-- Whether a term is a command: each list has the length that the observed thing has, and each channel exists. -/
def Instr.wf : Instr → Bool
  | .bootPhaseComplete o => bootOutcomeOk o
  | .speedMonitorUpdate _ rates => decide (rates.length = 8)
  | .throttleEvaluation rs => decide (rs.length = 4)
  | .bankCycle _ _ fresh _ upset =>
    fresh.all bankReqOk && decide (fresh.map (·.port)).Nodup && upset.all (fun x => x.segs.all (fun e => decide (0 < e.bits.val)) && decide (x.segs.map (·.seg)).Nodup)
  | .laneDegradeCheck _ corr uncorr => decide (corr.length = 17) && decide (uncorr.length = 17)
  | .tsTrain _ _ ts _ => decide (ts.length = 32)
  | .tsStart _ _ ts _ => decide (ts.length = 32)
  | .flitReceive _ f => decide (f.length = 272)
  | .frameReceive _ _ f => !f.bytes.isEmpty
  | .channelUnitStart u c ready _ => chanOk u c && decide ready.Nodup
  | .channelError u c _ _ => chanOk u c
  | .channelMapOut u c => chanOk u c
  | .refresh u c _ _ => chanOk u c
  | .tgStart u c => chanOk u c
  | .tgStop u c _ => chanOk u c
  | .tgRunComplete u c => chanOk u c
  | .weightWrite u (some c) _ _ => chanOk u c
  | .mctpPacket b => !b.isEmpty
  | _ => true

end Sys2Proof
end

