-- ==== Sys2Proof/Machine/Scratch.lean ====
section
/-! DEFINITION. Scratchpad memory (06): reading and writing a word with its protection class, standing errors, injected errors, the bank arbiter and the
scrubber. -/

namespace Sys2Proof.Machine

/-- The number of a word over all slices. -/
def wordKey (site w : Nat) : Nat := site * 32768 + w

/-- The byte address of a word in the scratchpad memory of the model. -/
def wordAddr (site w : Nat) : Nat := wordKey site w * 64

/-- The word as stored, without its errors. -/
def rawWord (d : Dev) (site w : Nat) : List Byte := memRead d.mem.spad (wordAddr site w) 64

/-- The class of a word: true for weight class (06 R167). -/
def isWeight (d : Dev) (site w : Nat) : Bool := smGet false d.mem.cls (wordKey site w)

/-- The errors standing in a word. -/
def wordErr (d : Dev) (site w : Nat) : WordErr := smGet {} d.mem.err (wordKey site w)

/-- The errors of a word set. -/
def setErr (d : Dev) (site w : Nat) (e : WordErr) : Dev :=
  { d with mem := { d.mem with err := smSet {} d.mem.err (wordKey site w) e } }

/-- Whether the last write of a word carried an injection (06 R171). -/
def injected (d : Dev) (site w : Nat) : Bool := smGet false d.mem.inj (wordKey site w)

/-! ### What a read finds (06 R167, R169) -/

/-- Bytes of a segment: eight of 8 bytes in activation class, four of 16 in weight class (06 R167). -/
def segBytes (weight : Bool) : Nat := if weight then 16 else 8

/-- Segments of a word. -/
def segCount (weight : Bool) : Nat := if weight then 4 else 8

/-- The finding of one segment: what the code says, and what the segment's data then reads as. -/
inductive Finding where
  | clean (data : List Byte)
  | corrected (data : List Byte)
  | uncorrectable
  deriving DecidableEq, Repr

/-- The data that a segment reads as, when the code lets it out. -/
def Finding.data : Finding → List Byte
  | .clean b => b
  | .corrected b => b
  | .uncorrectable => []

/-- Whether a segment was corrected, rightly or not. -/
def Finding.isCorrected : Finding → Bool
  | .corrected _ => true
  | _ => false

/-- Bytes changed by a mask. -/
def maskBytes (m : Nat → Byte) (bs : List Byte) : List Byte := List.zipWith (fun k b => b ^^^ m k) (List.range bs.length) bs

/-- The lowest `n` bits of a segment as a mask (06 R172). -/
def lowBits (n k : Nat) : Byte := BitVec.ofNat 8 ((2 ^ n - 1) / 2 ^ (8 * k))

/-- The finding of a segment with inverted bits (06 R169): 1 bit is corrected in activation class, 1 or 2 in weight class; 2 or 3 are detected; of more the outcome is the
decoder's, a free value that the bits alone decide, and the lowest data bits of an injection read inverted when it sees nothing (R172). -/
def segFinding (weight : Bool) (e : SegErr) (bs : List Byte) : Finding :=
  let good := if weight then 2 else 1
  if e.bits.val = 0 then .clean bs
  else if e.bits.val ≤ good then .corrected bs
  else if e.bits.val ≤ good + 1 then .uncorrectable
  else
    match Config.eccOutcome weight e.bits.val e.pattern % 3 with
    | 0 => .uncorrectable
    | 1 => .corrected (maskBytes (fun k => Config.eccMask weight e.bits.val e.pattern k) bs)
    | _ => .clean (maskBytes (if e.pattern = 0 then lowBits e.bits.val else fun k => Config.eccMask weight e.bits.val e.pattern (k + 16)) bs)

/-- The finding of a segment of a word that is decoded with the other class's code. -/
def crossFinding (weight : Bool) (word : List Byte) (e : WordErr) (k : Nat) (bs : List Byte) : Finding :=
  let es := e.segs.map (fun x => (x.seg.val, x.bits.val, x.pattern))
  let out := maskBytes (Config.crossMask weight word es k) bs
  match Config.crossOutcome weight word es k % 3 with
  | 0 => .clean out
  | 1 => .corrected out
  | _ => .uncorrectable

/-- The class that a read decodes: the majority of the three copies (06 R167). -/
def classRead (d : Dev) (site w : Nat) : Bool := isWeight d site w != decide (2 ≤ (wordErr d site w).copies.val)

/-- The findings of the segments of a word, in order. -/
def findings (d : Dev) (site w : Nat) : List Finding :=
  let e := wordErr d site w
  let cls := classRead d site w
  let word := rawWord d site w
  (List.range (segCount cls)).map (fun k =>
    let bs := slice word (segBytes cls * k) (segBytes cls)
    if 2 ≤ e.copies.val then crossFinding cls word e k bs
    else
      match e.segs.find? (fun x => decide (x.seg.val = k)) with
      | some x => segFinding cls x bs
      | none => .clean bs)

/-! ### Counting and logging (06 R169, R171, Table SPAD-7) -/

/-- CORE_SPAD_ERR_INFO and ERR_SYN record the first error since clear; an uncorrectable one replaces a corrected one (06 Table SPAD-7).
The syndrome is not given and is a free value. -/
def recordErr (d : Dev) (site w : Nat) (uncorr weight : Bool) (source seg : Nat) : Dev :=
  let info := rd d (Reg.CORE_SPAD_ERR_INFO site)
  if info.getLsbD 31 && (!uncorr || info.getLsbD 30) then d
  else
    let (syn, d) := draw d
    let v := 2 ^ 31 + (if uncorr then 2 ^ 30 else 0) + (if weight then 2 ^ 29 else 0) + source % 4 * 2 ^ 27 + w
    let d := wr d (Reg.CORE_SPAD_ERR_INFO site) (BitVec.ofNat 32 v)
    wr d (Reg.CORE_SPAD_ERR_SYN site) (BitVec.ofNat 32 (seg * 2 ^ 20 + syn % (if weight then 2 ^ 17 else 2 ^ 8)))

/-- A site marked for a fence by the warden with a cause (06 R171, 17 R478): a site in service becomes SUSPECT; a decision is pending. -/
def wantFence (d : Dev) (site cause : Nat) : Dev :=
  let x := siteInfo d site
  match x.st with
  | .live => setSite d site { x with st := .suspect, deciding := true, mgmtFence := true, cause := cause }
  | .suspect | .promoting => setSite d site { x with deciding := true, mgmtFence := true, cause := cause }
  | _ => d

/-- `n` corrected errors counted, each a class C event, and the threshold of one second checked (06 R169, R171, Table SPAD-7). -/
def countCe (d : Dev) (site n : Nat) : Dev :=
  if n = 0 then d
  else
    let d := cntAdd (satAdd d (Reg.CORE_SPAD_CE_COUNT site) n) (Reg.ELOG_CNT_LO 0) n
    let c := coreAt d site
    let win := c.ceWindow + n
    let d := setCore d site { c with ceWindow := win }
    if fld d Reg.MGT_SPAD_CFG 28 16 < win then
      wantFence (elog 1 2 0x0202 site win (evt d (Reg.CORE_SPAD_STATUS site) 1)) site 3
    else d

/-- An uncorrectable detection: counts, events, the error log entry, and the hard error of 06 R171 (a word that reads uncorrectable again
after a write, the last write not injected). `cls` is the class of the log entry (06 Table SPAD-5). -/
def countUe (d : Dev) (site w : Nat) (weight : Bool) (source cls seg : Nat) : Dev :=
  let d := satAdd d (Reg.CORE_SPAD_UE_COUNT site) 1
  let d := evt d (Reg.CORE_SPAD_STATUS site) 0
  let d := recordErr d site w true weight source seg
  let d := elog cls 2 0x0201 site w d
  let c := coreAt d site
  if injected d site w then d
  else if smGet 0 c.ue w = 2 then
    wantFence (evt d (Reg.CORE_SPAD_STATUS site) 2) site 4
  else setCore d site { c with ue := smSet 0 c.ue w 1 }

/-- The stored bits of a word and its class replaced, with no error standing in it. -/
def putWord (d : Dev) (site w : Nat) (data : List Byte) (weight : Bool) : Dev :=
  { d with mem := { d.mem with
    spad := memWrite d.mem.spad (wordAddr site w) data
    cls := smSet false d.mem.cls (wordKey site w) weight
    err := smSet {} d.mem.err (wordKey site w) {} } }

/-- A read of a word (06 R169, Table SPAD-5): the data, or nothing when a segment is uncorrectable. `source` is the code of ERR_INFO, `cls` the class of
the log entry of an uncorrectable read. Copies of the class that disagree count one corrected error, which alone records nothing in ERR_INFO (DESIGN CHOICE, log entry 107); the segments of
a word that reads uncorrectable count none, for none is corrected (DEDUCED, log entry 107). A word with something corrected is rewritten as it was decoded. -/
def readWord (d : Dev) (site w : Nat) (source cls : Nat) : Option (List Byte) × Dev :=
  let e := wordErr d site w
  if e = {} then (some (rawWord d site w), d)
  else
    let weight := classRead d site w
    let fs := findings d site w
    let split := if e.copies.val = 1 ∨ e.copies.val = 2 then 1 else 0
    let d := countCe d site split
    match fs.findIdx? (fun f => decide (f = .uncorrectable)) with
    | some k => (none, countUe d site w weight source cls k)
    | none =>
      let data := (fs.map Finding.data).flatten
      match fs.findIdx? Finding.isCorrected with
      | none => (some data, if split = 1 then putWord d site w data weight else d)
      | some k =>
        let d := countCe (recordErr d site w false weight source k) site (fs.countP Finding.isCorrected)
        (some data, putWord d site w data weight)

/-- The flow context messages of an eviction that needs no write-back (14 R406): LEAVING and then NOTICE with the next tag, and the copy
gone. -/
def evictClean (d : Dev) (site : Nat) (h : HeldCtx) : Dev :=
  let e := smGet {} d.fcs.dir h.entry
  let t := (e.etag + 1) % 65536
  let c := canonAt d site
  let d := modCore d site (fun co => { co with held := co.held.filter (fun x => decide (x ≠ h)) })
  let d := cntInc d (Reg.FCS_CNT_LO 5)
  { d with fcs := { d.fcs with msgs := d.fcs.msgs ++ [.leaving c h.entry t, .notice c h.entry t] } }

/-- The words of a held copy read in the slice: nothing when one is uncorrectable. -/
def copyWords (site : Nat) : Nat → Nat → Dev → Option (List Byte) × Dev
  | _, 0, d => (some [], d)
  | addr, k + 1, d =>
    match readWord d site (addr % 32768) 0 2 with
    | (none, d) => (none, d)
    | (some x, d) =>
      match copyWords site (addr + 1) k d with
      | (none, d) => (none, d)
      | (some xs, d) => (some (x ++ xs), d)

/-- A clean unclaimed copy that is to leave (14 R402, R407). When a SNOOP for it has been sent, the two meet at the holder, which takes one of them first: a timing-only choice, counted, and a free value. With the
SNOOP first the copy's words go with it and the copy is gone; else it is evicted, which is answered true. -/
def yieldCopy (d : Dev) (site : Nat) (h : HeldCtx) : Bool × Dev :=
  let mine := fun (m : FlowMsg) => match m with | .snoop k e _ _ _ none => decide (k = canonAt d site) && decide (e = h.entry) | _ => false
  match d.fcs.msgs.find? mine with
  | some (.snoop k e r spad slot _) =>
    let (n, d) := draw (cntInc d (Reg.DET_TIMING_LO 4))
    if n % 2 = 0 then (true, evictClean d site h)
    else
      let (ws, d) := copyWords site h.spad h.words d
      let d := { d with fcs := { d.fcs with msgs := d.fcs.msgs.map (fun m => if mine m then .snoop k e r spad slot (some (ws.getD [])) else m) } }
      (false, modCore d site (fun co => { co with held := co.held.filter (fun x => decide (x ≠ h)) }))
  | _ => (true, evictClean d site h)

/-- Whether a held copy covers a package word address. -/
def HeldCtx.covers (h : HeldCtx) (addr : Nat) : Bool := decide (h.spad ≤ addr) && decide (addr < h.spad + h.words)

/-- The effect of a write on the held flow contexts of the slice: a claimed copy becomes DIRTY, an unclaimed one is evicted first and
counted, unless a SNOOP has taken it (14 R401, R402). -/
def touchHeld (d : Dev) (site w : Nat) : Dev :=
  let addr := sliceBase (canonAt d site) + w
  let c := coreAt d site
  match c.held.find? (fun h => h.covers addr && h.leaving.isNone) with
  | none => d
  | some h =>
    if h.claimed then
      setCore d site { c with held := c.held.map (fun x => if x = h then { h with dirty := true } else x) }
    else
      match yieldCopy d site h with
      | (true, d) => evt (cntInc d (Reg.FCS_CNT_LO 11)) Reg.FCS_EVT 4
      | (false, d) => d

/-- An armed injection lands on a write of its word: bits of the new code word are inverted or, when the class lacks the segment, INJECT_SKIP_EVT is set (06 R172). -/
def injectInto (d : Dev) (site w : Nat) (weight : Bool) : Dev :=
  let inj := rd d (Reg.CORE_SPAD_INJECT site)
  let d := { d with mem := { d.mem with inj := smSet false d.mem.inj (wordKey site w) false } }
  if inj.getLsbD 31 && decide (bits inj.toNat 14 0 = w) then
    let seg := bits inj.toNat 28 25
    let d := clrBit d (Reg.CORE_SPAD_INJECT site) 31
    if segCount weight ≤ seg then evt d (Reg.CORE_SPAD_STATUS site) 3
    else
      let d := { d with mem := { d.mem with inj := smSet false d.mem.inj (wordKey site w) true } }
      setErr d site w { segs := [{ seg := Fin.ofNat 8 seg, bits := Fin.ofNat 256 (bits inj.toNat 30 29), pattern := 0 }] }
  else d

/-- The stored bits of a word changed by a write, with its class; errors of the old word go with it, and an armed injection lands (06 R172). -/
def storeWord (d : Dev) (site w : Nat) (data : List Byte) (weight : Bool) : Dev :=
  let d := putWord d site w data weight
  let c := coreAt d site
  let d := if smGet 0 c.ue w = 1 then setCore d site { c with ue := smSet 0 c.ue w 2 } else d
  injectInto d site w weight

/-- A write of a whole word (06 R163, R164, R168). -/
def writeWord (d : Dev) (site w : Nat) (data : List Byte) (weight : Bool) : Dev :=
  storeWord (touchHeld d site w) site w (padTo 64 data) weight

/-- Bytes `off ..` of a word replaced. -/
def overlay (old : List Byte) (off : Nat) (data : List Byte) : List Byte := old.take off ++ data ++ old.drop (off + data.length)

/-- A locked read-modify-write that changes bytes `off ..` of a word and keeps its class (06 R163, R168). When the old word reads uncorrectable there is nothing to merge: nothing is written
(DESIGN CHOICE, log entry 108). -/
def mergeWord (d : Dev) (site w off : Nat) (data : List Byte) : Bool × Dev :=
  match readWord d site w 3 2 with
  | (none, d) => (false, d)
  | (some old, d) => (true, writeWord d site w (overlay old off data) (isWeight d site w))

/-- Clearing a slice: every word written as zero with activation-class check bits (06 R165), an armed injection among them. -/
def clearSlice (d : Dev) (site : Nat) : Dev :=
  let lo := site * 32768
  let hi := lo + 32768
  let d := { d with mem := { d.mem with
    spad := d.mem.spad.filter (fun x => !(decide (lo * 64 ≤ x.1) && decide (x.1 < hi * 64)))
    cls := d.mem.cls.filter (fun x => !(decide (lo ≤ x.1) && decide (x.1 < hi)))
    err := d.mem.err.filter (fun x => !(decide (lo ≤ x.1) && decide (x.1 < hi)))
    inj := d.mem.inj.filter (fun x => !(decide (lo ≤ x.1) && decide (x.1 < hi))) } }
  injectInto d site (fld d (Reg.CORE_SPAD_INJECT site) 14 0) false

/-! ### The bank arbiter (06 R156, R173 to R175) -/

/-- The bank of a word: w[5:0] (06 R154). -/
def bankOf (w : Nat) : Nat := w % 64

/-- The first element that satisfies a test, and the list without it. -/
def takeFirst {α : Type} (p : α → Bool) : List α → Option (α × List α)
  | [] => none
  | x :: xs => if p x then some (x, xs) else (takeFirst p xs).map (fun y => (y.1, x :: y.2))

/-- The scrubber's next word of a slice (06 Table SPAD-7). -/
def scrubNext (d : Dev) (site : Nat) : Nat := fld d (Reg.CORE_SPAD_SCRUB site) 14 0

/-- Whether the scrubber has waited 1 ms for the bank that it needs (06 R170). -/
def scrubStarved (d : Dev) (site : Nat) : Bool :=
  match (coreAt d site).scrubWait with
  | none => false
  | some t => decide (t + 1000000 ≤ d.now)

/-- The scrubber's request. -/
def scrubReq (d : Dev) (site : Nat) : BankReq :=
  { port := 9, write := false, word := Fin.ofNat 32768 (scrubNext d site), rmw := false, weight := false, off := 0, data := [], task := none }

/-- One request of several of equal standing: which is a timing-only choice, a free value, and is counted (06 R173, 16 Table DET-2). -/
def pickEqual (l : List BankReq) (d : Dev) : Option BankReq × Dev :=
  if l.length < 2 then (l.head?, d)
  else
    let (n, d) := draw (cntInc d (Reg.DET_TIMING_LO 2))
    (l[n % l.length]?, d)

/-- The request that the arbiter of a bank performs among those pending there (06 R173): a write to a row that is also read, a hank write, the starved scrubber, then
the others. The second branch is counted in CORE_SPAD_WR_FIRST. -/
def chooseReq (site : Nat) (here : List BankReq) (scrub : Option BankReq) (d : Dev) : Option BankReq × Dev :=
  match here.filter (fun x => x.write && here.any (fun y => !y.write && decide (y.word = x.word))) with
  | x :: xs => pickEqual (x :: xs) (cntInc d (Reg.CORE_SPAD_WR_FIRST_LO site))
  | [] =>
    match here.find? (fun x => x.write && decide (x.port = 7)), scrub with
    | some x, _ => (some x, d)
    | none, some x => (some x, d)
    | none, none => pickEqual here d

/-- A request performed (06 R163, R169, R174): a read answers its port, a read-modify-write is locked with its read done, a write is stored. A read that is uncorrectable aborts the task that posed it. -/
def performReq (site : Nat) (x : BankReq) (d : Dev) : Dev :=
  let w := x.word.val
  let lost := fun (d : Dev) =>
    match x.task with
    | some (i, n) => faultTask d i.val n.val cSpadUncorr (taskAt (coreAt d i.val) n.val).issue
    | none => d
  if x.rmw then
    match readWord d site w 3 2 with
    | (none, d) => lost d
    | (some _, d) => modCore d site (fun c => { c with locked := c.locked ++ [x] })
  else if x.write then writeWord d site w x.data (x.weight || decide (x.port = 7))
  else
    match readWord d site w (if x.port = 8 then 1 else 0) 2 with
    | (none, d) => lost d
    | (some data, d) => modCore d site (fun c => { c with bankOut := c.bankOut.filter (fun y => decide (y.1 ≠ x.port.val)) ++ [(x.port.val, data)] })

/-- The write of a locked read-modify-write. -/
def performLocked (site : Nat) (x : BankReq) (d : Dev) : Dev :=
  let d := modCore d site (fun c => { c with locked := c.locked.erase x })
  let w := x.word.val
  writeWord d site w (overlay (rawWord d site w) x.off.val x.data) (isWeight d site w)

/-- The scrubber's read of its next word (06 R170, Table SPAD-5), and the step to the word after it, with a pass counted at the end. -/
def scrubStep (site : Nat) (d : Dev) : Dev :=
  let a := Reg.CORE_SPAD_SCRUB site
  let w := scrubNext d site
  let d := (readWord d site w 2 1).2
  let d := if (coreAt d site).scrubWait = none then d else modCore d site (fun c => { c with scrubWait := none })
  if w = 32767 then setFld (setFld d a 31 16 (fld d a 31 16 + 1)) a 14 0 0 else setFld d a 14 0 (w + 1)

/-- One cycle of a bank in which `me` is pending too, when given: whether it is `me` that the arbiter grants, and the package after whatever else it performs. -/
def bankTurn (site bank : Nat) (me : Option BankReq) (d : Dev) : Bool × Dev :=
  let c := coreAt d site
  match c.locked.find? (fun x => decide (bankOf x.word.val = bank)) with
  | some x => (false, performLocked site x d)
  | none =>
    let here := c.bank.filter (fun x => decide (bankOf x.word.val = bank)) ++ me.toList
    let scrub := if scrubStarved d site && decide (bankOf (scrubNext d site) = bank) then some (scrubReq d site) else none
    match chooseReq site here scrub d with
    | (none, d) => (false, d)
    | (some x, d) =>
      if some x = me then (true, d)
      else if x.port = 9 then (false, scrubStep site d)
      else (false, performReq site x (modCore d site (fun c => { c with bank := c.bank.erase x })))

/-- The cycles of a bank until it grants `me`: whatever the arbiter puts before it is performed first. -/
def awaitGrant (site bank : Nat) (me : BankReq) : Nat → Dev → Dev
  | 0, d => d
  | n + 1, d =>
    match bankTurn site bank (some me) d with
    | (true, d) => d
    | (false, d) => awaitGrant site bank me n d

/-- An access of a port to a word waits its turn at the bank (06 R156, R173). -/
def takeTurn (d : Dev) (site w port : Nat) (write : Bool) : Dev :=
  let c := coreAt d site
  if c.bank = [] ∧ c.locked = [] then d
  else
    awaitGrant site (bankOf w) { port := Fin.ofNat 10 port, write := write, word := Fin.ofNat 32768 w, rmw := false, weight := false, off := 0, data := [], task := none }
      (2 * c.bank.length + c.locked.length + 2) d

/-- The ports of a slice's crossbar (06 R156). The MU and the sequencer, for which the spec names no port, take their turn as the others do. -/
abbrev portSeA : Nat := 0
abbrev portVuA : Nat := 3
abbrev portVuB : Nat := 4
abbrev portVuW : Nat := 5
abbrev portDma : Nat := 6
abbrev portRing : Nat := 7
abbrev portNet : Nat := 8

/-- A word read through a port: SOURCE of ERR_INFO is 1 for the network port (06 Table SPAD-7). -/
def portRead (d : Dev) (site w port : Nat) : Option (List Byte) × Dev :=
  readWord (takeTurn d site w port false) site w (if port = portNet then 1 else 0) 2

/-- A word written through a port. -/
def portWrite (d : Dev) (site w port : Nat) (data : List Byte) (weight : Bool) : Dev := writeWord (takeTurn d site w port true) site w data weight

/-- Part of a word written by the DMA engine through a port, with no other access to the bank between its read and its write (06 R163). -/
def portMerge (d : Dev) (site w port off : Nat) (data : List Byte) : Bool × Dev := mergeWord (takeTurn d site w port true) site w off data

/-- The requests that ports pose: a port with one still waiting, or with a locked read-modify-write under way, poses none (06 R156). -/
def poseReqs (c : Core) (bank : Nat) (fresh : List BankReq) : List BankReq :=
  fresh.foldl (fun l x =>
    if bankReqOk x && decide (bankOf x.word.val = bank) && !l.any (fun y => decide (y.port = x.port)) && !c.locked.any (fun y => decide (y.port = x.port)) then l ++ [x] else l) c.bank

/-- The errors of a word after more have come to stand in it: a segment's by those observed. -/
def WordErr.join (a b : WordErr) : WordErr :=
  { segs := a.segs.filter (fun x => !b.segs.any (fun y => decide (y.seg = x.seg))) ++ b.segs, copies := max a.copies b.copies }

/-- One cycle of a bank: `fresh` are the requests that arrive at this decision point, and `upset` an error that has come to stand in a word of the slice since the last cycle (an outside event). -/
def bankCycle (site : Nat) (bank : Nat) (fresh : List BankReq) (upset : Option (Fin 32768 × WordErr)) (d : Dev) : Dev :=
  let d := match upset with
    | some (w, e) => setErr d site w.val ((wordErr d site w.val).join e)
    | none => d
  let d := modCore d site (fun c => { c with bank := poseReqs c bank fresh })
  (bankTurn site bank none d).2

/-- SCRUB_READ (06 R170): the scrubber comes to its next word and reads it when no other port requests the bank; else it waits, and after 1 ms takes the bank's next cycle. -/
def scrubRead (site : Nat) (d : Dev) : Dev :=
  let c := coreAt d site
  let bank := bankOf (scrubNext d site)
  if (c.bank ++ c.locked).any (fun x => decide (bankOf x.word.val = bank)) then
    if c.scrubWait = none then setCore d site { c with scrubWait := some d.now } else d
  else scrubStep site d

end Sys2Proof.Machine
end

