-- ==== Sys2Proof/Machine/Timers.lean ====
section
/-! DEFINITION. The timers (15 R424 to R434, R438, R439): count events, matches, overflows and their actions, captures, global starts, pins, and the
tick of the timer block. -/

namespace Sys2Proof.Machine

/-! ### Station states (01 Table MODEL-4) -/

abbrev stReset : Nat := 0
abbrev stBoot : Nat := 1
abbrev stBootFailed : Nat := 2
abbrev stTrain : Nat := 3
abbrev stForming : Nat := 4
abbrev stReady : Nat := 5
abbrev stServing : Nat := 6
abbrev stDegraded : Nat := 7
abbrev stFolded : Nat := 8
abbrev stSplit : Nat := 9
abbrev stLost : Nat := 10
abbrev stHalted : Nat := 11
abbrev stSleep : Nat := 12
abbrev stSwapping : Nat := 13

/-! ### A timer's fields -/

/-- A timer. -/
def timerAt (d : Dev) (n : Nat) : Timer := smGet {} d.tim.timers n

/-- A timer replaced. -/
def setTimer (d : Dev) (n : Nat) (t : Timer) : Dev := { d with tim := { d.tim with timers := smSet {} d.tim.timers n t } }

/-- CFG fields of a timer (15 Table TIME-8). -/
def tmSrc (d : Dev) (n : Nat) : Nat := fld d (Reg.TIM_CFG n) 11 8
def tmSrcTimer (d : Dev) (n : Nat) : Nat := fld d (Reg.TIM_CFG n) 7 3
def tmLink (d : Dev) (n : Nat) : Nat := fld d (Reg.TIM_CFG n) 20 16
def tmGroup (d : Dev) (n : Nat) : Nat := fld d (Reg.TIM_CFG n) 30 28
def tmPreload (d : Dev) (n x : Nat) : Bool := (rd d (Reg.TIM_CFG n)).getLsbD (12 + x)
/-- Width of a timer in bits (15 R427). -/
def tmWidth (d : Dev) (n : Nat) : Nat := 16 * (fld d (Reg.TIM_CFG n) 1 0 + 1)
/-- The divisor N x 65,536 + F; N is 1 by default (15 R426). -/
def tmDiv (d : Dev) (n : Nat) : Nat := max 65536 (rdn d (Reg.TIM_PRESC n))
/-- Whether a timer is frozen: its debug group is halted and FREEZE is 1 (15 R433). -/
def tmFrozen (d : Dev) (n : Nat) : Bool := (rd d (Reg.TIM_CFG n)).getLsbD 31 && d.halted.contains (tmGroup d n)
/-- The action register of compare 0 to 3 or of the overflow, 4 (15 Table TIME-5). -/
def tmAct (d : Dev) (n y : Nat) : Nat := rdn d (Reg.TIM_ACT n y)

/-- The preloads copied into the compares in preload mode (15 R428). -/
def copyPreloads (d : Dev) (n : Nat) (t : Timer) : Timer :=
  { t with cmp := (List.range 4).map (fun x => if tmPreload d n x then t.pre.getD x 0 else t.cmp.getD x 0) }

/-- A load of 0 (15 R426, R428): the count and the prescaler's accumulator clear, preloads are copied. -/
def loadZero (d : Dev) (n : Nat) (t : Timer) : Timer := copyPreloads d n { t with count := 0, acc := 0 }

/-- What a count event does to a timer, with the events that occurred: compares 0 to 3 that match, 4 for an overflow (15 R427, R428). A match is evaluated
against the compares in force before a copy. -/
def countEvent (d : Dev) (n : Nat) (t : Timer) : Timer × List Nat :=
  let top := 2 ^ tmWidth d n
  let (t1, ovf) :=
    if t.selfReset then ({ loadZero d n t with selfReset := false }, false)
    else if t.count + 1 = top then ({ copyPreloads d n t with count := 0 }, true)
    else ({ t with count := t.count + 1 }, false)
  (t1, (List.range 4).filter (fun x => decide (t.cmp.getD x 0 = t1.count)) ++ (if ovf then [4] else []))

/-- The SELF actions of a list of events on their timer (15 Table TIME-5): RESET waits for the next count event; STOP stops; RESET and STOP stops and loads 0. -/
def selfActions (d : Dev) (n : Nat) (evs : List Nat) (t : Timer) : Timer :=
  evs.foldl (fun t y =>
    match tmAct d n y % 4 with
    | 1 => { t with selfReset := true }
    | 2 => { t with running := false }
    | 3 => { loadZero d n t with running := false }
    | _ => t) t

/-- A source event presented to the prescaler (15 R426): whether a count event occurs. -/
def prescale (d : Dev) (n : Nat) (t : Timer) : Timer × Bool :=
  let a := t.acc + 65536
  if tmDiv d n ≤ a then ({ t with acc := a - tmDiv d n }, true) else ({ t with acc := a }, false)

/-- A source event of a timer that runs and is not frozen, through prescaler, counter and SELF actions, with the events that occurred. -/
def sourceEvent (d : Dev) (n : Nat) (t : Timer) : Timer × List Nat :=
  let (t, hit) := prescale d n t
  if hit then
    let (t, evs) := countEvent d n t
    (selfActions d n evs { t with ovf := t.ovf || evs.contains 4 }, evs)
  else (t, [])

/-! ### Outward actions -/

/-- A pulse on the pins of a mask: each is asserted for its WIDTH from this tick; a WIDTH of 0 asserts nothing (15 R430, R434). -/
def pulse (d : Dev) (mask : Nat) : Dev :=
  { d with tim := { d.tim with left := (List.range 4).map (fun p =>
      if mask.testBit p then fld d (Reg.TIM_OUT_CFG p) 15 0 else d.tim.left.getD p 0) } }

/-- The LINKED action of a code on a timer at the next tick: bit 0 RESET, bit 1 START (15 Table TIME-5). -/
def linkAct (d : Dev) (n code : Nat) : Dev :=
  if code = 0 then d
  else
    let t := timerAt d n
    setTimer d n { t with linkReset := t.linkReset || code.testBit 0, linkStart := t.linkStart || code.testBit 1 }

/-- BEAT asserted. -/
def beatNow (d : Dev) : Dev := { d with tim := { d.tim with beat := true } }

/-- Whether a sleep barrier is in flight at this station. -/
def sleepInFlight (d : Dev) : Bool := d.ring.voted.any (fun t => decide (t.kind = 8)) || d.ring.commits.any (fun t => decide (t.kind = 8))

/-- An EVENT of a timer: its management event and the alert; while a sleep barrier is in flight it is a wake event kept for the entry to SLEEP (03 R89). -/
def timerEvent (n : Nat) (d : Dev) : Dev :=
  let e := alert (evt d Reg.TIM_MEVT n) 4
  if sleepInFlight e then { e with pwr := { e.pwr with wakeDue := true } } else e

/-- The actions of one event of a timer other than SELF, and its status bit. `beats` is false in SLEEP, where BEAT is ignored (15 R438). -/
def outward (beats : Bool) (n : Nat) (d : Dev) (y : Nat) : Dev :=
  let a := tmAct d n y
  let d := pulse (linkAct (evt d (Reg.TIM_STATUS n) y) (tmLink d n) (bits a 3 2)) (bits a 7 4)
  let d := if beats && a.testBit 8 then beatNow d else d
  if a.testBit 9 then timerEvent n d else d

/-- The outward actions of the events of a timer. -/
def outwards (beats : Bool) (d : Dev) (n : Nat) (evs : List Nat) : Dev := evs.foldl (fun d y => outward beats n d y) d

/-! ### Captures (15 R431) -/

/-- A capture of a timer: the count stored, CAP_EVT set, and CAP_OVR when it was set already. -/
def capture (n k : Nat) (d : Dev) : Dev :=
  let t := timerAt d n
  let overrun := (rd d (Reg.TIM_STATUS n)).getLsbD (8 + k)
  let d := setTimer d n { t with cap := setAt t.cap k t.count }
  let d := evt d (Reg.TIM_STATUS n) (8 + k)
  if overrun then evt d (Reg.TIM_STATUS n) (10 + k) else d

/-! ### The tick -/

/-- Whether a timer sees a source event at a tick outside SLEEP (15 Table TIME-4), given the device time before and after the tick and whether the timer it counts
overflowed at the tick before. SYSREF_100 rises every 10 ns and XT_32K every 1/32,768 s of device time (log entry 12); the TIMIN pins do not move here. -/
def seesEvent (src before after : Nat) (ovf : Bool) : Bool :=
  match src with
  | 0 => decide (before / 10 < after / 10)
  | 1 => true
  | 2 => decide (before * 32768 / 10 ^ 9 < after * 32768 / 10 ^ 9)
  | 7 => ovf
  | _ => false

/-- Linked actions and a global start at a tick, after the count event: every RESET applies, and a STOP of this tick wins over a START (15 R429, R430, R432). -/
def startsAt (d : Dev) (n : Nat) (gs gr stopped : Bool) (t0 t : Timer) : Timer :=
  let t := if t0.linkReset || gr then loadZero d n t else t
  if (t0.linkStart || gs) && !stopped then { t with running := true } else t

/-- Whether an armed global start acts at a tick that carries device time to `after`. -/
def gstartDue (g : GStart) (after : Nat) : Bool := g.immediate || decide (g.at_ ≤ after)

/-- The timer block's part of a tick: each timer from the state before the tick, then the outward actions of all of them. -/
def tickTimers (before after : Nat) (gmask : Nat) (greset : Bool) (d : Dev) : Dev :=
  let old := d
  let run := (List.range 32).map (fun n =>
    let t0 := timerAt old n
    let t := { t0 with linkReset := false, linkStart := false, ovf := false }
    let live := t0.running && !tmFrozen old n && seesEvent (tmSrc old n) before after (timerAt old (tmSrcTimer old n)).ovf
    let (t1, evs) := if live then sourceEvent old n t else (t, [])
    let stopped := t0.running && !t1.running
    (n, startsAt old n (gmask.testBit n) (gmask.testBit n && greset) stopped t0 t1, evs))
  let d := run.foldl (fun d x => setTimer d x.1 x.2.1) d
  run.foldl (fun d x => outwards true d x.1 x.2.2) d

/-- The pins' WIDTH counted down by one tick (15 R434). -/
def tickPins (d : Dev) : Dev := { d with tim := { d.tim with left := d.tim.left.map (fun k => k - 1) } }

/-- A global start due at device time `after`: its mask and RESET, with ARMED cleared; late when AT was reached before this tick (15 R432). -/
def takeGstart (before after : Nat) (d : Dev) : (Nat × Bool) × Dev :=
  match d.tim.gstart with
  | none => ((0, false), d)
  | some g =>
    if gstartDue g after then
      let d := { d with tim := { d.tim with gstart := none } }
      let d := if !g.immediate && decide (g.at_ ≤ before) then evt d Reg.TIM_GSTATUS 1 else d
      ((rdn d Reg.TIM_GSTART_MASK, g.reset), d)
    else ((0, false), d)

/-- One cycle of TIME_500 outside SLEEP (15 R415, R425): device time advances by 2 ns and the timer block ticks. -/
def timeTick (d : Dev) : Dev :=
  if d.tim.stopped then d
  else
    let before := d.now
    let after := (d.now + 2) % 2 ^ 64
    let d := tickPins { d with now := after }
    let ((mask, res), d) := takeGstart before after d
    tickTimers before after mask res d

/-! ### SLEEP (15 R438) -/

/-- `k` source events of a timer, with the events that occurred, each once. -/
def sourceEvents (d : Dev) (n : Nat) : Nat → Timer × List Nat → Timer × List Nat
  | 0, r => r
  | k + 1, (t, evs) =>
    if t.running then
      let (t', e) := sourceEvent d n t
      sourceEvents d n k (t', evs ++ e.filter (fun y => !evs.contains y))
    else (t, evs)

/-- `k` source events of a timer, with the number of overflows, which other timers count. -/
def countOvf (d : Dev) (n : Nat) : Nat → Timer → Nat
  | 0, _ => 0
  | k + 1, t =>
    if t.running then
      let (t', e) := sourceEvent d n t
      (if e.contains 4 then 1 else 0) + countOvf d n k t'
    else 0

/-- The whole source events that a timer accrues at a sleep tick and the fraction it keeps, in 1/128 of an event. -/
def accrued (src frac : Nat) : Nat × Nat :=
  match src with
  | 0 => ((frac + 390625) / 128, (frac + 390625) % 128)
  | 1 => ((frac + 1953125) / 128, (frac + 1953125) % 128)
  | 2 => (1, frac)
  | _ => (0, frac)

/-- Whether the pin that a timer counts shows, at a sleep tick, an edge that SRC_EDGE selects since the last (15 R438): `pins` are the levels sampled. -/
def pinEdge (d : Dev) (pins n : Nat) : Bool :=
  let p := tmSrc d n - 3
  let was := d.tim.pins.testBit p
  let is := pins.testBit p
  match fld d (Reg.TIM_CFG n) 27 26 with
  | 0 => !was && is
  | 1 => was && !is
  | 2 => was != is
  | _ => false

/-- The source events of a timer at a sleep tick: those of its own source, or the overflows of the timer it counts, followed up a chain of at most 32 timers. -/
def sleepEvents (d : Dev) (pins : Nat) : Nat → Nat → Nat
  | 0, _ => 0
  | fuel + 1, n =>
    let t := timerAt d n
    if !t.running || tmFrozen d n then 0
    else if tmSrc d n = 7 then
      let s := tmSrcTimer d n
      countOvf d s (sleepEvents d pins fuel s) (timerAt d s)
    else if 3 ≤ tmSrc d n ∧ tmSrc d n ≤ 6 then (if pinEdge d pins n then 1 else 0)
    else (accrued (tmSrc d n) t.frac).1

/-- The timer block's part of a sleep tick: the events of each timer, SELF actions inside, and the outward actions once at the end, BEAT ignored. -/
def sleepTimers (pins gmask : Nat) (greset : Bool) (d : Dev) : Dev :=
  let old := d
  let run := (List.range 32).map (fun n =>
    let t0 := timerAt old n
    let t := { t0 with linkReset := false, linkStart := false, ovf := false }
    let live := t0.running && !tmFrozen old n
    let (t1, evs) := if live then sourceEvents old n (sleepEvents old pins 32 n) (t, []) else (t, [])
    let t1 := if live then { t1 with frac := (accrued (tmSrc old n) t0.frac).2, ovf := false } else t1
    let stopped := t0.running && !t1.running
    (n, startsAt old n (gmask.testBit n) (gmask.testBit n && greset) stopped t0 t1, evs))
  let d := run.foldl (fun d x => setTimer d x.1 x.2.1) { d with tim := { d.tim with pins := pins } }
  run.foldl (fun d x => outwards false d x.1 x.2.2) d

/-- Device time rounded down to an even number at wake, and the fractions of the timers dropped (15 R439). -/
def wakeTime (d : Dev) : Dev :=
  let d := { d with now := d.now / 2 * 2, tim := { d.tim with frac := 0 } }
  (List.range 32).foldl (fun d n => setTimer d n { timerAt d n with frac := 0 }) d

/-- Ticks of TIMER_31 between beats: CMP_A + 1 (15 R435). -/
def beatPeriod (d : Dev) : Nat := (timerAt d 31).cmp.getD 0 0 + 1

/-- TIMER_31 restarted on the grid of device times that are multiples of 2 x P (15 R436): its count is the ticks since the last point of the grid. -/
def alignBeats (d : Dev) : Dev :=
  let p := beatPeriod d
  let k := d.now / 2 % p
  let t := timerAt d 31
  setTimer d 31 { t with count := (k + p - 1) % p, acc := 0, selfReset := decide ((k + p - 1) % p = p - 1) }

/-! ### Commands -/

/-- The edges of a TIMIN pin up to the one whose count event gives event `y`: the edges come from outside, and the command stands for all of them since the timer's last event. Nothing happens when another event would come first. -/
def countTo (n y : Nat) (d : Dev) : Dev :=
  let t := timerAt d n
  if !t.running || tmFrozen d n then d
  else
    let top := 2 ^ tmWidth d n
    let target := if y = 4 then 0 else t.cmp.getD y 0
    let prev := if target = 0 then top - 1 else target - 1
    let near := !t.selfReset && decide (t.count ≤ prev) &&
      (List.range 4).all (fun x => !(decide (t.count < t.cmp.getD x 0) && decide (t.cmp.getD x 0 ≤ prev)))
    let t := if near then { t with count := prev } else t
    let (t1, evs) := countEvent d n t
    if evs.contains y && decide (d.code ≠ stSleep) then
      outwards true (setTimer d n (selfActions d n evs { t1 with ovf := t1.ovf || evs.contains 4 })) n evs
    else d

/-- Whether a timer counts edges of a TIMIN pin, which come from outside (15 Table TIME-4). -/
def pinTimed (d : Dev) (n : Nat) : Bool := decide (3 ≤ tmSrc d n) && decide (tmSrc d n ≤ 6)

/-- The events that the next tick gives a timer that counts a source of the package's own. -/
def nextEvents (d : Dev) (n : Nat) : List Nat :=
  let t := timerAt d n
  if !d.tim.stopped && t.running && !tmFrozen d n && seesEvent (tmSrc d n) d.now ((d.now + 2) % 2 ^ 64) (timerAt d (tmSrcTimer d n)).ovf then (sourceEvent d n t).2 else []

/-- An event of a timer: the count event of an edge at a pin, or the next tick where that tick gives the event; nothing otherwise, and nothing in SLEEP, where SLEEP_TICK is the clock. -/
def timerRow (n y : Nat) (d : Dev) : Dev :=
  if pinTimed d n then countTo n y d
  else if decide (d.code ≠ stSleep) && (nextEvents d n).contains y then timeTick d
  else d

/-- TIMER_COMPARE_MATCH (15 R428). -/
def devTimerCompareMatch (n : Fin 32) (x : Fin 4) (d : Dev) : Dev := timerRow n.val x.val d

/-- TIMER_OVERFLOW (15 R427). -/
def devTimerOverflow (n : Fin 32) (d : Dev) : Dev := timerRow n.val 4 d

/-- TIMER_CAPTURE (15 R431): the trigger that CAP_CFG selects is presented. -/
def devTimerCapture (n : Fin 32) (k : Fin 2) (d : Dev) : Dev :=
  let src := fld d (Reg.TIM_CAP_CFG n.val) (4 * k.val + 3) (4 * k.val)
  if 1 ≤ src ∧ src ≤ 9 then capture n.val k.val d else d

/-- SWCAP_0 (15 R431). -/
def devSwcap0 (n : Fin 32) (d : Dev) : Dev := capture n.val 0 d

/-- SWCAP_1 (15 R431). -/
def devSwcap1 (n : Fin 32) (d : Dev) : Dev := capture n.val 1 d

/-- Whether a management write to a timer's registers is shut by the boot lock: TIMER_31 is RWL (15 R424). -/
def tmLocked (d : Dev) (n : Nat) : Bool := decide (n = 31) && (rd d Reg.BOOT_STATUS).getLsbD 31

/-- TIMER_START (15 R429): a stopped timer runs; a running one is unchanged. -/
def devTimerStart (n : Fin 32) (d : Dev) : Dev :=
  if tmLocked d n.val then d else setTimer d n.val { timerAt d n.val with running := true }

/-- TIMER_STOP (15 R429): the accumulator is unchanged (15 R426). -/
def devTimerStop (n : Fin 32) (d : Dev) : Dev :=
  if tmLocked d n.val then d else setTimer d n.val { timerAt d n.val with running := false }

/-- TIMER_RESET (15 R426): a load of 0, which makes no match (15 R428). -/
def devTimerReset (n : Fin 32) (d : Dev) : Dev :=
  if tmLocked d n.val then d else setTimer d n.val (loadZero d n.val (timerAt d n.val))

/-- GSTART_GO (15 R432): a start is armed in place of any other; an odd AT is reserved, and a GO that would wait for it is refused (DESIGN CHOICE, log entry 106). -/
def devGstartGo (immediate reset : Bool) (d : Dev) : Dev :=
  let at_ := rdn d Reg.TIM_GSTART_AT_LO + 2 ^ 32 * rdn d Reg.TIM_GSTART_AT_HI
  if !immediate && decide (at_ % 2 = 1) then d
  else { d with tim := { d.tim with gstart := some { at_ := at_, immediate := immediate, reset := reset } } }

/-- GLOBAL_START (15 R432): the tick of the armed start; nothing while none is due at the next tick. -/
def devGlobalStart (d : Dev) : Dev :=
  match d.tim.gstart with
  | some g => if gstartDue g (d.now + 2) && decide (d.code ≠ stSleep) then timeTick d else d
  | none => d

/-- PULSE_WIDTH_EXPIRY (15 R434): the ticks of a pulse elapse and the pin deasserts. -/
def devPulseWidthExpiry (p : Fin 4) (d : Dev) : Dev := { d with tim := { d.tim with left := setAt d.tim.left p.val 0 } }

/-- A write of COUNT, CFG or PRESC is refused while the timer runs (15 R427). -/
def tmBusy (d : Dev) (n : Nat) : Bool := (timerAt d n).running

end Sys2Proof.Machine
end

