-- ==== Sys2Proof/Machine/TimeBase.lean ====
section
/-! DEFINITION. The time base (15 R415 to R423): the references and their validity, the switch from one to another, steps and slews. -/

namespace Sys2Proof.Machine

/-! ### References (15 R418, R419). Index 0 is PTP_0, 1 PTP_1, 2 PPS_IN; the code is one more -/

/-- Whether the configuration enables a reference. -/
def refEnabled (d : Dev) (r : Nat) : Bool := (rd d Reg.TBS_CFG).getLsbD r

/-- Whether a reference is valid. -/
def refValid (d : Dev) (r : Nat) : Bool := refEnabled d r && d.tim.valid.getD r false

/-- The order of the dataset comparison on masters (15 R418; IEEE 1588, log entry 13): the first field that differs decides, lower is better. -/
def masterKey (m : PtpMaster) : List Nat := [m.prio1, m.clsAcc, m.variance, m.prio2, beNat m.gm, m.steps, beNat m.port]

/-- Lexicographic order. -/
def lexLt : List Nat → List Nat → Bool
  | x :: xs, y :: ys => if x < y then true else if y < x then false else lexLt xs ys
  | _, _ => false

/-- Whether the master of ETH_1 wins over that of ETH_0: on equal datasets PTP_0 is better. -/
def ptp1Better (d : Dev) : Bool :=
  match (d.tim.ptp.getD 0 {}).master, (d.tim.ptp.getD 1 {}).master with
  | some a, some b => lexLt ((masterKey b).take 6) ((masterKey a).take 6)
  | none, some _ => true
  | _, none => false

/-- The codes of references from the best to the worst, HOLDOVER last (15 Table TIME-1). -/
def refOrder (d : Dev) : List Nat := if ptp1Better d then [2, 1, 3, 0] else [1, 2, 3, 0]

/-- Whether a reference of a code is valid; HOLDOVER always is. -/
def codeValid (d : Dev) (c : Nat) : Bool := if c = 0 then true else refValid d (c - 1)

/-- The best valid reference. -/
def bestRef (d : Dev) : Nat := ((refOrder d).find? (codeValid d)).getD 0

/-- Whether reference code `a` is better than `b`. -/
def refBetter (d : Dev) (a b : Nat) : Bool :=
  decide ((indexIn' a (refOrder d)) < indexIn' b (refOrder d))
where
  /-- Position in the order. -/
  indexIn' (x : Nat) (l : List Nat) : Nat := (l.findIdx? (fun y => decide (y = x))).getD 4

/-- QUAL_WIN and REQUAL in ns. -/
def qualWin (d : Dev) : Nat := 1000 * fld d Reg.TBS_CFG 31 16
def requalTime (d : Dev) : Nat := 1000000000 * fld d Reg.TBS_CFG2 31 16

/-- CANDIDATE while QUALIFYING (15 R420): the best valid reference other than the lost one, one that was requalifying included (15 R422); 0xF none. -/
def candidateOf (d : Dev) : Nat :=
  if d.tim.phase ≠ 3 then 15
  else
    match d.tim.lost with
    | none => 15
    | some l => ((refOrder d).find? (fun c => c != 0 && c != l && codeValid d c)).getD 15

/-- Whether R416 allows a step now. -/
def stepOk (d : Dev) : Bool := [stReset, stBoot, stTrain, stForming, stReady, stSleep].contains d.code

/-! ### Steering -/

/-- TBS_CFG fields. -/
def slewMax (d : Dev) : Nat := fld d Reg.TBS_CFG2 8 0

/-- A steering within SLEW_MAX: how hard the time base steers is not given, and is a free value (log entry 3). -/
def steer (d : Dev) : Dev :=
  let (n, d) := draw d
  let m := 1000 * slewMax d
  { d with tim := { d.tim with freq := (n % (2 * m + 1) : Nat) - (m : Int) } }

/-- An offset found where no step is allowed: above 1 ms, TIME_FAR_EVT, an alert and slewing at SLEW_MAX (15 R416). -/
def farOffset (d : Dev) (off : Int) : Dev :=
  if 1000000 < off.natAbs ∧ stepOk d = false then
    let d := elog 1 12 0x0C02 0 0 (alert (evt d Reg.TBS_EVT 5) 3)
    { d with tim := { d.tim with freq := if off < 0 then -(1000 * slewMax d : Nat) else (1000 * slewMax d : Nat) } }
  else d

/-- The device times that a PTP clock holds, moved with a step. -/
def PtpClock.shift (c : PtpClock) (off : Int) : PtpClock :=
  let mv := fun (t : Nat) => ((t : Int) + off).toNat
  { c with foreign := c.foreign.map (fun f => { f with last := mv f.last, prev := f.prev.map mv }), reqLast := c.reqLast.map mv }

/-- The starts of the intervals under way, moved with a step: every interval of the package counts TIME_500, which a step does not touch (15 R424). What holds a value of device
time itself (an arrival, a deadline, a release instant, a log entry) keeps it (log entry 129). -/
def shiftTimes (off : Int) (d : Dev) : Dev :=
  let mv := fun (t : Nat) => ((t : Int) + off).toNat
  let dir := d.fcs.dir.map (fun x => (x.1, if x.2.st = .free then x.2 else { x.2 with lastEnd := mv x.2.lastEnd }))
  { d with
    wdn := { d.wdn with sites := d.wdn.sites.map (fun x => (x.1, { x.2 with suspects := x.2.suspects.map mv })), seams := d.wdn.seams.map (fun x => { x with suspects := x.suspects.map mv }) }
    fcs := { d.fcs with dir := dir }
    ports := d.ports.map (fun p => { p with protoAt := p.protoAt.map mv })
    ring := { d.ring with rStart := mv d.ring.rStart, pStart := mv d.ring.pStart }
    rvp := { d.rvp with
      sess := d.rvp.sess.map (fun x => (x.1, { x.2 with idleFrom := mv x.2.idleFrom, rise := mv x.2.rise }))
      reqs := d.rvp.reqs.map (fun x => (x.1, { x.2 with opened := mv x.2.opened }))
      loads := d.rvp.loads.map (fun l => l.map (fun x => { x with lastAck := mv x.lastAck })) }
    eth := { d.eth with sp := d.eth.sp.map (fun x => (x.1, { x.2 with queue := x.2.queue.map (fun f => { f with time := mv f.time }) })) }
    tim := { d.tim with requalFrom := mv d.tim.requalFrom, lostFrom := mv d.tim.lostFrom, ppsLast := d.tim.ppsLast.map mv, ptp := d.tim.ptp.map (fun c => c.shift off) }
    boot := { d.boot with bootFrom := mv d.boot.bootFrom, trainFrom := mv d.boot.trainFrom } }

/-- A step of device time (15 R415, R416, R436): the value loaded is even; from a PTP reference it makes TOD_VALID 1; the beats are realigned. -/
def stepTime (d : Dev) (off : Int) : Dev :=
  let t : Nat := ((d.now : Int) + off).toNat / 2 * 2 % 2 ^ 64
  let d := shiftTimes ((t : Int) - d.now) d
  let d := { d with now := t, tim := { d.tim with offset := 0, todValid := d.tim.todValid || decide (d.tim.current = 1 ∨ d.tim.current = 2) } }
  alignBeats (cntInc (evt d Reg.TBS_EVT 4) (Reg.TBS_CNT_LO 3))

/-- The offset measured after a commit or a cancel: stepped where R416 allows it and it exceeds 1 ms, slewed otherwise (15 R423). In HOLDOVER the steering stays as it is
held (15 R419; log entry 129). -/
def removeOffset (d : Dev) (off : Int) : Dev :=
  let d := { d with tim := { d.tim with offset := off, phase := 2 } }
  if d.tim.current = 0 then { d with tim := { d.tim with offset := 0 } }
  else if 1000000 < off.natAbs ∧ stepOk d = true then steer (stepTime d off)
  else farOffset (steer d) off

/-- A sample of the offset of a reference: the measurement of the current one (15 R423). -/
def noteOffset (d : Dev) (code : Nat) (off : Int) : Dev :=
  if d.tim.current = code then farOffset (steer { d with tim := { d.tim with offset := off } }) off else d

/-! ### Validity and requalification -/

/-- Requalification (15 R422): after the first commit and while no switch is in progress, the best valid reference that is better than the current one
requalifies; a change of it starts its time again. -/
def refCheck (d : Dev) : Dev :=
  let b := bestRef d
  if d.tim.first || decide (d.tim.phase = 3) || decide (d.code = stSleep) then { d with tim := { d.tim with requal := none } }
  else if codeValid d d.tim.current && refBetter d b d.tim.current then
    if d.tim.requal = some b then d else { d with tim := { d.tim with requal := some b, requalFrom := d.now } }
  else { d with tim := { d.tim with requal := none } }

/-- A reference becomes valid. -/
def refUp (d : Dev) (r : Nat) : Dev :=
  if !refEnabled d r || d.tim.valid.getD r false then d
  else refCheck { d with tim := { d.tim with valid := setAt d.tim.valid r true } }

/-- A reference becomes invalid; its requalification ends. -/
def refDown (d : Dev) (r : Nat) : Dev :=
  if d.tim.valid.getD r false then
    let d := { d with tim := { d.tim with valid := setAt d.tim.valid r false, requal := if d.tim.requal = some (r + 1) then none else d.tim.requal } }
    refCheck d
  else d

/-! ### Commands -/

/-- REFERENCE_LOSS (15 R420, Table TIME-3 steps 1 and 2): the current reference is invalid; HOLDOVER at once and PHASE QUALIFYING. -/
def devReferenceLoss (d : Dev) : Dev :=
  let c := d.tim.current
  if c = 0 ∨ c = 4 ∨ codeValid d c = true then d
  else
    let d := { d with tim := { d.tim with current := 0, lost := some c, lostFrom := d.now, phase := 3, requal := none } }
    elog 1 12 0x0C01 0 c (steer (cntInc (evt d Reg.TBS_EVT 2) (Reg.TBS_CNT_LO 2)))

/-- Whether a commit of the time base is due: QUAL_WIN has run from the loss, or a reference is acquired for the first time (15 R420, R422). -/
def commitDue (d : Dev) : Bool :=
  if d.tim.phase = 3 then decide (d.tim.lostFrom + qualWin d ≤ d.now) else d.tim.first && decide (bestRef d ≠ 0)

/-- The reference that a commit takes: the best valid one, HOLDOVER when there is none. A lost reference that returns in the cycle of the commit is not taken: it requalifies (15 R420, R421). -/
def commitRef (d : Dev) : Nat :=
  if d.tim.phase = 3 then ((refOrder d).find? (fun c => decide (some c ≠ d.tim.lost) && codeValid d c)).getD 0 else bestRef d

/-- REFERENCE_COMMIT (15 R420, R422): the end of QUAL_WIN, or the first acquisition, which no loss precedes and so no window (DEDUCED, log entry 122); the best valid reference becomes current. -/
def devReferenceCommit (off : Int) (d : Dev) : Dev :=
  let b := commitRef d
  if d.code = stSleep ∨ commitDue d = false then d
  else
    let d := { d with tim := { d.tim with current := b, lost := none, first := false } }
    let d := cntInc (evt d Reg.TBS_EVT 0) (Reg.TBS_CNT_LO 0)
    let d := if b = 0 then evt d Reg.TBS_EVT 3 else d
    refCheck (removeOffset d off)

/-- REFERENCE_CANCEL (15 R421): the lost reference is valid again before the commit; a return in the cycle of the commit does not cancel. -/
def devReferenceCancel (off : Int) (d : Dev) : Dev :=
  match d.tim.lost with
  | none => d
  | some c =>
    if d.tim.phase = 3 ∧ codeValid d c = true ∧ commitDue d = false then
      let d := { d with tim := { d.tim with current := c, lost := none } }
      refCheck (removeOffset (cntInc (evt d Reg.TBS_EVT 1) (Reg.TBS_CNT_LO 1)) off)
    else d

/-- REQUAL_COMMIT (15 R422): a better reference has been valid for REQUAL and becomes current. -/
def devRequalCommit (off : Int) (d : Dev) : Dev :=
  match d.tim.requal with
  | none => d
  | some r =>
    if d.now < d.tim.requalFrom + requalTime d then d
    else
      let d := { d with tim := { d.tim with current := r, requal := none } }
      refCheck (removeOffset (cntInc (evt d Reg.TBS_EVT 6) (Reg.TBS_CNT_LO 4)) off)

/-- SLEW_LOCKED (15 R423): the offset falls below 20 ns (the operand less 19) and the time base reports LOCKED. HOLDOVER has no offset to measure and keeps
its held steering (15 R419; log entry 129). -/
def devSlewLocked (off : Fin 39) (d : Dev) : Dev :=
  if d.tim.phase = 2 then
    if d.tim.current = 0 then { d with tim := { d.tim with phase := 1 } }
    else steer { d with tim := { d.tim with phase := 1, offset := (off.val : Int) - 19 } }
  else d

/-- PTP_SYNC_LOSS (15 Table TIME-2): LOSS_SYNC Sync intervals of the selected master pass without a sample. -/
def devPtpSyncLoss (n : Fin 2) (d : Dev) : Dev := refDown d n.val

/-- PPS_TOL in ns. -/
def ppsTol (d : Dev) : Nat := fld d Reg.TBS_LOSS_CFG 31 16

/-- The offset of the whole second nearest to device time. -/
def ppsOffset (now : Nat) : Int := (((now + 500000000) / 1000000000 * 1000000000 : Nat) : Int) - now

/-- PPS_EDGE (15 Table TIME-2): the edge is captured; a second edge 1 s after the last makes PPS_IN valid, one off its predicted instant invalid. -/
def devPpsEdge (d : Dev) : Dev :=
  let onTime := match d.tim.ppsLast with
    | some t => decide (t + 1000000000 ≤ d.now + ppsTol d) && decide (d.now ≤ t + 1000000000 + ppsTol d)
    | none => false
  let d := cntSet d Reg.TBS_PPS_CAP_LO (BitVec.ofNat 64 d.now)
  let d := { d with tim := { d.tim with ppsLast := some d.now } }
  if onTime then noteOffset (refUp d 2) 3 (ppsOffset d.now) else refDown d 2

/-- PPS_TIMEOUT (15 Table TIME-2): no edge within 1 s + PPS_TOL of the last. -/
def devPpsTimeout (d : Dev) : Dev := refDown { d with tim := { d.tim with ppsLast := none } } 2

/-- The time base at entry to SLEEP: the current reference is SLEEP throughout (15 R439). -/
def timeSleep (d : Dev) : Dev :=
  { d with tim := { d.tim with current := 4, requal := none, lost := none, phase := 0 } }

/-- WAKE_RELOCK's part in the time base (15 R439): the first tick of a relocked TIME_500. The best valid reference is a first acquisition. -/
def timeWake (d : Dev) : Dev :=
  alignBeats { wakeTime d with tim := { (wakeTime d).tim with current := 0, requal := none, lost := none, first := true, phase := 0, stopped := false } }

/-- Device time's advance at a sleep tick: 3,906,250 / 128 ns, the fraction kept (15 R438). -/
def sleepTime (d : Dev) : Dev :=
  let x := d.tim.frac + 3906250
  { d with now := (d.now + x / 128) % 2 ^ 64, tim := { d.tim with frac := x % 128 } }

end Sys2Proof.Machine
end

