-- ==== Sys2Proof/Machine/Eth.lean ====
section
/-! DEFINITION. The Ethernet ports (12): sub-ports and link state, receive checks, PFC, MACsec, transmission, ARP, neighbour discovery and PTP. -/

namespace Sys2Proof.Machine

/-! ### Sub-ports and their registers -/

/-- A sub-port. -/
def spAt (d : Dev) (n s : Nat) : SubPort := smGet {} d.eth.sp (8 * n + s)

/-- A sub-port replaced. -/
def setSp (d : Dev) (n s : Nat) (p : SubPort) : Dev := { d with eth := { d.eth with sp := smSet {} d.eth.sp (8 * n + s) p } }

/-- The number of sub-ports of a port's MODE (12 Table ETH-1). -/
def subPorts (d : Dev) (n : Nat) : Nat := 2 ^ fld d (Reg.ETH_CFG n) 1 0

/-- DISABLE (12 R583). -/
def ethDisabled (d : Dev) (n : Nat) : Bool := (rd d (Reg.ETH_CFG n)).getLsbD 2

/-- A counter of a sub-port increased (12 Table ETH-4). -/
def ecnt (d : Dev) (n s k m : Nat) : Dev := cntAdd d (Reg.ETH_SP_CNT_LO n s k) m

/-- The MAC address of a sub-port. -/
def spMac (d : Dev) (n s : Nat) : List Byte :=
  beBytes 6 (fld d (Reg.ETH_SP_MAC_HI n s) 15 0 * 2 ^ 32 + rdn d (Reg.ETH_SP_MAC_LO n s))

/-- The IPv4 address of a sub-port, 0 for none. -/
def spIp4 (d : Dev) (n s : Nat) : List Byte := beBytes 4 (rdn d (Reg.ETH_SP_IPV4 n s))

/-- The IPv6 address of a sub-port, all 0 for none. -/
def spIp6 (d : Dev) (n s : Nat) : List Byte :=
  beBytes 16 ((List.range 4).foldl (fun z i => z + rdn d (Reg.ETH_SP_IPV6 n s i) * 2 ^ (32 * i)) 0)

/-- Whether an address is set. -/
def ipSet (a : List Byte) : Bool := a.any (fun b => decide (b ≠ 0))

/-- The solicited-node multicast MAC address of an IPv6 address. -/
def solicitedMac (ip : List Byte) : List Byte := [0x33, 0x33, 0xff] ++ ip.drop 13

/-- The solicited-node multicast address. -/
def solicitedIp (ip : List Byte) : List Byte :=
  [0xff, 0x02, 0, 0, 0, 0, 0, 0, 0, 0, 0, 1, 0xff] ++ ip.drop 13

/-- The PTP sub-port of a port. -/
def ptpSp (d : Dev) (n : Nat) : Nat := fld d (Reg.ETH_CFG n) 18 16

/-- The PTP transport: 0 layer 2, 1 UDP over IPv4, 2 UDP over IPv6. -/
def ptpTrans (d : Dev) (n : Nat) : Nat := fld d (Reg.ETH_CFG n) 13 12

/-- RVP_PORT of a sub-port. -/
def rvpPort (d : Dev) (n s : Nat) : Nat := fld d (Reg.ETH_SP_L3 n s) 31 16

/-- MACSEC_EN of a sub-port. -/
def macsecOn (d : Dev) (n s : Nat) : Bool := (rd d (Reg.ETH_SP_MACSEC n s)).getLsbD 31

/-- Whether the Ethernet lanes of a port may run: from TRAIN on, not in SLEEP or LOST, the port not disabled and its reference clock present (12 R335, R583;
18 R514). -/
def ethAllowed (d : Dev) (n : Nat) : Bool :=
  decide (stTrain ≤ d.code) && decide (d.code ≠ stLost) && decide (d.code ≠ stSleep) && !ethDisabled d n && d.pwr.serref.getD n true

/-- A sub-port's link changed: LINK_EVT; a link lost on PTP_SP makes the PTP reference invalid (12 R335, 15 Table TIME-2). -/
def setLink (d : Dev) (n s : Nat) (up an : Bool) : Dev :=
  let p := spAt d n s
  let d := setSp d n s { p with up := up, an := an }
  let d := if p.up = up then d else evt d (Reg.ETH_EVT n) 0
  if p.up && !up && decide (s = ptpSp d n) then refDown d n else d

/-- Every sub-port of a port down. -/
def ethDown (d : Dev) (n : Nat) : Dev := (List.range 8).foldl (fun d s => setLink d n s false false) d

/-! ### The ingress buffer and PFC (12 R338, R339) -/

/-- The share of a sub-port in bytes. -/
def ethShare (d : Dev) (n : Nat) : Nat := 2097152 / subPorts d n

/-- Bytes of the frames stored for a sub-port that satisfy a test. -/
def stored (d : Dev) (n s : Nat) (p : RxDgram → Bool) : Nat :=
  ((d.eth.arp ++ d.eth.nd ++ d.eth.ptp ++ d.rvp.rx).filter (fun x => decide (x.port = n) && decide (x.sp = s) && p x)).foldl (fun z x => z + x.flen) 0

/-- Bytes on the wire: the FCS appended, short frames padded. -/
def wire (f : List Byte) : List Byte :=
  let p := f ++ List.replicate (60 - f.length) 0
  p ++ leBytes 4 (crc32 p)

/-- A frame on the wire, counted. -/
def sendWire (d : Dev) (n s : Nat) (f : List Byte) : Dev :=
  let w := wire f
  let d := { d with eth := { d.eth with out := d.eth.out ++ [(n, s, w)] } }
  ecnt (ecnt d n s 14 1) n s 15 w.length

/-- A PFC frame for one priority. -/
def sendPfc (d : Dev) (n s p quanta : Nat) : Dev :=
  let q := (List.range 8).flatMap (fun k => beBytes 2 (if k = p then quanta else 0))
  ecnt (sendWire d n s ([0x01, 0x80, 0xc2, 0, 0, 0x01] ++ spMac d n s ++ [0x88, 0x08, 0x01, 0x01] ++ beBytes 2 (2 ^ p) ++ q)) n s 16 1

/-- Whether a sub-port's share holds more than XOFF of a priority. -/
def aboveXoff (d : Dev) (n s p : Nat) : Bool := decide (fld d (Reg.ETH_SP_PFC n s) 19 8 * 1024 < stored d n s (fun x => decide (x.prio = p)))

/-- PFC_SEND: a priority above XOFF is paused, one below XON released. -/
def pfcCheck (d : Dev) (n s : Nat) : Dev :=
  (List.range 8).foldl (fun d p =>
    if (rd d (Reg.ETH_SP_PFC n s)).getLsbD p && (spAt d n s).up then
      let k := stored d n s (fun x => decide (x.prio = p))
      let sp := spAt d n s
      if aboveXoff d n s p && !sp.xoff.contains p then
        sendPfc (setSp d n s { sp with xoff := sp.xoff ++ [p] }) n s p 0xffff
      else if k < fld d (Reg.ETH_SP_PFC n s) 31 20 * 1024 && sp.xoff.contains p then
        sendPfc (setSp d n s { sp with xoff := sp.xoff.filter (fun x => x != p) }) n s p 0
      else d
    else d) d

/-- PFC_REPEAT: every paused priority of which the share still holds more than XOFF is paused again, while the sub-port is up. -/
def devPfcRepeat (n : Fin 2) (s : Fin 8) (d : Dev) : Dev :=
  if (spAt d n.val s.val).up then ((spAt d n.val s.val).xoff.filter (aboveXoff d n.val s.val)).foldl (fun d p => sendPfc d n.val s.val p 0xffff) d else d

/-! ### Timestamps (12 R350) -/

/-- The timestamp of a frame whose timestamp point is now. -/
def frameTime (d : Dev) (n : Nat) : Nat := ((d.now : Int) - (rd d (Reg.ETH_PTP_ASYM n)).toInt).toNat

/-- The PTP clock of a port. -/
def ptpAt (d : Dev) (n : Nat) : PtpClock := d.tim.ptp.getD n {}

/-- The PTP clock of a port replaced. -/
def setPtp (d : Dev) (n : Nat) (c : PtpClock) : Dev := { d with tim := { d.tim with ptp := setAt d.tim.ptp n c } }

/-! ### Transmission (12 R343 to R347) -/

/-- The transmit SA in use. -/
def txSa (p : SubPort) : Option Sa :=
  match p.txAn with
  | none => none
  | some a => p.tx.find? (fun x => decide (x.an = a))

/-- The nonce of an SA for a packet number: the salt with SSCI and PN exclusive-ored in (IEEE 802.1AE XPN; log entry 14). -/
def saNonce (a : Sa) (pn : Nat) : List Byte :=
  List.zipWith (fun x y => x ^^^ y) a.salt (padTo 4 a.ssci ++ beBytes 8 pn)

/-- A frame protected under an SA: SecTAG with SCI, encryption, ICV (12 R345). -/
def macsecSeal (a : Sa) (pn : Nat) (addrs body : List Byte) : List Byte :=
  let sl := if body.length < 48 then body.length else 0
  let tag : List Byte := [0x88, 0xe5, byteOf (0x2c + a.an), byteOf sl] ++ beBytes 4 pn ++ a.sci
  let (ct, icv) := gcmSeal a.key (saNonce a pn) (addrs ++ tag) body
  addrs ++ tag ++ ct ++ icv

/-- The priority of transmitted frames. -/
def txPcp (d : Dev) (n s : Nat) : Nat := fld d (Reg.ETH_SP_VLAN n s) 15 13

/-- The packet number from which PN_NEAR_EVT stands (12 R347). -/
def pnNearFrom : Nat := 2 ^ 64 - 2 ^ 32

/-- PN_NEAR_EVT and its alert, when the packet number of the SA in use has come near its end. -/
def pnNear (d : Dev) (n : Nat) (near : Bool) : Dev := if near then alert (evt d (Reg.ETH_EVT n) 2) 2 else d

/-- A PTP event message leaves: its timestamp is kept (12 R350). -/
def noteSent (d : Dev) (n : Nat) (f : TxFrame) : Dev := if f.event then setPtp d n { ptpAt d n with reqAt := frameTime d n } else d

/-- The frame at the head of a sub-port's queue sent, if nothing holds it; `none` when it waits or there is none. -/
def txOne (d : Dev) (n s : Nat) : Option Dev :=
  let p := spAt d n s
  match p.queue with
  | [] => none
  | f :: rest =>
    if p.paused.contains (txPcp d n s) then none
    else
      let addrs := f.dst ++ spMac d n s
      let wait := d.now - f.time
      if macsecOn d n s then
        match txSa p with
        | none =>
          let d := setSp d n s { p with queue := rest }
          some (if f.verdict then ecnt d n s 19 1 else d)
        | some a =>
          if 2 ^ 64 - 1 ≤ a.pn then none
          else
            let a' := { a with pn := a.pn + 1 }
            let d := setSp d n s { p with queue := rest, tx := p.tx.map (fun x => if x.an = a.an then a' else x) }
            let d := pnNear d n (decide (a.pn < pnNearFrom) && decide (pnNearFrom ≤ a'.pn))
            some (noteSent (ecnt (sendWire d n s (macsecSeal a a.pn addrs f.body)) n s 17 wait) n f)
      else some (noteSent (ecnt (sendWire (setSp d n s { p with queue := rest }) n s (addrs ++ f.body)) n s 17 wait) n f)

/-- The queue of a sub-port sent as far as nothing holds it. -/
def txDrain (n s : Nat) : Nat → Dev → Dev
  | 0, d => d
  | k + 1, d =>
    match txOne d n s with
    | none => d
    | some d => txDrain n s k d

/-- A sub-port's queue looked at. -/
def txGo (d : Dev) (n s : Nat) : Dev := txDrain n s ((spAt d n s).queue.length + 1) d

/-- A frame handed to a sub-port: discarded and counted in TX_DOWN while it is down (12 R344). `body` starts at the EtherType. -/
def txFrameAs (event : Bool) (d : Dev) (n s : Nat) (dst body : List Byte) (verdict : Bool) : Dev :=
  let p := spAt d n s
  if !p.up then ecnt d n s 18 1
  else
    let v := rd d (Reg.ETH_SP_VLAN n s)
    let tag : List Byte := if v.getLsbD 31 then [0x81, 0x00] ++ beBytes 2 (txPcp d n s * 8192 + fld d (Reg.ETH_SP_VLAN n s) 11 0) else []
    txGo (setSp d n s { p with queue := p.queue ++ [{ dst := dst, body := tag ++ body, time := d.now, verdict := verdict, event := event }] }) n s

/-- A frame that is no PTP event message. -/
def txFrame (d : Dev) (n s : Nat) (dst body : List Byte) (verdict : Bool) : Dev := txFrameAs false d n s dst body verdict

/-- Whether a frame handed over now would be discarded: the link is down, or MACsec is on with no transmit SA (12 R344, R346). -/
def txLost (d : Dev) (n s : Nat) : Bool :=
  !(spAt d n s).up || (macsecOn d n s && (txSa (spAt d n s)).isNone)

/-! ### Internet checksums and headers (12 R342, R343) -/

/-- The sum of 16-bit words with end-around carry. -/
def inetSum : List Byte → Nat
  | a :: b :: r => a.toNat * 256 + b.toNat + inetSum r
  | [a] => a.toNat * 256
  | [] => 0

/-- The Internet checksum. -/
def inetCsum (bs : List Byte) : Nat :=
  let fold := fun (x : Nat) => x % 65536 + x / 65536
  65535 - fold (fold (fold (inetSum bs)))

/-- The pseudo-header of UDP or ICMPv6. -/
def pseudo (src dst : List Byte) (proto len : Nat) : List Byte :=
  if src.length = 4 then src ++ dst ++ [0, byteOf proto] ++ beBytes 2 len else src ++ dst ++ beBytes 4 len ++ [0, 0, 0, byteOf proto]

/-- An IP packet from a sub-port: TTL or hop limit `hop`, DSCP TX_DSCP, identification 0 with DF, or flow label 0. -/
def ipPacket (d : Dev) (n s : Nat) (src dst : List Byte) (proto hop : Nat) (data : List Byte) : List Byte :=
  let tos := 4 * fld d (Reg.ETH_SP_L3 n s) 5 0
  if dst.length = 4 then
    let h := fun (c : Nat) => [0x45, byteOf tos] ++ beBytes 2 (20 + data.length) ++ [0, 0, 0x40, 0, byteOf hop, byteOf proto] ++ beBytes 2 c ++ src ++ dst
    [0x08, 0x00] ++ h (inetCsum (h 0)) ++ data
  else
    [0x86, 0xdd] ++ [byteOf (0x60 + tos / 16), byteOf (tos % 16 * 16), 0, 0] ++ beBytes 2 data.length ++ [byteOf proto, byteOf hop] ++ src ++ dst ++ data

/-- A UDP datagram with its checksum, 0 sent as 0xFFFF. -/
def udpDgram (src dst : List Byte) (sport dport : Nat) (data : List Byte) : List Byte :=
  let u := fun (c : Nat) => beBytes 2 sport ++ beBytes 2 dport ++ beBytes 2 (8 + data.length) ++ beBytes 2 c ++ data
  let c := inetCsum (pseudo src dst 17 (8 + data.length) ++ u 0)
  u (if c = 0 then 0xffff else c)

/-- A UDP datagram sent from a sub-port (12 R341, R343). -/
def udpSendAs (event : Bool) (d : Dev) (n s : Nat) (mac ip : List Byte) (sport dport : Nat) (data : List Byte) (verdict : Bool) : Dev :=
  let src := if ip.length = 4 then spIp4 d n s else spIp6 d n s
  txFrameAs event d n s mac (ipPacket d n s src ip 17 (fld d (Reg.ETH_SP_L3 n s) 15 8) (udpDgram src ip sport dport data)) verdict

/-- A datagram that is no PTP event message. -/
def udpSend (d : Dev) (n s : Nat) (mac ip : List Byte) (sport dport : Nat) (data : List Byte) (verdict : Bool) : Dev := udpSendAs false d n s mac ip sport dport data verdict

/-! ### Receiving (12 R336 to R342) -/

/-- What the receive checks answer: a counter on failure, PFC consumed, or a datagram for a consumer: 0 RVP, 1 PTP, 2 ARP, 3 neighbour discovery. -/
inductive RxRes where
  | drop (k : Nat)
  | pfc (payload : List Byte)
  | give (who : Nat) (prio : Nat) (ip : List Byte) (udp : Nat) (data : List Byte)
  deriving DecidableEq, Repr

/-- The lowest packet number that an SA accepts (12 R348). -/
def lowestPn (a : Sa) (win : Nat) : Nat := max a.low (a.pn - win)

/-- The 64-bit packet number of a received frame from its low 32 bits and the lowest acceptable number (IEEE 802.1AE XPN; log entry 14). -/
def xpnRecover (low32 lowest : Nat) : Nat :=
  let hi := lowest / 2 ^ 32
  if 2 ^ 31 ≤ lowest % 2 ^ 32 ∧ low32 < 2 ^ 31 then (hi + 1) * 2 ^ 32 + low32 else hi * 2 ^ 32 + low32

/-- Step 5: the frame validated and opened, and the SA's packet number moved on (12 R345, R348). `f` is the frame without its FCS. -/
def macsecOpen (d : Dev) (n s : Nat) (f : List Byte) : Option (List Byte × Dev) :=
  let p := spAt d n s
  let an := bits (f.getD 14 0).toNat 1 0
  let sl := (f.getD 15 0).toNat
  let sci := slice f 20 8
  let have? := (p.rxSc.flatten).find? (fun a => decide (a.an = an) && decide (a.sci = sci))
  if beAt f 12 2 ≠ 0x88e5 ∨ bits (f.getD 14 0).toNat 7 2 ≠ 0x0b ∨ 48 ≤ sl ∨ f.length < 44 + sl then none
  else
    match have? with
    | none => none
    | some a =>
      let n' := if sl = 0 then f.length - 44 else sl
      let win := fld d (Reg.ETH_SP_MACSEC n s) 15 0
      let pn := xpnRecover (beAt f 16 4) (lowestPn a win)
      match gcmOpen a.key (saNonce a pn) (f.take 28) (slice f 28 n') (slice f (28 + n') 16) with
      | none => none
      | some pt =>
        if pn < lowestPn a win then none
        else
          let a' := { a with pn := max a.pn (pn + 1) }
          some (f.take 12 ++ pt, setSp d n s { p with rxSc := p.rxSc.map (fun sc => sc.map (fun x => if x = a then a' else x)) })

/-- The EtherType under an optional VLAN tag. -/
def innerType (f : List Byte) : Nat := if beAt f 12 2 = 0x8100 then beAt f 16 2 else beAt f 12 2

/-- The group addresses of PTP over layer 2. -/
def ptpGroup (dst : List Byte) : Bool := decide (dst = [0x01, 0x80, 0xc2, 0, 0, 0x0e]) || decide (dst = [0x01, 0x1b, 0x19, 0, 0, 0])

/-- Step 3: the destination (12 Table ETH-3). Under MACsec the EtherType is not yet known, and a group address that turns out to carry something else fails when it is. -/
def dstOk (d : Dev) (n s : Nat) (f : List Byte) : Bool :=
  let dst := f.take 6
  let hidden := macsecOn d n s
  decide (dst = spMac d n s) ||
    (decide (dst = List.replicate 6 0xff) && (hidden || decide (innerType f = 0x0806))) ||
    (decide (dst = [0x01, 0x80, 0xc2, 0, 0, 0x01]) && decide (beAt f 12 2 = 0x8808) && decide (beAt f 14 2 = 0x0101 ∨ beAt f 14 2 = 0x0001)) ||
    (decide (s = ptpSp d n) && ptpGroup dst && (hidden || decide (innerType f = 0x88f7))) ||
    (ipSet (spIp6 d n s) && decide (dst = solicitedMac (spIp6 d n s)))

/-- Step 6: the priority and the bytes from the EtherType on, without the tag (12 R340). -/
def vlanStep (d : Dev) (n s : Nat) (f : List Byte) : Option (Nat × List Byte) :=
  let v := rd d (Reg.ETH_SP_VLAN n s)
  let t := beAt f 12 2
  let two := (t = 0x8100 ∨ t = 0x88a8) ∧ (beAt f 16 2 = 0x8100 ∨ beAt f 16 2 = 0x88a8)
  if two then none
  else if t = 0x8100 then
    let vid := bits (beAt f 14 2) 11 0
    let ok := if v.getLsbD 31 then decide (vid = fld d (Reg.ETH_SP_VLAN n s) 11 0) else decide (vid = 0)
    if ok then some (bits (beAt f 14 2) 15 13, f.drop 16) else none
  else if v.getLsbD 31 then none
  else some (fld d (Reg.ETH_SP_VLAN n s) 18 16, f.drop 12)

/-- Step 8 for a UDP datagram in an IP packet: the source port, the destination port and the data (12 R342). -/
def udpStep (src dst u : List Byte) : Option (Nat × Nat × List Byte) :=
  let len := beAt u 4 2
  let c := beAt u 6 2
  if u.length < 8 ∨ len ≠ u.length then none
  else if c = 0 then (if src.length = 4 then some (beAt u 0 2, beAt u 2 2, u.drop 8) else none)
  else if inetCsum (pseudo src dst 17 len ++ u) ≠ 0 then none
  else some (beAt u 0 2, beAt u 2 2, u.drop 8)

/-- The consumer of a UDP datagram: RVP, or PTP on the PTP sub-port over the chosen transport. -/
def udpGive (d : Dev) (n s prio trans : Nat) (src : List Byte) : Option (Nat × Nat × List Byte) → RxRes
  | none => .drop 11
  | some (sport, dport, data) =>
    if dport = rvpPort d n s then .give 0 prio src sport data
    else if (dport = 319 ∨ dport = 320) ∧ s = ptpSp d n ∧ ptpTrans d n = trans then .give 1 prio src sport data
    else .drop 11

/-- Steps 7 to 9 on the bytes from the EtherType on, of a frame sent to an address. -/
def l3Step (d : Dev) (n s prio : Nat) (dest : List Byte) (f : List Byte) : RxRes :=
  let t := beAt f 0 2
  let q := f.drop 2
  if ptpGroup dest && decide (t ≠ 0x88f7) then .drop 6
  else if t = 0x0806 then .give 2 prio [] 0 q
  else if dest = List.replicate 6 0xff then .drop 6
  else if t = 0x88f7 ∧ s = ptpSp d n ∧ ptpTrans d n = 0 then .give 1 prio [] 0 q
  else if t = 0x0800 then
    let len := beAt q 2 2
    let src := slice q 12 4
    let dst := slice q 16 4
    if (q.getD 0 0).toNat ≠ 0x45 ∨ inetCsum (q.take 20) ≠ 0 ∨ len < 20 ∨ q.length < len ∨ bits (beAt q 6 2) 13 0 ≠ 0 ∨ (q.getD 9 0).toNat ≠ 17 ∨
        dst ≠ spIp4 d n s ∨ ipSet dst = false then .drop 11
    else udpGive d n s prio 1 src (udpStep src dst (slice q 20 (len - 20)))
  else if t = 0x86dd then
    let len := beAt q 4 2
    let src := slice q 8 16
    let dst := slice q 24 16
    let own := ipSet (spIp6 d n s) && decide (dst = spIp6 d n s)
    let u := slice q 40 len
    if (q.getD 0 0).toNat / 16 ≠ 6 ∨ q.length < 40 + len then .drop 11
    else if (q.getD 6 0).toNat = 58 ∧ (own = true ∨ (ipSet (spIp6 d n s) = true ∧ dst = solicitedIp (spIp6 d n s))) ∧ (u.getD 0 0).toNat = 135 ∧
        (q.getD 7 0).toNat = 255 ∧ inetCsum (pseudo src dst 58 len ++ u) = 0 then .give 3 prio src 0 u
    else if (q.getD 6 0).toNat ≠ 17 ∨ own = false then .drop 11
    else udpGive d n s prio 2 src (udpStep src dst u)
  else .drop 10

/-- The checks of Table ETH-3 in order, on a frame with its FCS. -/
def rxCheck (d : Dev) (n s : Nat) (fr : List Byte) : RxRes × Dev :=
  let f := fr.take (fr.length - 4)
  if fr.length < 4 ∨ leAt fr (fr.length - 4) 4 ≠ crc32 f then (.drop 2, d)
  else if fr.length < 64 then (.drop 3, d)
  else if 9216 < fr.length then (.drop 4, d)
  else if ethShare d n < stored d n s (fun _ => true) + fr.length then (.drop 5, d)
  else if !dstOk d n s f then (.drop 6, d)
  else if beAt f 12 2 = 0x8808 ∧ beAt f 14 2 = 0x0001 then (.drop 7, d)
  else if f.take 6 = [0x01, 0x80, 0xc2, 0, 0, 0x01] then (.pfc (f.drop 16), d)
  else
    match (if macsecOn d n s then macsecOpen d n s f else some (f, d)) with
    | none => (.drop 8, d)
    | some (f, d) =>
      match vlanStep d n s f with
      | none => (.drop 9, d)
      | some (prio, q) => (l3Step d n s prio (f.take 6) q, d)

/-- PFC_RECEIVE (12 R339): each priority named is paused for its quanta, or released by quanta 0; the image says which priorities use PFC. -/
def pfcReceive (d : Dev) (n s : Nat) (q : List Byte) : Dev :=
  let p := spAt d n s
  let paused := (List.range 8).foldl (fun l k =>
    if (beAt q 0 2).testBit k && (rd d (Reg.ETH_SP_PFC n s)).getLsbD k then
      let l := l.filter (fun x => x != k)
      if beAt q (2 + 2 * k) 2 = 0 then l else l ++ [k]
    else l) p.paused
  txGo (ecnt (setSp d n s { p with paused := paused }) n s 13 1) n s

/-- The type of a PTP message. -/
def ptpType (m : List Byte) : Nat := bits (m.getD 0 0).toNat 3 0

/-- Whether the PTP clock of a port takes a message: version 2, its domain, and a type it handles (12 R349). -/
def ptpTaken (d : Dev) (n : Nat) (m : List Byte) : Bool :=
  decide (bits (m.getD 1 0).toNat 3 0 = 2) && decide ((m.getD 4 0).toNat = fld d (Reg.ETH_CFG n) 31 24) && decide (34 ≤ m.length) &&
    [0, 8, 9, 11].contains (ptpType m)

/-- Codewords of the lanes of a sub-port that the FEC has corrected or found uncorrectable (12 Table ETH-4), as (lane, corrected, uncorrectable). -/
def fecCount (d : Dev) (n s : Nat) (fec : List (Fin 8 × BitVec 16 × BitVec 16)) : Dev :=
  let w := 8 / subPorts d n
  fec.foldl (fun d x => if x.1.val / w = s then satAdd (satAdd d (Reg.ETH_LANE_FEC n x.1.val 0) x.2.1.toNat) (Reg.ETH_LANE_FEC n x.1.val 1) x.2.2.toNat else d) d

/-- FRAME_RECEIVE (12 R337): the frame of sub-port `s`, from its destination address through its FCS, timestamped and checked in order; then for its consumer. `fec` are the codewords counted on its lanes since
the frame before. -/
def devFrameReceive (n : Fin 2) (s : Fin 8) (fr : List Byte) (fec : List (Fin 8 × BitVec 16 × BitVec 16)) (d : Dev) : Dev :=
  if !(spAt d n.val s.val).up || decide (subPorts d n.val ≤ s.val) then d
  else
    let time := frameTime d n.val
    let d := fecCount d n.val s.val fec
    let d := ecnt (ecnt d n.val s.val 0 1) n.val s.val 1 fr.length
    match rxCheck d n.val s.val fr with
    | (.drop k, d) => ecnt d n.val s.val k 1
    | (.pfc q, d) => pfcReceive d n.val s.val q
    | (.give who prio ip udp data, d) =>
      let x : RxDgram := { port := n.val, sp := s.val, mac := slice fr 6 6, ip := ip, udp := udp, time := time, flen := fr.length, prio := prio, data := data }
      match who with
      | 0 => pfcCheck { d with rvp := { d.rvp with rx := d.rvp.rx ++ [x] } } n.val s.val
      | 1 =>
        if ptpTaken d n.val data then pfcCheck { d with eth := { d.eth with ptp := d.eth.ptp ++ [x] } } n.val s.val
        else ecnt d n.val s.val 12 1
      | 2 => pfcCheck { d with eth := { d.eth with arp := d.eth.arp ++ [x] } } n.val s.val
      | _ => pfcCheck { d with eth := { d.eth with nd := d.eth.nd ++ [x] } } n.val s.val

/-- PFC_PAUSE_EXPIRY: the quanta of a priority expire and its transmission resumes. -/
def devPfcPauseExpiry (n : Fin 2) (s : Fin 8) (p : Fin 8) (d : Dev) : Dev :=
  let sp := spAt d n.val s.val
  txGo (setSp d n.val s.val { sp with paused := sp.paused.filter (fun x => x != p.val) }) n.val s.val

/-- TX_SA_WAIT_EXPIRY (12 R347): frames that have waited 1 ms for a new transmit SA are discarded and counted. -/
def devTxSaWaitExpiry (n : Fin 2) (s : Fin 8) (d : Dev) : Dev :=
  let p := spAt d n.val s.val
  match txSa p with
  | some a =>
    if macsecOn d n.val s.val ∧ 2 ^ 64 - 1 ≤ a.pn then
      let left := p.queue.filter (fun f => decide (d.now < f.time + 1000000))
      ecnt (setSp d n.val s.val { p with queue := left }) n.val s.val 19 (p.queue.length - left.length)
    else d
  | none => d

/-! ### Link state (12 R334, R335) -/

/-- What a COPPER sub-port advertises in auto-negotiation (12 R334): the copper PMD of its configured rate alone, bit m being that of MODE m (800GBASE-CR8, 400GBASE-CR4, 200GBASE-CR2, 100GBASE-CR1), and both pause
ability bits 0. -/
def ethAdvert (d : Dev) (n : Nat) : BitVec 4 × BitVec 2 := (1#4 <<< fld d (Reg.ETH_CFG n) 1 0, 0)

/-- LINK_RETRY: a down sub-port tries again. A MODULE sub-port starts its PCS, which locks or not; a COPPER one starts auto-negotiation anew. -/
def devLinkRetry (n : Fin 2) (s : Fin 8) (locks : Bool) (d : Dev) : Dev :=
  if !ethAllowed d n.val || (spAt d n.val s.val).up || decide (subPorts d n.val ≤ s.val) then d
  else if (rd d (Reg.ETH_CFG n.val)).getLsbD 4 then
    let d := setLink d n.val s.val false false
    setSp d n.val s.val { spAt d n.val s.val with page := some (ethAdvert d n.val) }
  else setLink d n.val s.val locks false

/-- AUTONEG_COMPLETE: auto-negotiation of a COPPER sub-port ends with the PMDs that the partner advertised. With the sub-port's own among them, link training succeeds or not; else AN_FAIL_EVT. -/
def devAutonegComplete (n : Fin 2) (s : Fin 8) (partner : BitVec 4) (trained : Bool) (d : Dev) : Dev :=
  if !ethAllowed d n.val || (spAt d n.val s.val).up || decide (subPorts d n.val ≤ s.val) || !(rd d (Reg.ETH_CFG n.val)).getLsbD 4 then d
  else if (ethAdvert d n.val).1 &&& partner ≠ 0 then setLink d n.val s.val trained true
  else evt (setLink d n.val s.val false false) (Reg.ETH_EVT n.val) 1

/-- LINK_DOWN: a sub-port loses its link. -/
def devLinkDown (n : Fin 2) (s : Fin 8) (d : Dev) : Dev := setLink d n.val s.val false false

/-! ### ARP and neighbour discovery (12 R341) -/

/-- ARP_REQUEST: the first ARP message of a sub-port is taken; a request for the sub-port's IPv4 address is answered. -/
def devArpRequest (n : Fin 2) (s : Fin 8) (d : Dev) : Dev :=
  match takeFirst (fun x : RxDgram => decide (x.port = n.val) && decide (x.sp = s.val)) d.eth.arp with
  | none => d
  | some (x, rest) =>
    let d := pfcCheck { d with eth := { d.eth with arp := rest } } n.val s.val
    let q := x.data
    let me := spIp4 d n.val s.val
    if q.take 8 = [0, 1, 8, 0, 6, 4, 0, 1] ∧ slice q 24 4 = me ∧ ipSet me = true then
      txFrame d n.val s.val (slice q 8 6)
        ([0x08, 0x06, 0, 1, 8, 0, 6, 4, 0, 2] ++ spMac d n.val s.val ++ me ++ slice q 8 10) false
    else d

/-- NEIGHBOR_SOLICITATION: the first solicitation of a sub-port is taken; one for the sub-port's IPv6 address is answered with an advertisement. -/
def devNeighborSolicitation (n : Fin 2) (s : Fin 8) (d : Dev) : Dev :=
  match takeFirst (fun x : RxDgram => decide (x.port = n.val) && decide (x.sp = s.val)) d.eth.nd with
  | none => d
  | some (x, rest) =>
    let d := pfcCheck { d with eth := { d.eth with nd := rest } } n.val s.val
    let me := spIp6 d n.val s.val
    if slice x.data 8 16 = me then
      let known := ipSet x.ip
      let dst := if known then x.ip else [0xff, 0x02, 0, 0, 0, 0, 0, 0, 0, 0, 0, 0, 0, 0, 0, 1]
      let mac := if known then x.mac else [0x33, 0x33, 0, 0, 0, 1]
      let na := fun (c : Nat) => [136, 0] ++ beBytes 2 c ++ [if known then 0x60 else 0x20, 0, 0, 0] ++ me ++ [2, 1] ++ spMac d n.val s.val
      txFrame d n.val s.val mac (ipPacket d n.val s.val me dst 58 255 (na (inetCsum (pseudo me dst 58 32 ++ na 0)))) false
    else d

/-! ### PTP (12 R349; message layouts of IEEE 1588-2019, log entry 13) -/

/-- The first PTP message of a type on a port, and the package without it. -/
def takePtp (d : Dev) (n ty : Nat) : Option (RxDgram × Dev) :=
  (takeFirst (fun x : RxDgram => decide (x.port = n) && decide (ptpType x.data = ty)) d.eth.ptp).map (fun y =>
    (y.1, pfcCheck { d with eth := { d.eth with ptp := y.2 } } n y.1.sp))

/-- A timestamp of 6 bytes of seconds and 4 of nanoseconds, in ns. -/
def ptpStamp (m : List Byte) (i : Nat) : Int := ((beAt m i 6 * 1000000000 + beAt m (i + 6) 4 : Nat) : Int)

/-- The correction field in ns. -/
def ptpCorr (m : List Byte) : Int := signExtend64 (beAt m 8 8) / 65536
where
  /-- Two's complement of 64 bits. -/
  signExtend64 (x : Nat) : Int := if x < 2 ^ 63 then x else (x : Int) - 2 ^ 64

/-- Whether a message comes from the selected master. -/
def fromMaster (c : PtpClock) (m : List Byte) : Bool :=
  match c.master with
  | some x => decide (x.port = slice m 20 10)
  | none => false

/-- The length in ns of an interval whose logarithm a message gives as a signed byte of seconds. -/
def logInterval (b : Nat) : Nat := if b < 128 then 1000000000 * 2 ^ b else 1000000000 / 2 ^ (256 - b)

/-- Whether a master still announces itself: its last Announce is at most three intervals old (IEEE 1588-2019, log entry 13). -/
def PtpForeign.heard (now : Nat) (f : PtpForeign) : Bool := decide (now ≤ f.last + 3 * logInterval f.logInt)

/-- Whether a master qualifies: two Announces within four intervals, and fewer than 255 steps removed (IEEE 1588-2019, log entry 13). -/
def PtpForeign.qualified (f : PtpForeign) : Bool := decide (f.data.steps < 255) && f.prev.any (fun p => decide (f.last ≤ p + 4 * logInterval f.logInt))

/-- The default best master clock algorithm over the masters of a port (12 R349): silent ones are forgotten, and the best of those that qualify is selected; with none selected the reference is invalid
(15 Table TIME-2). -/
def ptpSelect (n : Nat) (d : Dev) : Dev :=
  let c := ptpAt d n
  let live := c.foreign.filter (PtpForeign.heard d.now)
  let best := (live.filter PtpForeign.qualified).foldl (fun (b : Option PtpMaster) f =>
    match b with
    | none => some f.data
    | some x => if lexLt (masterKey f.data) (masterKey x) then some f.data else b) none
  let e := setPtp d n { c with foreign := live, master := best }
  if best.isNone then refDown e n else if best = c.master then e else refCheck e

/-- ANNOUNCE: the first Announce of a port is taken into the record of its sender, and the master is selected anew. -/
def devAnnounce (n : Fin 2) (d : Dev) : Dev :=
  match takePtp d n.val 11 with
  | none => d
  | some (x, d) =>
    let m := x.data
    let c := ptpAt d n.val
    let a : PtpMaster := { port := slice m 20 10, prio1 := beAt m 47 1, clsAcc := beAt m 48 2, variance := beAt m 50 2, prio2 := beAt m 52 1,
                           gm := slice m 53 8, steps := beAt m 61 2 }
    let old := c.foreign.find? (fun f => decide (f.data.port = a.port))
    let f : PtpForeign := { data := a, logInt := beAt m 33 1, last := x.time, prev := old.map (fun o => o.last) }
    ptpSelect n.val (setPtp d n.val { c with foreign := c.foreign.filter (fun f => decide (f.data.port ≠ a.port)) ++ [f] })

/-- A sample of the offset of a port's PTP clock from t1 and t2: the reference becomes valid (15 Table TIME-2). -/
def ptpSample (d : Dev) (n : Nat) (c : PtpClock) (t1 : Int) : Dev :=
  let d := setPtp d n { c with t1 := t1, t2 := c.syncRx, twoStep := false }
  noteOffset (if (spAt d n (ptpSp d n)).up && !ethDisabled d n then refUp d n else d) (n + 1) (t1 + c.delay - c.syncRx)

/-- SYNC: a one-step Sync of the master gives a sample; a two-step one waits for its Follow_Up. -/
def devSync (n : Fin 2) (d : Dev) : Dev :=
  let d := ptpSelect n.val d
  match takePtp d n.val 0 with
  | none => d
  | some (x, d) =>
    let m := x.data
    let c := ptpAt d n.val
    if fromMaster c m then
      let c := { c with syncSeq := beAt m 30 2, syncRx := x.time }
      if (beAt m 6 1).testBit 1 then setPtp d n.val { c with twoStep := true, corr := ptpCorr m }
      else ptpSample d n.val c (ptpStamp m 34 + ptpCorr m)
    else d

/-- FOLLOW_UP: it completes the two-step Sync of its sequence number. -/
def devFollowUp (n : Fin 2) (d : Dev) : Dev :=
  let d := ptpSelect n.val d
  match takePtp d n.val 8 with
  | none => d
  | some (x, d) =>
    let m := x.data
    let c := ptpAt d n.val
    if fromMaster c m && c.twoStep && decide (c.syncSeq = beAt m 30 2) then ptpSample d n.val c (ptpStamp m 34 + ptpCorr m + c.corr) else d

/-- The clock identity of a port: its MAC address as an EUI-64. -/
def clockId (d : Dev) (n : Nat) : List Byte :=
  let mac := spMac d n (ptpSp d n)
  mac.take 3 ++ [0xff, 0xfe] ++ mac.drop 3 ++ [0, 1]

/-- DELAY_RESP: the answer to the last Delay_Req gives the path delay, and the interval of the next. -/
def devDelayResp (n : Fin 2) (d : Dev) : Dev :=
  let d := ptpSelect n.val d
  match takePtp d n.val 9 with
  | none => d
  | some (x, d) =>
    let m := x.data
    let c := ptpAt d n.val
    if fromMaster c m && c.reqOut && decide (slice m 44 10 = clockId d n.val) && decide (beAt m 30 2 = c.reqSeq) then
      let t4 := ptpStamp m 34 - ptpCorr m
      setPtp d n.val { c with reqOut := false, interval := some (beAt m 33 1), delay := ((c.t2 - c.t1) + (t4 - c.reqAt)) / 2 }
    else d

/-- DELAY_REQ: the clock of a port with a master sends Delay_Req on its transport, not before the interval that the master's Delay_Resp sets has passed; it is timestamped as it leaves. -/
def devDelayReq (n : Fin 2) (d : Dev) : Dev :=
  let d := ptpSelect n.val d
  let c := ptpAt d n.val
  let s := ptpSp d n.val
  let early := match c.reqLast, c.interval with
    | some t, some b => decide (d.now < t + logInterval b)
    | _, _ => false
  if c.master.isNone || !(spAt d n.val s).up || early then d
  else
    let seq := (c.reqSeq + 1) % 65536
    let m : List Byte := [1, 2] ++ beBytes 2 44 ++ [byteOf (fld d (Reg.ETH_CFG n.val) 31 24), 0, 0, 0] ++ List.replicate 12 0 ++ clockId d n.val ++ beBytes 2 seq ++
      [1, 0x7f] ++ List.replicate 10 0
    let d := setPtp d n.val { c with reqSeq := seq, reqLast := some d.now, reqOut := true }
    match ptpTrans d n.val with
    | 0 => txFrameAs true d n.val s [0x01, 0x1b, 0x19, 0, 0, 0] ([0x88, 0xf7] ++ m) false
    | 1 => udpSendAs true d n.val s [0x01, 0x00, 0x5e, 0, 0x01, 0x81] [224, 0, 1, 129] 319 319 m false
    | _ => udpSendAs true d n.val s [0x33, 0x33, 0, 0, 0x01, 0x81] [0xff, 0x0e, 0, 0, 0, 0, 0, 0, 0, 0, 0, 0, 0, 0, 0x01, 0x81] 319 319 m false

/-! ### SAs (12 R346; 19 R544) -/

/-- Every SA of both ports cleared. -/
def clearSas (d : Dev) : Dev :=
  { d with eth := { d.eth with sp := d.eth.sp.map (fun x => (x.1, { x.2 with tx := [], txAn := none, rxSc := [[], [], [], [], [], [], [], []] })) } }

end Sys2Proof.Machine
end

