-- ==== Sys2Proof/Machine/Sequencer.lean ====
section
/-! DEFINITION. The sequencer's operations (04): tasks, choices, blocking, fetching command words, skeins and their tags (07), hank bindings,
and marking a task for abort. -/

namespace Sys2Proof.Machine

/-- The state of a model id. -/
def modelAt (d : Dev) (m : Nat) : ModelSt := smGet {} d.model m

/-- The state of a model id replaced. -/
def setModel (d : Dev) (m : Nat) (x : ModelSt) : Dev := { d with model := smSet {} d.model m x }

/-- Hanks of a layer in an image. -/
def layerHanks (im : Image) (layer : Nat) : Nat := (im.hanks.filter (fun h => decide (h.layer = layer))).length

/-! ### Traffic between slices and dies (02 R60, R61; 06 R159; 08 R225) -/

/-- The seams that hanks in rotation use (02 R62, R486 of 17): all that remain after a loss; else the die ring's for a pinned model, and S20, S01 and S13 for a ringed one, with S32 at a fold loopback. -/
def hankSeams (d : Dev) (ringed : Bool) : List Nat :=
  let left := (List.range 4).filter (fun k => decide ((seamAt d k).st ≠ .lost))
  if left.length < 4 ∨ ringed = false ∨ d.ring.loopW = true ∨ d.ring.loopE = true then left else [3, 0, 1]

/-- Whether a hank has still to cross a seam to cores at one of its ends. Hanks have strict priority there, and the other traffic waits (02 R61). Ring barrier tokens cross in the command that
brings them, before any access. -/
def seamBusy (d : Dev) (k : Nat) : Bool :=
  d.ring.deliver.any (fun x => (hankSeams d ((modelAt d x.model).active.any (fun im => im.ringed))).contains k && x.sites.any (fun s => seamAtDie k (siteDie s)))

/-- Whether a unit's access is one that the data path has reported as unanswered. -/
def stuckAt (d : Dev) (i u x : Nat) : Bool := d.wdn.stuck.any (fun a => decide (a.site = i) && decide (a.unit = u) && decide (a.ctx = x))

/-- Whether an access from a site to a die waits at a seam arbiter behind a hank (02 R61, R63). -/
def seamHold (d : Dev) (i die : Nat) : Bool := (crossing d (siteDie i) die).any (fun k => seamBusy d k)

/-- Whether an access of a site to a package word address waits at a seam. -/
def wordHold (d : Dev) (i addr : Nat) : Bool :=
  match resolve d addr with
  | .word s _ => seamHold d i (siteDie s)
  | _ => false

/-- Whether another core has work that may bring a transfer to the same arbiter. -/
def hasRival (d : Dev) (i : Nat) : Bool :=
  d.core.any (fun x => decide (x.1 ≠ i) && (!x.2.mu.isEmpty || !x.2.vu.isEmpty || !x.2.dma.isEmpty || !x.2.ctx.isEmpty || !x.2.se.isEmpty))

/-- An access that crosses seams takes its turn at each arbiter in the order of the handshakes: when another core's traffic may meet it there, each crossing may be reordered, a timing-only choice that is
counted; how many are is a free value (02 R61, 16 Table DET-2). -/
def passSeams (d : Dev) (i die : Nat) : Dev :=
  let n := (crossing d (siteDie i) die).length
  if n = 0 ∨ hasRival d i = false then d
  else
    let (r, d) := draw d
    cntAdd d (Reg.DET_TIMING_LO 1) (r % (n + 1))

/-- Words carried by the network ports counted: the class at the requester (0 read, 1 write) and the remote class at the slice that serves them
(08 R225). Neighbour links and the local slice do not use the port. -/
def countNet (d : Dev) (i s : Nat) (global write : Bool) (n : Nat) : Dev :=
  if s = i || !global then d
  else passSeams (cntAdd (cntAdd d (Reg.CORE_NET_LO i (if write then 1 else 0)) n) (Reg.CORE_NET_LO s 2) n) i (siteDie s)

/-- The port of a slice at which an access of a site arrives: the unit's own in its own slice, the network port in another (06 R156). Neighbour links end at it too. -/
def portFor (i s port : Nat) : Nat := if s = i then port else portNet

/-- The command word at a program position as stored, without faults: what a scan sees. -/
def peekWord (d : Dev) (i n pos : Nat) : Option Nat :=
  let c := coreAt d i
  let t := taskAt c n
  let ix := wordIndex c t pos
  match resolve d ((cmdSkein c t).base + ix / 4) with
  | .word s w => some (leNat (slice (rawWord d s w) (16 * (ix % 4)) 16))
  | _ => none

/-- The cause of an access that is not to a word in reach, given the cause of holes and reach faults (06 Table SPAD-4). -/
def accCause (hole : Nat) : Acc → Nat
  | .gone => cReclaim
  | _ => hole

/-- A fetch of the command word at the issue pointer: the word or the abort cause (06 Table SPAD-4, 04 Table CORE-16). -/
def fetchWord (d : Dev) (i n : Nat) : Except Nat Nat × Dev :=
  let c := coreAt d i
  let t := taskAt c n
  let ix := wordIndex c t t.issue
  match access d (canonAt d i) (dGlobal t.desc) ((cmdSkein c t).base + ix / 4) with
  | .ok s w =>
    (match portRead (countNet d i s (dGlobal t.desc) false 1) s w (portFor i s portSeA) with
     | (none, d) => (.error cSpadUncorr, d)
     | (some data, d) => (.ok (leNat (slice data (16 * (ix % 4)) 16)), d))
  | a => (.error (accCause cReach a), d)

/-! ### Unit queues and barriers (04 R104 to R108) -/

/-- The commands of a unit's queue: 0 MU, 1 VU, 5 DMA, 6 CTX, 7 egress port. -/
def unitQ (c : Core) : Nat → List QCmd
  | 0 => c.mu | 1 => c.vu | 5 => c.dma | 6 => c.ctx | 7 => c.egr | _ => []

/-- A unit's queue replaced. -/
def setUnitQ (c : Core) (u : Nat) (q : List QCmd) : Core :=
  match u with
  | 0 => { c with mu := q } | 1 => { c with vu := q } | 5 => { c with dma := q } | 6 => { c with ctx := q } | 7 => { c with egr := q } | _ => c

/-- The depth of a unit queue (04 Table CORE-4). -/
def unitDepth (u : Nat) : Nat := if u = 7 then 4 else 8

/-- The pattern context of an engine (0 SE_A, 1 SE_B, 2 SE_W). -/
def ctxAt (c : Core) (e x : Nat) : PatCtx := smGet {} c.se (8 * e + x)

/-- A pattern context replaced. -/
def setCtx (d : Dev) (i e x : Nat) (p : PatCtx) : Dev := modCore d i (fun c => { c with se := smSet {} c.se (8 * e + x) p })

/-- The contexts of an engine that are not free. -/
def activeCtx (c : Core) (e : Nat) : List (Nat × PatCtx) :=
  ((List.range 8).map (fun x => (x, ctxAt c e x))).filter (fun y => decide (y.2.st ≠ 0))

/-- Whether a unit of the mask has a command of this task, issued before a position, that has not completed (04 R106, R107). -/
def unitBusy (c : Core) (n pos u : Nat) : Bool :=
  if 2 ≤ u ∧ u ≤ 4 then (activeCtx c (u - 2)).any (fun y => decide (y.2.task = n) && decide (y.2.pos < pos))
  else (unitQ c u).any (fun q => decide (q.slot = n) && decide (q.pos < pos))

/-- Whether every unit that a mask names has completed the task's earlier commands. -/
def barrierMet (c : Core) (n pos mask : Nat) : Bool :=
  (List.range 8).all (fun u => !(mask.testBit u) || !unitBusy c n pos u)

/-- The unit of a command word's family, for barriers: 8 for the sequencer. -/
def unitOf (w : Nat) : Nat :=
  match wFamily w with
  | some .mma => 0 | some .vop => 1 | some .pat => 2 + bits w 123 122 | some .dma => 5 | some .ctxload => 6 | some .ctxstore => 6
  | some .emit => 7 | _ => 8

/-- Whether a DEPMARK at a position ahead of the issue pointer is satisfied: every command of a named unit that stands before it has been
issued or started, and has completed (04 R105, R106). -/
def markMetAhead (d : Dev) (i n pos mask : Nat) : Bool :=
  let c := coreAt d i
  let t := taskAt c n
  barrierMet c n pos mask &&
    (List.range (pos - t.issue)).all (fun k =>
      match peekWord d i n (t.issue + k) with
      | none => true
      | some w => !(mask.testBit (unitOf w)) || t.started.contains (t.issue + k))

/-- The run-ahead scan (04 R105): the first PAT or HANKWAIT from the issue pointer, at most 32 words ahead, that has not been started; a
DEPMARK not yet satisfied, END and a reserved word stop it. -/
def scanAhead (d : Dev) (i n : Nat) : Nat → Nat → Option (Nat × Nat)
  | 0, _ => none
  | fuel + 1, pos =>
    let t := taskAt (coreAt d i) n
    match peekWord d i n pos with
    | none => none
    | some w =>
      if wordReserved w then none
      else
        match wFamily w with
        | some .end_ => none
        | some .depmark => if markMetAhead d i n pos (bits w 119 112) then scanAhead d i n fuel (pos + 1) else none
        | some .pat | some .hankwait => if t.started.contains pos then scanAhead d i n fuel (pos + 1) else some (pos, w)
        | _ => scanAhead d i n fuel (pos + 1)

/-- What run-ahead would start next for a task. -/
def aheadOf (d : Dev) (i n : Nat) : Option (Nat × Nat) := scanAhead d i n 33 (taskAt (coreAt d i) n).issue

/-! ### Choosing, blocking and unblocking tasks (04 R102, R103, R109) -/

/-- What a TAGOP WAIT waits on: its cause and the first of its slots whose tag is not as it asks (04 R121). -/
def tagWait (c : Core) (w : Nat) : Option (Nat × Nat) :=
  let s := skeinAt c (bits w 119 114)
  let slots := (List.range (bits w 97 82)).map (fun k => (bits w 113 98 + k) % max 1 s.count)
  match bits w 123 120 with
  | 2 => (slots.find? (fun k => !s.full k)).map (fun k => (1, k))
  | 3 => (slots.find? (fun k => s.full k)).map (fun k => (2, k))
  | _ => none

/-- The slot on which the TAGOP at a task's issue pointer waits. -/
def tagAt (d : Dev) (i n : Nat) : Option Nat :=
  match peekWord d i n (taskAt (coreAt d i) n).issue with
  | some w => if wFamily w = some .tagop then (tagWait (coreAt d i) w).map (fun x => x.2) else none
  | none => none

/-- The time from which a wait that begins now is counted: in a halted debug group `since` holds what has passed of the wait, and a wait begins at 0 (07 R196). -/
def waitStart (d : Dev) (i : Nat) : Nat := if siteHalted d i then 0 else d.now

/-- The issue pointer of a task blocks (04 R109): in stall mode the task stays the one that issues; in switch mode another is chosen. -/
def blockTask (d : Dev) (i n cause : Nat) : Dev :=
  let t := taskAt (coreAt d i) n
  let d := setTask d i n { t with st := .blocked, cause := cause, since := waitStart d i, tagSlot := (tagAt d i n).getD 0 }
  if dSwitch t.desc then chooseTask (modCore d i (fun c => { c with run := none })) i else d

/-- The issue pointer passes a command word (04 R104): the word is counted in CORE_ISSUE. -/
def advance (d : Dev) (i n : Nat) : Dev :=
  let d := modTask d i n (fun t => { t with issue := t.issue + 1, st := .running, cause := 7,
                                            started := t.started.filter (fun p => decide (t.issue < p)),
                                            waited := t.waited.filter (fun p => decide (t.issue < p)) })
  cntInc d (Reg.CORE_ISSUE_LO i)

/-- What a DMA descriptor under way waits on: external memory, a slice of another core, or nothing of the two (04 R104). -/
def descCause (d : Dev) (i : Nat) (x : DmaDesc) : Nat :=
  let away := fun (c : Nat) => decide (c ≠ canonAt d i)
  let spad := fun (a : Nat) => away (64 * bits a 29 28 + bits a 27 21)
  let ring := fun (v : Nat) => away (bits v 15 8)
  if x.finished then 4
  else
    match x.kind with
    | 2 => if spad x.src || spad x.dst then 5 else 4
    | 5 => if spad x.src || ring x.dst then 5 else 4
    | 6 => if ring x.src || spad x.dst then 5 else 4
    | _ => 3

/-- The command at the head of a full queue waits on a cause; a task that blocks on the queue counts under it (04 R104). -/
def queueCause (d : Dev) (i u : Nat) : Nat :=
  match (unitQ (coreAt d i) u).head? with
  | some q =>
    if q.wait ≠ 7 then q.wait
    else if stuckAt d i u 0 then 5
    else
      match q.desc with
      | some x => if u = 5 then descCause d i x else 4
      | none => 4
  | none => 4

/-- The tag or the remote slice on which the task's own MU or VU command waits: it blocks the task's issue pointer (04 Table CORE-5, 07 R192). The lower code of two counts. -/
def unitWait (c : Core) (n : Nat) : Option Nat :=
  let ks := ([c.mu.head?, c.vu.head?].filterMap id).filterMap (fun q => if decide (q.slot = n) && decide (q.wait = 1 ∨ q.wait = 2 ∨ q.wait = 5) then some q.wait else none)
  ks.min?

/-- Whether a role of a skein is held by a pattern of a task of this core. -/
def patternHolds (r : Option Role) (i n : Nat) : Bool :=
  match r with
  | some r => decide (r.site = i) && decide (r.slot = n) && decide (2 ≤ r.unit) && decide (r.unit ≤ 4)
  | none => false

/-- Whether a PAT has room (08 R207): a free context, fewer than 4 of the task's on the engine, and no other pattern of the task in the role. -/
def patRoom (c : Core) (i n w : Nat) : Bool :=
  let e := bits w 123 122
  let s := skeinAt c (bits w 113 108)
  let act := activeCtx c e
  decide (act.length < 8) && decide ((act.filter (fun y => decide (y.2.task = n))).length < 4) &&
    !patternHolds (if e = 2 then s.cons else s.prod) i n

/-- The condition on which a task blocks at its issue pointer, if any (04 Table CORE-5). When its own MU or VU command waits, the lower code
is the cause. -/
def blockCause (d : Dev) (i n : Nat) : Option Nat :=
  let c := coreAt d i
  let t := taskAt c n
  let pos := t.issue
  let queue := fun (u : Nat) => if unitDepth u ≤ (unitQ c u).length then some (queueCause d i u) else none
  let word :=
    match peekWord d i n pos with
    | none => none
    | some w =>
      if (checkWord w).isSome then none
      else
        match wFamily w with
        | some .hankwait =>
          if t.waited.contains pos then none
          else if t.started.contains pos then some 0 else some 4
        | some .depmark | some .lbar => if barrierMet c n pos (bits w 119 112) then none else some 4
        | some .tagop => (tagWait c w).map (fun x => x.1)
        | some .pat => if t.started.contains pos || patRoom c i n w then none else some 4
        | some .mma => queue 0
        | some .vop => queue 1
        | some .dma => queue 5
        | some .ctxload | some .ctxstore => queue 6
        | some .emit => queue 7
        | _ => none
  match unitWait c n, word with
  | some a, some b => some (min a b)
  | some a, none => some a
  | none, b => b

/-- A blocked task whose condition has cleared becomes READY, or RUNNING again when it held the core in stall mode (04 R103). -/
def unblockOne (d : Dev) (i n : Nat) : Dev :=
  let c := coreAt d i
  let t := taskAt c n
  if t.st = .blocked then
    match blockCause d i n with
    | some k =>
      let slot := (tagAt d i n).getD t.tagSlot
      setTask d i n { t with cause := k, since := if slot = t.tagSlot then t.since else waitStart d i, tagSlot := slot }
    | none => setTask d i n { t with st := if c.run = some n then .running else .ready, cause := 7 }
  else d

/-- The running task of a core blocks when its own MU or VU command begins to wait (07 R192). -/
def holdRun (d : Dev) (i : Nat) : Dev :=
  let c := coreAt d i
  match c.run with
  | none => d
  | some n =>
    if (taskAt c n).st = .running then
      match unitWait c n with
      | some k => blockTask d i n k
      | none => d
    else d

/-- TASK_UNBLOCK (04 R103): every blocked task of a core looked at again, then a choice. -/
def unblock (d : Dev) (i : Nat) : Dev := holdRun (chooseTask ((List.range 8).foldl (fun d n => unblockOne d i n) d) i) i

/-! ### Lap starts (04 R102) -/

/-- A model's lap start at this station: every WAITING_LAP task of the model becomes READY in the lap that starts. -/
def lapStartCore (d : Dev) (m lap i : Nat) : Dev :=
  let c := coreAt d i
  if c.tasks.any (fun t => decide (t.st = .waitingLap) && decide (dModel t.desc = m)) then
    let d := setCore d i { c with tasks := c.tasks.map (fun t =>
      if decide (t.st = .waitingLap) && decide (dModel t.desc = m) then { t with st := .ready, lap := lap, joined := true, twin := (modelAt d m).twinOn } else t) }
    chooseTask d i
  else d

/-- The sites that have a core with any state of their own. -/
def usedSites (d : Dev) : List Nat := d.core.map (fun x => x.1)

/-- A lap start on every core. -/
def lapStart (d : Dev) (m lap : Nat) : Dev :=
  let d := { d with core := d.core.map (fun x => (x.1, { x.2 with seen := x.2.seen.filter (fun h => !decide (h.model = m) || decide ((lap + 2 ^ 32 - h.lap) % 2 ^ 32 ≤ 1)) })) }
  (usedSites d).foldl (fun d i => lapStartCore d m lap i) d

/-! ### Hank bindings (07 R199 to R201) -/

/-- Slots of the hank skein bound by any task of the core. -/
def boundSlots (c : Core) : List Nat := (c.tasks.map (fun t => t.hb.filterMap (fun b => b.map (fun x => x.slot)))).flatten

/-- The slot of the hank skein that holds a hank. -/
def findHank (c : Core) (m layer hank lap : Nat) : Option Nat :=
  (List.range c.hslots.length).find? (fun k =>
    match c.hslots.getD k none with
    | some h => decide (h.model = m) && decide (h.layer = layer) && decide (h.hank = hank) && decide (h.lap = lap)
    | none => false)

/-- Whether a lap comes before another, modulo 2^32 (10 R295). -/
def lapBefore (a b : Nat) : Bool := decide ((b + 2 ^ 32 - a) % 2 ^ 32 ≠ 0) && decide ((b + 2 ^ 32 - a) % 2 ^ 32 ≤ 2 ^ 31)

/-- Whether a lap is another, or comes before it. -/
def lapUpTo (a b : Nat) : Bool := decide (a = b) || lapBefore a b

/-- Whether a hank has passed this core in a lap, or in a later one, and is not in the hank skein: the core will not see it again in that lap. -/
def hankGone (c : Core) (m layer hank lap : Nat) : Bool :=
  c.seen.any (fun h => decide (h.model = m) && decide (h.layer = layer) && decide (h.hank = hank) && lapUpTo lap h.lap) &&
    (findHank c m layer hank lap).isNone

/-- The first word of a slot of the hank skein. -/
def hankBase (c : Core) (slot : Nat) : Nat := (skeinAt c 63).slotAddr slot

/-- The contexts of a task that wait for the base of a HANKWAIT take it (08 R223). -/
def giveBase (d : Dev) (i n pos slot : Nat) : Dev :=
  modCore d i (fun c => { c with se := c.se.map (fun x =>
    if decide (x.2.st = 2) && decide (x.2.task = n) && decide (x.2.pairPos = pos) then (x.1, { x.2 with st := 1, base := hankBase c slot }) else x) })

/-- A match binds a slot and its HANKWAIT completes (07 R200). -/
def bindMatch (d : Dev) (i n : Nat) (mt : HMatch) (slot : Nat) : Dev :=
  let d := modTask d i n (fun t => { t with
    hmatch := t.hmatch.filter (fun x => decide (x ≠ mt))
    hb := setAt t.hb mt.hb (some { slot := slot, pos := mt.pos })
    waited := t.waited ++ [mt.pos] })
  giveBase d i n mt.pos slot

/-- The image that the next switch of a model makes active: what its last barrier has decided. -/
def ModelSt.target (x : ModelSt) : Option Image :=
  match x.pend with
  | 1 => x.staged
  | 2 => x.prev
  | 3 => none
  | _ => x.active

/-- The image of a model in a lap (10 R297, R298): a lap carries one image only. -/
def ModelSt.imageOf (x : ModelSt) (lap : Nat) : Option Image :=
  match x.effLap with
  | none => x.active
  | some e => if lapBefore lap e then (if x.pend = 0 then x.old else x.active) else x.target

/-- Whether a task may move to the next lap: it never moves to a lap of another image (07 R201). -/
def mayMove (d : Dev) (t : Task) : Bool := decide ((modelAt d (dModel t.desc)).effLap ≠ some ((t.lap + 1) % 2 ^ 32))

/-- A task moves to the next lap (LAP_MOVE, 07 R201); SHIFTED counts it and saturates. -/
def lapMove (d : Dev) (i n : Nat) : Dev :=
  let a := Reg.CORE_HANK_COUNT i
  let d := modTask d i n (fun t => { t with lap := (t.lap + 1) % 2 ^ 32 })
  setFld d a 15 0 (min (fld d a 15 0 + 1) 0xffff)

/-- The matches of a task whose hanks are here bind (07 R200). -/
def bindHere (d : Dev) (i n : Nat) : Dev :=
  (taskAt (coreAt d i) n).hmatch.foldl (fun d mt =>
    let t := taskAt (coreAt d i) n
    match findHank (coreAt d i) (dModel t.desc) mt.layer mt.hank t.lap with
    | some k => bindMatch d i n mt k
    | none => d) d

/-- The laps by which the latest hank seen of a model is ahead of a task. -/
def lapsBehind (c : Core) (t : Task) : Nat :=
  (c.seen.filter (fun h => decide (h.model = dModel t.desc) && lapUpTo t.lap h.lap)).foldl (fun m h => max m ((h.lap + 2 ^ 32 - t.lap) % 2 ^ 32)) 0

/-- A task moved lap by lap while a hank that it waits for will not be seen again in its lap (07 R201). -/
def settleMoves (i n : Nat) : Nat → Dev → Dev
  | 0, d => d
  | k + 1, d =>
    let c := coreAt d i
    let t := taskAt c n
    if t.hmatch.any (fun mt => hankGone c (dModel t.desc) mt.layer mt.hank t.lap) && mayMove d t then settleMoves i n k (bindHere (lapMove d i n) i n) else d

/-- The matches of a task looked at: one whose hank is here binds; while a hank will not be seen again the task moves (07 R200, R201). -/
def settleTask (d : Dev) (i n : Nat) : Dev :=
  let d := bindHere d i n
  settleMoves i n (lapsBehind (coreAt d i) (taskAt (coreAt d i) n) + 1) d

/-- Starting a HANKWAIT (07 R200): nothing while an earlier HANKWAIT on its HB is unbound or an active pattern of the task uses the HB; else
the previous binding is released, the match registered and settled. -/
def startHankwait (d : Dev) (i n pos w : Nat) : Option Dev :=
  let c := coreAt d i
  let t := taskAt c n
  let hb := bits w 81 80
  let earlier := t.hmatch.any (fun mt => decide (mt.hb = hb))
  let used := c.se.any (fun x => decide (x.2.task = n) && decide (x.2.st = 1 ∨ x.2.st = 3) && x.2.baseSel && decide (x.2.hb = hb))
  if earlier || used then none
  else
    let mt : HMatch := { hb := hb, pos := pos, layer := bits w 113 98, hank := bits w 97 82 }
    let d := modTask d i n (fun t => { t with hb := setAt t.hb hb none, hmatch := t.hmatch ++ [mt], started := t.started ++ [pos] })
    some (settleTask d i n)

/-! ### Roles (07 R187) -/

/-- Whether a role is free for a command of a task's pattern, MMA or chain. -/
def roleFree (r : Option Role) : Bool := r.isNone

/-- The roles of a task on every skein of every core ended (04 R125). -/
def dropRoles (d : Dev) (p : Role → Bool) : Dev :=
  { d with core := d.core.map (fun x => (x.1, { x.2 with skeins := x.2.skeins.map (fun y => (y.1, { y.2 with
      prod := (match y.2.prod with | some r => if p r then none else some r | none => none)
      cons := (match y.2.cons with | some r => if p r then none else some r | none => none) })) })) }

end Sys2Proof.Machine
end

