-- ==== Sys2Proof/Machine/Units.lean ====
section
/-! DEFINITION. The matrix unit and the vector unit (04 R114 to R116; 05): checks when a command is issued, execution of the command at the head of
the unit's queue as far as the tags allow, and completion. -/

namespace Sys2Proof.Machine

/-! ### Accesses of a task's units (06 R155 to R163) -/

/-- Whether an access to one of `n` words from an address waits at a seam behind a hank (02 R61). -/
def holdN (d : Dev) (i addr n : Nat) : Bool := !d.ring.deliver.isEmpty && (List.range n).any (fun k => wordHold d i ((addr + k) % 2 ^ 24))

/-- A read of a word by a unit of a task through its port: the data or the abort cause. `hole` is the cause of Table SPAD-4. -/
def unitRead (d : Dev) (i n addr hole port : Nat) : Except Nat (List Byte) × Dev :=
  let g := dGlobal (taskAt (coreAt d i) n).desc
  match access d (canonAt d i) g addr with
  | .ok s w =>
    (match portRead (countNet d i s g false 1) s w (portFor i s port) with
     | (none, d) => (.error cSpadUncorr, d)
     | (some data, d) => (.ok data, d))
  | a => (.error (accCause hole a), d)

/-- A write of a whole word by a unit of a task through its port. -/
def unitWrite (d : Dev) (i n addr hole port : Nat) (data : List Byte) (weight : Bool) : Except Nat Unit × Dev :=
  let g := dGlobal (taskAt (coreAt d i) n).desc
  match access d (canonAt d i) g addr with
  | .ok s w => (.ok (), portWrite (countNet d i s g true 1) s w (portFor i s port) data weight)
  | a => (.error (accCause hole a), d)

/-- Reads of consecutive words, in order, up to the first that fails. -/
def unitReadN (d : Dev) (i n addr hole port : Nat) : Nat → Except Nat (List Byte) × Dev
  | 0 => (.ok [], d)
  | k + 1 =>
    match unitRead d i n addr hole port with
    | (.error e, d) => (.error e, d)
    | (.ok x, d) =>
      match unitReadN d i n ((addr + 1) % 2 ^ 24) hole port k with
      | (.error e, d) => (.error e, d)
      | (.ok xs, d) => (.ok (x ++ xs), d)

/-- Writes of consecutive words, in order, up to the first that fails. -/
def unitWriteN (d : Dev) (i n addr hole port : Nat) (weight : Bool) : Nat → List Byte → Except Nat Unit × Dev
  | 0, _ => (.ok (), d)
  | k + 1, data =>
    match unitWrite d i n addr hole port (padTo 64 (data.take 64)) weight with
    | (.error e, d) => (.error e, d)
    | (.ok _, d) => unitWriteN d i n ((addr + 1) % 2 ^ 24) hole port weight k (data.drop 64)

/-- The words that a command of a twinned task wrote, kept by its position for the layer digests (16 R461). -/
def twinNote (d : Dev) (i n pos : Nat) (words : List Byte) : Dev :=
  if (taskAt (coreAt d i) n).twin then modTask d i n (fun t => { t with parts := t.parts ++ [(pos, words)] }) else d

/-- The tag that a read by address of a word waits on: whether the word lies in an empty slot of a tagged skein of any core (07 Table SKEIN-2,
VU read). -/
def inEmptySlot (d : Dev) (addr : Nat) : Bool :=
  d.core.any (fun x => x.2.skeins.any (fun y =>
    let s := y.2
    s.tagged && decide (0 < s.size) && decide (s.base ≤ addr) && decide (addr < s.base + s.size * s.count) &&
      !s.full ((addr - s.base) / s.size)))

/-! ### Operands -/

/-- The encoding of element `k` of packed bytes (05 R132, R134). -/
def elemAt (f : Fmt) (bs : List Byte) (k : Nat) : Nat :=
  match f.bits with
  | 4 => bits (bs.getD (k / 2) 0).toNat (4 * (k % 2) + 3) (4 * (k % 2))
  | 8 => (bs.getD k 0).toNat
  | 16 => leAt bs (2 * k) 2
  | _ => leAt bs (4 * k) 4

/-- `n` elements of packed bytes as values. -/
def valuesOf (f : Fmt) (bs : List Byte) (n : Nat) : List Val := (List.range n).map (fun k => decodeFmt f (elemAt f bs k))

/-- Encodings packed into bytes (05 R132, R134). -/
def packElems (f : Fmt) : List Nat → List Byte
  | [] => []
  | x :: xs =>
    match f.bits with
    | 4 => (match xs with
      | [] => [byteOf (x % 16)]
      | y :: ys => byteOf (x % 16 + 16 * (y % 16)) :: packElems f ys)
    | 8 => byteOf x :: packElems f xs
    | 16 => leBytes 2 x ++ packElems f xs
    | _ => leBytes 4 x ++ packElems f xs

/-! ### The matrix unit -/

/-- Fields of an MMA (04 Table CORE-8). -/
def mmaA (w : Nat) : Nat := bits w 115 110
def mmaB (w : Nat) : Nat := bits w 109 104
def mmaC (w : Nat) : Nat := bits w 103 98
def mmaRows (w : Nat) : Nat := bits w 97 91
def mmaTiles (w : Nat) : Nat := bits w 90 79
def mmaFmtA (w : Nat) : Fmt := (Fmt.ofCode (bits w 123 120)).getD .int8
def mmaFmtB (w : Nat) : Fmt := (Fmt.ofCode (bits w 119 116)).getD .int8

/-- The checks of a skein that a PAT or an MMA names (07 R184, R189, R193, R197): disabled, raw or too few slots, and reach. -/
def ringCause (s : Skein) (global : Bool) : Option Nat :=
  if s.count = 0 then some cSkeinDisabled
  else if !s.tagged || decide (s.count < 3) then some cSlotSize
  else if s.reach && !global then some cReach
  else none

/-- The checks of an MMA when it is issued (04 R115, 07 R184, R189, R197); of several that fail the lower cause is recorded, a disabled skein
before its slot size. -/
def mmaCause (c : Core) (t : Task) (w : Nat) : Option Nat :=
  let g := dGlobal t.desc
  match mmaPair (mmaFmtA w) (mmaFmtB w) with
  | none => some cCmdFormat
  | some (wa, wb, _) =>
    let one := fun (s : Skein) (words : Nat) =>
      if s.count = 0 then some cSkeinDisabled else if decide (s.size ≠ words) then some cSlotSize else ringCause s g
    let cs := [one (skeinAt c (mmaA w)) wa, one (skeinAt c (mmaB w)) wb, one (skeinAt c (mmaC w)) 4].filterMap id
    cs.min?

/-- One step of a unit's command: it goes on, waits on a cause, faults, or is done. -/
inductive Micro where
  | go (d : Dev) (q : QCmd)
  | wait (k : Nat)
  | fault (c : Nat) (d : Dev)
  | done (d : Dev) (q : QCmd)
  deriving DecidableEq, Repr

/-- The role that a unit command of a task holds. -/
def roleOf (i : Nat) (q : QCmd) (u : Nat) : Role := { site := i, slot := q.slot, unit := u, pos := q.pos }

/-- The C element of one row of a floating-point tile: the exact sum of the products rounded once to FP32, then added to the accumulator with one
rounding (05 R142). -/
def fpStep (acc : Int) (a b : List Val) : Int :=
  let t := encodeFmt .fp32 (sumVals (List.zipWith Val.mul a b))
  (encodeFmt .fp32 (Val.add (decodeFmt .fp32 acc.toNat) (decodeFmt .fp32 t)) : Nat)

/-- The integer accumulation (05 R141). -/
def intStep (acc : Int) (a b : List Int) : Int := acc + (List.zipWith (fun x y => x * y) a b).sum

/-- Column `j` of a 64 x 64 tile. -/
def column {α : Type} (tile : List α) (dflt : α) (j : Nat) : List α := (List.range 64).map (fun r => tile.getD (64 * r + j) dflt)

/-- The accumulators of one row after a tile. -/
def rowStep (fa fb : Fmt) (acc : List Int) (aRow tile : List Byte) : List Int :=
  if fa.isInt then
    let a := (List.range 64).map (fun k => signExtend fa.bits (elemAt fa aRow k))
    let b := (List.range 4096).map (fun k => signExtend fb.bits (elemAt fb tile k))
    (List.range 64).map (fun j => intStep (acc.getD j 0) a (column b 0 j))
  else
    let a := valuesOf fa aRow 64
    let b := valuesOf fb tile 4096
    (List.range 64).map (fun j => fpStep (acc.getD j 0) a (column b (.zero false) j))

/-- The accumulators with rows `r ..` replaced by the results of one A slot: two rows for INT4 x INT4 (05 R143). -/
def slotStep (fa fb : Fmt) (rows perSlot r : Nat) (acc : List Int) (slot tile : List Byte) : List Int :=
  let one := fun (acc : List Int) (row : Nat) (bs : List Byte) =>
    if rows ≤ row then acc
    else acc.take (64 * row) ++ rowStep fa fb (slice64 acc row) bs tile ++ acc.drop (64 * row + 64)
  if perSlot = 2 then one (one acc (2 * r) (slot.take 32)) (2 * r + 1) (slot.drop 32) else one acc r slot
where
  /-- The accumulators of one row. -/
  slice64 (acc : List Int) (row : Nat) : List Int := (acc.drop (64 * row)).take 64

/-- A row of C as bytes: integers saturate to INT32, floating-point accumulators are FP32 encodings (05 R141, R142). -/
def cRow (fa : Fmt) (acc : List Int) (row : Nat) : List Byte :=
  packElems .int32 ((List.range 64).map (fun j =>
    let z := acc.getD (64 * row + j) 0
    if fa.isInt then encodeFmt .int32 (Val.ofInt z) else z.toNat))

/-- One step of an MMA (04 R114): the roles when it begins; then a B slot for the free one of the two weight tiles, an A slot against the tile in use, the next tile, or a C slot. -/
def mmaMicro (d : Dev) (i : Nat) (q : QCmd) : Micro :=
  let w := q.word.toNat
  let c := coreAt d i
  let rows := mmaRows w
  let tiles := mmaTiles w
  let fa := mmaFmtA w
  let fb := mmaFmtB w
  let sa := skeinAt c (mmaA w)
  let sb := skeinAt c (mmaB w)
  let sc := skeinAt c (mmaC w)
  let (wa, wb, per) := (mmaPair fa fb).getD (1, 64, 1)
  let slots := if per = 2 then (rows + 1) / 2 else rows
  let me := roleOf i q 0
  let load := !(q.haveTile && q.haveNext) && decide (q.k + (if q.haveTile then 1 else 0) < tiles)
  if q.acc.isEmpty then
    if sa.cons.isSome || sb.cons.isSome || sc.prod.isSome then .fault cSkeinBusy d
    else
      let d := setSkein d i (mmaA w) { sa with cons := some me }
      let d := setSkein d i (mmaB w) { skeinAt (coreAt d i) (mmaB w) with cons := some me }
      let d := setSkein d i (mmaC w) { skeinAt (coreAt d i) (mmaC w) with prod := some me }
      .go d { q with acc := List.replicate (64 * rows) 0 }
  else if q.k < tiles then
    if load && sb.full sb.head && !holdN d i (sb.slotAddr sb.head) wb then
      match unitReadN d i q.slot (sb.slotAddr sb.head) cReach portSeA wb with
      | (.error e, d) => .fault e d
      | (.ok bs, d) =>
        .go (setSkein d i (mmaB w) sb.consStep) (if q.haveTile then { q with haveNext := true, next := bs } else { q with haveTile := true, tile := bs, r := 0 })
    else if !q.haveTile then .wait (if sb.full sb.head then 5 else 1)
    else if q.r < slots then
      if !sa.full sa.head then .wait 1
      else if holdN d i (sa.slotAddr sa.head) wa then .wait 5
      else
        match unitReadN d i q.slot (sa.slotAddr sa.head) cReach portSeA wa with
        | (.error e, d) => .fault e d
        | (.ok bs, d) => .go (setSkein d i (mmaA w) sa.consStep) { q with r := q.r + 1, acc := slotStep fa fb rows per q.r q.acc bs q.tile }
    else .go d { q with k := q.k + 1, r := 0, haveTile := q.haveNext, tile := q.next, haveNext := false, next := [] }
  else if q.r < rows then
    if sc.full sc.tail then .wait 2
    else if holdN d i (sc.slotAddr sc.tail) 4 then .wait 5
    else
      match unitWriteN d i q.slot (sc.slotAddr sc.tail) cReach portSeA sc.ecc 4 (cRow fa q.acc q.r) with
      | (.error e, d) => .fault e d
      | (.ok _, d) =>
        let d := setSkein d i (mmaC w) (skeinAt (coreAt d i) (mmaC w)).prodStep
        .go d { q with r := q.r + 1 }
  else .done (dropRoles d (fun r => decide (r = me))) q

/-! ### The vector unit -/

/-- Fields of a VOP (04 Table CORE-10). -/
def vFunc (w : Nat) : Nat := bits w 123 118
def vIfmt (w : Nat) : Fmt := (Fmt.ofCode (bits w 117 114)).getD .fp32
def vOfmt (w : Nat) : Fmt := (Fmt.ofCode (bits w 113 110)).getD .fp32
def vSrcA (w : Nat) : Nat := bits w 109 86
def vSrcB (w : Nat) : Nat := bits w 85 62
def vDst (w : Nat) : Nat := bits w 61 38
def vCount (w : Nat) : Nat := bits w 37 22
def vImm (w : Nat) : Val := decodeFmt .bf16 (bits w 21 6)
def vUseImm (w : Nat) : Bool := w.testBit 5

/-- Whether a VOP reads B from the scratchpad. -/
def vReadsB (w : Nat) : Bool := vopReadsB (vFunc w) && !vUseImm w

/-- The format of the B operand: FP32 for SCALE (05 R146). -/
def vBfmt (w : Nat) : Fmt := if vFunc w = 14 then .fp32 else vIfmt w

/-- Whether the results are packed, one per vector (REDSUM, REDMAX). -/
def vPacked (w : Nat) : Bool := decide (vFunc w = 15 ∨ vFunc w = 16)

/-- Words that a VOP writes. -/
def vDstWords (w : Nat) : Nat :=
  if vPacked w then (vCount w * (vOfmt w).bits + 511) / 512 else vCount w * (vOfmt w).words

/-- Whether `n` words from an address pass word 32,767 of the slice. -/
def passesSlice (addr n : Nat) : Bool := decide (32768 < addr % 32768 + n)

/-- The checks of a VOP when it is issued (04 R116): reach, then the ranges; of two that fail the lower cause is recorded. -/
def vopCause (d : Dev) (i : Nat) (t : Task) (w : Nat) : Option Nat :=
  if vCount w = 0 then none
  else
    let rs := [(vSrcA w, vCount w * (vIfmt w).words), (vDst w, vDstWords w)] ++
      (if vReadsB w then [(vSrcB w, vCount w * (vBfmt w).words)] else [])
    let bad := fun (a : Nat) => match access d (canonAt d i) (dGlobal t.desc) a with | .hole => true | .reach => true | _ => false
    if rs.any (fun r => bad r.1) then some cReach
    else if rs.any (fun r => passesSlice r.1 r.2) then some cVopRange
    else none

/-- A reduction tree over a list of lanes (05 R148): neighbours are combined level by level. -/
def treeLevel (f : Val → Val → Val) : List Val → List Val
  | x :: y :: r => f x y :: treeLevel f r
  | l => l

/-- Six levels of the tree over 64 lanes. -/
def tree64 (f : Val → Val → Val) (l : List Val) : Val :=
  ((treeLevel f (treeLevel f (treeLevel f (treeLevel f (treeLevel f (treeLevel f l)))))).head?).getD (.zero false)

/-- A node of REDSUM: rounded to FP32, or saturated to INT32 (05 R148). -/
def redNode (f : Fmt) (x y : Val) : Val :=
  let g : Fmt := if f.isInt then .int32 else .fp32
  decodeFmt g (encodeFmt g (x.add y))

/-- The encoding of a lane's result (05 R144 to R147, Table NUM-5). -/
def laneResult (func : Nat) (o : Fmt) (a b imm : Val) : Nat :=
  let via := fun (n : Nat) => encodeFmt o (decodeFmt .fp32 n)
  match func with
  | 0 => encodeFmt o a
  | 1 => encodeFmt o (a.add b)
  | 2 => encodeFmt o (a.add b.negate)
  | 3 => encodeFmt o (a.mul b)
  | 4 => encodeFmt o ((a.mul imm).add b)
  | 5 => encodeFmt o (a.max b)
  | 6 => encodeFmt o (a.min b)
  | 7 => encodeFmt o (a.max (.zero false))
  | 8 => via (fnGelu a)
  | 9 => via (fnSigmoid a)
  | 10 => via (fnTanh a)
  | 11 => via (fnExp a)
  | 12 => via (fnRecip a)
  | 13 => via (fnRsqrt a)
  | _ => encodeFmt o (a.mul b)

/-- The results of one vector: 64 encodings, or one for a reduction. -/
def vectorResult (w : Nat) (a b : List Val) : List Nat :=
  if vFunc w = 15 then [encodeFmt (vOfmt w) (tree64 (redNode (vIfmt w)) a)]
  else if vFunc w = 16 then [encodeFmt (vOfmt w) (tree64 Val.max a)]
  else List.zipWith (fun x y => laneResult (vFunc w) (vOfmt w) x y (vImm w)) a b

/-- One step of a VOP: one vector, read whole before its result is written; a packed result is written a word at a time, the last word filled with
zeros (04 R116, 06 R163). A read in an empty slot of a tagged skein waits. -/
def vopMicro (d : Dev) (i : Nat) (q : QCmd) : Micro :=
  let w := q.word.toNat
  let fa := vIfmt w
  let fb := vBfmt w
  let aAddr := vSrcA w + q.k * fa.words
  let bAddr := vSrcB w + q.k * fb.words
  let perWord := 512 / (vOfmt w).bits
  if q.k < vCount w then
    let waits := (List.range fa.words).any (fun k => inEmptySlot d (aAddr + k)) ||
      (vReadsB w && (List.range fb.words).any (fun k => inEmptySlot d (bAddr + k)))
    if waits then .wait 1
    else if holdN d i aAddr fa.words || (vReadsB w && holdN d i bAddr fb.words) || holdN d i (vDst w + (if vPacked w then q.r else q.k * (vOfmt w).words)) (vOfmt w).words then .wait 5
    else
      match unitReadN d i q.slot aAddr cReach portVuA fa.words with
      | (.error e, d) => .fault e d
      | (.ok abs, d) =>
        match (if vReadsB w then unitReadN d i q.slot bAddr cReach portVuB fb.words else (.ok [], d)) with
        | (.error e, d) => .fault e d
        | (.ok bbs, d) =>
          let a := valuesOf fa abs 64
          let b := if vReadsB w then valuesOf fb bbs 64 else List.replicate 64 (vImm w)
          let res := vectorResult w a b
          if vPacked w then
            let acc := q.acc ++ res.map Int.ofNat
            if acc.length = perWord ∨ q.k + 1 = vCount w then
              match unitWrite d i q.slot (vDst w + q.r) cReach portVuW (padTo 64 (packElems (vOfmt w) (acc.map Int.toNat))) false with
              | (.error e, d) => .fault e d
              | (.ok _, d) => .go (twinNote d i q.slot q.pos (padTo 64 (packElems (vOfmt w) (acc.map Int.toNat)))) { q with k := q.k + 1, r := q.r + 1, acc := [] }
            else .go d { q with k := q.k + 1, acc := acc }
          else
            match unitWriteN d i q.slot (vDst w + q.k * (vOfmt w).words) cReach portVuW false (vOfmt w).words (packElems (vOfmt w) res) with
            | (.error e, d) => .fault e d
            | (.ok _, d) => .go (twinNote d i q.slot q.pos (padTo (64 * (vOfmt w).words) (packElems (vOfmt w) res))) { q with k := q.k + 1 }
  else .done d q

/-! ### Driving the units -/

/-- The head of a unit's queue replaced. -/
def setHead (d : Dev) (i u : Nat) (q : QCmd) : Dev :=
  modCore d i (fun c => setUnitQ c u (match unitQ c u with | [] => [] | _ :: r => q :: r))

/-- One step of the command at the head of a unit's queue, and whether it goes on; a command of a task that is being aborted stops. -/
def driveOnce (micro : Dev → Nat → QCmd → Micro) (u i : Nat) (d : Dev) : Dev × Bool :=
  match (unitQ (coreAt d i) u).head? with
  | none => (d, false)
  | some q =>
    let hold := fun (k : Nat) => (setHead d i u { q with wait := k, since := if q.wait = k then q.since else waitStart d i }, false)
    if q.done || (taskAt (coreAt d i) q.slot).fault.isSome then (d, false)
    else if stuckAt d i u 0 then hold 5
    else
      match micro d i q with
      | .go d q' => (setHead d i u { q' with wait := 7 }, true)
      | .wait k => hold k
      | .fault e d => (faultTask d i q.slot e q.pos, false)
      | .done d q' => (setHead d i u { q' with done := true, wait := 7 }, false)

/-- The head of a unit's queue driven as far as the tags allow, up to 2 ^ k steps. -/
def driveUnit (micro : Dev → Nat → QCmd → Micro) (u i : Nat) : Nat → Dev → Dev × Bool
  | 0, d => driveOnce micro u i d
  | k + 1, d =>
    match driveUnit micro u i k d with
    | (d, true) => driveUnit micro u i k d
    | r => r

/-- Twice as many steps as any MMA takes, as a power of two: 4,095 tiles of 66 steps, 64 rows and the two ends are under 2 ^ 19. -/
def unitFuel : Nat := 19

/-- Whether a ring end of a pattern context may go on: SE_A and SE_B wait on a full tail slot, SE_W on an empty head slot (07 Table SKEIN-2). -/
def ringReady (s : Skein) (eng : Nat) : Bool := if eng = 2 then s.full s.head else !s.full s.tail

/-- Contexts that wait on a tag that has changed run again (08 Table STREAM-11). -/
def wakeContexts (d : Dev) (i : Nat) : Dev :=
  modCore d i (fun c => { c with se := c.se.map (fun x =>
    if decide (x.2.st = 3) && ringReady (skeinAt c x.2.skein) (x.1 / 8) then (x.1, { x.2 with st := 1 }) else x) })

/-- A core's matrix and vector units driven. -/
def pumpCore (d : Dev) (i : Nat) : Dev :=
  let d := (driveUnit mmaMicro 0 i unitFuel d).1
  let d := (driveUnit vopMicro 1 i unitFuel d).1
  wakeContexts d i

/-- Everything that waits on tags looked at again, on every core, and the blocked tasks of every core (04 R103, 07 R191). -/
def pump (d : Dev) : Dev :=
  let d := (usedSites d).foldl pumpCore d
  (usedSites d).foldl unblock d

/-! ### Issue to a unit -/

/-- A command put into its unit's queue, and the issue pointer past it. -/
def enqueue (d : Dev) (i n u w : Nat) (done : Bool) : Dev :=
  let t := taskAt (coreAt d i) n
  let q : QCmd := { slot := n, pos := t.issue, word := BitVec.ofNat 128 w, done := done }
  advance (modCore d i (fun c => setUnitQ c u (unitQ c u ++ [q]))) i n

/-- Issue of a command to a unit (04 R104): a failed check aborts, a full queue blocks under the cause on which its head waits. -/
def issueTo (d : Dev) (i n u w : Nat) (cause : Option Nat) (empty : Bool) : Dev :=
  let c := coreAt d i
  let t := taskAt c n
  match cause with
  | some e => faultTask d i n e t.issue
  | none =>
    if empty then advance d i n
    else if unitDepth u ≤ (unitQ c u).length then blockTask d i n (queueCause d i u)
    else pump (enqueue d i n u w false)

/-- The command word that the running task of a core has at its issue pointer, when it is of the family asked for; a word that fails its check or
its fetch faults the task whatever its family (04 R112). The pointer is blocked while the task's own MU or VU command waits (07 R192). -/
def withWord (i : Nat) (fam : Nat → Bool) (f : Dev → Nat → Nat → Dev) (d : Dev) : Dev :=
  if siteHalted d i then d
  else
    match (coreAt d i).run with
    | none => d
    | some n =>
      if (taskAt (coreAt d i) n).st ≠ .running then d
      else
        match unitWait (coreAt d i) n with
        | some k => blockTask d i n k
        | none =>
          match fetchWord d i n with
          | (.error e, d) => faultTask d i n e (taskAt (coreAt d i) n).issue
          | (.ok w, d) =>
            match checkWord w with
            | some e => faultTask d i n e (taskAt (coreAt d i) n).issue
            | none => if fam w then f d n w else d

/-- Whether a word belongs to a family. -/
def isFamily (f : Family) (w : Nat) : Bool := decide (wFamily w = some f)

/-- MMA: the checks of its issue, then its queue; ROWS 0 or K_TILES 0 completes at once (04 R114). -/
def devMma (i : Fin 288) (d : Dev) : Dev :=
  withWord i.val (isFamily .mma) (fun d n w =>
    issueTo d i.val n 0 w (mmaCause (coreAt d i.val) (taskAt (coreAt d i.val) n) w) (decide (mmaRows w = 0 ∨ mmaTiles w = 0))) d

/-- VOP: the checks of its issue, then its queue; COUNT 0 completes at once (04 R116). -/
def devVop (i : Fin 288) (d : Dev) : Dev :=
  withWord i.val (isFamily .vop) (fun d n w =>
    issueTo d i.val n 1 w (vopCause d i.val (taskAt (coreAt d i.val) n) w) (decide (vCount w = 0))) d

end Sys2Proof.Machine
end

