-- ==== Sys2Proof/Machine/Patterns.lean ====
section
/-! DEFINITION. Stream engines and stream patterns (08): starting a pattern, run-ahead, and the pattern instructions, each executed by one context of
one engine of one core. -/

namespace Sys2Proof.Machine

/-! ### Starting patterns and HANKWAITs (04 R105, R117, R120; 07 R200; 08 R207, R208, R223) -/

/-- The HANKWAIT on a binding that follows a position before the next DEPMARK or END (08 R223). -/
def pairAfter (d : Dev) (i n hb : Nat) : Nat → Nat → Option Nat
  | 0, _ => none
  | fuel + 1, pos =>
    match peekWord d i n pos with
    | none => none
    | some w =>
      match wFamily w with
      | some .end_ | some .depmark => none
      | some .hankwait => if bits w 81 80 = hb then some pos else pairAfter d i n hb fuel (pos + 1)
      | _ => pairAfter d i n hb fuel (pos + 1)

/-- The last HANKWAIT on a binding that precedes a position (08 R223). -/
def pairBefore (d : Dev) (i n hb : Nat) : Nat → Option Nat
  | 0 => none
  | pos + 1 =>
    match peekWord d i n pos with
    | none => none
    | some w =>
      if decide (wFamily w = some .hankwait) && decide (bits w 81 80 = hb) then some pos else pairBefore d i n hb pos

/-- The HANKWAIT that a PAT with BASE_SEL 1 pairs with (08 R223). -/
def pairOf (d : Dev) (i n pos w : Nat) : Option Nat :=
  let hb := bits w 106 105
  let c := coreAt d i
  match pairAfter d i n hb (cmdSkein c (taskAt c n)).cmdLen (pos + 1) with
  | some p => some p
  | none => pairBefore d i n hb pos

/-- What starting a PAT or a HANKWAIT comes to. -/
inductive Start where
  | wait
  | fault (cause : Nat)
  | started (d : Dev)
  deriving DecidableEq, Repr

/-- The checks of Table STREAM-1 in its order. -/
def patCause (d : Dev) (i n pos w : Nat) : Option Nat :=
  let c := coreAt d i
  let t := taskAt c n
  let k := bits w 113 108
  let sel := w.testBit 107
  if sel && decide (bits w 123 122 = 2) then some cCmdFormat
  else if k = 63 then some cCmdFormat
  else
    match ringCause (skeinAt c k) (dGlobal t.desc) with
    | some e => some e
    | none => if sel && (pairOf d i n pos w).isNone then some cCmdFormat else none

/-- Starting a PAT at a program position: room, the checks, the role, then a context with PC = ENTRY and its registers 0 (08 R207, R208, R214). A
pattern with BASE_SEL 1 waits for its base unless its HANKWAIT has bound (08 R223). -/
def startPat (d : Dev) (i n pos w : Nat) : Start :=
  let c := coreAt d i
  let t := taskAt c n
  let e := bits w 123 122
  let k := bits w 113 108
  if !patRoom c i n w then .wait
  else
    match patCause d i n pos w with
    | some x => .fault x
    | none =>
      let s := skeinAt c k
      if (if e = 2 then s.cons else s.prod).isSome then .fault cSkeinBusy
      else
        match (List.range 8).find? (fun x => decide ((ctxAt c e x).st = 0)) with
        | none => .wait
        | some x =>
          let me : Role := { site := i, slot := n, unit := 2 + e, pos := pos }
          let d := setSkein d i k (if e = 2 then { s with cons := some me } else { s with prod := some me })
          let sel := w.testBit 107
          let hb := bits w 106 105
          let pp := (pairOf d i n pos w).getD 0
          let bound := match t.hb.getD hb none with
            | some b => if b.pos = pp then some b.slot else none
            | none => none
          let st := if !sel then 1 else if bound.isSome then 1 else 2
          let base := if !sel then bits w 104 81 else hankBase c (bound.getD 0)
          let p : PatCtx := { st := st, task := n, pos := pos, skein := k, entry := bits w 121 114, pc := bits w 121 114,
                              base := if st = 2 then 0 else base, arg := bits w 80 49, baseSel := sel, hb := hb, pairPos := pp }
          let d := setCtx d i e x p
          .started (modTask d i n (fun t => { t with started := t.started ++ [pos] }))

/-- The checks of a HANKWAIT when it starts (04 R117). A lap that carries no image of the model gives no counts to check against, so no LAYER or HANK lies within them: CMD_RANGE (DESIGN CHOICE, log entry 109). -/
def hankwaitCause (d : Dev) (t : Task) (w : Nat) : Option Nat :=
  match (modelAt d (dModel t.desc)).imageOf t.lap with
  | none => some cCmdRange
  | some im =>
    if bits w 119 114 ≠ 63 then some cCmdFormat
    else if im.layers ≤ bits w 113 98 ∨ layerHanks im (bits w 113 98) ≤ bits w 97 82 then some cCmdRange
    else none

/-- Starting a HANKWAIT at a program position. -/
def beginHankwait (d : Dev) (i n pos w : Nat) : Start :=
  match hankwaitCause d (taskAt (coreAt d i) n) w with
  | some e => .fault e
  | none =>
    match startHankwait d i n pos w with
    | none => .wait
    | some d => .started d

/-- Whether a task's run-ahead pointer moves: from its lap start until END (04 R105). -/
def runsAhead (d : Dev) (i n : Nat) : Bool :=
  let t := taskAt (coreAt d i) n
  !siteHalted d i && t.fault.isNone && (match t.st with | .ready => true | .running => true | .blocked => true | _ => false)

/-- The issue pointer passes a HANKWAIT: a twinned task notes its layer (16 R461). -/
def passHankwait (d : Dev) (i n w : Nat) : Dev :=
  let d := modTask d i n (fun t => if t.twin then { t with layers := t.layers ++ [(t.issue, bits w 113 98, bits w 97 82)] } else t)
  pump (advance d i n)

/-- HANKWAIT at the issue pointer (04 R117, 07 R200). -/
def devHankwait (i : Fin 288) (d : Dev) : Dev :=
  withWord i.val (isFamily .hankwait) (fun d n w =>
    let t := taskAt (coreAt d i.val) n
    if t.waited.contains t.issue then passHankwait d i.val n w
    else if t.started.contains t.issue then blockTask d i.val n 0
    else
      match beginHankwait d i.val n t.issue w with
      | .fault e => faultTask d i.val n e t.issue
      | .wait => blockTask d i.val n 4
      | .started d =>
        if (taskAt (coreAt d i.val) n).waited.contains t.issue then passHankwait d i.val n w else pump (blockTask d i.val n 0)) d

/-- HANKWAIT_START: run-ahead starts the HANKWAIT it has reached (04 R105, 07 R200). -/
def devHankwaitStart (i : Fin 288) (n : Fin 8) (d : Dev) : Dev :=
  if !runsAhead d i.val n.val then d
  else
    match aheadOf d i.val n.val with
    | none => d
    | some (pos, w) =>
      if wFamily w ≠ some .hankwait then d
      else
        match beginHankwait d i.val n.val pos w with
        | .fault e => faultTask d i.val n.val e pos
        | .wait => d
        | .started d => pump d

/-- PAT at the issue pointer: passed when it has been started, else started, or the issue pointer waits for room (04 R105, R120). -/
def devPat (i : Fin 288) (d : Dev) : Dev :=
  withWord i.val (isFamily .pat) (fun d n w =>
    let t := taskAt (coreAt d i.val) n
    if t.started.contains t.issue then pump (advance d i.val n)
    else
      match startPat d i.val n t.issue w with
      | .fault e => faultTask d i.val n e t.issue
      | .wait => blockTask d i.val n 4
      | .started d => pump (advance d i.val n)) d

/-- PATTERN_START: run-ahead starts the PAT it has reached, when it has room (04 R105, 08 R208). -/
def devPatternStart (i : Fin 288) (n : Fin 8) (d : Dev) : Dev :=
  if !runsAhead d i.val n.val then d
  else
    match aheadOf d i.val n.val with
    | none => d
    | some (pos, w) =>
      if wFamily w ≠ some .pat then d
      else
        match startPat d i.val n.val pos w with
        | .fault e => faultTask d i.val n.val e pos
        | .wait => d
        | .started d => pump d

/-! ### Pattern instructions (08 R213 to R222) -/

/-- An entry of the pattern store; an entry that no active image loads reads as 0, END (08 R213). -/
def patWord (c : Core) (pc : Nat) : Nat := (smGet 0 c.pats pc).toNat

/-- A pattern fault (08 R222): CORE_SE_FAULT keeps the first since clear, with the address for subcodes 0x1 to 0x3, and the task aborts. -/
def patFault (d : Dev) (i e x : Nat) (p : PatCtx) (sub cause addr : Nat) : Dev :=
  let r := Reg.CORE_SE_FAULT i
  let d :=
    if (rd d r).getLsbD 31 then d
    else
      let d := wr d r (BitVec.ofNat 32 (2 ^ 31 + e * 2 ^ 29 + x * 2 ^ 26 + p.task * 2 ^ 23 + sub * 2 ^ 16 + p.pc % 256 * 2 ^ 8))
      if sub ≤ 3 then wr d (Reg.CORE_SE_FAULT_ADDR i) (BitVec.ofNat 32 addr) else d
  faultTask d i p.task cause p.pos

/-- PC after an instruction: the ends of loop bodies are followed; the return to a body's start takes no step (08 R217, R218). -/
def loopNext : List Loop → Nat → List Loop × Nat
  | [], pc => ([], pc)
  | l :: ls, pc =>
    if pc = l.stop then
      if 1 < l.left then ({ l with left := l.left - 1 } :: ls, l.start) else loopNext ls pc
    else (l :: ls, pc)

/-- A context moved to the next instruction; a PC past index 255 aborts (08 R217). -/
def patNext (d : Dev) (i e x : Nat) (p : PatCtx) (pc : Nat) : Dev :=
  let (ls, pc') := loopNext p.loops pc
  if 255 < pc' then patFault d i e x p 6 cPatternReserved 0
  else setCtx d i e x { p with loops := ls, pc := pc', st := 1, part := 0 }

/-- IMM of a pattern instruction. -/
def patImm (w : Nat) : Int := signExtend 22 (bits w 21 0)

/-- X of a SETA, SETS or SETC (08 Table STREAM-4). -/
def patX (p : PatCtx) (desc : List Byte) : Nat → Option Int
  | 0 => some 0
  | 1 => some (signExtend 32 p.arg)
  | 2 => some (dParam desc false)
  | 3 => some (dParam desc true)
  | 4 => some (p.base : Nat)
  | 5 => some ((p.base : Nat) + signExtend 32 p.arg)
  | _ => none

/-- A value modulo 2^24. -/
def mod24 (z : Int) : Nat := (z % (2 ^ 24 : Nat)).toNat

/-- A reserved OP, field or bit of a pattern instruction (08 R215, R216). -/
def patReserved (w : Nat) : Bool :=
  match bits w 31 27 with
  | 0 => decide (bits w 26 0 ≠ 0)
  | 1 => decide (6 ≤ bits w 24 22)
  | 2 | 3 => decide (4 ≤ bits w 24 22)
  | 4 => w.testBit 22
  | 5 => decide (bits w 22 0 ≠ 0)
  | 6 => decide (bits w 24 8 ≠ 0) || decide (bits w 7 0 = 0)
  | 7 => decide (bits w 20 0 ≠ 0)
  | 8 => w.testBit 22 || decide (bits w 20 13 ≠ 0) || decide (4096 < bits w 12 0)
  | 9 => decide (bits w 26 0 ≠ 0)
  | 10 => decide (bits w 26 13 ≠ 0) || decide (4096 < bits w 12 0)
  | _ => true

/-- Whether a context can take a step: it runs, waits for no slot step and its task is not being aborted. -/
def ctxReady (c : Core) (e x : Nat) : Bool :=
  let p := ctxAt c e x
  decide (p.st = 1) && !p.stepPending && (taskAt c p.task).fault.isNone

/-- The context that an engine serves next: the first that can take a step, in rotation by number from the one served last (08 R209). -/
def nextCtx (c : Core) (e : Nat) : Option Nat :=
  ((List.range 8).map (fun k => (c.turn.getD e 7 + 1 + k) % 8)).find? (fun x => ctxReady c e x)

/-- The context that an engine has served. -/
def served (d : Dev) (i e x : Nat) : Dev := modCore d i (fun c => { c with turn := setAt c.turn e x })

/-- One instruction of a running context, or one word of a RUN or PAD, when it is the context's turn. A reserved instruction aborts whatever the command names; one of another OP leaves the state unchanged, for
its event is another command. Nothing runs while a slot step has yet to take effect, while another context is to be served first (08 R209), or while an access of the context is unanswered. -/
def patInstr (i e x : Nat) (op : Nat) (f : Dev → PatCtx → Nat → Dev) (d : Dev) : Dev :=
  let c := coreAt d i
  let p := ctxAt c e x
  if nextCtx c e ≠ some x ∨ stuckAt d i (2 + e) x = true then d
  else
    let w := patWord c p.pc
    if patReserved w then patFault d i e x p 5 cPatternReserved 0
    else if bits w 31 27 ≠ op then d
    else f (served d i e x) p w

/-- SETA (08 Table STREAM-3). -/
def devSeta (i : Fin 288) (e : Fin 3) (x : Fin 8) : Dev → Dev :=
  patInstr i.val e.val x.val 1 (fun d p w =>
    let v := mod24 ((patX p (taskAt (coreAt d i.val) p.task).desc (bits w 24 22)).getD 0 + patImm w)
    patNext d i.val e.val x.val { p with a := setAt p.a (bits w 26 25) v } (p.pc + 1))

/-- SETS. -/
def devSets (i : Fin 288) (e : Fin 3) (x : Fin 8) : Dev → Dev :=
  patInstr i.val e.val x.val 2 (fun d p w =>
    let v := mod24 ((patX p (taskAt (coreAt d i.val) p.task).desc (bits w 24 22)).getD 0 + patImm w)
    patNext d i.val e.val x.val { p with s := setAt p.s (bits w 26 25) v } (p.pc + 1))

/-- SETC: the result is exact and must lie in 0 to 1,048,575 (08 R216). -/
def devSetc (i : Fin 288) (e : Fin 3) (x : Fin 8) : Dev → Dev :=
  patInstr i.val e.val x.val 3 (fun d p w =>
    let z := (patX p (taskAt (coreAt d i.val) p.task).desc (bits w 24 22)).getD 0 + patImm w
    if z < 0 ∨ 1048575 < z then patFault d i.val e.val x.val p 7 cPatternReserved 0
    else patNext d i.val e.val x.val { p with c := setAt p.c (bits w 26 25) z.toNat } (p.pc + 1))

/-- MOVA. -/
def devMova (i : Fin 288) (e : Fin 3) (x : Fin 8) : Dev → Dev :=
  patInstr i.val e.val x.val 4 (fun d p w =>
    let v := mod24 ((p.a.getD (bits w 24 23) 0 : Nat) + patImm w)
    patNext d i.val e.val x.val { p with a := setAt p.a (bits w 26 25) v } (p.pc + 1))

/-- A + S modulo 2^24. -/
def addrStep (p : PatCtx) (a s n : Nat) : Nat := (p.a.getD a 0 + n * p.s.getD s 0) % 2 ^ 24

/-- ADDA. -/
def devAdda (i : Fin 288) (e : Fin 3) (x : Fin 8) : Dev → Dev :=
  patInstr i.val e.val x.val 5 (fun d p w =>
    let a := bits w 26 25
    patNext d i.val e.val x.val { p with a := setAt p.a a (addrStep p a (bits w 24 23) 1) } (p.pc + 1))

/-- LOOP (08 R217): the structure is checked, then the count is read; at 0 the body is passed. -/
def devLoop (i : Fin 288) (e : Fin 3) (x : Fin 8) : Dev → Dev :=
  patInstr i.val e.val x.val 6 (fun d p w =>
    let k := bits w 26 25
    let stop := p.pc + 1 + bits w 7 0
    let outer := match p.loops with | l :: _ => decide (l.stop < stop) | [] => false
    if 256 < stop ∨ outer = true ∨ p.loops.any (fun l => decide (l.ctr = k)) = true then patFault d i.val e.val x.val p 6 cPatternReserved 0
    else if p.c.getD k 0 = 0 then patNext d i.val e.val x.val p stop
    else
      setCtx d i.val e.val x.val { p with
        loops := { ctr := k, start := p.pc + 1, stop := stop, left := p.c.getD k 0 } :: p.loops, pc := p.pc + 1 })

/-- What an emission comes to: the context goes on, the ring makes it wait, a hank at a seam holds it, a pattern fault with its subcode, or an abort of another kind. -/
inductive Emit where
  | ok (d : Dev) (p : PatCtx)
  | wait
  | hold
  | fault (d : Dev) (p : PatCtx) (sub cause addr : Nat)
  | abort (d : Dev) (cause : Nat)
  deriving DecidableEq, Repr

/-- The ring's current slot: the tail for SE_A and SE_B, the head for SE_W. -/
def ringSlot (s : Skein) (e : Nat) : Nat := if e = 2 then s.head else s.tail

/-- A word moved between an address and a word of the ring, with the ring's class (08 R212); words are counted per engine. -/
def moveWord (d : Dev) (i e n pos src dst : Nat) (weight : Bool) : Except Nat Unit × Dev :=
  match unitRead d i n src cPatternAddr e with
  | (.error c, d) => (.error c, d)
  | (.ok data, d) =>
    match unitWrite d i n dst cPatternAddr e data weight with
    | (.error c, d) => (.error c, d)
    | (.ok _, d) => (.ok (), cntInc (if e = 2 then twinNote d i n pos data else d) (Reg.CORE_SE_WORDS_LO i e))

/-- One emission or PAD word at position F (08 R219, R222). `addr` is nothing for PAD. -/
def emitOne (d : Dev) (i e : Nat) (p : PatCtx) (addr : Option Nat) : Emit :=
  let c := coreAt d i
  let s := skeinAt c p.skein
  if p.f = 0 ∧ ringReady s e = false then .wait
  else if s.size ≤ p.f then .fault d p 4 cPatternAddr 0
  else
    match addr with
    | none => .ok d { p with f := p.f + 1 }
    | some a =>
      if p.baseSel && !(decide (p.base ≤ a) && decide (a < p.base + 1024)) then .fault d p 3 cPatternAddr a
      else
        match access d (canonAt d i) (dGlobal (taskAt c p.task).desc) a with
        | .hole => .fault d p 1 cPatternAddr a
        | .reach => .fault d p 2 cPatternAddr a
        | .gone => .abort d cReclaim
        | .ok _ _ =>
          let ring := s.slotAddr (ringSlot s e) + p.f
          if holdN d i a 1 || holdN d i ring 1 then .hold
          else
          match (if e = 2 then moveWord d i e p.task p.pos ring a s.ecc else moveWord d i e p.task p.pos a ring s.ecc) with
          | (.error x, d) => if x = cPatternAddr then .fault d p 1 cPatternAddr ring else .abort d x
          | (.ok _, d) => .ok d { p with f := p.f + 1 }

/-- A slot step: at F = 0 it still waits; it takes effect at SLOT_STEP_COMPLETE (08 R220). -/
def askStep (d : Dev) (i e : Nat) (p : PatCtx) : Emit :=
  if p.f = 0 ∧ ringReady (skeinAt (coreAt d i) p.skein) e = false then .wait
  else .ok d { p with f := 0, stepPending := true }

/-- The rest of an instruction that emits: the context waits at the same instruction, or goes on. -/
def patAfter (i e x : Nat) (p0 : PatCtx) (d0 : Dev) : Emit → Dev
  | .wait => setCtx d0 i e x { p0 with st := 3, since := waitStart d0 i }
  | .hold => d0
  | .fault d p sub cause addr => patFault d i e x p sub cause addr
  | .abort d cause => faultTask d i p0.task cause p0.pos
  | .ok d p => patNext d i e x p (p.pc + 1)

/-- Emissions followed by a slot step when the instruction asks for one. -/
def thenStep (i e : Nat) (step : Bool) : Emit → Emit
  | .ok d p => if step then askStep d i e p else .ok d p
  | r => r

/-- WORD. -/
def devWord (i : Fin 288) (e : Fin 3) (x : Fin 8) : Dev → Dev :=
  patInstr i.val e.val x.val 7 (fun d p w =>
    let a := bits w 26 25
    patAfter i.val e.val x.val p d
      (match emitOne d i.val e.val p (some (p.a.getD a 0)) with
       | .ok d p =>
         let p := if w.testBit 22 then { p with a := setAt p.a a (addrStep p a (bits w 24 23) 1) } else p
         thenStep i.val e.val (w.testBit 21) (.ok d p)
       | r => r))

/-- One of the `n` words of a RUN or PAD (08 R209, R218): at the last, or when there is none, the rest of the instruction; else the context stands at the same instruction with one word more moved. -/
def partWord (i e x n : Nat) (addr : Nat → Option Nat) (last : Emit → Emit) (d : Dev) (p : PatCtx) : Dev :=
  if p.part < n then
    match emitOne d i e p (addr p.part) with
    | .ok d' p' =>
      if p.part + 1 < n then setCtx d' i e x { p' with part := p.part + 1 } else patAfter i e x p d (last (.ok d' p'))
    | r => patAfter i e x p d r
  else patAfter i e x p d (last (.ok d p))

/-- RUN: one word of it. -/
def devRun (i : Fin 288) (e : Fin 3) (x : Fin 8) : Dev → Dev :=
  patInstr i.val e.val x.val 8 (fun d p w =>
    let a := bits w 26 25
    let s := bits w 24 23
    let n := bits w 12 0
    partWord i.val e.val x.val n (fun k => some (addrStep p a s k)) (fun r =>
      match r with
      | .ok d' p' => thenStep i.val e.val (w.testBit 21) (.ok d' { p' with a := setAt p'.a a (addrStep p a s n) })
      | r => r) d p)

/-- STEP. -/
def devStep (i : Fin 288) (e : Fin 3) (x : Fin 8) : Dev → Dev :=
  patInstr i.val e.val x.val 9 (fun d p _ => patAfter i.val e.val x.val p d (askStep d i.val e.val p))

/-- PAD: one word of it. -/
def devPad (i : Fin 288) (e : Fin 3) (x : Fin 8) : Dev → Dev :=
  patInstr i.val e.val x.val 10 (fun d p w => partWord i.val e.val x.val (bits w 12 0) (fun _ => none) (fun r => r) d p)

/-- PATTERN_END (08 R221): the role ends and the context is freed; a slot left with F above 0 is not stepped. -/
def devPatternEnd (i : Fin 288) (e : Fin 3) (x : Fin 8) : Dev → Dev :=
  patInstr i.val e.val x.val 0 (fun d p _ =>
    let d := dropRoles d (fun r => decide (r = { site := i.val, slot := p.task, unit := 2 + e.val, pos := p.pos }))
    pump (setCtx d i.val e.val x.val {}))

/-- SLOT_STEP_COMPLETE (08 R220): the tag changes and the tail or the head advances. -/
def devSlotStepComplete (i : Fin 288) (e : Fin 3) (x : Fin 8) (d : Dev) : Dev :=
  let c := coreAt d i.val
  let p := ctxAt c e.val x.val
  if p.st = 0 ∨ p.stepPending = false ∨ (taskAt c p.task).fault.isSome = true then d
  else
    let s := skeinAt c p.skein
    let d := setSkein d i.val p.skein (if e.val = 2 then s.consStep else s.prodStep)
    pump (setCtx d i.val e.val x.val { p with stepPending := false })

end Sys2Proof.Machine
end

