-- ==== Sys2Proof/Machine/Xmem.lean ====
section
/-! DEFINITION. External memory (11): the address map, channels and holes, reads and writes with their errors, image areas and regions. -/

namespace Sys2Proof.Machine

/-! ### Controllers and channels -/

/-- A register of controller `u`: 0 to 3 are the HBM stacks, 4 to 11 the LPDDR 5X packages (11 R329). -/
def xreg (u off : Nat) : Nat := (if u < 4 then 0x50000 + u * 0x1000 else 0x60000 + (u - 4) * 0x1000) + off

/-- Channels of a controller (11 Table XMEM-2). -/
def chCount (u : Nat) : Nat := if u < 4 then 32 else 4

/-- The number of a channel over all controllers. -/
def chKey (u c : Nat) : Nat := 32 * u + c

/-- LPDDR 5X capacity of a package in MiB (02 R65, 11 Table XMEM-1): code 1 is 16 GiB, code 2 is 32 GiB. -/
def lpxMib (d : Dev) : Nat := if d.part.lpxCap = 1 then 16384 else 32768

/-- Capacity of a channel in MiB (11 Table XMEM-2). -/
def chMib (d : Dev) (u : Nat) : Nat := if u < 4 then 1152 else lpxMib d / 4

/-- Capacity of a controller in bytes, holes included. -/
def ctlBytes (d : Dev) (u : Nat) : Nat := chCount u * chMib d u * 2 ^ 20

/-- The first address of a controller (11 Table XMEM-3). -/
def ctlBase (u : Nat) : Nat := if u < 4 then u * 0x900000000 else 0x4000000000 + (u - 4) * 0x800000000

/-- The interleave granule of a controller in bytes (11 Table XMEM-2). -/
def granuleOf (u : Nat) : Nat := if u < 4 then 2048 else 1024

/-- The controller whose populated range holds an address (11 R308). -/
def ctlOf (d : Dev) (a : Nat) : Option Nat :=
  (List.range 12).find? (fun u => decide (ctlBase u ≤ a) && decide (a < ctlBase u + ctlBytes d u))

/-- The die to which the memory of an address is wired (02 R64). -/
def extDie (d : Dev) (a : Nat) : Nat :=
  match ctlOf d a with
  | some u => if u < 4 then u else (u - 4) / 2
  | none => 0

/-- The channel of an address inside controller `u` (11 R309). -/
def chOf (u a : Nat) : Nat := (a - ctlBase u) / granuleOf u % chCount u

/-- The address of a channel-local offset (11 R309, inverted). -/
def addrOfLocal (u c off : Nat) : Nat := ctlBase u + (off / granuleOf u * chCount u + c) * granuleOf u + off % granuleOf u

/-- STATE of a channel: 0 UP, 1 FAILING, 2 MAPPED_OUT, 3 TRAIN_FAILED (11 Table XMEM-12). -/
def chState (d : Dev) (u c : Nat) : Nat := fld d (xreg u (0x200 + 4 * c)) 31 28

/-- Whether a channel is mapped out: its granules are holes (11 R324). -/
def chGone (d : Dev) (u c : Nat) : Bool := decide (2 ≤ chState d u c)

/-- Whether `n` bytes from an address lie in one populated region (08 Table STREAM-10, 0x3). -/
def extPopulated (d : Dev) (a n : Nat) : Bool :=
  if n = 0 then true
  else
    match ctlOf d a with
    | none => false
    | some u => if u < 4 then decide (a + n ≤ 0x2400000000) else decide (a + n ≤ ctlBase u + ctlBytes d u)

/-- The pieces of a byte range that lie in one granule each, as (address, length). -/
def pieces (d : Dev) : Nat → Nat → Nat → List (Nat × Nat)
  | 0, _, _ => []
  | fuel + 1, a, n =>
    if n = 0 then []
    else
      let g := match ctlOf d a with | some u => granuleOf u - (a - ctlBase u) % granuleOf u | none => n
      let k := min g n
      (a, k) :: pieces d fuel (a + k) (n - k)

/-- The pieces of a range: one granule holds 1,024 bytes at least. -/
def piecesOf (d : Dev) (a n : Nat) : List (Nat × Nat) := pieces d (n / 1024 + 2) a n

/-- Why an external access returns no data or is not performed. -/
inductive ExtErr where
  | hole
  | failing
  | uncorr
  deriving DecidableEq, Repr

/-- A counter of a controller. -/
def xcnt (d : Dev) (u k n : Nat) : Dev := cntAdd d (xreg u (0x80 + 8 * k)) n

/-- UNIT of an error log entry of a channel, and its block (17 R494). -/
def chUnit (u c : Nat) : Nat := if u < 4 then 32 * u + c else 4 * (u - 4) + c
def chBlock (u : Nat) : Nat := if u < 4 then 6 else 7

/-- An uncorrectable read reported by a channel (11 Table XMEM-9): UE, its event, LAST_ERR and a class T entry with the requester class. -/
def extUe (d : Dev) (u c cls : Nat) : Dev :=
  let d := evt (xcnt d u 5 1) (xreg u 0x00C) 3
  let d := setFld d (xreg u (0x200 + 4 * c)) 27 24 4
  elog 2 (chBlock u) 0x0602 (chUnit u c) cls d

/-- A read of a piece of one granule. -/
def extRead1 (d : Dev) (a n cls : Nat) : Except ExtErr (List Byte) × Dev :=
  match ctlOf d a with
  | none => (.error .hole, d)
  | some u =>
    let c := chOf u a
    if chGone d u c then (.error .hole, xcnt d u 8 1)
    else if chState d u c = 1 then (.error .failing, d)
    else if (List.range ((a % 64 + n + 63) / 64)).any (fun k => decide (smGet 0 d.mem.extErr (a / 64 + k) ≠ 0)) then (.error .uncorr, extUe d u c cls)
    else (.ok (memRead d.mem.ext a n), xcnt d u 0 n)

/-- A write of a piece of one granule; it replaces what stood uncorrectable in the blocks it covers. -/
def extWrite1 (d : Dev) (a : Nat) (data : List Byte) : Except ExtErr Unit × Dev :=
  match ctlOf d a with
  | none => (.error .hole, d)
  | some u =>
    let c := chOf u a
    if chGone d u c then (.error .hole, xcnt d u 8 1)
    else if chState d u c = 1 then (.error .failing, d)
    else
      let blocks := (List.range ((a % 64 + data.length + 63) / 64)).map (fun k => a / 64 + k)
      (.ok (), xcnt { d with mem := { d.mem with ext := memWrite d.mem.ext a data,
                                                 extErr := blocks.foldl (fun m b => smSet 0 m b 0) d.mem.extErr } } u 1 data.length)

/-- Reads of pieces in order up to the first that fails, which is named. -/
def extReadL (cls : Nat) : List (Nat × Nat) → Dev → Except (ExtErr × Nat) (List Byte) × Dev
  | [], d => (.ok [], d)
  | (a, n) :: r, d =>
    match extRead1 d a n cls with
    | (.error e, d) => (.error (e, a), d)
    | (.ok x, d) =>
      match extReadL cls r d with
      | (.error e, d) => (.error e, d)
      | (.ok xs, d) => (.ok (x ++ xs), d)

/-- Writes of pieces in order up to the first that fails. -/
def extWriteL : List (Nat × Nat) → List Byte → Dev → Except (ExtErr × Nat) Unit × Dev
  | [], _, d => (.ok (), d)
  | (a, n) :: r, data, d =>
    match extWrite1 d a (data.take n) with
    | (.error e, d) => (.error (e, a), d)
    | (.ok _, d) => extWriteL r (data.drop n) d

/-- A read of external memory by a requester class (11 Table XMEM-8). -/
def extRead (d : Dev) (a n cls : Nat) : Except (ExtErr × Nat) (List Byte) × Dev := extReadL cls (piecesOf d a n) d

/-- A write of external memory. -/
def extWrite (d : Dev) (a : Nat) (data : List Byte) : Except (ExtErr × Nat) Unit × Dev := extWriteL (piecesOf d a data.length) data d

/-- Whether any byte of a range lies in a hole. -/
def extHole (d : Dev) (a n : Nat) : Bool :=
  (piecesOf d a n).any (fun p => match ctlOf d p.1 with | none => true | some u => chGone d u (chOf u p.1))

/-! ### Image areas and regions (11 R313 to R316) -/

/-- The image area of a stack in bytes (11 R313). -/
def imgArea (d : Dev) (k : Nat) : Nat := fld d (xreg k 0x014) 7 0 * 2 ^ 28

/-- The region of a kind in package `j`: its first address and size in bytes (11 R316). -/
def regionIn (d : Dev) (j kind : Nat) : Option (Nat × Nat) :=
  ((List.range 4).find? (fun r => decide (fld d (xreg (4 + j) (0x020 + 8 * r)) 31 28 = kind))).map (fun r =>
    (ctlBase (4 + j) + fld d (xreg (4 + j) (0x020 + 8 * r)) 15 0 * 2 ^ 20, fld d (xreg (4 + j) (0x024 + 8 * r)) 15 0 * 2 ^ 20))

/-- Whether an address lies in an image area or a region (11 R327). -/
def inReserved (d : Dev) (a : Nat) : Bool :=
  match ctlOf d a with
  | none => false
  | some u =>
    if u < 4 then decide (a - ctlBase u < imgArea d u)
    else (List.range 8).any (fun kind => kind != 0 &&
      (match regionIn d (u - 4) kind with | some (b, n) => decide (b ≤ a) && decide (a < b + n) | none => false))

/-- Granules of an image area that hold no copy and are not holes, in ascending order (11 R315). -/
def freeGranules (d : Dev) (k : Nat) : List Nat :=
  let used := ((d.xmem.copies.filter (fun x => decide (x.stack = k))).map (fun x => x.granules)).flatten
  (List.range (imgArea d k / 2048)).filter (fun g => !used.contains g && !chGone d k (g % 32))

/-- The address of a granule of a stack. -/
def granuleAddr (k g : Nat) : Nat := ctlBase k + g * 2048

/-! ### Retention (13 R363) -/

/-- The retention regions of a port: KIND 0x1 in L0 and L1, KIND 0x2 in L2 and L3 (11 Table XMEM-7). -/
def retRegions (d : Dev) (port : Nat) : List (Nat × Nat) :=
  ((List.range 2).filterMap (fun j => regionIn d (2 * port + j) (port + 1)))

/-- Blocks of retention of a port, holes included. -/
def retCount (d : Dev) (port : Nat) : Nat := ((retRegions d port).map (fun r => r.2 / 4096)).sum

/-- The address of a retention block of a port. -/
def retAddr (d : Dev) (port b : Nat) : Nat :=
  match retRegions d port with
  | [(x, n), (y, _)] => if b < n / 4096 then x + 4096 * b else y + 4096 * (b - n / 4096)
  | [(x, _)] => x + 4096 * b
  | _ => 0

end Sys2Proof.Machine
end

