-- ==== Sys2Proof/Machine/Flow.lean ====
section
/-! DEFINITION. The flow context store (14): the directory, claims, loads and stores, eviction and snoop, losses, flow end and expiry. -/

namespace Sys2Proof.Machine

/-! ### Requests, entries and homes -/

/-- A request by handle. -/
def reqAt (d : Dev) (h : Nat) : Option Req := smFind h d.rvp.reqs

/-- A request changed. -/
def modReq (d : Dev) (h : Nat) (f : Req → Req) : Dev :=
  match reqAt d h with
  | some r => { d with rvp := { d.rvp with reqs := smPut h (some (f r)) d.rvp.reqs } }
  | none => d

/-- A directory entry. -/
def entAt (d : Dev) (e : Nat) : DirEntry := smGet {} d.fcs.dir e

/-- A directory entry replaced. -/
def setEnt (d : Dev) (e : Nat) (x : DirEntry) : Dev := { d with fcs := { d.fcs with dir := smSet {} d.fcs.dir e x } }

/-- A counter of the store increased. -/
def fcnt (d : Dev) (k n : Nat) : Dev := cntAdd d (Reg.FCS_CNT_LO k) n

/-- Words and bytes of a size class (14 Table FLOW-1). -/
def clsWords (c : Nat) : Nat := 4 * 2 ^ c
def clsBytes (c : Nat) : Nat := 256 * 2 ^ c

/-- The home of an entry (14 R391): in the KIND 0x3 region of package L(i mod 8). -/
def homeAddr (d : Dev) (e : Nat) : Nat :=
  match regionIn d (e % 8) 3 with
  | some (b, _) => b + e / 8 * clsBytes (fld d Reg.FCS_CFG 3 0)
  | none => 2 ^ 40

/-- Whether an eviction tag has reached another: modulo 2^16 within a half-range of 2^15 (14 R394). -/
def tagReached (etag t : Nat) : Bool := decide ((etag + 65536 - t) % 65536 < 32768)

/-- The next tag. -/
def nextTag (x : DirEntry) : Nat := (x.etag + 1) % 65536

/-- The site of a canonical index, for messages. -/
def siteFor (d : Dev) (c : Nat) : Nat := (servingSite d c).getD 288

/-- The copy of an entry held by a site. -/
def heldOf (d : Dev) (i e : Nat) : Option HeldCtx := (coreAt d i).held.find? (fun h => decide (h.entry = e))

/-- The copies of an entry removed from every core. -/
def dropCopies (d : Dev) (e : Nat) : Dev :=
  { d with core := d.core.map (fun x => (x.1, { x.2 with held := x.2.held.filter (fun h => decide (h.entry ≠ e)) })) }

/-- A message put on its way. -/
def flowSend (d : Dev) (m : FlowMsg) : Dev := { d with fcs := { d.fcs with msgs := d.fcs.msgs ++ [m] } }

/-- An entry marked LOST (14 R409): IN_MEMORY, LOST and ETAG one higher. -/
def markLost (d : Dev) (e : Nat) : Dev :=
  let x := entAt d e
  if x.st = .free then d
  else evt (fcnt (setEnt d e { x with st := .inMemory, lost := true, etag := nextTag x, dropMark := false, failMark := false }) 7 1) Reg.FCS_EVT 0

/-- Whether the home of an entry has a byte in a hole: the entry is RETIRED, in whatever state (14 R394). -/
def retired (d : Dev) (e : Nat) : Bool := (regionIn d (e % 8) 3).isSome && extHole d (homeAddr d e) (clsBytes (fld d Reg.FCS_CFG 3 0))

/-! ### Resolution (14 R393, R395) -/

/-- The set of a flow (14 R393). -/
def flowSet (model : Nat) (key : List Byte) : Nat := crc32c (byteOf model :: key) % 8192

/-- A flow to resolve: what it found. -/
inductive Resolved where
  | use (d : Dev) (e : Nat)
  | wait (d : Dev)
  deriving DecidableEq, Repr

/-- Whether an entry has no claim granted or queued. -/
def unclaimed (x : DirEntry) : Bool := x.claims.isEmpty

/-- The way of a list whose last claim ended earliest. -/
def oldestWay (d : Dev) (ws : List Nat) : Option Nat :=
  ws.foldl (fun b e => match b with
    | none => some e
    | some o => if (entAt d e).lastEnd < (entAt d o).lastEnd then some e else some o) none

/-- A new entry for a flow in a way (14 R395). A reused way's flow is displaced. -/
def allocWay (d : Dev) (e model : Nat) (key : List Byte) (cls : Nat) (lost : Bool) : Dev :=
  let d := if (entAt d e).st = .free then d else evt (fcnt d 9 1) Reg.FCS_EVT 2
  let d := setEnt d e { st := .inMemory, model := model, key := key, cls := cls, zero := true, lost := lost }
  if lost then evt (fcnt d 7 1) Reg.FCS_EVT 0 else d

/-- Resolution of a flow (14 R395). -/
def resolveFlow (d : Dev) (model : Nat) (key : List Byte) (cls : Nat) : Resolved :=
  let ways := (List.range 8).map (fun w => 8 * flowSet model key + w)
  let named := ways.filter (fun e => let x := entAt d e; decide (x.st ≠ .free) && decide (x.model = model) && decide (x.key = key))
  let alloc := fun (d : Dev) (lost : Bool) =>
    match ways.find? (fun e => decide ((entAt d e).st = .free) && !retired d e) with
    | some e => Resolved.use (allocWay d e model key cls lost) e
    | none =>
      match oldestWay d (ways.filter (fun e => let x := entAt d e; decide (x.st = .inMemory) && unclaimed x && !retired d e)) with
      | some e => .use (allocWay d e model key cls lost) e
      | none =>
        match oldestWay d (ways.filter (fun e => let x := entAt d e; (match x.st with | .held _ => true | _ => false) && unclaimed x && !retired d e)) with
        | some e =>
          match (entAt d e).st with
          | .held c => .wait (if d.fcs.msgs.contains (.drop c e) then d else flowSend d (.drop c e))
          | _ => .wait d
        | none => .wait d
  match named.find? (fun e => !retired d e) with
  | some e => .use d e
  | none =>
    match named.head? with
    | some e =>
      if unclaimed (entAt d e) then
        let d := setEnt (dropCopies d e) e {}
        alloc d true
      else .wait d
    | none => alloc d false

/-- A request joins the claim queue of its entry (14 R397, R399). A claim of a flow whose requests have arrived at two sub-ports or more is counted in CROSS_PORT. -/
def joinClaim (d : Dev) (h e : Nat) : Dev :=
  match reqAt d h with
  | none => d
  | some r =>
    let x := entAt d e
    let p := 8 * r.port + r.sp
    let ports := if x.ports.contains p then x.ports else p :: x.ports
    let d := if 2 ≤ ports.length then fcnt d 14 1 else d
    modReq (setEnt d e { x with claims := x.claims ++ [h], ports := ports }) h (fun r => { r with entry := some e, claimFrom := d.now })

/-- Whether a request holds the claim of an entry. -/
def holdsClaim (x : DirEntry) (h : Nat) : Bool := x.granted && decide (x.claims.head? = some h)

/-- The claim or claim position of a request ended (14 R398): copies of the entry become unclaimed, and the next claim may be granted. -/
def endClaim (d : Dev) (h : Nat) : Dev :=
  match (reqAt d h).bind (fun r => r.entry) with
  | none => d
  | some e =>
    let x := entAt d e
    if !x.claims.contains h then d
    else if holdsClaim x h then
      let d := setEnt d e { x with claims := x.claims.drop 1, granted := false, lastEnd := d.now }
      { d with core := d.core.map (fun y => (y.1, { y.2 with held := y.2.held.map (fun c => if c.entry = e then { c with claimed := false } else c) })) }
    else setEnt d e { x with claims := x.claims.filter (fun y => y != h), lastEnd := d.now }

/-! ### Reading and writing copies -/

/-- The word of the local slice of a package word address. -/
def localWord (addr : Nat) : Nat := addr % 32768

/-- Words written at a package word address of a site's slice, as the fill of a load: no held copy is touched by it. -/
def fillCopy (i : Nat) : Nat → Nat → List Byte → Dev → Dev
  | _, 0, _, d => d
  | addr, k + 1, bs, d => fillCopy i (addr + 1) k (bs.drop 64) (storeWord d i (localWord addr) (padTo 64 (bs.take 64)) false)

/-- Why a context command ends with a fault: the cause. -/
structure CtxFail where
  cause : Nat
  deriving DecidableEq, Repr

/-- A copy written to its home (14 R403, Table FLOW-4). -/
def storeHome (d : Dev) (i e : Nat) (h : HeldCtx) : Except CtxFail Unit × Dev :=
  match copyWords i h.spad h.words d with
  | (none, d) => (.error { cause := cSpadUncorr }, d)
  | (some bs, d) =>
    if retired d e then (.error { cause := cCtxFault }, xcnt d (4 + e % 8) 8 1)
    else
      match extWrite (passSeams (cntAdd d (Reg.CORE_NET_LO i 1) h.words) i (e % 8 / 2)) (homeAddr d e) bs with
      | (.error _, d) => (.error { cause := cCtxFault }, d)
      | (.ok _, d) =>
        let x := entAt d e
        let d := setEnt d e { x with crc := crc32c bs, zero := false }
        (.ok (), modCore d i (fun c => { c with held := c.held.map (fun y => if y = h then { y with dirty := false, attr := 0 } else y) }))

/-! ### Eviction (14 R401, R406) -/

/-- A copy starts to leave: LEAVING is sent; a clean copy's NOTICE follows at once, a dirty one waits for its write-back. -/
def startEvict (d : Dev) (i : Nat) (h : HeldCtx) : Dev :=
  if h.leaving.isSome then d
  else if h.dirty then
    let t := nextTag (entAt d h.entry)
    let d := modCore d i (fun c => { c with held := c.held.map (fun y => if y = h then { y with leaving := some t } else y) })
    flowSend (fcnt d 5 1) (.leaving (canonAt d i) h.entry t)
  else if h.claimed then evictClean d i h
  else (yieldCopy d i h).2

/-- Whether two word ranges overlap. -/
def overlaps (a n b m : Nat) : Bool := decide (a < b + m) && decide (b < a + n)

/-- The copies that a load must evict before it places a copy (14 R401). -/
def mustEvict (c : Core) (e spad words : Nat) : List HeldCtx :=
  let overl := c.held.filter (fun h => decide (h.entry ≠ e) && overlaps h.spad h.words spad words)
  let others := c.held.filter (fun h => decide (h.entry ≠ e) && !overl.contains h)
  if c.held.length < 16 ∨ overl ≠ [] ∨ c.held.any (fun h => decide (h.entry = e)) = true then overl
  else
    match (others.filter (fun h => !h.claimed)).foldl (fun b h => match b with
        | none => some h
        | some (o : HeldCtx) => if h.order < o.order then some h else some o) none with
    | some h => overl ++ [h]
    | none => overl

/-! ### The context queue (14 R400 to R405; 04 R122) -/

/-- FLOW_INDEX and FLOW_CLASS of a command word (04 Table CORE-15). -/
def ctxFlow (t : Task) (w : Nat) : Nat × Nat := if w.testBit 74 then (dFlowIndex t.desc, dFlowClass t.desc) else (bits w 95 80, bits w 79 76)
def ctxSpad (w : Nat) : Nat := bits w 119 96

/-- A placed copy: HELD by the core at SPAD and clean (14 R400). `attr` keeps LOST (bit 0) and ZERO (bit 1) from before the load, for an abort. -/
def place (d : Dev) (i n e spad words attr : Nat) : Dev :=
  let c := coreAt d i
  let order := 1 + c.held.foldl (fun m h => max m h.order) 0
  let h : HeldCtx := { entry := e, spad := spad, words := words, slot := n, claimed := true, dirty := false, order := order, leaving := none, attr := attr, req := (taskAt c n).req }
  let d := setCore d i { c with held := c.held.filter (fun x => decide (x.entry ≠ e)) ++ [h] }
  setEnt d e { entAt d e with st := .held (canonAt d i) }

/-- The attributes of an entry as a code. -/
def attrOf (x : DirEntry) : Nat := (if x.lost then 1 else 0) + (if x.zero then 2 else 0)

/-- A load of an entry that is LOST: zeros, the attributes cleared, and CONTEXT_RESET on the request's verdict (14 Table FLOW-3). -/
def loadLost (d : Dev) (i n e spad words : Nat) : Dev :=
  let x := entAt d e
  let d := fillCopy i spad words (List.replicate (64 * words) 0) d
  let d := place (setEnt d e { x with lost := false, zero := false }) i n e spad words (attrOf x)
  fcnt (modReq d (taskAt (coreAt d i) n).req (fun r => { r with ctxReset := true })) 8 1

/-- The effect of a context command whose checks passed. -/
inductive CtxRes where
  | done (d : Dev)
  | wait (d : Dev) (cause : Nat)
  | fault (d : Dev) (cause : Nat)
  deriving DecidableEq, Repr

/-- A load of an IN_MEMORY entry from its home, checked against the CRC; a mismatch makes the entry LOST (14 R392, R405). -/
def loadHome (d : Dev) (i n e spad words : Nat) : CtxRes :=
  let x := entAt d e
  match extRead (passSeams (cntAdd d (Reg.CORE_NET_LO i 0) words) i (e % 8 / 2)) (homeAddr d e) (64 * words) 5 with
  | (.error _, d) => .fault d cCtxFault
  | (.ok bs, d) =>
    let d := fcnt d 0 1
    if crc32c bs = x.crc then .done (place (fillCopy i spad words bs d) i n e spad words (attrOf x))
    else .done (loadLost (markLost (evt d Reg.FCS_EVT 1) e) i n e spad words)

/-- The tag with which a copy that is leaving, or has left, leaves. -/
def leavingTag (d : Dev) (c e : Nat) : Nat :=
  match heldOf d (siteFor d c) e with
  | some { leaving := some t, .. } => t
  | _ =>
    match d.fcs.msgs.findSome? (fun m => match m with | .notice k e' t => if k = c ∧ e' = e then some t else none | _ => none) with
    | some t => t
    | none => (entAt d e).etag

/-- A load that waits until its entry is IN_MEMORY with a tag, and then reads the home (14 R407, R408). -/
def awaitHome (d : Dev) (core slot e t : Nat) : CtxRes :=
  let w : FlowWait := { core := core, slot := slot, entry := e, t := t }
  .wait (if d.fcs.waits.contains w then d else { d with fcs := { d.fcs with waits := d.fcs.waits ++ [w] } }) 3

/-- A CTXLOAD whose request holds the claim (14 R400, Table FLOW-3). -/
def ctxLoad (d : Dev) (i : Nat) (q : QCmd) (e spad words : Nat) : CtxRes :=
  let n := q.slot
  let me := canonAt d i
  let ev := mustEvict (coreAt d i) e spad words
  let d := ev.foldl (fun d h => startEvict d i h) d
  if !(mustEvict (coreAt d i) e spad words).isEmpty then .wait d 3
  else
    let x := entAt d e
    if x.dropMark then .wait d 4
    else if x.lost then .done (loadLost d i n e spad words)
    else
      match x.st with
      | .free => .fault d cCtxFault
      | .inMemory =>
        if x.zero then .done (fcnt (place (fillCopy i spad words (List.replicate (64 * words) 0) d) i n e spad words (attrOf x)) 1 1)
        else loadHome d i n e spad words
      | .evicting _ t => awaitHome d me n e t
      | .held c =>
        if c = me then
          match heldOf d i e with
          | none => awaitHome d me n e (leavingTag d me e)
          | some h =>
            if h.leaving.isSome then .wait d 3
            else
              let attr := if h.claimed && decide (h.slot = n) then h.attr else attrOf x
              if h.spad = spad then .done (fcnt (place d i n e spad words attr) 2 1)
              else
                match copyWords i h.spad h.words d with
                | (none, d) => .done (loadLost (markLost (dropCopies d e) e) i n e spad words)
                | (some bs, d) => .done (fcnt (place (fillCopy i spad words bs d) i n e spad words attr) 2 1)
        else
          let waiting := d.fcs.waits.any (fun w => decide (w.core = me) && decide (w.entry = e))
          let asked := d.fcs.msgs.any (fun m => match m with | .snoop _ e' r _ _ _ => decide (e' = e) && decide (r = me) | .retry r e' _ _ _ => decide (e' = e) && decide (r = me) | _ => false)
          .wait (if waiting || asked then d else flowSend d (.snoop c e me spad n none)) 5

/-- A CTXSTORE (14 R403): the copy goes to its home; with RELEASE it is evicted and the claim ends. A failure after the EMIT loses the context. -/
def ctxStore (d : Dev) (i : Nat) (q : QCmd) (e spad : Nat) (release : Bool) : CtxRes :=
  let t := taskAt (coreAt d i) q.slot
  let emitted := (reqAt d t.req).any (fun r => r.emitted)
  if !emitted then .fault d cCtxFault
  else
    match (coreAt d i).held.find? (fun h => decide (h.entry = e) && decide (h.spad = spad) && h.claimed && decide (h.slot = q.slot) && h.leaving.isNone) with
    | none => .fault d cCtxFault
    | some h =>
      match storeHome d i e h with
      | (.error f, d) =>
        let d := markLost (dropCopies d e) e
        .fault d f.cause
      | (.ok _, d) =>
        let d := fcnt d 4 1
        if release then
          match heldOf d i e with
          | some h => .done (endClaim (startEvict d i h) t.req)
          | none => .done d
        else .done d

/-- The command at the head of a core's context queue run as far as it can go. -/
def ctxRun (d : Dev) (i : Nat) (q : QCmd) : CtxRes :=
  let t := taskAt (coreAt d i) q.slot
  let w := q.word.toNat
  let (e, c) := ctxFlow t w
  if e ≠ dFlowIndex t.desc ∨ c ≠ dFlowClass t.desc then .fault d cCtxFault
  else if isFam .ctxstore w then ctxStore d i q e (ctxSpad w) (w.testBit 75)
  else
    let x := entAt d e
    if !x.claims.contains t.req then .fault d cCtxFault
    else if !holdsClaim x t.req then .wait d 4
    else ctxLoad d i q e (ctxSpad w) (clsWords c)
where
  /-- Whether the word is of a family. -/
  isFam (f : Family) (w : Nat) : Bool := isFamily f w

/-- A core's context queue driven. -/
def ctxGo (i : Nat) (d : Dev) : Dev :=
  match (coreAt d i).ctx.head? with
  | none => d
  | some q =>
    if q.done || (taskAt (coreAt d i) q.slot).fault.isSome then d
    else
      match ctxRun d i q with
      | .done d => pump (setHead d i 6 { q with done := true, wait := 7 })
      | .wait d k => setHead d i 6 { q with wait := k }
      | .fault d e => pump (faultTask d i q.slot e q.pos)

/-- The cause of a context command at its issue (04 R122; 06 R157). -/
def ctxCause (d : Dev) (i : Nat) (t : Task) (w : Nat) : Option Nat :=
  let words := clsWords (ctxFlow t w).2
  if !dCtx t.desc then some cCmdFormat
  else if !isLocal' d i (ctxSpad w) || !isLocal' d i (ctxSpad w + words - 1) then some cReach
  else none
where
  /-- Whether a word address lies in the slice of the site's canonical index (06 R157). -/
  isLocal' (d : Dev) (i addr : Nat) : Bool :=
    let b := sliceBase (canonAt d i)
    decide (b ≤ addr) && decide (addr < b + 32768)

/-- Issue of a context command. -/
def issueCtx (f : Family) (i : Fin 288) (d : Dev) : Dev :=
  ctxGo i.val (withWord i.val (isFamily f) (fun d n w =>
    issueTo d i.val n 6 w (ctxCause d i.val (taskAt (coreAt d i.val) n) w) false) d)

/-- CTXLOAD. -/
def devCtxload (i : Fin 288) (d : Dev) : Dev := issueCtx .ctxload i d

/-- CTXSTORE. -/
def devCtxstore (i : Fin 288) (d : Dev) : Dev := issueCtx .ctxstore i d

/-! ### Messages (14 R406 to R408) -/

/-- The cores with something in their context queues driven. -/
def ctxAll (d : Dev) : Dev := (usedSites d).foldl (fun d i => ctxGo i d) d

/-- Waiters of an entry whose tag is reached released (14 R407). -/
def releaseWaits (d : Dev) (e : Nat) : Dev :=
  let x := entAt d e
  ctxAll { d with fcs := { d.fcs with waits := d.fcs.waits.filter (fun w => !(decide (w.entry = e) && decide (x.st = .inMemory) && tagReached x.etag w.t)) } }

/-- The first message that satisfies a test, if it is of the kind asked for; messages of one sender to one receiver keep their order. -/
def takeMsg (d : Dev) (mine want : FlowMsg → Bool) : Option (FlowMsg × Dev) :=
  match d.fcs.msgs.find? mine with
  | none => none
  | some m => if want m then some (m, { d with fcs := { d.fcs with msgs := d.fcs.msgs.erase m } }) else none

/-- Messages of a core to the directory. -/
def toDir (c : Nat) : FlowMsg → Bool
  | .leaving k _ _ => decide (k = c)
  | .notice k _ _ => decide (k = c)
  | _ => false

/-- Messages of the directory to a core. -/
def toHolder (c : Nat) : FlowMsg → Bool
  | .snoop k _ _ _ _ _ => decide (k = c)
  | .drop k _ => decide (k = c)
  | _ => false

/-- LEAVING (14 R406): the entry becomes EVICTING(t). -/
def devLeaving (c : Fin 256) (d : Dev) : Dev :=
  match takeMsg d (toDir c.val) (fun m => match m with | .leaving _ _ _ => true | _ => false) with
  | some (.leaving k e t, d) =>
    let x := entAt d e
    if x.st = .held k then setEnt d e { x with st := .evicting k t } else d
  | _ => d

/-- What becomes of an entry whose copy has been dropped for a flow end or an expiry (14 R411, R412). -/
def dropDone (d : Dev) (e : Nat) : Dev :=
  let x := entAt d e
  if x.claims.isEmpty then setEnt d e {} else setEnt d e { x with st := .inMemory, zero := true, lost := false, dropMark := false, failMark := false }

/-- NOTICE (14 R406): IN_MEMORY with ETAG t, LOST when the write-back failed, FREE or zero when the copy was dropped for good; waiters go on. -/
def devNotice (c : Fin 256) (d : Dev) : Dev :=
  match takeMsg d (toDir c.val) (fun m => match m with | .notice _ _ _ => true | _ => false) with
  | some (.notice k e t, d) =>
    let x := entAt d e
    if x.st = .evicting k t then
      let d := setEnt d e { x with st := .inMemory, etag := t }
      let d :=
        if x.dropMark then dropDone d e
        else if x.failMark then
          evt (fcnt (setEnt d e { entAt d e with lost := true, failMark := false }) 7 1) Reg.FCS_EVT 0
        else d
      releaseWaits d e
    else d
  | _ => d

/-- Whether the head of a core's context queue is the load of a task for an entry that is not being aborted. -/
def awaits (d : Dev) (i slot e : Nat) : Bool :=
  match (coreAt d i).ctx.head? with
  | some q => decide (q.slot = slot) && !q.done && (taskAt (coreAt d i) slot).fault.isNone && decide ((ctxFlow (taskAt (coreAt d i) slot) q.word.toNat).1 = e)
  | none => false

/-- The words of a snooped copy at their requester (14 R407): written into its SPAD over the network port, and the directory enters HELD; of a copy with an uncorrectable word nothing is sent, the entry
is LOST and the load completes with zeros. -/
def snoopDone (d : Dev) (i j slot e spad : Nat) (ws : Option (List Byte)) : Dev :=
  let x := entAt d e
  let n := clsWords x.cls
  let d := dropCopies d e
  let d := match ws with
    | none => loadLost (markLost d e) j slot e spad n
    | some bs => fcnt (place (fillCopy j spad n bs (countNet d i j true true n)) j slot e spad n (attrOf x)) 3 1
  match (coreAt d j).ctx.head? with
  | some q => ctxGo j (pump (setHead d j 6 { q with done := true, wait := 7 }))
  | none => d

/-- SNOOP (14 R407): the holder copies its words to the requester, or answers RETRY when its copy is leaving. Where the holder took the SNOOP ahead of a write to the copy, or of its eviction, the words come with
it; when their requester no longer waits, the home's version is the current one, for the copy was clean. -/
def devSnoop (c : Fin 256) (d : Dev) : Dev :=
  match takeMsg d (toHolder c.val) (fun m => match m with | .snoop _ _ _ _ _ _ => true | _ => false) with
  | some (.snoop k e r spad slot taken, d) =>
    let i := siteFor d k
    let j := siteFor d r
    match taken, heldOf d i e with
    | some bs, _ =>
      if awaits d j slot e then snoopDone d i j slot e spad (if bs.isEmpty then none else some bs)
      else setEnt d e { entAt d e with st := .inMemory }
    | none, none => fcnt (flowSend d (.retry r e (leavingTag d k e) spad slot)) 6 1
    | none, some h =>
      if h.leaving.isSome then fcnt (flowSend d (.retry r e (leavingTag d k e) spad slot)) 6 1
      else if !awaits d j slot e then d
      else
        let (ws, d) := copyWords i h.spad h.words d
        snoopDone d i j slot e spad ws
  | _ => d

/-- RETRY (14 R407): the requester waits until the entry reaches the tag; then it reads the home. -/
def devRetry (c : Fin 256) (d : Dev) : Dev :=
  match takeMsg d (fun m => match m with | .retry r _ _ _ _ => decide (r = c.val) | _ => false) (fun _ => true) with
  | some (.retry r e t _ slot, d) =>
    let j := siteFor d r
    if !awaits d j slot e then d
    else
      let x := entAt d e
      if x.st = .inMemory ∧ tagReached x.etag t = true then ctxGo j d
      else { d with fcs := { d.fcs with waits := d.fcs.waits ++ [{ core := r, slot := slot, entry := e, t := t }] } }
  | _ => d

/-- DROP (14 R406): the holder evicts; a copy dropped for a flow end or an expiry is not written back. -/
def devDrop (c : Fin 256) (d : Dev) : Dev :=
  match takeMsg d (toHolder c.val) (fun m => match m with | .drop _ _ => true | _ => false) with
  | some (.drop k e, d) =>
    let i := siteFor d k
    match heldOf d i e with
    | none => d
    | some h =>
      if (entAt d e).dropMark then
        let h' := { h with dirty := false }
        startEvict (modCore d i (fun c => { c with held := c.held.map (fun y => if y = h then h' else y) })) i h'
      else startEvict d i h
  | _ => d

/-- EVICTION_WRITEBACK_COMPLETE (14 R406 step 2): the leaving dirty copy of entry `e` on canonical core `c` is written home, or the write-back fails; NOTICE follows and
the window is free. -/
def devEvictionWritebackComplete (c : Fin 256) (e : Fin 65536) (d : Dev) : Dev :=
  let i := siteFor d c.val
  match heldOf d i e.val with
  | none => d
  | some h =>
    match h.leaving with
    | none => d
    | some t =>
      let (res, d) := if (entAt d e.val).dropMark then (.ok (), d) else storeHome d i e.val h
      let d := match res with
        | .ok _ => d
        | .error _ => setEnt d e.val { entAt d e.val with failMark := true }
      let d := modCore d i (fun co => { co with held := co.held.filter (fun x => decide (x.entry ≠ e.val)) })
      ctxGo i (flowSend d (.notice c.val e.val t))

/-! ### Claims, flow end, expiry -/

/-- CLAIM_GRANT (14 R397): the head of an entry's claim queue gets the claim; the time it waited is counted. -/
def devClaimGrant (e : Fin 65536) (d : Dev) : Dev :=
  let x := entAt d e.val
  if x.granted then d
  else
    match x.claims with
    | [] => d
    | h :: _ =>
      let from_ := match reqAt d h with | some r => r.claimFrom | none => d.now
      ctxAll (fcnt (setEnt d e.val { x with granted := true }) 13 (d.now - from_))

/-- A held copy dropped without write-back, and the entry's end after it (14 R411, R412). -/
def dropFlow (d : Dev) (e : Nat) : Dev :=
  let x := entAt d e
  match x.st with
  | .free => d
  | .inMemory => dropDone d e
  | .held c => flowSend (setEnt d e { x with dropMark := true }) (.drop c e)
  | .evicting _ _ => setEnt d e { x with dropMark := true }

/-- FLOW_END (14 R411): a finished request with FLOW_END frees its entry, or sets its context to zero when other claims are queued. -/
def flowEnd (d : Dev) (e : Nat) : Dev := dropFlow (fcnt d 12 1) e

/-- FLOW_EXPIRY (14 R412): an entry with no claim whose last claim ended more than IDLE_EXPIRE seconds ago. -/
def devFlowExpiry (e : Fin 65536) (d : Dev) : Dev :=
  let x := entAt d e.val
  if x.st = .free ∨ unclaimed x = false ∨ x.dropMark = true ∨ d.now ≤ x.lastEnd + fld d Reg.FCS_CFG 31 16 * 10 ^ 9 then d
  else dropFlow (fcnt d 10 1) e.val

/-- The context of an aborted task (04 R125 step 4; 14 R410): before the EMIT the copy is discarded and the entry is as before the load; after it, a dirty copy is LOST. -/
def ctxAbort (d : Dev) (i n : Nat) : Dev :=
  let t := taskAt (coreAt d i) n
  let me := canonAt d i
  let d := { d with fcs := { d.fcs with waits := d.fcs.waits.filter (fun w => !(decide (w.core = me) && decide (w.slot = n))) } }
  match (coreAt d i).held.find? (fun h => decide (h.req = t.req) && decide (h.slot = n) && h.leaving.isNone) with
  | none => d
  | some h =>
    if (reqAt d t.req).any (fun r => r.emitted) then
      if h.dirty then markLost (dropCopies d h.entry) h.entry else d
    else
      let x := entAt d h.entry
      let d := setEnt (dropCopies d h.entry) h.entry { x with st := .inMemory, lost := h.attr.testBit 0, zero := h.attr.testBit 1 }
      modReq d t.req (fun r => { r with ctxReset := false })

/-- The entries held by, or leaving, a fenced core (14 R409). -/
def loseCore (d : Dev) (c : Nat) : Dev :=
  let es := (d.fcs.dir.filter (fun x => decide (x.2.st = .held c) || (match x.2.st with | .evicting k _ => decide (k = c) | _ => false))).map (fun x => x.1)
  let d := { d with fcs := { d.fcs with msgs := d.fcs.msgs.filter (fun m => !toDir c m && !toHolder c m) } }
  let d := es.foldl (fun d e => markLost (dropCopies d e) e) d
  es.foldl (fun d e => releaseWaits d e) d

/-- Homes of package `j` that a map-out has retired, given the package before it (14 R394, R409): RETIRE_EVT, and each such entry that names a flow is LOST. -/
def retireHomes (before : Dev) (j : Nat) (d : Dev) : Dev :=
  let newly := fun (e : Nat) => decide (e % 8 = j) && !retired before e && retired d e
  let d1 := if (List.range 8192).any (fun k => newly (8 * k + j)) then evt d Reg.FCS_EVT 3 else d
  let es := (d.fcs.dir.filter (fun x => newly x.1 && decide (x.2.st ≠ .free))).map (fun x => x.1)
  es.foldl (fun d e => releaseWaits (markLost (dropCopies d e) e) e) d1

/-- Every entry of a model freed (14 R413; 10 R298). -/
def freeModel (d : Dev) (m : Nat) : Dev :=
  let es := (d.fcs.dir.filter (fun x => decide (x.2.model = m))).map (fun x => x.1)
  es.foldl (fun d e => setEnt (dropCopies d e) e {}) d

/-- Every entry of a model marked LOST and given a new class: an image with another class activates (14 R390, R409). -/
def loseModel (d : Dev) (m cls : Nat) : Dev :=
  let es := (d.fcs.dir.filter (fun x => decide (x.2.model = m) && decide (x.2.st ≠ .free))).map (fun x => x.1)
  es.foldl (fun d e =>
    let d := markLost (dropCopies d e) e
    releaseWaits (setEnt d e { entAt d e with cls := cls }) e) d

end Sys2Proof.Machine
end

