-- ==== Sys2Proof/Machine/MgmtBase.lean ====
section
/-! DEFINITION. Answers of the management path (19 R533 to R535, R550), used wherever a request ends. -/

namespace Sys2Proof.Machine

/-- Status codes (19 Table MGMT-3). -/
abbrev msSuccess : Nat := 0
abbrev msBadCommand : Nat := 1
abbrev msBadLength : Nat := 2
abbrev msBadAddress : Nat := 3
abbrev msReservedField : Nat := 4
abbrev msReservedEncoding : Nat := 5
abbrev msLockViolation : Nat := 6
abbrev msUnitAbsent : Nat := 7
abbrev msUnitBusy : Nat := 8
abbrev msState : Nat := 9
abbrev msAuthFail : Nat := 10
abbrev msRefused : Nat := 11

/-- A response message (19 Table MGMT-2). -/
def responseBytes (q : VReq) (status : Nat) (body : List Byte) : List Byte :=
  [0x7F, 0x00, 0x00, 0xD7, 0xA2, byteOf q.version, byteOf q.cmd, 0x80, 0x00] ++ leBytes 2 q.seq ++ leBytes 2 status ++ body

/-- A request answered: the counter of refusals; a message to the requester while a warden lives (17 R488), or the MEM_ACCESS result (19 R550). -/
def answer (d : Dev) (q : VReq) (status : Nat) (body : List Byte) : Dev :=
  let d := if status = 0 then d else cntInc d (Reg.MGT_MSG_CNT_LO 1)
  if q.jtag then
    let d := if status = 0 then d else wr d Reg.MGT_JTAG_LAST (BitVec.ofNat 32 status)
    let data := if status = 0 ∧ q.cmd = 1 then leAt body 4 4 else d.mgmt.tap.memData
    { d with mgmt := { d.mgmt with tap := { d.mgmt.tap with memStatus := (if status = 0 then 0 else 2), memData := data } } }
  else if d.wdn.dead then d
  else { d with mgmt := { d.mgmt with out := d.mgmt.out ++ [(q.eid, q.tag, responseBytes q status body)] } }

/-- The request being executed answered; the next may begin. -/
def finish (d : Dev) (q : VReq) (status : Nat) (body : List Byte) : Dev :=
  answer { d with mgmt := { d.mgmt with cur := none } } q status body

/-- The FENCE request of a site (KIND 1) or seam (KIND 2) that waits for the unit's decision answered once the declared state has changed (19 Table MGMT-4, R541). -/
def answerFence (d : Dev) (kind index : Nat) : Dev :=
  match d.mgmt.cur with
  | some q => if q.cmd = 0x10 ∧ leAt q.body 0 1 = kind ∧ leAt q.body 2 2 = index then finish d q msSuccess [] else d
  | none => d

/-- The SLEEP request that waits for its barrier answered: SUCCESS at the commit, UNIT_BUSY when it aborts (19 Table MGMT-4). -/
def answerSleep (d : Dev) (status : Nat) : Dev :=
  match d.mgmt.cur with
  | some q => if q.cmd = 0x30 then finish d q status [] else d
  | none => d

/-- A sleep barrier that ends without a commit: the request is answered UNIT_BUSY, and a wake event kept for the entry is spent. -/
def sleepAborted (d : Dev) : Dev := answerSleep { d with pwr := { d.pwr with wakeDue := false } } msUnitBusy

end Sys2Proof.Machine
end

