-- ==== Sys2Proof/Machine/Station.lean ====
section
/-! DEFINITION. The reported station state (01 R42, R43; 17 R469) and what the ring tells every block of the station: the port registers,
the live stations, and which way traffic leaves (10). -/

namespace Sys2Proof.Machine

/-- Ports are numbered as registers number them: 0 Port W, 1 Port E. -/
def portAt (d : Dev) (p : Nat) : Port := d.ports.getD p {}

/-- A port replaced. -/
def setPort (d : Dev) (p : Nat) (x : Port) : Dev := { d with ports := setAt d.ports p x }

/-- A port changed. -/
def modPort (d : Dev) (p : Nat) (f : Port → Port) : Dev := setPort d p (f (portAt d p))

/-- Whether a mask of lanes has a lane. -/
def inMask (m l : Nat) : Bool := m.testBit l

/-- The lanes in a mask. -/
def popMask (m : Nat) : Nat := ((List.range 17).filter (fun l => m.testBit l)).length

/-- The mask of a list of lanes. -/
def maskOf (ls : List Nat) : Nat := ls.foldl (fun m l => if m.testBit l then m else m + 2 ^ l) 0

/-- Lanes retired by this receiver (09 LNK_x_RX_RETIRED). -/
def Port.rxRetired (p : Port) : Nat := maskOf ((p.lanes.filter (fun l => l.retired)).filterMap (fun l => l.logical))

/-- The ring size N and this station's number (10 R269). -/
def ringSize (d : Dev) : Nat := fld d Reg.LAP_STATION 23 16
def stationNo (d : Dev) : Nat := fld d Reg.LAP_STATION 7 0

/-- Whether a port is closed: UP, its own IDENT checks passed and the partner shows PEER_OK (10 R271). -/
def portClosed (d : Dev) (p : Nat) : Bool :=
  let n := d.ring.nbr.getD p {}
  decide ((portAt d p).st = 3) && n.seen && n.ok && n.peerOk

/-- A link mask that puts the station in DEGRADED (09 R265; 17 R469): fewer than 16 lanes, or lane 16. -/
def maskDegraded (m : Nat) : Bool := decide (m ≠ 0) && (decide (popMask m < 16) || m.testBit 16)

/-- Whether a degradation stands (17 R469). -/
def degraded (d : Dev) : Bool :=
  anyFenced d ||
  d.wdn.seams.any (fun s => decide (s.st = .lost)) ||
  decide (d.wdn.standby ≠ 0) ||
  (List.range 12).any (fun u => decide (rdn d (xreg u 0x004) ≠ 0)) ||
  d.ports.any (fun p => decide (p.rxRetired ≠ 0) || decide (p.txRetired ≠ 0) || (decide (p.st = 3) && (maskDegraded p.txMask || maskDegraded p.rxMask)))

/-- Whether any model is active. -/
def anyActive (d : Dev) : Bool := d.model.any (fun x => x.2.active.isSome)

/-- Whether an image is staged behind an active one (10 R296). -/
def swapping (d : Dev) : Bool := d.model.any (fun x => x.2.active.isSome && x.2.staged.isSome)

/-- The station state of a formed ring (01 R43): SPLIT, FOLDED, SWAPPING, DEGRADED, SERVING, READY. -/
def servingCode (d : Dev) : Nat :=
  if d.ring.mode = 3 then 9
  else if d.ring.mode = 2 then 8
  else if swapping d then 0xD
  else if degraded d then 7
  else if anyActive d then 6
  else 5

/-- Whether the station is in a state of a formed ring. -/
def isServing (d : Dev) : Bool := [5, 6, 7, 8, 9, 0xD].contains d.code

/-- The reported state brought up to date. -/
def restate (d : Dev) : Dev := if isServing d then setCode d (servingCode d) else d

/-! ### The ways round the ring (10 R279, R289, R293, R299) -/

/-- A pass of a station: eastbound (from Port W, towards Port E) or westbound. -/
inductive Pass where
  | east | west
  deriving DecidableEq, Repr

/-- The pass of a flit that arrived at a port. -/
def passFrom (p : Nat) : Pass := if p = 0 then .east else .west

/-- The port by which a pass leaves. -/
def Pass.port : Pass → Nat
  | .east => 1 | .west => 0

/-- The other pass. -/
def Pass.turn : Pass → Pass
  | .east => .west | .west => .east

/-- Whether hanks turn back at the end of a pass (10 R299). -/
def turnsHank (d : Dev) : Pass → Bool
  | .east => d.ring.loopE | .west => d.ring.loopW

/-- Whether tokens and ring messages turn back: the port is not closed. A joined link carries them (10 R303). -/
def turnsMsg (d : Dev) (q : Pass) : Bool := !portClosed d q.port

/-- The live stations of the line or ring: all, or from the west end eastwards to the east end (10 R300). -/
def liveStations (d : Dev) : List Nat :=
  let n := ringSize d
  if d.ring.mode = 1 then List.range n
  else match d.ring.noticeW, d.ring.noticeE with
  | some w, some e => (List.range ((e + n - w) % max 1 n + 1)).map (fun k => (w + k) % max 1 n)
  | _, _ => List.range n

/-- The lowest number of a list. -/
def lowest (l : List Nat) : Nat := l.foldl min 255

/-- A token's bytes (10 Table LAP-5). -/
def Token.bytes (t : Token) : List Byte :=
  [byteOf t.kind, byteOf t.phase, byteOf t.outcome, byteOf t.leader] ++ beBytes 2 t.id ++ [byteOf t.model, 0] ++ beBytes 4 t.gen ++ beBytes 4 t.leff ++
    beBytes 8 t.ready ++ beBytes 8 t.refuse ++ padTo 48 t.digest ++ padTo 8 t.arg ++ List.replicate 8 0 ++ padTo 64 (t.reasons.map byteOf) ++ List.replicate 96 0

/-- A ring message's bytes (10 Table LAP-4). -/
def RingMsg.bytes (m : RingMsg) : List Byte :=
  padTo 256 ([byteOf m.kind, byteOf m.src, byteOf m.dst, byteOf m.ttl, 0, 0, 0, 0] ++ padTo 8 m.body)

/-- The station of a pass at which a token or message leaves, or none where both ends turn it back: two passes at one station bring it back to itself. -/
def exitOf (d : Dev) (q : Pass) : Option Nat :=
  if !turnsMsg d q then some q.port
  else if !turnsMsg d q.turn then some q.turn.port
  else none

/-- A token queued for a port. -/
def queueBar (d : Dev) (p : Nat) (t : Token) : Dev := modPort d p (fun x => { x with bar := x.bar ++ [t.bytes] })

/-- A ring message queued for a port. -/
def queueMsg (d : Dev) (p : Nat) (m : RingMsg) : Dev := modPort d p (fun x => { x with msg := x.msg ++ [m.bytes] })

/-- A ring message that this station sends: east, or along the loop (10 R289). -/
def sendMsg (d : Dev) (kind dst : Nat) (body : List Byte) : Dev :=
  match exitOf d .east with
  | some p => queueMsg d p { kind := kind, src := stationNo d, dst := dst, ttl := min 255 (2 * ringSize d), body := body }
  | none => d

/-- A barrier that its leader queues again after an abort (10 R294). FORM, JOIN and REFORM are started by their timers (10 R272, R303), and wait in the queue for them. -/
def Token.again (t : Token) : Token :=
  { t with phase := 1, outcome := 0, leff := 0, ready := 0, refuse := 0, reasons := List.replicate 64 0, due := decide (t.kind ≠ 1 ∧ t.kind ≠ 5 ∧ t.kind ≠ 6) }

/-- Every barrier in flight at this station ends: one on which it voted, and one that it leads, which is queued again (10 R294). -/
def abortBarriers (d : Dev) : Dev :=
  let r := d.ring
  match r.voted, r.flight with
  | none, none => d
  | _, _ =>
    let d := evt (cntInc d (Reg.LAP_CNT_LO 10)) Reg.LAP_EVT 0
    let sleeps := fun (t : Option Token) => t.any (fun t => decide (t.kind = 8))
    let d := if sleeps r.voted || sleeps r.flight then sleepAborted d else d
    let again := match r.flight with | some t => [t.again] | none => []
    { d with ring := { r with voted := none, flight := none, queue := again ++ r.queue, lastOutcome := 2 } }

/-- Adoption begins (10 R285, Table LAP-7): the event, and a seeding lap of every ringed model. -/
def beginAdoption (d : Dev) : Dev :=
  let d := evt d Reg.LAP_EVT 4
  { d with model := d.model.foldl (fun mm x => smSet {} mm x.1 (if x.2.active.any (fun im => im.ringed) then { x.2 with seeding := true } else x.2)) d.model }

/-- What both notices tell (10 R300, Table LAP-7): a station left alone reports FOLDED, and else the stations missing between the ends decide FOLDED, adoption or SPLIT. -/
def foldDecide (d : Dev) : Dev :=
  let n := max 1 (ringSize d)
  match d.ring.noticeW, d.ring.noticeE with
  | some w, some e =>
    let missing := (w + n - e + n - 1) % n
    let live := liveStations { d with ring := { d.ring with mode := 2 } }
    let d := { d with ring := { d.ring with nLive := live.length, leader := lowest live } }
    if 2 ≤ missing ∧ live.length ≠ 1 then
      let d := { d with ring := { d.ring with mode := 3, adopted := none, rRun := false } }
      restate (elog 5 5 0x0505 0 missing (evt d Reg.LAP_EVT 6))
    else
      let x := (e + 1) % n
      let adopt := decide (missing = 1) && decide (w = stationNo d) && decide (live.length ≠ 1)
      let new := adopt && decide (d.ring.adopted ≠ some x)
      let d := { d with ring := { d.ring with mode := 2, adopted := if adopt then some x else none, rRun := d.ring.rRun && decide (live.length ≠ 1) } }
      let d := if new then beginAdoption d else d
      restate (elog 5 5 0x0504 0 missing d)
  | _, _ => d

/-- Barriers in flight end and FOLDED is reported at the first notice (10 R294, R299). `cut` says that a link which carried hanks has gone: the lap is interrupted. -/
def foldBegin (cut : Bool) (d : Dev) : Dev :=
  let d := abortBarriers d
  let d := { d with ring := { d.ring with interrupted := d.ring.interrupted || cut, reformAt := none, joinSeen := false } }
  if d.ring.mode = 1 then
    let d := evt (cntInc d (Reg.LAP_CNT_LO 11)) Reg.LAP_EVT 5
    restate { d with ring := { d.ring with mode := 2, noticeW := none, noticeE := none } }
  else d

/-- A port of a formed ring goes DOWN (10 R299): its traffic loops back, the interrupted lap launches no more, and a FOLD_NOTICE goes out. A port that was looped
back already carried no hanks, and no lap is interrupted. -/
def foldPort (d : Dev) (p reason : Nat) : Dev :=
  if d.ring.mode = 0 then d
  else
    let cut := !(if p = 0 then d.ring.loopW else d.ring.loopE)
    let d := foldBegin cut d
    let me := stationNo d
    let d := { d with ring := { d.ring with held := d.ring.held || cut, loopW := d.ring.loopW || decide (p = 0), loopE := d.ring.loopE || decide (p = 1) } }
    let d := { d with ring := (if p = 0 then { d.ring with noticeW := some me } else { d.ring with noticeE := some me }) }
    let d := sendMsg d 3 0xFF ([byteOf p, byteOf reason] ++ beBytes 4 d.ring.rlap)
    foldDecide d

end Sys2Proof.Machine
end

