-- ==== Sys2Proof/Machine/Image.lean ====
section
/-! DEFINITION. Model images (18 R520 to R528): the byte layout and its checks, placement of virtual cores (16 R443), relocation, what an image installs and
where, capacity, the release budget bound (01 R36), and the copies of its hanks in the image areas (11 R314, R315). -/

namespace Sys2Proof.Machine

/-! ### Error codes of a load (13 Table RVP-14) -/

abbrev eLoadBusy : Nat := 0x10
abbrev eLoadCapacity : Nat := 0x11
abbrev eLoadGen : Nat := 0x12
abbrev eLoadSignature : Nat := 0x13
abbrev eLoadImage : Nat := 0x14
abbrev eLoadBudget : Nat := 0x15
abbrev eActivateRefused : Nat := 0x16
abbrev eLoadState : Nat := 0x17

/-! ### Reading the layout (18 R520, R521) -/

/-- Whether every byte of a string is 0. -/
def allZero (bs : List Byte) : Bool := bs.all (fun b => decide (b = 0))

/-- Pieces of `n` bytes of a string. -/
def chunks (n : Nat) : Nat → List Byte → List (List Byte)
  | 0, _ => []
  | fuel + 1, bs => if bs.isEmpty then [] else bs.take n :: chunks n fuel (bs.drop n)

/-- The entries of a table of `n`-byte entries. -/
def rowsOf (n : Nat) (bs : List Byte) : List (List Byte) := chunks n bs.length bs

/-- A row of the section table: TYPE, OFFSET, LENGTH. -/
structure SecEnt where
  typ : Nat
  off : Nat
  len : Nat
  deriving DecidableEq, Repr

/-- The section table of a model image, or nothing where an entry breaks Table BOOT-12 or a reserved byte is set. -/
def secTable (bs : List Byte) (n : Nat) : Option (List SecEnt) :=
  (List.range n).foldr (fun i acc =>
    let e := slice bs (128 + 24 * i) 24
    match acc with
    | none => none
    | some l =>
      if !allZero (slice e 1 7) || leAt e 0 1 = 0 || decide (12 < leAt e 0 1) then none
      else some ({ typ := leAt e 0 1, off := leAt e 8 8, len := leAt e 16 8 } :: l)) (some [])

/-- Insertion of a section by offset. -/
def insertSec (s : SecEnt) : List SecEnt → List SecEnt
  | [] => [s]
  | x :: r => if decide (s.off < x.off) || (decide (s.off = x.off) && decide (s.len ≤ x.len)) then s :: x :: r else x :: insertSec s r

/-- Sections in image order. -/
def imageOrder (l : List SecEnt) : List SecEnt := l.foldr insertSec []

/-- Whether sections in image order lie one after another from `pos`, at multiples of 8, up to `hi`, with zeros between them. -/
def layoutOk (bs : List Byte) : Nat → Nat → List SecEnt → Bool
  | pos, hi, [] => decide (pos ≤ hi) && allZero (slice bs pos (hi - pos))
  | pos, hi, s :: r =>
    decide (s.off % 8 = 0) && decide (pos ≤ s.off) && decide (s.off + s.len ≤ hi) && allZero (slice bs pos (s.off - pos)) && layoutOk bs (s.off + s.len) hi r

/-- The body of a section by type; empty when absent. -/
def secBody (l : List (Nat × List Byte)) (t : Nat) : List Byte := ((l.find? (fun x => decide (x.1 = t))).map (fun x => x.2)).getD []

/-- A section of an image by type. -/
def Image.sec (im : Image) (t : Nat) : List Byte := secBody im.secs t

/-- Blocks of the COMMANDS section as (offset, header, data), or nothing where one runs past the end. -/
def cmdBlocks : Nat → Nat → List Byte → Option (List (Nat × List Byte × List Byte))
  | 0, _, bs => if bs.isEmpty then some [] else none
  | fuel + 1, off, bs =>
    if bs.isEmpty then some []
    else
      let n := 64 * leAt bs 4 4
      if bs.length < 8 + n then none
      else (cmdBlocks fuel (off + 8 + n) (bs.drop (8 + n))).map (fun r => (off, bs.take 8, (bs.drop 8).take n) :: r)

/-- The command blocks of an image. -/
def Image.blocks (im : Image) : List (Nat × List Byte × List Byte) := ((cmdBlocks (im.sec 3).length 0 (im.sec 3)).getD [])

/-- Whether a TARGET is an encoding of the mode (18 R521). -/
def targetOk (fast : Bool) (t : Nat) : Bool := decide (t < 256) || (fast && decide (t = 0xFFFF))

/-- The distinct elements of a list of numbers. -/
def distinct (l : List Nat) : Bool :=
  match l with
  | [] => true
  | x :: r => !r.contains x && distinct r

/-- HANK_TABLE: layers below LAYERS, and within each layer HANK from 0 without gaps (18 R524). -/
def hanksOk (layers : Nat) (hs : List HankDef) : Bool :=
  hs.all (fun h => decide (h.layer < layers) && decide (h.hank < (hs.filter (fun x => decide (x.layer = h.layer))).length)) &&
    distinct (hs.map (fun h => 65536 * h.layer + h.hank))

/-- The conditioning table (13 Table RVP-9). -/
def condOk (bs : List Byte) : Bool :=
  let f := leAt bs 0 1
  let mode := leAt bs 1 1
  let rows := leAt bs 2 2
  let elems := leAt bs 4 2
  let n := leAt bs 13 1
  decide (22 ≤ bs.length) && decide (f ≤ 5) && decide (mode ≤ 2) && decide (1 ≤ rows) && decide (rows ≤ 1024) && decide (128 ≤ elems) && decide (elems ≤ 4096) &&
    decide (elems % 128 = 0) && decide (leAt bs 6 2 + leAt bs 8 2 ≤ rows) && decide (1 ≤ leAt bs 10 2) && decide (n ≤ 64) && decide (leAt bs 14 4 < 2 ^ 24) &&
    decide (leAt bs 20 2 = 0) && (decide (mode ≠ 2) || (decide (leAt bs 8 2 = 1) && decide (256 ≤ elems))) && decide (bs.length = 22 + 16 * n) &&
    (rowsOf 16 (bs.drop 22)).all (fun e => decide (leAt e 0 2 ≤ 1023) && decide (leAt e 2 1 ≤ 8) && decide (leAt e 3 1 = 0) && decide (leAt e 4 2 < rows) &&
      decide (leAt e 6 2 < elems))

/-- The threshold table (13 R379). -/
def threshOk (bs : List Byte) : Bool :=
  let n := leAt bs 0 1
  decide (n ≤ 16) && decide (bs.length = 8 + 8 * n) && allZero (slice bs 1 7) &&
    (rowsOf 8 (bs.drop 8)).all (fun e => decide (leAt e 1 1 ≤ 1) && decide (1 ≤ leAt e 2 1) && decide (leAt e 2 1 ≤ 3) && decide (leAt e 3 1 = 0))

/-- The templates of a FAST image: every G and every rank below it, in ascending order of (KEY_B, KEY_A). -/
def fastKeys (gmax : Nat) : List (Nat × Nat) := ((List.range gmax).map (fun g => (List.range (g + 1)).map (fun r => (g, r)))).flatten

/-- The template set of an image (18 R521, R524; 04 R99; 14 R396). -/
def templatesOk (fast : Bool) (gmax : Nat) (flow : Bool) (ts : List Template) : Bool :=
  ts.all (fun t => decide (t.flags < 8) && decide (t.cmdSkein < 64) && decide (t.cmdStart < 2 ^ 24) && (!t.flags.testBit 2 || flow)) &&
    (if fast then decide (ts.map (fun t => (t.keyB, t.keyA)) = fastKeys gmax) && ts.all (fun t => !t.flags.testBit 2 || decide (t.keyA = 0))
     else !ts.isEmpty && ts.all (fun t => decide (t.keyB = 0)) && distinct (ts.map (fun t => t.keyA)) &&
       ts.all (fun t => !t.flags.testBit 2 || ts.all (fun u => decide (t.keyA ≤ u.keyA))))

/-- A region entry (18 Table BOOT-12, REGIONS). -/
def regionOk (fast : Bool) (resident : Nat) (e : List Byte) : Bool :=
  let k := leAt e 0 1
  decide (1 ≤ k) && decide (k ≤ 3) && decide (leAt e 1 1 = 0) && targetOk fast (leAt e 2 2) && decide (leAt e 4 4 = 0) &&
    (if k = 3 then decide (leAt e 8 8 + leAt e 16 8 ≤ 2 ^ 40) && decide (leAt e 24 8 = 0)
     else decide (leAt e 8 8 < 2 ^ 24) && (if k = 1 then decide (leAt e 24 8 + 64 * leAt e 16 8 ≤ resident) else decide (leAt e 24 8 = 0)))

/-- The width in bits of a relocation KIND (18 R523). -/
def relocWidth : Nat → Nat
  | 1 => 24 | 2 => 24 | 3 => 6 | _ => 8

/-- Whether a RELOC entry is allowed against the sections in table order (18 R523). -/
def relocOk (fast : Bool) (secs : List (Nat × List Byte)) (e : List Byte) : Bool :=
  let kind := leAt e 1 1
  match secs[leAt e 0 1]? with
  | none => false
  | some (t, body) =>
    [3, 4, 5, 8, 9, 10, 6].contains t && decide (1 ≤ kind) && decide (kind ≤ 4) && !(fast && decide (kind = 1)) && decide (leAt e 2 1 ≤ 7) && decide (leAt e 3 1 = 0) &&
      (decide (t ≠ 6) || (decide (kind = 1) && decide (leAt e 4 4 = 14) && decide (leAt e 2 1 = 0))) &&
      decide (8 * leAt e 4 4 + leAt e 2 1 + relocWidth kind ≤ 8 * body.length) &&
      (let v := leAt body (leAt e 4 4) 5 / 2 ^ leAt e 2 1 % 2 ^ relocWidth kind
       if kind = 1 then decide (bits v 21 15 < 64) else if kind = 2 then decide (v < 32768) else true)

/-- The header fields of Table BOOT-11 that need no station. -/
def headerOk (bs : List Byte) : Bool :=
  let fast := decide (leAt bs 18 1 = 2)
  decide (224 ≤ bs.length) && decide (bs.take 4 = [0x55, 0x37, 0x4D, 0x44]) && decide (leAt bs 4 2 = 1) && decide (7 ≤ leAt bs 6 2) && decide (leAt bs 6 2 ≤ 12) &&
    decide (leAt bs 8 8 = bs.length) && decide (1 ≤ leAt bs 16 1) && decide (leAt bs 16 1 ≤ 16) && decide (leAt bs 17 1 ≤ 1) &&
    decide (1 ≤ leAt bs 18 1) && decide (leAt bs 18 1 ≤ 2) && decide (leAt bs 19 1 < 4) && decide (1 ≤ leAt bs 20 4) && decide (leAt bs 24 1 ≤ 3) &&
    (if (leAt bs 19 1).testBit 1 then decide (leAt bs 25 1 ≤ 8) else decide (leAt bs 25 1 = 0)) && decide (leAt bs 26 1 = 0xB0) &&
    decide (1 ≤ leAt bs 27 1) && decide (leAt bs 27 1 ≤ 3) && decide (1000 ≤ leAt bs 28 4) && decide (1 ≤ leAt bs 32 4) && decide (leAt bs 36 4 ≤ 262144) &&
    decide (1 ≤ leAt bs 40 2) && decide (1 ≤ leAt bs 42 2) && decide (leAt bs 42 2 ≤ 256) && decide (1 ≤ leAt bs 44 4) && decide (1 ≤ leAt bs 48 2) &&
    decide (1 ≤ leAt bs 50 2) && decide (leAt bs 50 2 ≤ 256) && decide (1 ≤ leAt bs 52 2) && decide (leAt bs 52 2 ≤ leAt bs 50 2) &&
    decide (leAt bs 54 2 < leAt bs 50 2) && decide (1 ≤ leAt bs 56 1) && decide (leAt bs 56 1 ≤ 3) && allZero (slice bs 57 3) &&
    (if fast then decide (leAt bs 60 4 = 0) else decide (leAt bs 60 4 ≤ 32768)) && decide (leAt bs 64 1 ≤ 63) && decide (leAt bs 66 2 ≤ 8192) &&
    allZero (slice bs 68 4) && allZero (slice bs 120 8) && !(fast && (leAt bs 19 1).testBit 0) && (decide (leAt bs 17 1 = 1) || decide (leAt bs 44 4 ≤ 6144))

/-- An image as its header describes it, with its sections in table order; the body of HANK_BODIES is left out. -/
def imageOf (bs : List Byte) (tab : List SecEnt) : Image :=
  let flags := leAt bs 19 1
  let secs := tab.map (fun s => (s.typ, if s.typ = 2 then [] else slice bs s.off s.len))
  { id := leAt bs 16 1, ringed := decide (leAt bs 17 1 = 1), fast := decide (leAt bs 18 1 = 2), twin := flags.testBit 0, flow := flags.testBit 1, gen := leAt bs 20 4,
    keyIndex := leAt bs 24 1, flowClass := leAt bs 25 1, budget := leAt bs 28 4, defDeadline := leAt bs 32 4, maxPayload := leAt bs 36 4, cohort := leAt bs 40 2,
    place := leAt bs 42 2, layers := leAt bs 48 2, nLogits := leAt bs 50 2, nClass := leAt bs 52 2, scoreIdx := leAt bs 54 2, defAction := leAt bs 56 1,
    winWords := leAt bs 60 4, winSkeins := leAt bs 64 1, winPatterns := leAt bs 65 1, winTags := leAt bs 66 2, programDigest := slice bs 72 48,
    digest := sha384 bs, size := bs.length,
    hanks := (rowsOf 8 (secBody secs 1)).map (fun e => { layer := leAt e 0 2, hank := leAt e 2 2, crc := leAt e 4 4 }),
    templates := (rowsOf 16 (secBody secs 8)).map (fun e =>
      { keyA := leAt e 0 1, flags := leAt e 1 1, cmdSkein := leAt e 2 1, keyB := leAt e 3 1, cmdStart := leAt e 4 4, param := slice e 8 8 }),
    secs := secs,
    participants := (List.range 256).filter (fun c => ((secBody secs 11).getD (c / 8) 0).getLsbD (c % 8)) }

/-- The sections of an image (18 R521 to R524), after its header and table. -/
def sectionsOk (im : Image) (h : Nat) : Bool :=
  let has := fun (t : Nat) => im.secs.any (fun x => decide (x.1 = t))
  let vs := im.templates.map (fun t => t.keyA)
  let tgt := fun (t : Nat) => targetOk im.fast t && (im.fast || vs.contains t)
  decide ((im.sec 1).length = 8 * h) && hanksOk im.layers im.hanks &&
    (match cmdBlocks (im.sec 3).length 0 (im.sec 3) with
     | none => false
     | some bl => bl.all (fun b => tgt (leAt b.2.1 0 2) && decide (leAt b.2.1 2 1 < 63) && decide (leAt b.2.1 3 1 = 0))) &&
    decide ((im.sec 4).length % 8 = 0) && (rowsOf 8 (im.sec 4)).all (fun e => tgt (leAt e 0 2) && decide (leAt e 3 1 = 0)) &&
    decide ((im.sec 5).length % 16 = 0) &&
    (rowsOf 16 (im.sec 5)).all (fun e => tgt (leAt e 0 2) && decide (leAt e 2 1 < 63) && decide (leAt e 3 1 < 8) && decide (leAt e 4 4 < 2 ^ 24) && decide (leAt e 14 2 = 0)) &&
    condOk (im.sec 6) && threshOk (im.sec 7) && decide ((im.sec 8).length % 16 = 0) && templatesOk im.fast im.place im.flow im.templates &&
    decide ((im.sec 9).length % 32 = 0) && (rowsOf 32 (im.sec 9)).all (fun e => regionOk im.fast (im.sec 10).length e && tgt (leAt e 2 2)) &&
    decide (has 10 = (rowsOf 32 (im.sec 9)).any (fun e => decide (leAt e 0 1 = 1))) &&
    (if im.fast then decide ((im.sec 11).length = 32) else !has 11) &&
    decide ((im.sec 12).length % 8 = 0) && (rowsOf 8 (im.sec 12)).all (relocOk im.fast im.secs)

/-- PROGRAM_DIGEST (16 R453): the program sections in image order. -/
def programDigestOf (bs : List Byte) (tab : List SecEnt) : List Byte :=
  sha384 (((imageOrder tab).filter (fun s => [3, 4, 5, 6, 7].contains s.typ)).map (fun s => slice bs s.off s.len)).flatten

/-- A model image read from its bytes, with the offset of its hank bodies (18 R520 to R524, 16 R453), or nothing where its structure is invalid. -/
def parseImage (bs : List Byte) : Option (Image × Nat) :=
  if !headerOk bs then none
  else
    match secTable bs (leAt bs 6 2) with
    | none => none
    | some tab =>
      let order := imageOrder tab
      let im := imageOf bs tab
      match order.getLast? with
      | none => none
      | some last =>
        if distinct (tab.map (fun s => s.typ)) && [1, 2, 3, 5, 6, 7, 8].all (fun t => tab.any (fun s => decide (s.typ = t))) &&
            decide (last.typ = 2) && decide (last.len = 65536 * leAt bs 44 4) && layoutOk bs (128 + 24 * tab.length) (bs.length - 96) order &&
            sectionsOk im (leAt bs 44 4) && decide (programDigestOf bs tab = im.programDigest) then some (im, last.off)
        else none

/-- The public key of a 96-byte x and y, little-endian coordinates (18 R502), as the big-endian bytes the curve functions take. -/
def keyBytes (k : List Byte) : List Byte := (k.take 48).reverse ++ ((k.drop 48).take 48).reverse

/-- A section of a configuration image by type (18 Tables BOOT-5, BOOT-6); empty when absent. -/
def cfgSection (img : List Byte) (t : Nat) : List Byte :=
  match ((List.range (leAt img 21 1)).map (fun i => slice img (256 + 16 * i) 16)).find? (fun e => decide (leAt e 0 1 = t)) with
  | none => []
  | some e => slice img (leAt e 4 4) (leAt e 8 4)

/-- A model key of the RING section when MODEL_KEY_MASK marks it present (18 R504, R522). -/
def modelKey (d : Dev) (k : Nat) : Option (List Byte) :=
  let ring := cfgSection d.boot.image 1
  if (leAt ring 6 1).testBit k then some (slice ring (16 + 96 * k) 96) else none

/-- ECDSA P-384 over the SHA-384 of a message with the last 96 bytes of the image as signature (18 R511, R522). -/
def sigOk (key msg sig : List Byte) : Bool := ecdsaVerify (keyBytes key) (sha384 msg) (keyBytes sig)

/-- The signature of a model image (18 R522). -/
def imageSigned (d : Dev) (bs : List Byte) : Bool :=
  match modelKey d (leAt bs 24 1) with
  | some key => decide (224 ≤ bs.length) && sigOk key (bs.take (bs.length - 96)) (bs.drop (bs.length - 96))
  | none => false

/-! ### Hanks, shards and golden copies (10 R276, R277, R284; 11 R314, R315) -/

/-- Positions of a model (10 R276). -/
def positions (im : Image) : Nat := (im.hanks.length + 1) / 2

/-- The positions of block `t` of `n` (10 R277). -/
def blockOf (p n t : Nat) : List Nat := (List.range ((t + 1) * p / max 1 n - t * p / max 1 n)).map (fun k => t * p / max 1 n + k)

/-- The block of a position. -/
def blockNo (p n pos : Nat) : Nat := (((pos + 1) * n - 1) / max 1 p)

/-- The E hanks of a shard: block `s`, even indices; `w` gives the W hanks of block (N - s) mod N. -/
def shardE (im : Image) (n s : Nat) : List Nat := (blockOf (positions im) n s).map (fun p => 2 * p)
def shardW (im : Image) (n s : Nat) : List Nat :=
  ((blockOf (positions im) n ((n - s) % max 1 n)).map (fun p => 2 * p + 1)).filter (fun i => decide (i < im.hanks.length))

/-- The station upstream: (s - 1) mod N. -/
def upstream (d : Dev) : Nat := (stationNo d + ringSize d - 1) % max 1 (ringSize d)

/-- The copies that a station keeps of an image as (kind, stack, hank indices) (11 Table XMEM-6). -/
def copiesOf (d : Dev) (im : Image) : List (Nat × Nat × List Nat) :=
  if im.ringed then
    let n := ringSize d
    let s := stationNo d
    let u := upstream d
    [(2, 3, shardE im n s), (3, 2, shardW im n s), (4, 1, shardE im n u), (5, 0, shardW im n u)]
  else [(0, 0, List.range im.hanks.length), (1, 3, List.range im.hanks.length)]

/-- BODY_CRC of a hank: header bytes 4 to 15, then the body (10 Table LAP-3). -/
def bodyCrc (gen : Nat) (h : HankDef) (index : Nat) (body : List Byte) : Nat :=
  crc32c (beBytes 4 gen ++ beBytes 2 h.layer ++ beBytes 2 h.hank ++ beBytes 4 index ++ body)

/-- Whether a body is the good body of a hank of an image. -/
def bodyGood (im : Image) (index : Nat) (body : List Byte) : Bool :=
  match im.hanks[index]? with
  | some h => decide (bodyCrc im.gen h index body = h.crc)
  | none => false

/-- Bytes written over granules, 2,048 to each. -/
def writeGranules (stack : Nat) : List Nat → List Byte → Dev → Option Dev
  | [], _, d => some d
  | g :: r, data, d =>
    match extWrite d (granuleAddr stack g) (data.take 2048) with
    | (.error _, _) => none
    | (.ok _, d) => writeGranules stack r (data.drop 2048) d

/-- Bytes read over granules for a requester class; nothing where a read fails. -/
def readGranules (stack cls : Nat) : List Nat → Dev → Option (List Byte) × Dev
  | [], d => (some [], d)
  | g :: r, d =>
    match extRead d (granuleAddr stack g) 2048 cls with
    | (.error _, d) => (none, d)
    | (.ok x, d) =>
      match readGranules stack cls r d with
      | (none, d) => (none, d)
      | (some y, d) => (some (x ++ y), d)

/-- Granules a copy of `n` hanks and the program prefix of `m` bytes take. -/
def hankGranules (n : Nat) : Nat := 32 * n
def prefixGranules (m : Nat) : Nat := (m + 2047) / 2048

/-- Every granule need of an image's copies, by stack: hank copies, then the header and sections on H0 and H3 (18 R526). -/
def granuleNeeds (d : Dev) (im : Image) (pre : Nat) : List (Nat × Nat) :=
  (copiesOf d im).map (fun c => (c.2.1, hankGranules c.2.2.length)) ++ [(0, prefixGranules pre), (3, prefixGranules pre)]

/-- Whether the copies fit the free granules of their image areas (11 R315). -/
def granulesFit (d : Dev) (im : Image) (pre : Nat) : Bool :=
  (List.range 4).all (fun k =>
    decide ((((granuleNeeds d im pre).filter (fun x => decide (x.1 = k))).map (fun x => x.2)).sum ≤ (freeGranules d k).length))

/-- One copy allocated in ascending order and written: the hank indices or, for the program sections, none. -/
def writeCopy (im : Image) (kind stack : Nat) (hanks : List Nat) (data : List Byte) (granules : Nat) (d : Dev) : Option Dev :=
  let gs := (freeGranules d stack).take granules
  if gs.length < granules then none
  else
    (writeGranules stack gs data d).map (fun d => { d with xmem := { d.xmem with copies :=
      d.xmem.copies ++ [{ model := im.id, gen := im.gen, kind := kind, stack := stack, hanks := hanks, granules := gs }] } })

/-- The copy of a kind. -/
def copyAt (d : Dev) (m gen kind : Nat) : Option ImgCopy :=
  d.xmem.copies.find? (fun c => decide (c.model = m) && decide (c.gen = gen) && decide (c.kind = kind))

/-- A hank read from a copy, with its BODY_CRC checked. A damaged copy is not read (11 R325, R326). -/
def copyHank (d : Dev) (im : Image) (kind index cls : Nat) : Option (List Byte) × Dev :=
  match copyAt d im.id im.gen kind with
  | none => (none, d)
  | some c =>
    match (if c.damaged then none else indexIn index c.hanks 0) with
    | none => (none, d)
    | some k =>
      match readGranules c.stack cls (slice32 c.granules k) d with
      | (some b, d) => (if bodyGood im index b then some b else none, d)
      | (none, d) => (none, d)
where
  /-- The granules of the `k`-th hank of a copy. -/
  slice32 (l : List Nat) (k : Nat) : List Nat := (l.drop (32 * k)).take 32

/-- The golden copy of a hank that this station launches: of the own shard, or H0 for a pinned model (11 Table XMEM-6). -/
def goldenHank (d : Dev) (im : Image) (index : Nat) : Option (List Byte) × Dev :=
  copyHank d im (if im.ringed then 2 + index % 2 else 0) index 0

/-- The mirror that this package itself keeps of a hank: H3 for a pinned model, the upstream station's shard for a ringed one. -/
def mirrorHank (d : Dev) (im : Image) (index : Nat) : Option (List Byte) × Dev :=
  copyHank d im (if im.ringed then 4 + index % 2 else 1) index 0

/-- The header and sections of an image as its copy on H0 holds them, or that on H3 where the first is damaged or cannot be read (18 R526; 06 R177): the image whose refills they give. -/
def goldenProgram (d : Dev) (im : Image) (cls : Nat) : Option Image × Dev :=
  let read := fun (d : Dev) (kind : Nat) =>
    match copyAt d im.id im.gen kind with
    | some c => if c.damaged then (none, d) else readGranules c.stack cls c.granules d
    | none => (none, d)
  let (b, d) := match read d 6 with
    | (some b, d) => (some b, d)
    | (none, d) => read d 7
  (b.bind (fun b => (secTable b (leAt b 6 2)).map (fun tab =>
    { im with secs := tab.map (fun s => (s.typ, if s.typ = 2 then [] else slice b s.off s.len)) })), d)

/-- All copies of an image written and read back (11 R315, 18 R526): `bytes` is the image as received, `off` the offset of HANK_BODIES. -/
def storeCopies (im : Image) (bytes : List Byte) (off : Nat) (d : Dev) : Option Dev :=
  let body := fun (i : Nat) => slice bytes (off + 65536 * i) 65536
  let hankCopies := (copiesOf d im).foldl (fun (acc : Option Dev) c =>
    acc.bind (writeCopy im c.1 c.2.1 c.2.2 ((c.2.2.map body).flatten) (hankGranules c.2.2.length))) (some d)
  let all := hankCopies.bind (fun d => (writeCopy im 6 0 [] (bytes.take off) (prefixGranules off) d).bind (writeCopy im 7 3 [] (bytes.take off) (prefixGranules off)))
  all.bind (fun d =>
    (copiesOf d im).foldl (fun (acc : Option Dev) c =>
      c.2.2.foldl (fun (acc : Option Dev) i => acc.bind (fun d => match copyHank d im c.1 i 6 with | (some _, d) => some d | (none, _) => none)) acc) (some d))

/-- The copies of a generation discarded. -/
def dropImgCopies (d : Dev) (m gen : Nat) : Dev :=
  { d with xmem := { d.xmem with copies := d.xmem.copies.filter (fun c => !(decide (c.model = m) && decide (c.gen = gen))) } }

/-! ### Placement (16 R443, R445) -/

/-- The live canonical cores in ascending order (16 R443). -/
def liveCanon (d : Dev) : List Nat := (List.range 256).filter (fun c => (servingSite d c).isSome)

/-- The virtual cores that an image uses: those of its templates, and those that its VADDR relocations name. -/
def usedVcores (im : Image) : List Nat :=
  let named := (rowsOf 8 (im.sec 12)).filterMap (fun e =>
    if leAt e 1 1 = 1 then
      match im.secs[leAt e 0 1]? with
      | some (_, body) =>
        let v := leAt body (leAt e 4 4) 5 / 2 ^ leAt e 2 1 % 2 ^ 24
        some (64 * bits v 23 22 + bits v 21 15)
      | none => none
    else none)
  (List.range 256).filter (fun v => im.templates.any (fun t => decide (t.keyA = v)) || named.contains v)

/-- Windows taken on a host. -/
def windowsOn (vm : SMap (Nat × Nat)) (c : Nat) : List Nat := (vm.filter (fun x => decide (x.2.1 = c))).map (fun x => x.2.2)

/-- The lowest number not in a list. -/
def lowestFree (l : List Nat) : Nat := ((List.range (l.length + 1)).find? (fun k => !l.contains k)).getD 0

/-- Virtual cores placed (16 R443): one already placed stays; each takes the lowest free window of its host. -/
def placeAll (live : List Nat) : List Nat → SMap (Nat × Nat) → SMap (Nat × Nat)
  | [], vm => vm
  | v :: r, vm =>
    match smFind v vm with
    | some _ => placeAll live r vm
    | none =>
      let c := live.getD (v * live.length / 256) 0
      placeAll live r (smPut v (some (c, lowestFree (windowsOn vm c))) vm)

/-- The placement with an image's virtual cores, or nothing where too few cores are live (16 R445). -/
def placement (d : Dev) (im : Image) : Option (SMap (Nat × Nat)) :=
  if im.fast then some d.det.vmap
  else
    let live := liveCanon d
    if decide (live.length < im.place) || live.isEmpty then none else some (placeAll live (usedVcores im) d.det.vmap)

/-! ### What an image installs (18 R521, R523, R527) -/

/-- An item that an image installs on a core, or a span that it owns. -/
inductive Item where
  | skein (num : Nat) (s : Skein) (data : List Byte)
  | pattern (entry instr : Nat)
  | region (kind addr words : Nat) (data : List Byte)
  | input (addr words : Nat)
  | buffer (base len : Nat)
  deriving DecidableEq, Repr

/-- A relocation applied to the bytes of a section for a core and window: nothing where the result is out of range. -/
def relocOne (im : Image) (vm : SMap (Nat × Nat)) (canon k : Nat) (e : List Byte) (body : List Byte) : Option (List Byte) :=
  let kind := leAt e 1 1
  let bit := leAt e 2 1
  let off := leAt e 4 4
  let w := relocWidth kind
  let nb := (bit + w + 7) / 8
  let v := leAt body off nb
  let x := v / 2 ^ bit % 2 ^ w
  let new : Option Nat :=
    match kind with
    | 1 =>
      (match smFind (64 * bits x 23 22 + bits x 21 15) vm with
       | some (c, win) => let word := x % 32768 + win * im.winWords; if word < 32768 then some (sliceBase c + word) else none
       | none => none)
    | 2 => let word := x + k * im.winWords; if word < 32768 then some (sliceBase canon + word) else none
    | 3 => let y := x + k * im.winSkeins; if y ≤ 62 then some y else none
    | _ => let y := x + k * im.winPatterns; if y ≤ 255 then some y else none
  new.map (fun y => body.take off ++ leBytes nb (v - x * 2 ^ bit + y * 2 ^ bit) ++ body.drop (off + nb))

/-- The item of `len` bytes at `start` of a section, relocated for a core and window (18 R523). -/
def relocItem (im : Image) (vm : SMap (Nat × Nat)) (t start len canon k : Nat) : Option (List Byte) :=
  ((rowsOf 8 (im.sec 12)).foldl (fun (acc : Option (List Byte)) e =>
    match im.secs[leAt e 0 1]? with
    | some (t', _) =>
      if decide (t' = t) && decide (start ≤ leAt e 4 4) && decide (leAt e 4 4 < start + len) then acc.bind (relocOne im vm canon k e) else acc
    | none => acc) (some (im.sec t))).map (fun b => slice b start len)

/-- The cores and windows that a TARGET names: (canonical index, window). -/
def homesOf (d : Dev) (im : Image) (vm : SMap (Nat × Nat)) (t : Nat) : List (Nat × Nat) :=
  if im.fast then ((if t = 0xFFFF then im.participants else [t]).filter (fun c => (servingSite d c).isSome)).map (fun c => (c, 0))
  else ((smFind t vm).map (fun x => [x])).getD []

/-- Every element of a list of results, or the first that is missing. -/
def allSome {α : Type} : List (Option α) → Option (List α)
  | [] => some []
  | none :: _ => none
  | some x :: r => (allSome r).map (fun y => x :: y)

/-- Items of a section of `n`-byte entries: for each entry and each home, the relocated entry read by `f`. -/
def itemsOf (d : Dev) (im : Image) (vm : SMap (Nat × Nat)) (t n : Nat) (keep : List Byte → Bool) (target : List Byte → Nat)
    (f : Nat → Nat → List Byte → Option Item) : Option (List (Nat × Item)) :=
  let es := rowsOf n (im.sec t)
  allSome (((List.range es.length).map (fun i =>
    let e := es.getD i []
    if keep e then
      (homesOf d im vm (target e)).map (fun h => ((relocItem im vm t (n * i) n h.1 h.2).bind (f h.1 h.2)).map (fun x => (h.1, x)))
    else [])).flatten)

/-- The input region of an image (13 R372): its first word and its length. -/
def inWordsOf (im : Image) : Nat :=
  let c := im.sec 6
  leAt c 2 2 * leAt c 4 2 * ((Fmt.ofCode (leAt c 0 1)).getD .int8).bits / 512

/-- INPUT_BASE as relocated. -/
def inputBase (im : Image) (vm : SMap (Nat × Nat)) : Option Nat := (relocItem im vm 6 0 22 0 0).map (fun b => leAt b 14 4 % 2 ^ 24)

/-- INPUT_SLOTS. -/
def inputSlots (im : Image) : Nat := leAt (im.sec 6) 18 2

/-- Command blocks of an image on a core, by skein number, as relocated. -/
def blocksOn (d : Dev) (im : Image) (vm : SMap (Nat × Nat)) : Option (List (Nat × Nat × List Byte)) :=
  allSome ((im.blocks.map (fun b => (homesOf d im vm (leAt b.2.1 0 2)).map (fun h =>
    (relocItem im vm 3 b.1 (8 + b.2.2.length) h.1 h.2).map (fun x => (h.1, leAt x 2 1 % 64, x.drop 8))))).flatten)

/-- What an image installs and owns, by canonical index, under a placement: skeins with their command blocks, pattern entries, scratchpad regions, the input
region and external buffers. Nothing where a relocation is out of range. -/
def itemsAll (d : Dev) (im : Image) (vm : SMap (Nat × Nat)) : Option (List (Nat × Item)) :=
  match blocksOn d im vm with
  | none => none
  | some bl =>
    let tgt := fun (e : List Byte) => leAt e 0 2
    let sk := itemsOf d im vm 5 16 (fun _ => true) tgt (fun c _ e =>
      let n := leAt e 2 1 % 64
      let fl := leAt e 3 1
      some (.skein n { defd := true, base := leAt e 4 4 % 2 ^ 24, size := leAt e 8 2, count := leAt e 10 2, tagged := fl.testBit 0, reach := fl.testBit 1, ecc := fl.testBit 2,
                       timeout := leAt e 12 2, owner := im.id } (((bl.filter (fun b => decide (b.1 = c) && decide (b.2.1 = n))).map (fun b => b.2.2)).flatten)))
    let pt := itemsOf d im vm 4 8 (fun _ => true) tgt (fun _ _ e => some (.pattern (leAt e 2 1) (leAt e 4 4)))
    let rg := itemsOf d im vm 9 32 (fun e => decide (leAt e 0 1 ≠ 3)) (fun e => leAt e 2 2) (fun c k e =>
      if leAt e 0 1 = 1 then
        (relocItem im vm 10 (leAt e 24 8) (64 * leAt e 16 8) c k).map (fun b => .region 1 (leAt e 8 8 % 2 ^ 24) (leAt e 16 8) b)
      else some (.region 2 (leAt e 8 8 % 2 ^ 24) (leAt e 16 8) []))
    let ext := ((rowsOf 32 (im.sec 9)).filter (fun e => decide (leAt e 0 1 = 3))).map (fun e => ((0 : Nat), Item.buffer (leAt e 8 8) (leAt e 16 8)))
    let inp := (inputBase im vm).map (fun a => [(a / 32768 % 128 + 64 * (a / 2 ^ 22), Item.input a (inputSlots im * inWordsOf im))])
    match sk, pt, rg, inp with
    | some a, some b, some c, some e => some (a ++ b ++ c ++ e ++ ext)
    | _, _, _, _ => none

/-- Whether a package word address names an exposed canonical index (02 R70). -/
def exposedAddr (d : Dev) (a : Nat) : Bool := decide (bits a 21 15 < 64) && (siteOfCanon d.part (64 * bits a 23 22 + bits a 21 15)).isSome

/-- The limits of Table SKEIN-1 for a skein on a core (07 R182). -/
def skeinOk (d : Dev) (c : Nat) (s : Skein) : Bool :=
  let n := s.size * s.count
  let slices := (List.range ((s.base % 32768 + n + 32767) / 32768)).map (fun k => (s.base / 32768 + k) * 32768)
  decide (1 ≤ s.size) && decide (s.size ≤ 4096) && (!s.tagged || decide (s.count ≤ 8192)) && (if s.tagged then decide (1 ≤ s.timeout) else decide (s.timeout = 0)) &&
    (decide (n = 0) ||
      (decide (s.base / 2 ^ 22 = (s.base + n - 1) / 2 ^ 22) && slices.all (fun a => (match resolve d a with | .hole => false | _ => true) && (s.reach || inNeighbour d c a))))

/-- The spans of scratchpad words that an item owns (06 R166). -/
def Item.span : Item → List (Nat × Nat)
  | .skein _ s _ => [(s.base, s.size * s.count)]
  | .region _ a n _ => [(a, n)]
  | .input a n => [(a, n)]
  | _ => []

/-- Whether two spans overlap; an empty span overlaps nothing. -/
def spanHit (x y : Nat × Nat) : Bool := decide (x.2 ≠ 0) && decide (y.2 ≠ 0) && decide (x.1 < y.1 + y.2) && decide (y.1 < x.1 + x.2)

/-- Whether two items collide (18 R525). -/
def itemHit (x y : Nat × Item) : Bool :=
  (match x.2, y.2 with
   | .skein a _ _, .skein b _ _ => decide (x.1 = y.1) && decide (a = b)
   | .pattern a _, .pattern b _ => decide (x.1 = y.1) && decide (a = b)
   | .buffer a n, .buffer b m => spanHit (a, n) (b, m)
   | _, _ => false) || x.2.span.any (fun s => y.2.span.any (fun t => spanHit s t))

/-- Items that an image places at a core. -/
def itemsAt (its : List (Nat × Item)) (c : Nat) : List Item := (its.filter (fun x => decide (x.1 = c))).map (fun x => x.2)

/-- What items use of a core: words, skeins, pattern entries, tags. -/
def usage (its : List Item) : Nat × Nat × Nat × Nat :=
  its.foldl (fun u it =>
    match it with
    | .skein _ s _ => (u.1 + s.size * s.count, u.2.1 + 1, u.2.2.1, u.2.2.2 + (if s.tagged then s.count else 0))
    | .pattern _ _ => (u.1, u.2.1, u.2.2.1 + 1, u.2.2.2)
    | .region _ _ n _ => (u.1 + n, u.2.1, u.2.2.1, u.2.2.2)
    | .input _ n => (u.1 + n, u.2.1, u.2.2.1, u.2.2.2)
    | .buffer _ _ => u) (0, 0, 0, 0)

/-- The hank skein and the hank store of every slice, as word ranges (07 R198, 10 R283). -/
def hankSkeinBase (d : Dev) : Nat := leAt (cfgSection d.boot.image 4) 0 2
def hankSkeinSlots (d : Dev) : Nat := leAt (cfgSection d.boot.image 4) 2 1
def hstoreBase (d : Dev) : Nat := fld d Reg.LAP_HSTORE 14 0
def hstoreWords (d : Dev) : Nat := fld d Reg.LAP_HSTORE 31 16

/-- The images installed at the station: active, staged, one that a ROLLBACK has installed for its switch, and those left behind whose tasks still run. -/
def installed (d : Dev) : List Image := (d.model.map (fun x => ([x.2.active, x.2.staged, if x.2.pend = 2 then x.2.prev else none].filterMap id ++ x.2.going).eraseDups)).flatten

/-- Items of an installed image under the placement in force. -/
def itemsNow (d : Dev) (im : Image) : List (Nat × Item) := (itemsAll d im d.det.vmap).getD []

/-! ### Capacity (18 R525) -/

/-- Hanks of a ringed image's shard at this station. -/
def shardHanks (d : Dev) (im : Image) : Nat := (shardE im (ringSize d) (stationNo d)).length + (shardW im (ringSize d) (stationNo d)).length

/-- The die of a die-ring position (10 R290): D0 0, D1 1, D3 2, D2 3. -/
def dieAt (t : Nat) : Nat := match t % 4 with | 0 => 0 | 1 => 1 | 2 => 3 | _ => 2

/-- The die-ring position of a die. -/
def dieRing (k : Nat) : Nat := match k with | 0 => 0 | 1 => 1 | 3 => 2 | _ => 3

/-- Hank-store places of a die. -/
def diePlaces (d : Dev) (k : Nat) : Nat := (liveCanon d).countP (fun c => decide (c / 64 = k)) * (hstoreWords d / 1024)

/-- Hanks of a pinned image launched by a die. -/
def dieHanks (im : Image) (k : Nat) : Nat := (shardE im 4 (dieRing k)).length + (shardW im 4 (dieRing k)).length

/-- Whether the hank store holds images (10 R283, R297): pinned blocks on their dies, ringed shards anywhere (a successor takes the place
of its predecessor), and the alignment store. -/
def hstoreHolds (d : Dev) (all : List Image) : Bool :=
  let pinned := fun (k : Nat) => ((all.filter (fun x => !x.ringed)).map (fun x => dieHanks x k)).sum
  let shardOf := fun (m : Nat) => ((all.filter (fun x => x.ringed && decide (x.id = m))).map (shardHanks d)).foldl max 0
  let ringed := ((List.range 17).map shardOf).sum
  let places := ((List.range 4).map (diePlaces d)).sum
  (List.range 4).all (fun k => decide (pinned k ≤ diePlaces d k)) &&
    decide (((List.range 4).map pinned).sum + ringed + fld d Reg.LAP_CFG 25 16 ≤ places)

/-- Whether the hank store holds the station's images with another. -/
def hstoreFits (d : Dev) (im : Image) : Bool := hstoreHolds d (im :: installed d)

/-- Capacity of VERIFYING, with the items of the image under its placement (01 R26, R40; 07 R183; 10 R283; 11 R315; 14 R391; 16 R445; 18 R525). -/
def capacityOk (d : Dev) (im : Image) (vm : SMap (Nat × Nat)) (its : List (Nat × Item)) (pre : Nat) : Bool :=
  let others := installed d
  let pinnedHanks := ((others.filter (fun x => !x.ringed)).map (fun x => x.hanks.length)).sum
  let own := (others.filter (fun x => decide (x.id = im.id))).map (fun x => (itemsAll d x vm).getD [])
  let foreign := (others.filter (fun x => decide (x.id ≠ im.id))).map (fun x => (itemsAll d x vm).getD [])
  let every := own.flatten ++ foreign.flatten
  let hs := [(hankSkeinBase d, 1024 * hankSkeinSlots d), (hstoreBase d, hstoreWords d)]
  let copies := (256 + im.place - 1) / im.place
  (im.ringed || decide (pinnedHanks + im.hanks.length ≤ 6144)) &&
    (!im.ringed || decide (shardHanks d im ≤ 4096)) && hstoreFits d im && granulesFit d im pre && (!im.flow || decide (im.flowClass ≤ fld d Reg.FCS_CFG 3 0)) &&
    its.all (fun x => foreign.flatten.all (fun y => !itemHit x y) && own.flatten.all (fun y => !itemHit x y || decide (x = y))) &&
    its.all (fun x => x.2.span.all (fun s => hs.all (fun h => !spanHit (s.1 % 32768, s.2) h && !spanHit (s.1 % 32768, s.2) (h.1 + 32768, h.2)))) &&
    its.all (fun x => match x.2 with
      | .buffer a n => (List.range 4).all (fun k => !spanHit (a, n) (ctlBase k, imgArea d k)) &&
          (List.range 8).all (fun j => (List.range 7).all (fun k => match regionIn d j (k + 1) with | some r => !spanHit (a, n) r | none => true))
      | _ => true) &&
    -- two items of the image itself that name one skein or entry on a core must be one item
    its.all (fun x => its.all (fun y => match x.2, y.2 with
      | .skein a _ _, .skein b _ _ => decide (x.1 ≠ y.1) || decide (a ≠ b) || decide (x = y)
      | .pattern a _, .pattern b _ => decide (x.1 ≠ y.1) || decide (a ≠ b) || decide (x = y)
      | _, _ => true)) &&
    (List.range 256).all (fun c =>
      let mine := (itemsAt its c).eraseDups
      let u := usage ((itemsAt every c).filter (fun i => !mine.contains i)).eraseDups
      let n := usage mine
      decide (n.2.2.2 + u.2.2.2 + hankSkeinSlots d ≤ 8192) &&
        (im.fast || (decide (copies * im.winWords + u.1 + hstoreWords d + 1024 * hankSkeinSlots d ≤ 32768) && decide (copies * im.winSkeins + u.2.1 ≤ 63) &&
          decide (copies * im.winPatterns + u.2.2.1 ≤ 256) && decide (copies * im.winTags + u.2.2.2 + hankSkeinSlots d ≤ 8192))))

/-! ### The release budget (01 R34 to R36) -/

/-- A non-negative fraction, as numerator and denominator: a time in ns, or a rate in bytes per ns. -/
abbrev Frac := Nat × Nat

/-- Sum, difference, larger and smaller of two fractions, and a fraction times a number. -/
def fracAdd (x y : Frac) : Frac := (x.1 * y.2 + y.1 * x.2, x.2 * y.2)
def fracSub (x y : Frac) : Frac := (x.1 * y.2 - y.1 * x.2, x.2 * y.2)
def fracMax (x y : Frac) : Frac := if x.1 * y.2 ≤ y.1 * x.2 then y else x
def fracMin (x y : Frac) : Frac := if x.1 * y.2 ≤ y.1 * x.2 then x else y
def fracMul (k : Nat) (x : Frac) : Frac := (k * x.1, x.2)

/-- The least number that is not below a fraction. -/
def fracCeil (x : Frac) : Nat := (x.1 + x.2 - 1) / max 1 x.2

/-- Good lanes of a port's direction; a port that is not UP counts as full. -/
def lanesOf (m : Nat) : Nat := if popMask m = 0 then 16 else popMask m

/-- The payload rate of one direction of a link with `g` good lanes and `m` metres of fibre: min(378 GB/s x g / 16, 524,288 bytes / RTT) (09 R260). -/
def linkRate (g m : Nat) : Frac := fracMin (378 * g, 16) (524288, 400 + 10 * m)

/-- The rate of a direction of the link from Port E of a station: this station's own masks for its two links, and for the others what the installation has. -/
def rateAt (d : Dev) (s : Nat) (east : Bool) : Frac :=
  let pw := portAt d 0
  let pe := portAt d 1
  let g :=
    if s = stationNo d then lanesOf (if east then pe.txMask else pe.rxMask)
    else if (s + 1) % max 1 (ringSize d) = stationNo d then lanesOf (if east then pw.rxMask else pw.txMask)
    else 4 + Config.linkLanes s east d.now % 13
  linkRate g (Config.fibreM s)

/-- The narrowest of some rates. -/
def narrowest (l : List Frac) : Frac := l.foldl fracMin (378, 1)

/-- The time in ns for `m` bytes at a rate. -/
def timeAt (m : Nat) (rate : Frac) : Frac := (m * rate.2, max 1 rate.1)

/-- Bytes of the E and W halves of a list of ringed images. -/
def halfBytes (l : List Image) : Nat × Nat :=
  (65536 * (l.map (fun im => (im.hanks.length + 1) / 2)).sum, 65536 * (l.map (fun im => im.hanks.length / 2)).sum)

/-- Hop latency of some stations together in a column of Table MODEL-3 (`true` is the guaranteed corner), each with the longer way through a package that has lost a seam (17 R486). -/
def hopNs (d : Dev) (corner : Bool) (stations : List Nat) : Frac :=
  ((stations.map (fun s =>
    (if corner then 140000 else 120000) +
      (if (if s = stationNo d then decide (seamsLost d ≠ 0) else Config.seamLostAt s d.now) then (if corner then 3693 else 3000) else 0))).sum, 100)

/-- The delay of the fibre of some links, at 5 ns a metre. -/
def fibreNs (links : List Nat) : Frac := (5 * (links.map Config.fibreM).sum, 1)

/-- Pinned hank rate: the die hank ingest of the column, or R_line of a broken die ring, which a ringed model shares (17 R486). -/
def ingestRate (d : Dev) (corner : Bool) : Frac :=
  let full : Frac := (if corner then 1300 else 1600, 1)
  let ringedOn := d.model.any (fun x => x.2.active.any (fun im => im.ringed))
  if decide (seamsLost d = 0) || !ringedOn then full
  else
    let me := stationNo d
    fracSub full (fracAdd (linkRate (lanesOf (portAt d 1).txMask) (Config.fibreM me))
      (linkRate (lanesOf (portAt d 0).txMask) (Config.fibreM ((me + ringSize d - 1) % max 1 (ringSize d)))))

/-- T_lap of Table MODEL-3 in ns for a list of images that share a schedule (01 R34, R28). -/
def lapTime (d : Dev) (corner ringed : Bool) (l : List Image) : Frac :=
  let (e, w) := halfBytes l
  if ringed then
    if d.ring.mode = 2 ∨ d.ring.mode = 3 then
      let live := liveStations d
      let links := live.dropLast
      let b := narrowest (links.map (fun s => rateAt d s true) ++ links.map (fun s => rateAt d s false))
      fracAdd (timeAt (e + w) b) (fracMul 2 (fracAdd (hopNs d corner live) (fibreNs links)))
    else
      let all := List.range (ringSize d)
      fracAdd (fracMax (timeAt e (narrowest (all.map (fun s => rateAt d s true)))) (timeAt w (narrowest (all.map (fun s => rateAt d s false)))))
        (fracAdd (hopNs d corner all) (fibreNs all))
  else timeAt (e + w) (ingestRate d corner)

/-- t_in for a payload, and t_out, in ns (01 Table MODEL-3). -/
def tIn (corner : Bool) (payload : Nat) : Frac := if corner then (74000 + payload, 20) else (75000 + payload, 25)
def tOut (corner : Bool) : Nat := if corner then 1250 else 1000

/-- The images that share an image's schedule when it is active: the others active, and itself. -/
def scheduleWith (d : Dev) (im : Image) : List Image :=
  im :: (d.model.filterMap (fun x => x.2.active)).filter (fun x => decide (x.ringed = im.ringed) && decide (x.id ≠ im.id))

/-- W at the guaranteed corner for the largest payload (01 R35, R36). -/
def boundNs (d : Dev) (im : Image) : Frac :=
  fracAdd (tIn true im.maxPayload) (fracAdd (fracMul 2 (lapTime d true im.ringed (scheduleWith d im))) (tOut true, 1))

/-- Whether an image's release budget is at least W (01 R36). -/
def budgetOk (d : Dev) (im : Image) : Bool := decide (fracCeil (boundNs d im) ≤ im.budget)

/-! ### VERIFYING (13 R386, 18 R524) -/

/-- The hanks that the station keeps, checked against BODY_CRC. -/
def keptGood (d : Dev) (im : Image) (bs : List Byte) (off : Nat) : Bool :=
  (copiesOf d im).all (fun c => c.2.2.all (fun i => bodyGood im i (slice bs (off + 65536 * i) 65536)))

/-- Whether the command words of a block name exposed indices only. A word that no family decodes names nothing (DEDUCED, log entry 118). -/
def blockExposed (d : Dev) (data : List Byte) : Bool := (rowsOf 16 data).all (fun b => (checkWord (leNat b)).isSome || (wordAddrs (leNat b)).all (exposedAddr d))

/-- Indices that an image names must be exposed (02 R70, 18 R524): TARGETs and PARTICIPANTS of a FAST image, skein, region and input addresses as installed, and on grade S the addresses in command words. -/
def exposedOk (d : Dev) (im : Image) (its : List (Nat × Item)) : Bool :=
  let named := im.participants ++ (if im.fast then
    (im.blocks.map (fun b => leAt b.2.1 0 2)) ++ (rowsOf 8 (im.sec 4)).map (fun e => leAt e 0 2) ++ (rowsOf 16 (im.sec 5)).map (fun e => leAt e 0 2) ++
      (rowsOf 32 (im.sec 9)).map (fun e => leAt e 2 2) else [])
  named.all (fun c => decide (c = 0xFFFF) || (siteOfCanon d.part c).isSome) &&
    its.all (fun x => x.2.span.all (fun s => decide (s.2 = 0) || exposedAddr d s.1)) &&
    (!d.part.gradeS || its.all (fun x => match x.2 with | .skein _ _ data => blockExposed d data | _ => true))

/-- Structural checks of items: skein limits, scratchpad regions inside one slice, command blocks inside a skein of the image on that core. -/
def itemsOk (d : Dev) (im : Image) (vm : SMap (Nat × Nat)) (its : List (Nat × Item)) : Bool :=
  its.all (fun x => match x.2 with
    | .skein _ s data => skeinOk d x.1 s && decide (data.length ≤ 64 * (s.size * s.count))
    | .region _ a n _ => decide (a % 32768 + n ≤ 32768)
    | .input a n => decide (n = 0) || decide (a % 32768 + n ≤ 32768)
    | _ => true) &&
  ((blocksOn d im vm).getD []).all (fun b => its.any (fun x => decide (x.1 = b.1) && (match x.2 with | .skein n _ _ => decide (n = b.2.1) | _ => false)))

/-- What VERIFYING finds: the image, the offset of its hank bodies, its placement and its items, or the code of the first check that fails. -/
def verifyImage (d : Dev) (model size : Nat) (bs : List Byte) : Except Nat (Image × Nat × SMap (Nat × Nat) × List (Nat × Item)) :=
  if !imageSigned d bs then .error eLoadSignature
  else
    match parseImage bs with
    | none => .error eLoadImage
    | some (im, off) =>
      let gradeOk := (leAt bs 27 1).testBit (if d.part.gradeS then 1 else 0)
      if decide (im.id ≠ model) || decide (bs.length ≠ size) || !gradeOk || !keptGood d im bs off then .error eLoadImage
      else
        let pl := (placement d im).bind (fun vm => (itemsAll d im vm).map (fun its => (vm, its)))
        let bad := match pl with
          | some (vm, its) => !exposedOk d im its || !itemsOk d im vm its
          | none => false
        if bad then .error eLoadImage
        else if decide (im.gen ≤ (((modelAt d model).active.map (fun x => x.gen)).getD 0)) then .error eLoadGen
        else
          match pl with
          | none => .error eLoadCapacity
          | some (vm, its) =>
            if !capacityOk d im vm its off then .error eLoadCapacity
            else if !budgetOk d im then .error eLoadBudget
            else .ok (im, off, vm, its)

/-! ### Installing (18 R527) and removing (18 R528) -/

/-- Words written from a package word address, in the class given, on whatever slice serves each. -/
def putWords (a : Nat) (weight : Bool) : List (List Byte) → Dev → Dev
  | [], d => d
  | x :: r, d =>
    let d := match resolve d a with
      | .word s w => writeWord d s w x weight
      | _ => d
    putWords (a + 1) weight r d

/-- An item installed on a canonical index. -/
def installItem (d : Dev) (x : Nat × Item) : Dev :=
  match servingSite d x.1 with
  | none => d
  | some i =>
    match x.2 with
    | .skein n s data =>
      let old := skeinAt (coreAt d i) n
      let same := old.defd && decide ({ old with head := 0, tail := 0, tags := 0, prod := none, cons := none, evt := false } = s)
      let d := if same then d else setSkein d i n s
      if same then d else putWords s.base s.ecc (rowsOf 64 data) d
    | .pattern e w => modCore d i (fun c => { c with pats := smSet 0 c.pats e (BitVec.ofNat 32 w) })
    | .region 1 a _ data => putWords a false (rowsOf 64 data) d
    | _ => d

/-- The words of a span that lie in the slice of a canonical index, written again. -/
def refillWords (c a : Nat) (weight : Bool) (rows : List (List Byte)) (d : Dev) : Dev :=
  let lo := max a (sliceBase c)
  putWords lo weight ((rows.drop (lo - a)).take (sliceBase c + 32768 - lo)) d

/-- What the refill of a slice takes from an item (06 R177): the definitions of its core, and every word of the slice that the item gives, whatever core the item belongs to. -/
def refillSlice (c : Nat) (d : Dev) (x : Nat × Item) : Dev :=
  match x.2 with
  | .skein n s data =>
    let d := match servingSite d x.1 with
      | some i => if x.1 = c then setSkein d i n s else d
      | none => d
    refillWords c s.base s.ecc (rowsOf 64 data) d
  | .region 1 a _ data => refillWords c a false (rowsOf 64 data) d
  | _ => if x.1 = c then installItem d x else d

/-- Items installed in order. -/
def installItems (its : List (Nat × Item)) (d : Dev) : Dev := its.foldl installItem d

/-- Words of a span cleared under R165. -/
def clearWords (a : Nat) : Nat → Dev → Dev
  | 0, d => d
  | n + 1, d =>
    let d := match resolve d a with
      | .word s w => writeWord d s w (List.replicate 64 0) false
      | _ => d
    clearWords (a + 1) n d

/-- An item freed: its skein undefined, its pattern entry 0, its words cleared (18 R528). -/
def removeItem (d : Dev) (x : Nat × Item) : Dev :=
  let d := match servingSite d x.1 with
    | none => d
    | some i =>
      match x.2 with
      | .skein n _ _ => setSkein d i n {}
      | .pattern e _ => modCore d i (fun c => { c with pats := smSet 0 c.pats e 0 })
      | _ => d
  x.2.span.foldl (fun d s => clearWords s.1 s.2 d) d

/-- The resources of an image freed, but for the items that another image shares. -/
def uninstall (d : Dev) (im : Image) (keep : List Image) : Dev :=
  let kept := (keep.map (itemsNow d)).flatten
  ((itemsNow d im).filter (fun x => !kept.contains x)).foldl removeItem d

/-- The placement without the virtual cores that no image in a list uses. -/
def prunePlacement (d : Dev) (l : List Image) : Dev :=
  let used := ((l.filter (fun x => !x.fast)).map usedVcores).flatten
  { d with det := { d.det with vmap := d.det.vmap.filter (fun x => used.contains x.1) } }

end Sys2Proof.Machine
end

