-- ==== Sys2Proof/Machine/Requests.lean ====
section
/-! DEFINITION. A request from its completion to its verdict (01 R29 to R38; 13 R363 to R382; 16 R443 to R457): sessions and credits, retention, conditioning, dispatch,
fallbacks, the egress engine's record, release, and the audit log. -/

namespace Sys2Proof.Machine

/-! ### Sessions and credits (13 R359, R363, R364) -/

/-- A counter of RVP_CNT. -/
def rcnt (d : Dev) (k n : Nat) : Dev := cntAdd d (Reg.RVP_CNT_LO k) n

/-- A session by number. -/
def sessAt (d : Dev) (n : Nat) : Option Session := smFind n d.rvp.sess

/-- A session replaced; nothing makes it FREE. -/
def putSess (d : Dev) (n : Nat) (s : Option Session) : Dev := { d with rvp := { d.rvp with sess := smPut n s d.rvp.sess } }

/-- CREDIT_LIMIT of a session: FREED + G modulo 2^32 (13 R364). -/
def Session.limit (s : Session) : Nat := (s.freed + s.grant) % 2 ^ 32

/-- The unreleased requests of a session. -/
def sessReqs (d : Dev) (n : Nat) : List (Nat × Req) := d.rvp.reqs.filter (fun x => decide (x.2.sess = n) && !x.2.released && !x.2.discard)

/-- An RVP frame's bytes (13 Table RVP-1). -/
def rvpBytes (typ sess token : Nat) (body : List Byte) : List Byte :=
  [0x01, byteOf typ] ++ beBytes 2 sess ++ beBytes 4 token ++ beBytes 2 (16 + body.length) ++ List.replicate 6 0 ++ body

/-- A frame sent in a session, to its recorded address (13 R352). -/
def sessSend (d : Dev) (n : Nat) (s : Session) (typ : Nat) (body : List Byte) (verdict : Bool) : Dev :=
  udpSend d s.port s.sp s.mac s.ip (rvpPort d s.port s.sp) s.udp (rvpBytes typ n s.token body) verdict

/-- SESSION_CLOSE with a reason (13 R360). -/
def sendClose (d : Dev) (n : Nat) (s : Session) (reason : Nat) : Dev := sessSend d n s 2 (byteOf reason :: List.replicate 7 0) false

/-- What a session that has become FREE still owned, left without an owner: its loads go on unacknowledged, and the operations it waits for answer nobody (13 R387). -/
def disown (d : Dev) (n : Nat) : Dev :=
  { d with rvp := { d.rvp with loads := d.rvp.loads.map (fun l => l.map (fun l => if l.sess = n then { l with owned := false } else l)),
                               reqOps := d.rvp.reqOps.filter (fun x => decide (x.2.2 ≠ n)) } }

/-- A DRAINING session whose last request has had its verdict released closes with reason DONE (13 Table RVP-5). -/
def drainDone (d : Dev) (n : Nat) : Dev :=
  match sessAt d n with
  | none => d
  | some s => if decide (s.st = 2) && (sessReqs d n).isEmpty then disown (putSess (sendClose d n s 2) n none) n else d

/-- Credits returned to a session (13 R365). -/
def returnCredits (d : Dev) (n cost : Nat) : Dev :=
  match sessAt d n with
  | none => d
  | some s => if cost = 0 then d else putSess d n (some { s with freed := (s.freed + cost) % 2 ^ 32, rise := if s.limit = s.limitSent then d.now else s.rise })

/-- Retention blocks in use on a port. -/
def blocksInUse (d : Dev) (port : Nat) : List Nat := ((d.rvp.reqs.filter (fun x => decide (x.2.port = port))).map (fun x => x.2.blocks)).flatten

/-- Retention blocks of a port that are usable: no byte in a hole (13 R363, Table RVP-15). -/
def usableBlock (d : Dev) (port b : Nat) : Bool := !extHole d (retAddr d port b) 4096

/-- The first `n` free usable blocks of a port. -/
def takeBlocks (d : Dev) (port n : Nat) : Option (List Nat) :=
  let used := blocksInUse d port
  let rec go : Nat → Nat → Nat → Option (List Nat)
    | 0, need, _ => if need = 0 then some [] else none
    | fuel + 1, need, b =>
      if need = 0 then some []
      else if used.contains b || !usableBlock d port b then go fuel need (b + 1)
      else (go fuel (need - 1) (b + 1)).map (fun r => b :: r)
  go (retCount d port) n 0

/-- The cost of a request in credits (13 R363). -/
def costOf (payLen : Nat) : Nat := max 1 ((payLen + 4095) / 4096)

/-- Payload bytes written to retention at an offset (13 R371), a block at a time. -/
def retWrite (port : Nat) (blocks : List Nat) : Nat → Nat → List Byte → Dev → Dev
  | 0, _, _, d => d
  | fuel + 1, off, data, d =>
    if data.isEmpty then d
    else
      let k := 4096 - off % 4096
      let d := match blocks[off / 4096]? with
        | some b => (extWrite d (retAddr d port b + off % 4096) (data.take k)).2
        | none => d
      retWrite port blocks fuel (off + k) (data.drop k) d

/-- The payload read back from retention: nothing where a byte lies in a hole or does not read. -/
def retRead (port : Nat) : List Nat → Nat → Dev → Option (List Byte) × Dev
  | [], _, d => (some [], d)
  | b :: r, len, d =>
    match extRead d (retAddr d port b) (min 4096 len) 6 with
    | (.error _, d) => (none, d)
    | (.ok x, d) =>
      match retRead port r (len - min 4096 len) d with
      | (none, d) => (none, d)
      | (some y, d) => (some (x ++ y), d)

/-! ### Images of requests -/

/-- The image of a model with a generation, wherever the station keeps it. -/
def imageByGen (d : Dev) (m gen : Nat) : Option Image :=
  let x := modelAt d m
  ([x.active, x.prev, x.staged].filterMap id ++ x.going).find? (fun im => decide (im.gen = gen))

/-- The image active for a model, or the one that was last active (16 R452). -/
def auditImage (d : Dev) (m : Nat) : Option Image :=
  let x := modelAt d m
  match x.active with
  | some im => some im
  | none => x.old

/-- A request marked with the image whose digests its audit carries (16 R452). -/
def Req.stamp (r : Req) (im : Option Image) : Req :=
  match im with
  | none => r
  | some im => { r with aud := im.digest ++ im.programDigest, mode := if im.fast then 2 else 1, imageGen := im.gen }

/-! ### The audit log (16 R455 to R457) -/

/-- The audit digest of a request (16 Table DET-4). -/
def auditDigest (r : Req) : List Byte := sha256 (padTo 96 r.aud ++ padTo 32 r.digest ++ [byteOf r.mode] ++ beBytes 8 r.reqId)

/-- An audit record made: it waits in the on-die buffer, or is dropped when the buffer is full; its LOG_SEQ is used either way. -/
def auditPut (d : Dev) (verdict : List Byte) (r : Req) (disp : Nat) : Dev :=
  let body := verdict ++ auditDigest r ++ leBytes 8 d.now ++ leBytes 8 d.det.audSeq ++ leBytes 2 r.sess ++ [byteOf (128 * r.port + r.sp), byteOf (r.group - 1), byteOf disp, 0] ++
    leBytes 2 d.wdn.bootId ++ [0, 0, 0, 0]
  let rec_ := body ++ leBytes 4 (crc32c body)
  let d := { d with det := { d.det with audSeq := d.det.audSeq + 1 } }
  if 4096 ≤ d.det.audBuf.length then evt (satAdd d Reg.DET_AUDIT_DROP 1) Reg.DET_EVT 2
  else { d with det := { d.det with audBuf := d.det.audBuf ++ [rec_] } }

/-- One record of the buffer written to both copies of the log (16 R455); a copy whose place lies in a hole is skipped (11 Table XMEM-10). -/
def auditDrain (d : Dev) : Dev :=
  match d.det.audBuf with
  | [] => d
  | x :: rest =>
    let d := { d with det := { d.det with audBuf := rest } }
    let cap := rdn d Reg.DET_AUDIT_CAP
    let at_ := fun (d : Dev) (j kind : Nat) =>
      match regionIn d j kind with
      | some (b, _) =>
        let a := b + 128 * (leAt x 104 8 % max 1 cap)
        if extHole d a 128 then d else (extWrite d a x).2
      | none => d
    if cap = 0 then d else at_ (at_ d 0 4) 2 5

/-! ### Verdict records and release (13 R380, R381; 16 R450) -/

/-- A verdict record (13 Table RVP-11). -/
def verdictBytes (d : Dev) (r : Req) (late : Bool) (lateNs : Nat) : List Byte :=
  let b := fun (x : Bool) (k : Nat) => if x then 2 ^ k else 0
  let flags := b (r.fb ≠ 0) 0 + b late 1 + b r.ctxReset 2 + b r.retried 3 + b r.truncated 4 + b r.shortMeta 5 + b r.raised 6 + b (r.payLen = 0) 7 + b (r.mode = 2) 8
  beBytes 8 r.reqId ++ [byteOf r.model, byteOf r.action, byteOf (if r.fb ≠ 0 then 0 else r.cls), byteOf (if r.fb ≠ 0 then 0xFF else r.rule)] ++ beBytes 2 flags ++ [byteOf r.fb, 0] ++
    beBytes 8 r.arrival ++ beBytes 4 (if r.fb ≠ 0 then 0 else r.score) ++ beBytes 4 r.lap ++ beBytes 4 r.phase ++ beBytes 4 lateNs ++ beBytes 4 r.imageGen ++
    [byteOf (stationNo d), byteOf (fld d Reg.LAP_STATION 30 24), 0, 0] ++ (auditDigest r).take 16

/-- A request that waits for nothing any more forgotten, with its twin keys: released, and no task of it left. -/
def forget (d : Dev) (h : Nat) : Dev :=
  match reqAt d h with
  | some r => if r.released && r.tasks.isEmpty then
      { d with rvp := { d.rvp with reqs := smPut h none d.rvp.reqs },
               det := { d.det with send := d.det.send.filter (fun e => !(decide (e.req = r.reqId) && decide (e.model = r.model))) } }
    else d
  | none => d

/-- The retention, credits, claim and flow of a request given back at its release or discard (01 R33; 13 R365; 14 R398, R411). -/
def settleReq (d : Dev) (h : Nat) (r : Req) : Dev :=
  let d := if r.discard then d else returnCredits d r.sess r.cost
  let d := endClaim d h
  let d := match r.entry with
    | some e => if r.flowEnd then flowEnd d e else d
    | none => d
  modReq d h (fun r => { r with released := true, blocks := [] })

/-- Whether the session of a request is still there to receive its verdict. -/
def reqSession (d : Dev) (r : Req) : Option Session := if r.discard then none else sessAt d r.sess

/-- The end of a request: its record, its counters, and what it held given back. Nothing is sent yet. -/
def finishReq (d : Dev) (h : Nat) : List Byte × Dev :=
  match reqAt d h with
  | none => ([], d)
  | some r =>
    let v := verdictBytes d r r.late (if r.late then min (d.now - r.release) 0xffffffff else 0)
    let d := rcnt d 2 1
    let d := if r.fb ≠ 0 then rcnt d 3 1 else d
    let d := if r.late then evt (cntInc (rcnt d 4 1) (Reg.DET_MODEL_LATE_LO (r.model - 1))) Reg.DET_EVT 1 else d
    (v, settleReq d h r)

/-- Insertion by release instant, then by order of acceptance (13 R381). -/
def insertRel (d : Dev) (h : Nat) : List Nat → List Nat
  | [] => [h]
  | x :: r =>
    let key := fun (h : Nat) => match reqAt d h with | some q => (q.release, h) | none => (0, h)
    if (key h).1 < (key x).1 ∨ ((key h).1 = (key x).1 ∧ h ≤ x) then h :: x :: r else x :: insertRel d h r

/-- The records of a session sent in frames of up to 64 (13 R381), each with the CREDIT_LIMIT of its hand-over, and audited. -/
def sendVerdicts (n : Nat) : Nat → List (List Byte × Req) → Dev → Dev
  | 0, _, d => d
  | fuel + 1, recs, d =>
    if recs.isEmpty then d
    else
      let batch := recs.take 64
      match sessAt d n with
      | none => d
      | some s =>
        let down := !(spAt d s.port s.sp).up
        let noKey := macsecOn d s.port s.sp && (txSa (spAt d s.port s.sp)).isNone
        let disp := if down then 3 else if noKey then 4 else 1
        let d := sessSend d n s 6 (beBytes 4 s.limit ++ beBytes 2 batch.length ++ [0, 0] ++ (batch.map (fun x => x.1)).flatten) true
        let d := putSess d n (some { s with limitSent := s.limit })
        let d := batch.foldl (fun d x => auditPut d x.1 x.2 disp) d
        sendVerdicts n fuel (recs.drop 64) d

/-- Held requests released together: one batch of frames for each session; those of a session that is gone are discarded (13 R360, R381). -/
def releaseAll (hs : List Nat) (d : Dev) : Dev :=
  let hs := (hs.foldl (fun l h => insertRel d h l) [])
  let recs := hs.filterMap (fun h => (reqAt d h).map (fun r => (h, r)))
  let (vs, d) := hs.foldl (fun (acc : List (List Byte) × Dev) h => let (v, d) := finishReq acc.2 h; (acc.1 ++ [v], d)) ([], d)
  let all := (recs.zip vs).map (fun x => (x.2, x.1.2))
  let gone := all.filter (fun x => (reqSession d x.2).isNone)
  let d := gone.foldl (fun d x => auditPut d x.1 x.2 2) d
  let there := all.filter (fun x => (reqSession d x.2).isSome)
  let sess := ((there.map (fun x => x.2.sess)).eraseDups)
  let d := sess.foldl (fun d n => sendVerdicts n (there.length + 1) (there.filter (fun x => decide (x.2.sess = n))) d) d
  let d := sess.foldl drainDone d
  hs.foldl forget d

/-- A record that became ready at a time: it waits for the first beat at or after its instant, or, when it was not ready by its instant, is released at once with LATE (01 R31; 13 R377; 16 R449). -/
def readyReq (d : Dev) (h at_ : Nat) : Dev :=
  match reqAt d h with
  | none => d
  | some r => if r.release < at_ then releaseAll [h] (modReq d h (fun r => { r with late := true })) else d

/-- Whether egress engines ignore beats: HALTED or SLEEP (15 R437). -/
def beatsIgnored (d : Dev) : Bool := decide (d.code = 11) || decide (d.code = 12)

/-- Held verdicts whose release instant has come. -/
def dueReqs (d : Dev) : List Nat := (d.rvp.reqs.filter (fun x => decide (x.2.st = .held) && !x.2.released && decide (x.2.release ≤ d.now))).map (fun x => x.1)

/-- A beat that passes in a debug halt: the verdicts it would have released will carry LATE on resume (01 corner cases of R43; 16 Table DET-3). -/
def missBeat (d : Dev) : Dev := if d.code = stHalted then (dueReqs d).foldl (fun d h => modReq d h (fun r => { r with late := true })) d else d

/-- The verdicts whose beats fell in a debug halt, released when it ends (01 corner cases of R43). -/
def resumeReleases (d : Dev) : Dev := releaseAll ((dueReqs d).filter (fun h => (reqAt d h).any (fun r => r.late))) d

/-- RELEASE_BEAT (15 R437): every held verdict whose instant has come is released. -/
def devReleaseBeat (d : Dev) : Dev :=
  if !d.tim.beat then d
  else
    let d := { d with tim := { d.tim with beat := false } }
    if beatsIgnored d then missBeat d else releaseAll (dueReqs d) d

/-! ### Fallbacks (13 R376, R377) -/

/-- A fallback decided at a time for a request that has none yet and whose EMIT has not been accepted: the reason of Table RVP-10, the request's action or that of the session it came in, and the image of 16 R452. -/
def fallReqAt (d : Dev) (h reason at_ : Nat) : Dev :=
  match reqAt d h with
  | none => d
  | some r =>
    if decide (r.st = .held) || r.released then d
    else
      let act := if r.fallback ≠ 0 then r.fallback else r.sessFb
      let r := if r.joined then r else r.stamp (auditImage d r.model)
      readyReq (modReq d h (fun _ => { r with st := .held, fb := reason, action := act, cls := 0, score := 0, rule := 0xFF })) h at_

/-- A fallback decided now. -/
def fallReq (d : Dev) (h reason : Nat) : Dev := fallReqAt d h reason d.now

/-- Every request of a list falls back. -/
def fallAll (d : Dev) (reason : Nat) (hs : List Nat) : Dev := hs.foldl (fun d h => fallReq d h reason) d

/-- Whether a model is removed, or will be at its effect point. -/
def leaving (x : ModelSt) : Bool := decide (x.pend = 3) || (x.active.isNone && decide (x.pend = 0))

/-- A task of a removed model that would have to move past the effect point: its request's fallback, with reason REMOVED, is decided at once (10 R298). -/
def removedSweep (d : Dev) : Dev :=
  (usedSites d).foldl (fun d i => (List.range 8).foldl (fun d n =>
    let c := coreAt d i
    let t := taskAt c n
    if decide (t.st ≠ .empty) && leaving (modelAt d (dModel t.desc)) && !mayMove d t && t.hmatch.any (fun mt => hankGone c (dModel t.desc) mt.layer mt.hank t.lap) then
      fallReq d t.req 6
    else d) d) d

/-- Requests of a model that wait to be dispatched. -/
def waitingReqs (d : Dev) (m : Nat) : List (Nat × Req) :=
  d.rvp.reqs.filter (fun x => decide (x.2.model = m) && !x.2.released && (decide (x.2.st = .queued) || decide (x.2.st = .ready)))

/-- Whether the station has no ringed lap to serve requests with: its ring is split (10 R302), or it is the one station left of a line (01 R41; 10 Table LAP-7). -/
def noRingLap (d : Dev) : Bool := decide (d.ring.mode = 3) || (decide (d.ring.mode = 2) && decide (d.ring.nLive ≤ 1))

/-- Without a ringed lap every request of a ringed model that has not been dispatched falls back with reason RING (10 R302, 01 R41). -/
def splitSweep (d : Dev) : Dev :=
  if !noRingLap d then d
  else
    let ms := (d.model.filter (fun x => (x.2.active).any (fun im => im.ringed))).map (fun x => x.1)
    ms.foldl (fun d m => fallAll d 4 ((waitingReqs d m).map (fun x => x.1))) d

/-! ### Lap starts and deadlines (01 R30, R38; 04 R126) -/

/-- The lap period of a model's schedule as the ingress engine reckons it. -/
def lapFigure (d : Dev) (im : Image) : Frac := lapTime d Config.cornerFigures im.ringed (scheduleWith d im)

/-- The first whole ns by which a lap ends that begins at the first lap start of a model at this station after a time, reckoned from the last start; nothing before the first. -/
def nextLapEnd (d : Dev) (m : Nat) (t : Frac) (im : Image) : Option Nat :=
  match (modelAt d m).starts with
  | [] => none
  | (_, s) :: _ =>
    let (a, b) := lapFigure d im
    let k := if t.1 < s * t.2 then 0 else (t.1 - s * t.2) * b / max 1 (t.2 * a) + 1
    some (s + fracCeil ((k + 1) * a, b))

/-- Whether a deadline falls before a lap start plus T_lap plus t_out (01 R38). Before the first lap start of the model that this station has seen, no next lap start is known and the spec gives none: the
request then waits until its deadline itself has passed (DESIGN CHOICE, log entry 105). -/
def misses (d : Dev) (r : Req) (im : Image) (t : Nat) : Bool :=
  match nextLapEnd d r.model (t, 1) im with
  | none => decide (r.deadline < d.now)
  | some e => decide (r.deadline < e + tOut Config.cornerFigures)

/-- R38 for a request that waits: its fallback when even the next lap start is too late. A retried EXACT request that has found no hosts falls back with ABORT (17 R479). -/
def tooLate (d : Dev) (h : Nat) (im : Image) : Dev :=
  match reqAt d h with
  | none => d
  | some r => if misses d r im d.now then fallReq d h (if r.retried && !im.fast then 2 else 3) else d

/-- QUEUED_FALLBACK at a lap start of a model (01 R38). -/
def queuedFallback (d : Dev) (m : Nat) : Dev :=
  match (modelAt d m).active with
  | none => d
  | some im => (waitingReqs d m).foldl (fun d x => tooLate d x.1 im) d

/-- A lap of a model starts at this station (01 R30, 04 R102): tasks in WAITING_LAP join it, their requests take its image, number and phase, and queued requests are judged. -/
def lapBegin (d : Dev) (m lap : Nat) (im : Image) : Dev :=
  let joins := (d.rvp.reqs.filter (fun x => decide (x.2.model = m) && x.2.tasks.any (fun t =>
    decide ((taskAt (coreAt d t.2.1) t.2.2).st = .waitingLap) && decide ((taskAt (coreAt d t.2.1) t.2.2).req = x.1)))).map (fun x => x.1)
  let x := modelAt d m
  let d := setModel d m { x with starts := ((lap, d.now) :: x.starts).take 4 }
  let d := joins.foldl (fun d h => modReq d h (fun r => { r.stamp (some im) with joined := true, lap := lap % 2 ^ 32, phase := d.now - r.arrival })) d
  queuedFallback (lapStart d m lap) m

/-! ### Completion of a request (13 R371) -/

/-- A request complete in retention: arrival, digest, deadline and release instant fixed, and queued; a model that cannot serve it gives it its fallback. -/
def completeReq (d : Dev) (h time : Nat) (payload : List Byte) : Dev :=
  match reqAt d h with
  | none => d
  | some r =>
    let dl0 := time + 1000 * (if r.deadlineUs = 0 then r.defDl else r.deadlineUs)
    let rel := time + r.budget
    let raised := decide (dl0 < rel)
    let dig := sha256 (padTo 16 r.flowKey ++ beBytes 2 r.metaLen ++ beBytes 4 r.payLen ++ payload)
    let d := if raised then rcnt d 5 1 else d
    let d := if r.payLen = 0 then rcnt d 6 1 else d
    let d := modReq d h (fun r => { r with st := .queued, arrival := time, deadline := max dl0 rel, release := rel, raised := raised, digest := dig, order := d.rvp.nextOrder })
    let d := { d with rvp := { d.rvp with nextOrder := d.rvp.nextOrder + 1 } }
    let x := modelAt d r.model
    match x.active with
    | none => fallReq d h 6
    | some im =>
      if r.gone then fallReq d h 6
      else if x.exactFail then fallReq d h 2
      else if im.ringed && noRingLap d then fallReq d h 4
      else d

/-! ### Conditioning (13 R372 to R375) -/

/-- Input slots of a model in use for an image generation: a slot is free again when every task of its request's group has left ENDING or ABORTING and the request will not be dispatched again (13 R373). -/
def slotsUsed (d : Dev) (m gen : Nat) : List Nat :=
  (d.rvp.reqs.filter (fun x => decide (x.2.model = m) && decide (x.2.slotGen = gen) && !(decide (x.2.st = .held) && x.2.tasks.isEmpty))).filterMap (fun x => x.2.slot)

/-- The value of a metadata field, and its bytes (13 Table RVP-9). -/
def fieldSize : Nat → Nat
  | 0 => 1 | 1 => 2 | 2 => 4 | 3 => 8 | 4 => 1 | 5 => 2 | 6 => 4 | 7 => 8 | _ => 4
def fieldVal (ty : Nat) (bs : List Byte) : Val :=
  let n := beNat bs
  if ty ≤ 3 then Val.ofInt n else if ty ≤ 7 then (if n < 2 ^ (8 * bs.length - 1) then Val.ofInt n else Val.ofInt ((n : Int) - (2 ^ (8 * bs.length) : Nat)))
  else decodeFmt .fp32 n

/-- A field of the payload, or 0 with SHORT_META when it passes META_LEN. -/
def metaField (pay : List Byte) (metaLen : Nat) (e : List Byte) : Val × Bool :=
  let off := leAt e 0 2
  let ty := leAt e 2 1
  if off + fieldSize ty ≤ metaLen then (fieldVal ty (slice pay off (fieldSize ty)), false) else (.zero false, true)

/-- The elements of the data rows (13 R374). -/
def dataElems (f : Fmt) (mode rows elems row0 nrows stride : Nat) (pad : Int) (data : List Byte) : List Nat :=
  let len := data.length
  let z := encodeFmt f (.zero false)
  let arr := data.toArray
  (List.range (rows * elems)).map (fun k =>
    let row := k / elems
    let col := k % elems
    if decide (mode = 1) && decide (row0 ≤ row) && decide (row < row0 + nrows) then
      let n := (row - row0) * stride + col
      encodeFmt f (Val.ofInt (if n < len then ((arr.getD n 0).toNat : Int) - 128 else pad))
    else if decide (mode = 2) && decide (row = row0) && decide (col < 256) then
      if len = 0 then z else encodeRatio f (data.countP (fun b => decide (b.toNat = col))) len
    else z)
where
  /-- A count over a length, rounded once to the format (05 R135). -/
  encodeRatio (f : Fmt) (n m : Nat) : Nat := if n = 0 then encodeFmt f (.zero false) else if f.isInt then encodeInt f.bits (rneDiv n m) else roundFp f false n m

/-- INPUT_CONDITIONING (13 R374): the packed input, and whether TRUNCATED and SHORT_META are set. -/
def conditionInput (im : Image) (pay : List Byte) (metaLen : Nat) : List Byte × Bool × Bool :=
  let c := im.sec 6
  let f := (Fmt.ofCode (leAt c 0 1)).getD .int8
  let mode := leAt c 1 1
  let rows := leAt c 2 2
  let elems := leAt c 4 2
  let nrows := leAt c 8 2
  let stride := leAt c 10 2
  let pad := signExtend 8 (leAt c 12 1)
  let data := pay.drop metaLen
  let base := dataElems f mode rows elems (leAt c 6 2) nrows stride pad data
  let fields := rowsOf 16 (c.drop 22)
  let (els, short) := fields.foldl (fun (acc : List Nat × Bool) e =>
    let (x, s) := metaField pay metaLen e
    let v := (x.mul (decodeFmt .fp32 (leAt e 8 4))).add (decodeFmt .fp32 (leAt e 12 4))
    (setAt acc.1 (leAt e 4 2 * elems + leAt e 6 2) (encodeFmt f v), acc.2 || s)) (base, false)
  let trunc := decide (0 < data.length) && (decide (mode = 0) || (decide (mode = 1) && (decide (nrows = 0) || decide ((nrows - 1) * stride + elems < data.length))))
  (packElems f els, trunc, short)

/-- The first queued request of a model in arrival order. -/
def headQueued (d : Dev) (m : Nat) : Option (Nat × Req) :=
  (d.rvp.reqs.filter (fun x => decide (x.2.model = m) && decide (x.2.st = .queued) && !x.2.released)).foldl (fun b x =>
    match b with | none => some x | some y => if x.2.order < y.2.order then some x else some y) none

/-- FLOW_RESOLUTION (14 R395) for a request of a flow model: it joins the claim queue of its entry, or must wait. -/
def resolveReq (d : Dev) (h : Nat) (r : Req) (im : Image) : Option Dev × Dev :=
  if !r.flow || r.entry.isSome then (some d, d)
  else
    match resolveFlow d r.model r.flowKey im.flowClass with
    | .use d e => (some (joinClaim d h e), d)
    | .wait d => (none, d)

/-- Conditioning of a request into an input slot from retention. -/
def conditionReq (d : Dev) (h : Nat) (r : Req) (im : Image) (slot : Nat) : Dev :=
  match retRead r.port r.blocks r.payLen d with
  | (none, d) => fallReq d h 5
  | (some pay, d) =>
    let (bs, trunc, short) := conditionInput im pay r.metaLen
    let words := inWordsOf im
    let base := (inputBase im d.det.vmap).getD 0 + slot * words
    let d := putWords base false (rowsOf 64 bs) d
    modReq d h (fun r => { r with st := .ready, slot := some slot, slotGen := im.gen, inBase := base % 2 ^ 24, inWords := words, truncated := trunc, shortMeta := short })

/-- CONDITIONING_START (13 R373): the first queued request of a model resolves its flow, takes the lowest free input slot and is conditioned; with no free slot it waits
and is counted once; a request without payload takes no slot (13 R375). -/
def devConditioningStart (m : Fin 16) (d : Dev) : Dev :=
  let id := m.val + 1
  match headQueued d id, (modelAt d id).active with
  | some (h, r), some im =>
    if misses d r im d.now then tooLate d h im
    else
      match resolveReq d h r im with
      | (none, d) => d
      | (some d, _) =>
        if r.payLen = 0 then modReq d h (fun r => { r with st := .ready, inBase := 0, inWords := 0, slotGen := im.gen })
        else
          match (if r.slotGen = im.gen then r.slot else none) with
          | some k => conditionReq d h r im k
          | none =>
            let used := slotsUsed d id im.gen
            match (List.range (inputSlots im)).find? (fun k => !used.contains k) with
            | some k => conditionReq d h r im k
            | none => if r.waited then d else rcnt (modReq d h (fun r => { r with waited := true })) 16 1
  | _, _ => d

/-! ### Dispatch (04 R99, R100; 16 R443, R446, R447) -/

/-- The lowest EMPTY slots of a core, leaving out some. -/
def emptySlots (c : Core) (taken : List Nat) : List Nat := (List.range 8).filter (fun n => decide ((taskAt c n).st = .empty) && !taken.contains n)

/-- Whether a canonical index is served by a LIVE site that is not left out (17 R475, R479). -/
def eligible (d : Dev) (excl : List Nat) (c : Nat) : Option Nat :=
  match servingSite d c with
  | some i => if decide ((siteInfo d i).st = .live) && !excl.contains i then some i else none
  | none => none

/-- The template of a key. -/
def templateIndex (im : Image) (a b : Nat) : Option Nat := (List.range im.templates.length).find? (fun k =>
  match im.templates[k]? with | some t => decide (t.keyA = a) && decide (t.keyB = b) | none => false)

/-- Virtual cores of an EXACT image in ascending order: rank r is the r-th. -/
def vcores (im : Image) : List Nat := (List.range 256).filter (fun v => im.templates.any (fun t => decide (t.keyA = v)))

/-- The group of a dispatch: rank, canonical index, window, template index. -/
structure Member where
  rank : Nat
  canon : Nat
  win : Nat
  tmpl : Nat
  site : Nat
  slot : Nat
  deriving DecidableEq, Repr

/-- Slots for members given as (rank, canon, window, template, site), each the lowest empty one not taken by an earlier member; nothing where one finds none. -/
def seat (d : Dev) : List (Nat × Nat × Nat × Nat × Nat) → List Member → Option (List Member)
  | [], acc => some acc
  | (rank, c, w, t, i) :: r, acc =>
    match (emptySlots (coreAt d i) ((acc.filter (fun m => decide (m.site = i))).map (fun m => m.slot))).head? with
    | none => none
    | some n => seat d r (acc ++ [{ rank := rank, canon := c, win := w, tmpl := t, site := i, slot := n }])

/-- The group of an EXACT request: every virtual core on its host (16 R443), also in a second dispatch, where the spec asks only for LIVE hosts (17 R479; DEDUCED, log entry 37). -/
def exactGroup (d : Dev) (im : Image) : Option (List Member) :=
  let vs := vcores im
  (allSome ((List.range vs.length).map (fun k =>
    let v := vs.getD k 0
    match smFind v d.det.vmap, templateIndex im v 0 with
    | some (c, w), some t => (eligible d [] c).map (fun i => (k, c, w, t, i))
    | _, _ => none))).bind (fun l => seat d l [])

/-- G of a FAST dispatch (16 R446, R465): the override or G_MAX, against the eligible cores. -/
def fastTarget (d : Dev) (im : Image) : Nat :=
  let g := rd d (Reg.DET_MODEL_FAST_G (im.id - 1))
  if g.getLsbD 15 then bits g.toNat 8 0 else im.place

/-- The group of a FAST request (16 R446): ranks on eligible cores with a free slot, in ascending canonical index from the core after the last rank 0; a second dispatch
leaves out every core that aborted (04 R126). -/
def fastGroup (d : Dev) (r : Req) (im : Image) : Option (List Member) :=
  let elig := im.participants.filter (fun c => (eligible d r.aborted c).isSome)
  let g := min (fastTarget d im) elig.length
  let from_ := (modelAt d im.id).lastRank0
  let order := elig.filter (fun c => decide (from_ ≤ c)) ++ elig.filter (fun c => decide (c < from_))
  let room := order.filter (fun c => match eligible d r.aborted c with | some i => !(emptySlots (coreAt d i) []).isEmpty | none => false)
  if decide (g = 0) || decide (room.length < g) then none
  else
    (allSome ((List.range g).map (fun k =>
      let c := room.getD k 0
      match eligible d r.aborted c, templateIndex im k (g - 1) with
      | some i, some t => some (k, c, 0, t, i)
      | _, _ => none))).bind (fun l => seat d l [])

/-- A task descriptor (04 Table CORE-2) for a member of a group. -/
def descFor (d : Dev) (h : Nat) (r : Req) (im : Image) (g : Nat) (m : Member) : List Byte :=
  let t := (relocItem im d.det.vmap 8 (16 * m.tmpl) 16 m.canon m.win).getD (slice (im.sec 8) (16 * m.tmpl) 16)
  let ctx := (leAt t 1 1).testBit 2
  let body := [byteOf im.id, byteOf (leAt t 1 1), byteOf (leAt t 2 1), byteOf (if im.fast then 0 else leAt t 0 1)] ++ leBytes 4 (leAt t 4 4) ++ leBytes 8 r.reqId ++
    leBytes 8 r.arrival ++ leBytes 8 r.deadline ++ leBytes 4 r.inBase ++ leBytes 4 r.inWords ++ leBytes 2 (if ctx then r.entry.getD 0 else 0) ++
    [byteOf (if ctx then im.flowClass else 0), 0] ++ leBytes 2 g ++ leBytes 2 m.rank ++ leBytes 4 (h % 65536 + 65536 * r.port) ++ slice t 8 8
  body ++ leBytes 4 (crc32c body)

/-- The check of a descriptor as it is placed (04 R100). -/
def descFails (d : Dev) (i : Nat) (ds : List Byte) : Bool :=
  let s := skeinAt (coreAt d i) (dSkein ds)
  let fast := ((modelAt d (dModel ds)).active).any (fun im => im.fast)
  !descCrcOk ds || descReserved ds fast || ((modelAt d (dModel ds)).active).isNone || s.tagged || decide (s.count = 0) || decide (s.cmdLen ≤ dStart ds) ||
    decide (dGroupSize ds ≤ dRank ds)

/-- A task placed in a slot: WAITING_LAP, or marked for abort with DESC. -/
def placeTask (d : Dev) (h : Nat) (m : Member) (ds : List Byte) : Dev :=
  let again := (reqAt d h).any (fun r => r.retried)
  if descFails d m.site ds then setTask d m.site m.slot { st := .aborting, desc := ds, req := h, again := again, fault := some (cDesc, dStart ds) }
  else setTask d m.site m.slot { st := .waitingLap, desc := ds, req := h, again := again }

/-- Requests of a model that wait for its next lap start: the cohort so far (01 R37). -/
def cohortNow (d : Dev) (m : Nat) : Nat :=
  (d.rvp.reqs.filter (fun x => decide (x.2.model = m) && decide (x.2.st = .dispatched) && x.2.tasks.any (fun t => decide ((taskAt (coreAt d t.2.1) t.2.2).st = .waitingLap)))).length

/-- The request of a model that is next to be dispatched: the oldest that waits, when it has been conditioned and no task of an earlier dispatch is left. -/
def headReady (d : Dev) (m : Nat) : Option (Nat × Req) :=
  match (waitingReqs d m).foldl (fun (b : Option (Nat × Req)) x => match b with | none => some x | some y => if x.2.order < y.2.order then some x else some y) none with
  | some x => if decide (x.2.st = .ready) && x.2.tasks.isEmpty then some x else none
  | none => none

/-- TASK_DISPATCH (04 R99, R100; 16 R446, R447): the next request of a model placed as a whole group, within its cohort limit and free slots (01 R37). -/
def devTaskDispatch (m : Fin 16) (d : Dev) : Dev :=
  let id := m.val + 1
  match headReady d id, (modelAt d id).active with
  | some (h, r), some im =>
    if misses d r im d.now then tooLate d h im
    else if im.cohort ≤ cohortNow d id then d
    else
      match (if im.fast then fastGroup d r im else exactGroup d im) with
      | none => d
      | some ms =>
        let g := ms.length
        let descs := ms.map (fun x => (x, descFor d h r im g x))
        let d := descs.foldl (fun d x => placeTask d h x.1 x.2) d
        let d := modReq d h (fun r => { r with st := .dispatched, group := g, tasks := ms.map (fun x => (x.rank, x.site, x.slot)) })
        if im.fast then
          let x := modelAt d id
          let d := setModel d id { x with lastRank0 := (ms.head?.map (fun y => y.canon + 1)).getD x.lastRank0 }
          let d := setFld d (Reg.DET_MODEL_FAST_G (id - 1)) 24 16 g
          if g = fastTarget d im then d
          else evt (cntInc (cntInc d Reg.DET_CHOICE_LO) (Reg.DET_MODEL_CHOICE_LO (id - 1))) Reg.DET_EVT 0
        else d
  | _, _ => d

/-! ### The egress engine (13 R378 to R380) -/

/-- The order of logits and thresholds: +0 and -0 compare equal, and a NaN is below nothing (13 R379). -/
def logitLt : Val → Val → Bool
  | .zero _, .zero _ => false
  | a, b => a.lt b

/-- The order of FP32 encodings for thresholds: false for a NaN. -/
def geF32 (x y : Nat) : Bool :=
  match decodeFmt .fp32 x, decodeFmt .fp32 y with
  | .nan, _ => false
  | _, .nan => false
  | a, b => !logitLt a b
def ltF32 (x y : Nat) : Bool :=
  match decodeFmt .fp32 x, decodeFmt .fp32 y with
  | .nan, _ => false
  | _, .nan => false
  | a, b => logitLt a b

/-- CLASS: the index of the largest of the first logits; ties to the lower, NaN passed over, 0 when all are NaN (13 R378). -/
def classOf (l : List Val) : Nat :=
  ((List.range l.length).foldl (fun (b : Option (Nat × Val)) k =>
    match l.getD k .nan with
    | .nan => b
    | v => match b with
      | none => some (k, v)
      | some (j, w) => if logitLt w v then some (k, v) else some (j, w)) none).map (fun x => x.1) |>.getD 0

/-- The threshold row that a class and score match (13 R379): the action and the row's index, or the default and 0xFE. -/
def thresholdOf (im : Image) (cls score : Nat) : Nat × Nat :=
  let rows := rowsOf 8 ((im.sec 7).drop 8)
  match (List.range rows.length).find? (fun k =>
    let e := rows.getD k []
    (decide (leAt e 0 1 = 0xFF) || decide (leAt e 0 1 = cls)) && (if leAt e 1 1 = 0 then geF32 score (leAt e 4 4) else ltF32 score (leAt e 4 4))) with
  | some k => (leAt (rows.getD k []) 2 1, k)
  | none => (im.defAction, 0xFE)

/-- EGRESS_RECORD: the logits of an accepted EMIT turned into the request's record (13 R378 to R380). -/
def egressTake (d : Dev) (h : Nat) (f : Fmt) (data : List Byte) : Dev :=
  match reqAt d h with
  | none => d
  | some r =>
    if r.st ≠ .dispatched then d
    else
      let d := modReq d h (fun r => { r with emitted := true })
      match imageByGen d r.model r.imageGen with
      | none => fallReq d h 7
      | some im =>
        if data.length * 8 / f.bits < im.nLogits then fallReq d h 7
        else
          let vals := valuesOf f data im.nLogits
          let score := encodeFmt .fp32 (vals.getD im.scoreIdx .nan)
          let cls := classOf (vals.take im.nClass)
          let (act, rule) := thresholdOf im cls score
          readyReq (modReq d h (fun r => { r with st := .held, cls := cls, score := score, action := act, rule := rule })) h d.now

end Sys2Proof.Machine
end

