-- ==== Sys2Proof/Machine/Link.lean ====
section
/-! DEFINITION. The Serby ring link (09): lanes and training, flits, acknowledgement and replay, lane loss and narrowing, and port down. -/

namespace Sys2Proof.Machine

/-- A counter of a port (09 Table LINK-10, LNK_x_CNT_k). -/
def lcnt (d : Dev) (p k : Nat) : Dev := cntInc d (Reg.LNK_CNT_LO p k)

/-- PROTO_ERR increased, with its event and at most one class C entry per 1 ms (09 R254). -/
def protoErr (d : Dev) (p typ : Nat) : Dev :=
  let d := evt (lcnt d p 9) (Reg.LNK_EVT p) 0
  let due := match (portAt d p).protoAt with | some t => decide (t + 1000000 ≤ d.now) | none => true
  if due then elog 1 4 0x0402 (256 * p + 0x1F) typ (modPort d p (fun x => { x with protoAt := some d.now })) else d

/-- A lane at a physical position. -/
def laneAt (x : Port) (k : Nat) : Lane := x.lanes.getD k {}

/-- A lane changed. -/
def modLane (d : Dev) (p k : Nat) (f : Lane → Lane) : Dev := modPort d p (fun x => { x with lanes := modAt x.lanes k f })

/-- The lanes that this receiver holds locked, TS-aligned, identified and within the deskew (09 R242 to R245): RX_MASK as training sets report it. -/
def Port.held (x : Port) : Nat :=
  maskOf ((x.lanes.filter (fun l => l.lock && decide (4 ≤ l.ts) && !l.excluded && !l.retired && decide (l.skew ≤ 2048))).filterMap (fun l => l.logical))

/-- LNK_x_RX_MASK: the partner's transmit mask once taken, the lanes held before (09 Table LINK-10). -/
def Port.rxMaskShown (x : Port) : Nat := if x.rxMask ≠ 0 then x.rxMask else if x.st = 1 ∨ x.st = 2 then x.held else 0

/-- A new mask on a direction: the events of a narrowing below 16 lanes and of lane 16 entering (09 Table LINK-10). The first mask of a training is held against the 16 data lanes
(DEDUCED, log entry 114). -/
def maskEvents (d : Dev) (p old new : Nat) : Dev :=
  let d := if popMask new < 16 ∧ (old = 0 ∨ popMask new < popMask old) then evt d (Reg.LNK_EVT p) 4 else d
  if new.testBit 16 && !old.testBit 16 then evt d (Reg.LNK_EVT p) 3 else d

/-! ### Port down (09 R266, R267) -/

/-- The receive and replay state that DOWN discards (09 R266 step 2), and what waits to be sent. -/
def Port.forget (x : Port) : Port :=
  { x with rxLocked := false, peerLocked := false, rxMask := 0, rxUp := false, oldest := 0, replay := [], replayAt := none, replays := 0, expected := 0, accepted := false,
           nakSent := false, nakDue := false, reqDue := false, reqOpen := false, reqId := 0, reqMask := 0, served := 0, widthDue := none, discarding := false, qualify := false, bar := [], ident := [], msg := [],
           twin := [], hankQ := [], ctl := [], rx := [], parts := [], hanks := [] }

/-- A port goes DOWN (09 R266): DOWN flits due 8 times, the state discarded, the event and its class U entry, the twin comparison over it
suspended (16 R464), and the warden's loopback in a formed ring. -/
def linkDownAs (detail : Nat) (d : Dev) (p reason peer : Nat) : Dev :=
  let x := portAt d p
  if x.st = 0 ∨ x.st = 4 then d
  else
    let d := setPort d p { x.forget with st := 4, reason := reason, peerCode := peer, downDue := if x.sending = 4 then 8 else 0, sending := if x.sending = 4 then 4 else 2 }
    let d := { d with ring := { d.ring with nbr := modAt d.ring.nbr p (fun n => { n with ok := false, peerOk := false }) } }
    let d := evt d (Reg.LNK_EVT p) 5
    let d := elog 3 4 0x0404 (256 * p + 0x1F) detail d
    let d := if decide (fld d Reg.DET_TWIN_STATUS 31 24 ≠ 0xFF) && decide (p = fld d Reg.DET_TWIN_STATUS 23 23) then twinSuspend d else d
    splitSweep (foldPort d p reason)

/-- A port goes DOWN by a decision of its own: the entry's DETAIL is the reason (17 R494). -/
def linkDown (d : Dev) (p reason peer : Nat) : Dev := linkDownAs reason d p reason peer

/-! ### Lanes (09 R241, R243) -/

/-- A port that a lane event can reach: its receiver is powered in every state but OFF. -/
def portLit (d : Dev) (p : Nat) : Bool := decide ((portAt d p).st ≠ 0)

/-- CODEWORD_LOCK (R241): 8 consecutive decodable codewords at a position. A retired lane stays retired. -/
def devCodewordLock (p : Fin 2) (k : Fin 17) (d : Dev) : Dev :=
  if portLit d p then modLane d p k (fun l => { l with signal := true, lock := true }) else d

/-- The receiver's request for a new mask (R261): REQ_ID one greater, and its sending due. -/
def requestMask (d : Dev) (p mask : Nat) (discard : Bool) : Dev :=
  modPort d p (fun x => { x with reqId := (x.reqId + 1) % 256, reqMask := mask, reqDue := true, reqOpen := true, discarding := x.discarding || discard })

/-- A lane retired by the receiver (R243, R261, R265): the entry and event; in flit mode a request for the mask without every retired lane, or DOWN with
WIDTH when fewer than 4 usable lanes are left; the spare is qualified if it is free (R263). -/
def retireLane (d : Dev) (p k why : Nat) : Dev :=
  let l := laneAt (portAt d p) k
  if l.retired then d
  else
    let lane := l.logical.getD 0x1F
    let d := modLane d p k (fun l => { l with retired := true })
    let d := evt d (Reg.LNK_EVT p) 2
    let d := elog 3 4 0x0403 (256 * p + lane) why d
    let x := portAt d p
    let inUse := x.rxMask.testBit lane || (x.reqOpen && x.reqMask.testBit lane)
    let d :=
      if x.st ≠ 4 && x.rxMask ≠ 0 && inUse then
        let mask := maskOf ((List.range 17).filter (fun l => x.rxMask.testBit l && !x.rxRetired.testBit l))
        if popMask mask < 4 then linkDown d p 1 0
        else
          let d := requestMask d p mask (x.rxMask.testBit lane)
          let spare := (portAt d p).lanes.any (fun l => decide (l.logical = some 16) && l.lock && !l.retired) && !mask.testBit 16
          modPort d p (fun x => { x with qualify := spare })
      else modPort d p (fun x => { x with rxLocked := x.rxLocked && decide (x.rxMask ≠ 0), qualify := x.qualify && decide (lane ≠ 16) })
    restate d

/-- LOSS_OF_LOCK (R241, R243): signal lost, or 3 consecutive uncorrectable codewords; the lane is retired. -/
def devLossOfLock (p : Fin 2) (k : Fin 17) (signal : Bool) (d : Dev) : Dev :=
  let l := laneAt (portAt d p) k
  if !portLit d p then d
  else if !l.lock then modLane d p k (fun l => { l with signal := signal })
  else
    let d := match l.logical with | some n => satAdd d (Reg.LNK_LANE_LOL p n) 1 | none => d
    let d := modLane d p k (fun l => { l with signal := signal, lock := false, ts := if 4 ≤ l.ts then l.ts else 0 })
    retireLane d p k 1

/-- LANE_DEGRADE_CHECK (R243): the corrected symbols and uncorrectable codewords of each lane in a period of 100 ms; a lane over LANE_DEGRADE in 3 consecutive periods is retired. -/
def devLaneDegradeCheck (p : Fin 2) (corr uncorr : List Nat) (d : Dev) : Dev :=
  if !portLit d p then d
  else
    (List.range 17).foldl (fun d k =>
      let l := laneAt (portAt d p) k
      match l.logical with
      | none => d
      | some n =>
        let c := corr.getD n 0
        let d := satAdd (satAdd d (Reg.LNK_LANE_CORR p n) c) (Reg.LNK_LANE_UNCORR p n) (uncorr.getD n 0)
        let run_ := if fld d (Reg.LNK_CFG p) 7 0 * 1024 < c then l.degraded + 1 else 0
        let d := modLane d p k (fun l => { l with degraded := run_ })
        if 3 ≤ run_ then retireLane d p k 2 else d) d

/-- LASER_BIAS_FAULT (R239): a class C entry; the lane keeps sending. -/
def devLaserBiasFault (p : Fin 2) (n : Fin 17) (d : Dev) : Dev :=
  if portLit d p then elog 1 4 0x0405 (256 * p.val + n.val) 0 d else d

/-- SIGNAL_LOSS (Table LINK-9): loss of signal on every lane for 1 µs takes an UP port DOWN, and its receive state is discarded; in a port that trains every locked lane loses lock and is retired (R243), and
training goes on to TRAIN_FAIL (R267, corner cases). -/
def devSignalLoss (p : Fin 2) (d : Dev) : Dev :=
  let x := portAt d p
  if x.st = 1 ∨ x.st = 2 then (List.finRange 17).foldl (fun d k => devLossOfLock p k false d) d
  else
    let d := modPort d p (fun x => { x with lanes := x.lanes.map (fun l => { l with signal := false, lock := false }) })
    if x.st = 3 then linkDown d p 4 0 else d

/-! ### Training (09 R244 to R247) -/

/-- Training from step 1 (R246): nothing is kept of a previous run. -/
def startTraining (d : Dev) (p attempt : Nat) : Dev :=
  modPort d p (fun x => { x.forget with st := 1, attempt := attempt, sending := 0, txMask := 0, txRetired := 0, startTx := 0, startRx := 0, downDue := 0,
                                        lanes := x.lanes.map (fun l => { signal := l.signal }) })

/-- RETRAIN (R267): training from step 1, only when the port is DOWN or OFF. In SLEEP the lasers stay off (03 Table SPEED-5). -/
def retrain (d : Dev) (p : Nat) : Dev :=
  if d.code ≠ stSleep ∧ ((portAt d p).st = 0 ∨ (portAt d p).st = 4) then restate (startTraining d p 1) else d

/-- TRAINING_START (R246 step 1): lasers on every lane, sending PRBS13Q. -/
def devTrainingStart (p : Fin 2) (d : Dev) : Dev :=
  let x := portAt d p
  if x.st = 1 then setPort d p { x with sending := 1 } else d

/-- TS_TRAIN_START (R246 step 2): TS_TRAIN on all lanes from LBC 0. -/
def devTsTrainStart (p : Fin 2) (d : Dev) : Dev :=
  let x := portAt d p
  if x.st = 1 ∧ x.sending = 1 then setPort d p { x with st := 2, sending := 2 } else d

/-- The transmit mask at training (R247): lanes 0 to 15 that the partner holds, with lane 16 when fewer than 16 and it holds lane 16. -/
def trainMask (peer : Nat) : Nat :=
  let data := (List.range 16).filter (fun l => peer.testBit l)
  if data.length < 16 && peer.testBit 16 then maskOf data + 2 ^ 16 else maskOf data

/-- Step 5 of R246: TX_MASK under R247, and START_LBC, the first multiple of 64 at least 2,048 above the LBC of the first TS_START sent; that LBC, a multiple of 32, is a
free value (log entry 3): the model has no lane clock in training. -/
def sendTsStart (d : Dev) (p peer : Nat) : Dev :=
  let m := trainMask peer
  if popMask m < 4 then d
  else
    let (v, d) := draw d
    let lbc := 32 * (v % 2 ^ 27)
    let start := (lbc + 2048 + 63) / 64 * 64 % 2 ^ 32
    modPort d p (fun x => { x with txMask := m, startTx := start, sending := 3, epoch := start, number := 0 })

/-- The port is UP when both directions are (R246 step 7): the receiver has taken a good flit and the transmit mask is committed (log entry 33). -/
def checkUp (d : Dev) (p : Nat) : Dev :=
  let x := portAt d p
  if x.st = 2 ∧ x.rxUp = true ∧ x.txMask ≠ 0 then
    let d := setPort d p { x with st := 3 }
    restate (maskEvents (maskEvents d p 0 x.txMask) p 0 x.rxMask)
  else d

/-- A training set accepted on a lane (R244, R245): alignment, identity and skew. A position whose LANE is reserved, or claimed by another position too, is excluded. -/
def acceptTs (d : Dev) (p k : Nat) (ts : List Byte) (skew : Nat) : Dev :=
  let lane := beAt ts 3 1
  let lbc := beAt ts 4 4
  let before := (portAt d p).held
  let l := laneAt (portAt d p) k
  let n := if l.ts ≠ 0 ∧ l.nextLbc ≠ lbc ∧ l.ts < 4 then 1 else min 4 (l.ts + 1)
  let d := modLane d p k (fun l => { l with ts := n, nextLbc := (lbc + 32) % 2 ^ 32, logical := if lane ≤ 16 then some lane else none, skew := skew })
  let clash := (List.range 17).filter (fun j => decide (j ≠ k) && decide (lane ≤ 16) && decide ((laneAt (portAt d p) j).logical = some lane))
  let bad := (if 16 < lane ∨ clash ≠ [] then [k] else []) ++ clash
  let d := bad.foldl (fun d j =>
    if (laneAt (portAt d p) j).excluded then d
    else elog 1 4 0x0401 (256 * p + 0x1F) lane (modLane d p j (fun l => { l with excluded := true }))) d
  let d := if (portAt d p).st = 3 ∧ 2048 < skew then retireLane d p k 1 else d
  let x := portAt d p
  if x.rxMask = 0 ∧ x.held ≠ before then setPort d p { x with rxLocked := false } else d

/-- What the partner's side of a training set says (R246 step 5): on RX_LOCKED, which the partner may clear and set again, the transmit mask is committed. -/
def peerFlags (d : Dev) (p : Nat) (ts : List Byte) : Dev :=
  let x := portAt d p
  let locked := (beAt ts 11 1).testBit 0
  let d := setPort d p { x with peerLocked := locked }
  if x.st = 2 ∧ locked = true ∧ x.peerLocked = false ∧ 2 ≤ x.sending then sendTsStart d p (beAt ts 8 3 % 2 ^ 17) else d

/-- Whether a training set may count at a position: SYNC and TS_CRC (R244), on a locked lane of a port that trains, runs or is DOWN. -/
def tsGood (d : Dev) (p k : Nat) (ts : List Byte) : Bool :=
  decide (2 ≤ (portAt d p).st) && (laneAt (portAt d p) k).lock && decide (ts.length = 32) && decide (beAt ts 0 2 = 0x5E5B) && decide (beAt ts 28 4 = crc32c (ts.take 28))

/-- A training set that is not accepted ends a run towards alignment. -/
def tsMiss (d : Dev) (p k : Nat) : Dev := modLane d p k (fun l => { l with ts := if 4 ≤ l.ts then l.ts else 0 })

/-- A training set of any kind at a position: a reserved KIND is a protocol error and does not count. -/
def anyTs (d : Dev) (p k : Nat) (ts : List Byte) (skew : Nat) : Dev :=
  if !tsGood d p k ts then tsMiss d p k
  else if beAt ts 2 1 ≠ 1 ∧ beAt ts 2 1 ≠ 2 then tsMiss (protoErr d p (beAt ts 2 1)) p k
  else peerFlags (acceptTs d p k ts skew) p ts

/-- TS_TRAIN (R244): 32 bytes at a position, with the skew of its arrival in lane bytes. -/
def devTsTrain (p : Fin 2) (k : Fin 17) (ts : List Byte) (skew : Nat) (d : Dev) : Dev := anyTs d p k ts skew

/-- TS_START (R246, R247): beside what every training set does, TX_MASK becomes the receive mask when every lane of it is held and RX_LOCKED is set; else it is ignored. -/
def devTsStart (p : Fin 2) (k : Fin 17) (ts : List Byte) (skew : Nat) (d : Dev) : Dev :=
  let good := tsGood d p k ts && decide (beAt ts 2 1 = 2)
  let d := anyTs d p k ts skew
  let x := portAt d p
  let m := beAt ts 16 4 % 2 ^ 17
  if good && decide (x.st = 2) && x.rxLocked && decide (x.rxMask = 0) && decide (4 ≤ popMask m) && (List.range 17).all (fun l => !m.testBit l || x.held.testBit l) then
    setPort d p { x with rxMask := m, startRx := beAt ts 12 4 }
  else d

/-- RX_LOCKED (R246 step 4): RX_MASK unchanged for 1 ms with at least 4 lanes. -/
def devRxLocked (p : Fin 2) (d : Dev) : Dev :=
  let x := portAt d p
  if x.st = 2 ∧ 4 ≤ popMask x.held then setPort d p { x with rxLocked := true } else d

/-- TRAINING_TIMEOUT (R246): steps 3 to 6 not complete within 80 ms; training restarts, or after 3 attempts the port goes DOWN with TRAIN_FAIL. -/
def devTrainingTimeout (p : Fin 2) (d : Dev) : Dev :=
  let x := portAt d p
  if x.st ≠ 2 then d
  else if x.attempt < 3 then startTraining d p (x.attempt + 1)
  else linkDown d p 7 0

/-! ### Flits (09 R250 to R255) -/

/-- The training set that a transmitter sends on a lane at an LBC (Table LINK-3). -/
def tsSent (x : Port) (lane lbc : Nat) : List Byte :=
  let start := decide (x.sending = 3)
  let b := [0x5E, 0x5B, byteOf (if start then 2 else 1), byteOf lane] ++ beBytes 4 lbc ++ beBytes 3 x.held ++ [byteOf (if x.rxLocked then 1 else 0)] ++
    beBytes 4 (if start then x.startTx else 0) ++ beBytes 4 (if start then x.txMask else 0) ++ List.replicate 8 0
  b ++ beBytes 4 (crc32c b)

/-- The lane and row of byte `i` of an epoch's flit stream under a mask (R248). -/
def striped (mask i : Nat) : Nat × Nat :=
  let ls := (List.range 17).filter (fun l => mask.testBit l)
  (ls.getD (i % max 1 ls.length) 0, i / max 1 ls.length)

/-- The LBC at which the epoch after `n` flits on `g` lanes starts (R249): the first row whose LBC is a multiple of 64 after the last flit's row. -/
def nextEpoch (e g n : Nat) : Nat := (e + ((272 * n + g - 1) / max 1 g + 63) / 64 * 64) % 2 ^ 32

/-- The bytes of a flit (Table LINK-5): header, payload, and a trailer with the current ACK_SEQ. -/
def flitBytes (x : Port) (typ model seq : Nat) (info data : List Byte) : List Byte :=
  let b := [byteOf typ, byteOf model] ++ beBytes 2 seq ++ padTo 4 info ++ padTo 256 data ++
    beBytes 2 ((x.expected + 65535) % 65536) ++ [if x.accepted then 0x80 else 0, 0]
  b ++ beBytes 4 (crc32c b)

/-- A flit put in the slot: its place in the epoch follows R248. -/
def putFlit (d : Dev) (p typ model seq : Nat) (info data : List Byte) : Dev :=
  let x := portAt d p
  let d := lcnt d p 0
  setPort d p { x with number := x.number + 1, idleGap := if typ = 0 then 0 else x.idleGap + 1,
                       out := x.out ++ [{ epoch := x.epoch, mask := x.txMask, number := x.number, bytes := flitBytes x typ model seq info data }] }

/-- MASK and REQ_ID as INFO carries them (Table LINK-6). -/
def maskInfo (mask id : Nat) : List Byte := beBytes 3 mask ++ [byteOf id]

/-- The next new sequenced flit, in the order BARRIER, IDENT, RING_MSG, TWIN, HANK (R255 step 4), and the port without it. A port that is not closed carries IDENT only (10 R271),
and a joined link no TWIN and no HANK (10 R303). -/
def nextNew (closed hanks : Bool) (x : Port) : Option (Flit × Port) :=
  match (if closed then x.bar else []) with
  | b :: r => some (⟨0x11, 0, [], b⟩, { x with bar := r })
  | [] =>
    match x.ident with
    | b :: r => some (⟨0x14, 0, [], b⟩, { x with ident := r })
    | [] =>
      match (if closed then x.msg else []) with
      | b :: r => some (⟨0x12, 0, [], b⟩, { x with msg := r })
      | [] =>
        match (if hanks then x.twin else []) with
        | b :: r => some (⟨0x13, 0, [], b⟩, { x with twin := r })
        | [] =>
          match (if hanks then x.hankQ else []) with
          | (h :: hs) :: r => some (⟨0x10, h.model, byteOf h.part :: h.hmeta, h.data⟩, { x with hankQ := if hs.isEmpty then r else hs :: r })
          | [] :: r => some (⟨0x00, 0, [], []⟩, { x with hankQ := r })
          | [] => none

/-- The SEQ after the last sent. -/
def Port.nextSeq (x : Port) : Nat := (x.oldest + x.replay.length) % 65536

/-- FLIT_TRANSMIT (R255): the first item available in a flit slot. -/
def devFlitTransmit (p : Fin 2) (d : Dev) : Dev :=
  let x := portAt d p
  if x.st = 4 then
    if x.downDue = 0 then setPort d p { x with sending := 2 }
    else if 1023 ≤ x.idleGap then putFlit d p 0 0 0 [] []
    else putFlit (setPort d p { x with downDue := x.downDue - 1, sending := if x.downDue = 1 then 2 else x.sending }) p 4 0 0 [byteOf x.reason] []
  else if x.sending < 3 ∨ x.txMask = 0 then d
  else
    let closed := portClosed d p
    let hanks := closed && !(if p.val = 0 then d.ring.loopW else d.ring.loopE)
    let waits := (nextNew closed hanks x).isSome && (x.replayAt.isSome || decide (2048 ≤ x.replay.length))
    let d := if waits then lcnt d p 10 else d
    let d := setPort d p { x with sending := 4 }
    let x := portAt d p
    if 1023 ≤ x.idleGap then putFlit d p 0 0 0 [] []
    else
      match x.widthDue with
      | some (m, id) => putFlit (setPort d p { x with widthDue := none }) p 3 0 0 (maskInfo m id) []
      | none =>
        if x.reqDue then putFlit (setPort d p { x with reqDue := false }) p 2 0 x.expected (maskInfo x.reqMask x.reqId) []
        else if x.nakDue then putFlit (lcnt (setPort d p { x with nakDue := false }) p 6) p 1 0 x.expected [] []
        else
          match x.replayAt with
          | some i =>
            (match x.replay[i]? with
             | some f =>
               let x := { x with replayAt := if i + 1 < x.replay.length then some (i + 1) else none }
               putFlit (lcnt (setPort d p x) p 8) p f.typ f.model ((x.oldest + i) % 65536) f.info f.data
             | none => putFlit (setPort d p { x with replayAt := none }) p 0 0 0 [] [])
          | none =>
            if 2048 ≤ x.replay.length then putFlit d p 0 0 0 [] []
            else
              match nextNew closed hanks x with
              | some (f, y) =>
                if f.typ = 0 then putFlit (setPort d p y) p 0 0 0 [] []
                else
                  let seq := x.nextSeq
                  putFlit (setPort d p { y with replay := y.replay ++ [f] }) p f.typ f.model seq f.info f.data
              | none => putFlit d p 0 0 0 [] []

/-! ### Acknowledgement and replay (09 R256 to R259) -/

/-- The flits before index `n` of the replay buffer acknowledged; an advance resets the replay count (R259). -/
def ackFirst (x : Port) (n : Nat) : Port :=
  if n = 0 then x
  else { x with oldest := (x.oldest + n) % 65536, replay := x.replay.drop n, replays := 0,
                replayAt := (match x.replayAt with | some i => if x.replay.length ≤ n then none else some (i - n) | none => none) }

/-- An ACK_SEQ taken (R256): outside the range from the oldest unacknowledged to the last sent it is ignored and counted. -/
def takeAck (d : Dev) (p a : Nat) : Dev :=
  let x := portAt d p
  let k := (a + 65536 - x.oldest) % 65536
  if k < x.replay.length then setPort d p (ackFirst x (k + 1)) else lcnt d p 5

/-- A replay from the oldest flit (R259): counted for it; at REPLAY_LIMIT the port goes DOWN. -/
def startReplay (d : Dev) (p : Nat) : Dev :=
  let x := portAt d p
  if x.replay = [] then d
  else
    let d := evt d (Reg.LNK_EVT p) 1
    let n := x.replays + 1
    let d := setPort d p { x with replayAt := some 0, replays := n }
    if fld d (Reg.LNK_CFG p) 15 8 ≤ n then linkDown d p 3 0 else d

/-- A NAK_SEQ acted on (R258). -/
def takeNak (d : Dev) (p s : Nat) : Dev :=
  let x := portAt d p
  let k := (s + 65536 - x.oldest) % 65536
  if k < x.replay.length then startReplay (setPort d p (ackFirst x k)) p
  else if s = x.nextSeq then setPort d p (ackFirst x x.replay.length)
  else lcnt d p 5

/-- The first CRC failure or gap after x was last accepted makes a NAK due (R258). -/
def wantNak (d : Dev) (p : Nat) : Dev :=
  let x := portAt d p
  if x.nakSent then d else setPort d p { x with nakSent := true, nakDue := true }

/-! ### Receiving (09 R254, R257) -/

/-- Whether a flit uses a reserved TYPE, field or value (R254 step 2; Tables LINK-5, LINK-6, LINK-7). The layouts of tokens, messages and IDENT payloads are checked where they are acted on (10). -/
def flitReserved (x : Port) (f : List Byte) : Bool :=
  let typ := beAt f 0 1
  let model := beAt f 1 1
  let data := slice f 8 256
  let zero := fun (bs : List Byte) => bs.all (fun b => decide (b = 0))
  let trailer := decide (beAt f 266 1 % 128 ≠ 0) || decide (beAt f 267 1 ≠ 0)
  let mask := beAt f 4 3
  trailer ||
  (if typ = 0x10 then decide (model = 0) || decide (16 < model)
   else decide (model ≠ 0) ||
     (if typ = 0 then decide (beAt f 2 6 ≠ 0) || !zero data
      else if typ = 1 then decide (beAt f 4 4 ≠ 0) || !zero data
      else if typ = 2 then decide (2 ^ 17 ≤ mask) || !zero data || decide (popMask mask < 4) || (List.range 17).any (fun l => mask.testBit l && x.txRetired.testBit l)
      else if typ = 3 then decide (beAt f 2 2 ≠ 0) || decide (2 ^ 17 ≤ mask) || !zero data
      else if typ = 4 then decide (beAt f 2 2 ≠ 0) || decide (beAt f 4 1 = 0) || decide (7 < beAt f 4 1) || decide (beAt f 5 3 ≠ 0) || !zero data
      else if typ = 0x11 ∨ typ = 0x12 ∨ typ = 0x14 then decide (beAt f 4 4 ≠ 0)
      else if typ = 0x13 then
        decide (beAt f 4 4 ≠ 0) || decide (11 < beAt data 0 2) || !zero (slice data 2 6) || !zero (slice data 250 6) ||
          (List.range 11).any (fun e => decide (beAt data (8 + 22 * e + 13) 1 ≠ 0) || (decide (beAt data 0 2 ≤ e) && !zero (slice data (8 + 22 * e) 22)))
      else true))

/-- A flit accepted in sequence (R257) is delivered: tokens, IDENT, messages and TWIN to the ring agent, a HANK part to the hank that is arriving. -/
def deliverFlit (x : Port) (f : List Byte) : Port :=
  let typ := beAt f 0 1
  let x := { x with expected := (x.expected + 1) % 65536, accepted := true, nakSent := false, nakDue := false }
  if typ = 0x10 then
    let part : HankPart := { part := beAt f 4 1, model := beAt f 1 1, hmeta := slice f 5 3, data := slice f 8 256 }
    if part.part = 255 then { x with parts := [], hanks := x.hanks ++ [x.parts ++ [part]] } else { x with parts := x.parts ++ [part] }
  else { x with rx := x.rx ++ [(typ, slice f 8 256)] }

/-- The window check (R257). -/
def windowCheck (d : Dev) (p : Nat) (f : List Byte) : Dev :=
  let x := portAt d p
  let k := (beAt f 2 2 + 65536 - x.expected) % 65536
  if k = 0 then setPort d p (deliverFlit x f)
  else if k < 2048 then wantNak (lcnt d p 3) p
  else lcnt d p 4

/-- FLIT_RECEIVE (R254): 272 bytes taken from the lanes of the receive mask. While the receiver discards under R261, only a WIDTH with its current REQ_ID and mask
is taken. The trailer of every flit with a good CRC is used. A port that is DOWN has no receive state, and takes a DOWN flit only (R266, corner cases). -/
def devFlitReceive (p : Fin 2) (f : List Byte) (d : Dev) : Dev :=
  let x := portAt d p
  let good := decide (f.length = 272) && decide (beAt f 268 4 = crc32c (f.take 268))
  if x.st = 4 then
    if good && decide (beAt f 0 1 = 4) && !flitReserved x f then modPort d p (fun x => { x with ctl := x.ctl ++ [(4, beAt f 2 2, slice f 4 4)] }) else d
  else if (x.st ≠ 2 ∧ x.st ≠ 3) ∨ x.rxMask = 0 then d
  else
    let mine := good && decide (beAt f 0 1 = 3) && decide (beAt f 4 3 = x.reqMask) && decide (beAt f 7 1 = x.reqId)
    if x.discarding && !mine then lcnt d p 12
    else
      let d := lcnt d p 1
      if !good then wantNak (lcnt d p 2) p
      else
        let d := checkUp (modPort d p (fun x => { x with rxUp := true })) p
        let d := if (beAt f 266 1).testBit 7 then takeAck d p (beAt f 264 2) else d
        if flitReserved (portAt d p) f then protoErr d p (beAt f 0 1)
        else if beAt f 0 1 < 0x10 then modPort d p (fun x => { x with ctl := x.ctl ++ [(beAt f 0 1, beAt f 2 2, slice f 4 4)] })
        else windowCheck d p f

/-- The received link-local flit at the front, when it is of a type. -/
def takeCtl (d : Dev) (p typ : Nat) : Option (Nat × List Byte × Dev) :=
  match (portAt d p).ctl with
  | (t, s, i) :: r => if t = typ then some (s, i, modPort d p (fun x => { x with ctl := r })) else none
  | [] => none

/-- IDLE (R239): only its trailer is used. -/
def devIdle (p : Fin 2) (d : Dev) : Dev := match takeCtl d p 0 with | some (_, _, d) => d | none => d

/-- NAK (R258). -/
def devNak (p : Fin 2) (d : Dev) : Dev := match takeCtl d p 1 with | some (s, _, d) => takeNak (lcnt d p 7) p s | none => d

/-- WIDTH_REQ (R262): a REQ_ID newer than the last served ends the epoch, starts one with the requested mask with WIDTH as its first flit, and replays; an older
or equal one acts as a NAK only. A rate-matching IDLE that is due goes last in the old epoch, since WIDTH is the first flit of the new one. -/
def devWidthReq (p : Fin 2) (d : Dev) : Dev :=
  match takeCtl d p 2 with
  | none => d
  | some (s, info, d) =>
    let mask := beAt info 0 3
    let id := beAt info 3 1
    let x := portAt d p
    let newer := decide (0 < (id + 256 - x.served) % 256) && decide ((id + 256 - x.served) % 256 < 128)
    if newer then
      let gone := maskOf ((List.range 17).filter (fun l => x.txMask.testBit l && !mask.testBit l))
      let d := if 1023 ≤ x.idleGap then putFlit d p 0 0 0 [] [] else d
      let x := portAt d p
      let d := setPort d p { x with served := id, txMask := mask, txRetired := x.txRetired ||| gone, widthDue := some (mask, id),
                                    epoch := nextEpoch x.epoch (popMask x.txMask) x.number, number := 0 }
      let d := lcnt (maskEvents d p x.txMask mask) p 11
      restate (takeNak d p s)
    else takeNak d p s

/-- WIDTH (R261): with the current REQ_ID, the new epoch starts at the receiver; an older REQ_ID is ignored. -/
def devWidth (p : Fin 2) (d : Dev) : Dev :=
  match takeCtl d p 3 with
  | none => d
  | some (_, info, d) =>
    let x := portAt d p
    if x.reqOpen && decide (beAt info 3 1 = x.reqId) && decide (beAt info 0 3 = x.reqMask) then
      let d := setPort d p { x with rxMask := x.reqMask, reqOpen := false, reqDue := false, discarding := false }
      restate (lcnt (maskEvents d p x.rxMask x.reqMask) p 11)
    else d

/-- DOWN (R266): the port goes DOWN with reason PEER and the partner's code is recorded; one that is DOWN already keeps its own reason. -/
def devDown (p : Fin 2) (d : Dev) : Dev :=
  match takeCtl d p 4 with
  | none => d
  | some (_, info, d) => if (portAt d p).st = 4 then modPort d p (fun x => { x with peerCode := beAt info 0 1 }) else linkDown d p 2 (beAt info 0 1)

/-- NAK_REPEAT (R258): the expected flit has not arrived REPLAY_TO after the last NAK. -/
def devNakRepeat (p : Fin 2) (d : Dev) : Dev :=
  let x := portAt d p
  if x.nakSent && decide (x.st = 2 ∨ x.st = 3) then setPort d p { x with nakDue := true } else d

/-- REPLAY_TIMEOUT (R259). -/
def devReplayTimeout (p : Fin 2) (d : Dev) : Dev := if (portAt d p).st = 2 ∨ (portAt d p).st = 3 then startReplay d p else d

/-- WIDTH_REQ_REPEAT (R261 step 3). -/
def devWidthReqRepeat (p : Fin 2) (d : Dev) : Dev :=
  let x := portAt d p
  if x.reqOpen then setPort d p { x with reqDue := true } else d

/-- SPARE_QUALIFIED (R263): lane 16 passes and a WIDTH_REQ adds it, the current epoch staying valid; or it fails and is retired. The mask it joins is the one asked for
last. -/
def devSpareQualified (p : Fin 2) (pass : Bool) (d : Dev) : Dev :=
  let x := portAt d p
  if !x.qualify then d
  else
    let d := setPort d p { x with qualify := false }
    let spare := (List.range 17).find? (fun k => decide ((laneAt x k).logical = some 16))
    match spare with
    | none => d
    | some k =>
      let base := if x.reqOpen then x.reqMask else x.rxMask
      let l := laneAt x k
      if l.retired || !l.lock then d
      else if pass then (if base.testBit 16 then d else requestMask d p (base + 2 ^ 16) false)
      else retireLane d p k 2

end Sys2Proof.Machine
end

