-- ==== Sys2Proof/Machine/Rvp.lean ====
section
/-! DEFINITION. The request/verdict protocol's frames (13 R352 to R371): the receive checks, errors, sessions, credits, requests and their reassembly. -/

namespace Sys2Proof.Machine

/-! ### Errors (13 R356, R388) -/

/-- Error codes (13 Table RVP-14). -/
abbrev eVersion : Nat := 1
abbrev eReserved : Nat := 2
abbrev eFormat : Nat := 3
abbrev eNotServing : Nat := 4
abbrev eSessionLimit : Nat := 5
abbrev eRole : Nat := 6
abbrev eSessionClosing : Nat := 7
abbrev eNoCredit : Nat := 8
abbrev eModelInactive : Nat := 9
abbrev eTooLarge : Nat := 0xA
abbrev eFlow : Nat := 0xB
abbrev eDuplicate : Nat := 0xC
abbrev eIncomplete : Nat := 0xD

/-- An ERROR's body. -/
def errBody (code typ detail reqId : Nat) : List Byte := beBytes 2 code ++ [byteOf typ, 0] ++ beBytes 4 detail ++ beBytes 8 reqId

/-- What an error counts whether or not its frame is sent (13 Table RVP-15). -/
def errEffect (d : Dev) (code : Nat) : Dev :=
  let d := if code = eNoCredit then rcnt d 13 1 else d
  if code = eSessionLimit then evt d Reg.RVP_EVT 1 else d

/-- Whether a sub-port may still send an ERROR in the current millisecond (13 R356), with the count. -/
def errRoom (d : Dev) (port sp : Nat) : Bool × Dev :=
  let ms := d.now / 1000000
  let d := if d.rvp.errMs = ms then d else { d with rvp := { d.rvp with errMs := ms, errs := [] } }
  let k := 8 * port + sp
  let n := smGet 0 d.rvp.errs k
  if n < fld d Reg.RVP_CREDIT_CFG 9 0 then (true, rcnt { d with rvp := { d.rvp with errs := smSet 0 d.rvp.errs k (n + 1) } } 7 1)
  else (false, evt (rcnt d 8 1) Reg.RVP_EVT 2)

/-- An ERROR that answers no session, to the source of the frame. -/
def errNone (d : Dev) (x : RxDgram) (code typ detail : Nat) : Dev :=
  let (ok, d) := errRoom (errEffect d code) x.port x.sp
  if ok then udpSend d x.port x.sp x.mac x.ip (rvpPort d x.port x.sp) x.udp (rvpBytes 9 0 0 (errBody code typ detail 0)) false else d

/-- An ERROR in a session. -/
def errSess (d : Dev) (n : Nat) (code typ detail reqId : Nat) : Dev :=
  match sessAt d n with
  | none => d
  | some s =>
    let (ok, d) := errRoom (errEffect d code) s.port s.sp
    if ok then sessSend d n s 9 (errBody code typ detail reqId) false else d

/-! ### Receiving (13 R353 to R355) -/

/-- Whether a TYPE is one that only the U7 sends. -/
def u7Only (t : Nat) : Bool := decide (t = 6) || decide (t = 8) || decide (t = 9)

/-- Step 1 of Table RVP-3: the error and the offset of the field. -/
def rvpStep1 (b : List Byte) : Option (Nat × Nat) :=
  if beAt b 0 1 ≠ 1 then some (eVersion, 0)
  else if b.length < 16 ∨ beAt b 8 2 ≠ b.length then some (eFormat, 8)
  else if beAt b 1 1 = 0 ∨ 9 < beAt b 1 1 then some (eReserved, 1)
  else if beAt b 10 6 ≠ 0 then some (eReserved, 10)
  else none

/-- RVP_FRAME_RECEIVE (13 R353 to R355): the first frame that waits is checked for its type, its header, the station state and its session; a good one waits for its own command. -/
def devRvpFrameReceive (d : Dev) : Dev :=
  match d.rvp.rx with
  | [] => d
  | x :: rest =>
    let d := pfcCheck { d with rvp := { d.rvp with rx := rest } } x.port x.sp
    let d := rcnt d 0 1
    let b := x.data
    let t := beAt b 1 1
    if u7Only t then rcnt d 14 1
    else if d.code < 4 ∨ d.code = stLost ∨ d.code = stHalted ∨ d.code = stSleep then d
    else
      match rvpStep1 b with
      | some (e, off) => errNone d x e t (if e = eVersion then 0 else off)
      | none =>
        if d.code = stForming then (if t = 1 then errNone d x eNotServing 1 0 else d)
        else if t = 1 then { d with rvp := { d.rvp with body := d.rvp.body ++ [x] } }
        else
          let n := beAt b 2 2
          match sessAt d n with
          | some s =>
            if decide (s.token = beAt b 4 4) && decide (s.port = x.port) && decide (s.sp = x.sp) && decide (s.ip = x.ip) && decide (s.udp = x.udp) then
              let d := putSess d n (some { s with idleFrom := d.now })
              { d with rvp := { d.rvp with body := d.rvp.body ++ [x] } }
            else rcnt d 9 1
          | none => rcnt d 9 1

/-- The checked frame that waits first, when it is of a type, and the package without it. -/
def takeBody (d : Dev) (typ : Nat) : Option (RxDgram × Dev) :=
  match d.rvp.body with
  | x :: r => if beAt x.data 1 1 = typ then some (x, { d with rvp := { d.rvp with body := r } }) else none
  | [] => none

/-- The first offset at which a check of (test, code, offset) fails. -/
def firstFail : List (Bool × Nat × Nat) → Option (Nat × Nat)
  | [] => none
  | (bad, e, off) :: r => if bad then some (e, off) else firstFail r

/-! ### Sessions (13 R357 to R362) -/

/-- Loads of a session that are not yet STAGED aborted (13 R360). -/
def abortLoads (d : Dev) (n : Nat) : Dev :=
  let hit := d.rvp.loads.any (fun l => l.any (fun l => l.busy && l.owned && decide (l.sess = n)))
  let d := { d with rvp := { d.rvp with loads := d.rvp.loads.map (fun l => l.map (fun l => if l.busy && l.owned && decide (l.sess = n) then { l with busy := false, status := 7, bytes := [] } else l)) } }
  if hit then evt d Reg.RVP_EVT 4 else d

/-- A request that will have no verdict: its retention, claim and credits given back (13 R360, R370). -/
def discardReq (d : Dev) (h : Nat) : Dev :=
  match reqAt d h with
  | none => d
  | some r => forget (modReq (endClaim (returnCredits d r.sess r.cost) h) h (fun r => { r with released := true, discard := true, blocks := [] })) h

/-- The requests of a session that goes (13 R360): those never dispatched give back their retention and credits, and a fallback already decided for one of them waits only to be discarded; those dispatched, if only
once and now waiting to be dispatched again, run to their end, and their verdicts will be discarded. -/
def abandonReqs (d : Dev) (n : Nat) : Dev :=
  (sessReqs d n).foldl (fun d x =>
    if x.2.group ≠ 0 then modReq d x.1 (fun r => { r with discard := true })
    else if x.2.st = .held then modReq (endClaim (returnCredits d x.2.sess x.2.cost) x.1) x.1 (fun r => { r with discard := true, blocks := [] })
    else discardReq d x.1) d

/-- A close with ABANDON semantics (13 R360): reason 4, REPLACED, sends no frame. -/
def endSession (d : Dev) (n reason : Nat) : Dev :=
  match sessAt d n with
  | none => d
  | some s =>
    let d := disown (abortLoads (abandonReqs d n) n) n
    putSess (if reason = 4 then d else sendClose d n s reason) n none

/-- Every session ended without a frame: reset and LOST (13 R362). -/
def dropSessions (d : Dev) : Dev := (d.rvp.sess.map (fun x => x.1)).foldl (fun d n => endSession d n 4) d

/-- Every session closed with reason STATION: SLEEP (13 R362). -/
def closeSessions (d : Dev) : Dev := (d.rvp.sess.map (fun x => x.1)).foldl (fun d n => endSession d n 5) d

/-- Usable retention blocks of a port: a block spans every channel of its package (11 R309, R324). -/
def retUsable (d : Dev) (port : Nat) : Nat := ((retRegions d port).map (fun r => if extHole d r.1 4096 then 0 else r.2 / 4096)).sum

/-- Retention blocks of a port granted to sessions. -/
def retGranted (d : Dev) (port : Nat) : Nat := ((d.rvp.sess.filter (fun x => decide (x.2.port = port))).map (fun x => x.2.grant)).sum

/-- The U7's SESSION_OPEN (13 Table RVP-4): the CREDIT_LIMIT is that of the opening, when nothing had been returned. -/
def sendOpen (d : Dev) (n : Nat) (s : Session) : Dev :=
  sessSend d n s 1 (beBytes 8 s.partner ++ beBytes 4 s.nonce ++ [byteOf s.role, byteOf s.fallback, byteOf (stationNo d), byteOf (fld d Reg.LAP_STATION 30 24)] ++
    beBytes 4 s.grant ++ beBytes 4 (1000 * fld d Reg.RVP_CFG 31 16) ++ beBytes 8 d.part.serial) false

/-- Whether a sub-port allows LOAD sessions (13 R383). -/
def loadAllowed (d : Dev) (port sp : Nat) : Bool :=
  (rd d Reg.RVP_LOAD_CFG).getLsbD (8 * port + sp) && (!(rd d Reg.RVP_LOAD_CFG).getLsbD 31 || macsecOn d port sp)

/-- The token of a session number: a free value that differs from the last used with it (13 R358). -/
def newToken (d : Dev) (n : Nat) : Nat × Dev :=
  let (v, d) := draw d
  let t := v % 2 ^ 32
  let t := if smFind n d.rvp.tokens = some t then (t + 1) % 2 ^ 32 else t
  (t, { d with rvp := { d.rvp with tokens := smPut n (some t) d.rvp.tokens } })

/-- SESSION_OPEN (13 R357, R358). -/
def devSessionOpen (d : Dev) : Dev :=
  match takeBody d 1 with
  | none => d
  | some (x, d) =>
    let b := x.data
    let role := beAt b 28 1
    let fb := beAt b 29 1
    match firstFail [(decide (b.length ≠ 32), eFormat, 8), (decide (beAt b 2 2 ≠ 0), eReserved, 2), (decide (beAt b 4 4 ≠ 0), eReserved, 4),
        (decide (role ≠ 1 ∧ role ≠ 2), eReserved, 28), (decide (fb = 0 ∨ 3 < fb), eReserved, 29), (decide (beAt b 30 2 ≠ 0), eReserved, 30)] with
    | some (e, off) => errNone d x e 1 off
    | none =>
      if role = 2 ∧ loadAllowed d x.port x.sp = false then errNone d x eRole 1 0
      else
        let partner := beAt b 16 8
        let nonce := beAt b 24 4
        match d.rvp.sess.find? (fun y => decide (y.2.port = x.port) && decide (y.2.sp = x.sp) && decide (y.2.ip = x.ip) && decide (y.2.udp = x.udp) &&
            decide (y.2.partner = partner) && decide (y.2.nonce = nonce)) with
        | some (n, s) => sendOpen d n s
        | none =>
          let old := d.rvp.sess.filter (fun y => decide (y.2.port = x.port) && decide (y.2.partner = partner) && decide (y.2.nonce ≠ nonce))
          let d := old.foldl (fun d y => endSession d y.1 4) d
          if 4096 ≤ d.rvp.sess.length then errNone d x eSessionLimit 1 0
          else
            let g := if role = 1 then min (fld d Reg.RVP_CREDIT_CFG 31 16) (retUsable d x.port - retGranted d x.port) else 0
            if role = 1 ∧ g < 64 then errNone d x eNoCredit 1 0
            else
              match ((List.range 4097).drop 1).find? (fun n => (sessAt d n).isNone) with
              | none => errNone d x eSessionLimit 1 0
              | some n =>
                let (tok, d) := newToken d n
                let s : Session := { st := 1, partner := partner, nonce := nonce, role := role, fallback := fb, port := x.port, sp := x.sp, mac := x.mac, ip := x.ip,
                                     udp := x.udp, token := tok, grant := g, idleFrom := d.now, limitSent := g, rise := d.now }
                sendOpen (putSess d n (some s)) n s

/-- SESSION_CLOSE (13 R359, R360). -/
def devSessionClose (d : Dev) : Dev :=
  match takeBody d 2 with
  | none => d
  | some (x, d) =>
    let b := x.data
    let n := beAt b 2 2
    match firstFail [(decide (b.length ≠ 24), eFormat, 8), (decide (beAt b 16 1 ≠ 1), eReserved, 16), (decide (1 < beAt b 17 1), eReserved, 17), (decide (beAt b 18 6 ≠ 0), eReserved, 18)] with
    | some (e, off) => errSess d n e 2 off 0
    | none =>
      match sessAt d n with
      | none => d
      | some s =>
        if s.st = 2 then d
        else if beAt b 17 1 = 1 then endSession d n 1
        else drainDone (putSess d n (some { s with st := 2 })) n

/-- SESSION_IDLE_TIMEOUT (13 R361): not during a debug halt. -/
def devSessionIdleTimeout (n : Nat) (d : Dev) : Dev :=
  match sessAt d n with
  | none => d
  | some s => if decide (s.idleFrom + fld d Reg.RVP_CFG 31 16 * 1000000000 ≤ d.now) && decide (d.code ≠ stHalted) then endSession d n 3 else d

/-! ### Credits (13 R366) -/

/-- A CREDIT of the U7. -/
def sendCredit (d : Dev) (n : Nat) (s : Session) : Dev :=
  sessSend d n s 3 (beBytes 4 s.limit ++ beBytes 4 s.used ++ beBytes 2 (sessReqs d n).length ++ List.replicate 6 0) false

/-- CREDIT (13 R366). -/
def devCredit (d : Dev) : Dev :=
  match takeBody d 3 with
  | none => d
  | some (x, d) =>
    let b := x.data
    let n := beAt b 2 2
    let bad := (List.range 16).find? (fun k => decide (beAt b (16 + k) 1 ≠ 0))
    if b.length ≠ 32 then errSess d n eFormat 3 8 0
    else
      match bad, sessAt d n with
      | some k, _ => errSess d n eReserved 3 (16 + k) 0
      | none, some s => sendCredit d n s
      | none, none => d

/-- CREDIT_UPDATE_TIMER (13 R366): the limit has risen and no VERDICT has carried it for 50 µs; a CREDIT that answered the partner meanwhile does not stand for it. -/
def devCreditUpdateTimer (n : Nat) (d : Dev) : Dev :=
  match sessAt d n with
  | none => d
  | some s => if s.limit ≠ s.limitSent ∧ s.rise + 50000 ≤ d.now then putSess (sendCredit d n s) n (some { s with limitSent := s.limit }) else d

/-! ### Requests (13 R367 to R371) -/

/-- Steps 3 and 4 of Table RVP-8 on a whole frame: reserved fields and encodings in the order of their offsets, then lengths. A body shorter than its fields is FORMAT. -/
def requestFormat (b : List Byte) : Option (Nat × Nat) :=
  let frames := beAt b 28 2
  let metaLen := beAt b 30 2
  let pay := beAt b 32 4
  let data := b.length - 64
  let flow := (beAt b 25 1).testBit 0
  firstFail [(decide (b.length < 64), eFormat, 8), (decide (beAt b 24 1 = 0 ∨ 16 < beAt b 24 1), eReserved, 24), (decide (3 < beAt b 25 1), eReserved, 25),
    (decide (3 < beAt b 26 1), eReserved, 26), (decide (beAt b 27 1 ≠ 0), eReserved, 27), (decide (frames = 0 ∨ 256 < frames), eReserved, 28),
    (!flow && decide (beAt b 40 16 ≠ 0), eReserved, 40), (decide (beAt b 56 8 ≠ 0), eReserved, 56),
    (decide (1024 < metaLen ∨ pay < metaLen), eFormat, 30), (decide (262144 < pay), eFormat, 32), (decide (pay = 0 ∧ frames ≠ 1), eFormat, 28),
    (decide (frames = 1 ∧ data ≠ pay), eFormat, 32), (decide (1 < frames ∧ (pay ≤ data ∨ pay - data < frames - 1)), eFormat, 32)]

/-- Steps 5 to 8 of Table RVP-8. -/
def requestModel (d : Dev) (n : Nat) (b : List Byte) : Except Nat Image :=
  match (modelAt d (beAt b 24 1)).active with
  | none => .error eModelInactive
  | some im =>
    if im.maxPayload < beAt b 32 4 then .error eTooLarge
    else if (beAt b 25 1).testBit 0 ≠ im.flow then .error eFlow
    else if (sessReqs d n).any (fun x => decide (x.2.reqId = beAt b 16 8)) then .error eDuplicate
    else .ok im

/-- REQUEST_COMPLETE for a request whose frames are all in: the payload as stored in retention. -/
def wholePayload (d : Dev) (r : Req) : List Byte :=
  ((List.range r.blocks.length).map (fun k => memRead d.mem.ext (retAddr d r.port (r.blocks.getD k 0)) (min 4096 (r.payLen - 4096 * k)))).flatten

/-- REQUEST (13 R369): the checks of Table RVP-8, then the request is accepted, its credits charged and its first bytes retained. -/
def devRequest (d : Dev) : Dev :=
  match takeBody d 4 with
  | none => d
  | some (x, d) =>
    let b := x.data
    let n := beAt b 2 2
    let id := beAt b 16 8
    match sessAt d n with
    | none => d
    | some s =>
      if s.role ≠ 1 then errSess d n eRole 4 0 id
      else if s.st ≠ 1 then errSess d n eSessionClosing 4 0 id
      else
        match requestFormat b with
        | some (e, off) => errSess d n e 4 off (if b.length < 24 then 0 else id)
        | none =>
          match requestModel d n b with
          | .error e => errSess d n e 4 0 id
          | .ok im =>
            let pay := beAt b 32 4
            let cost := costOf pay
            if 2 ^ 31 ≤ (s.limit + 2 ^ 33 - s.used - cost) % 2 ^ 32 then errSess d n eNoCredit 4 0 id
            else
              match takeBlocks d s.port cost with
              | none => errSess (evt d Reg.RVP_EVT 0) n eNoCredit 4 0 id
              | some blocks =>
                let d := putSess d n (some { s with used := (s.used + cost) % 2 ^ 32 })
                let h := d.rvp.nextReq
                let data := b.drop 64
                let frames := beAt b 28 2
                let r : Req := { st := .reasm, sess := n, reqId := id, model := beAt b 24 1, flow := (beAt b 25 1).testBit 0, flowEnd := beAt b 25 1 = 3, fallback := beAt b 26 1, sessFb := s.fallback,
                                 frames := frames, metaLen := beAt b 30 2, payLen := pay, deadlineUs := beAt b 36 4, flowKey := slice b 40 16, port := s.port, sp := s.sp,
                                 cost := cost, blocks := blocks, budget := im.budget, defDl := im.defDeadline, got := [(0, 0, data.length)], opened := x.time }
                let d := { d with rvp := { d.rvp with reqs := smPut h (some r) d.rvp.reqs, nextReq := h + 1 }, det := { d.det with diverged := d.det.diverged.filter (fun q => decide (q ≠ id)) } }
                let d := retWrite s.port blocks 65 0 data (rcnt d 1 1)
                if frames = 1 then completeReq d h x.time data else d

/-- The request of a session in reassembly with a REQ_ID. -/
def inReasm (d : Dev) (n id : Nat) : Option (Nat × Req) :=
  d.rvp.reqs.find? (fun y => decide (y.2.sess = n) && decide (y.2.reqId = id) && decide (y.2.st = .reasm) && !y.2.released && !y.2.discard)

/-- REQUEST_CONT (13 R370). -/
def devRequestCont (d : Dev) : Dev :=
  match takeBody d 5 with
  | none => d
  | some (x, d) =>
    let b := x.data
    let n := beAt b 2 2
    let id := beAt b 16 8
    match sessAt d n with
    | none => d
    | some s =>
      if s.role ≠ 1 then errSess d n eRole 5 0 id
      else
        match firstFail [(decide (b.length < 32), eFormat, 8), (decide (beAt b 26 2 ≠ 0), eReserved, 26), (decide (b.length = 32), eFormat, 32)] with
        | some (e, off) => errSess d n e 5 off (if b.length < 24 then 0 else id)
        | none =>
          match inReasm d n id with
          | none => rcnt d 10 1
          | some (h, r) =>
            let idx := beAt b 24 2
            let off := beAt b 28 4
            let data := b.drop 32
            let badIdx := decide (r.frames ≤ idx) || r.got.any (fun g => decide (g.1 = idx))
            if r.got.contains (idx, off, data.length) && decide (idx ≠ 0) then rcnt d 11 1
            else if badIdx || decide (r.payLen < off + data.length) || r.got.any (fun g => decide (off < g.2.1 + g.2.2) && decide (g.2.1 < off + data.length)) then
              drainDone (discardReq (errSess d n eFormat 5 (if badIdx then 24 else 28) id) h) n
            else
              let d := modReq d h (fun r => { r with got := r.got ++ [(idx, off, data.length)] })
              let d := retWrite r.port r.blocks 65 off data d
              if decide (r.got.length + 1 = r.frames) && decide ((r.got.map (fun g => g.2.2)).sum + data.length = r.payLen) then completeReq d h x.time (wholePayload d r) else d

/-- REASM_TIMEOUT (13 R370): a request not complete within REASM_TO of its REQUEST frame is discarded and answered INCOMPLETE. -/
def devReasmTimeout (h : Nat) (d : Dev) : Dev :=
  match reqAt d h with
  | none => d
  | some r =>
    if decide (r.st = .reasm) && !r.released && decide (r.opened + 10000 * fld d Reg.RVP_CFG 15 0 ≤ d.now) then
      let d := evt (rcnt d 12 1) Reg.RVP_EVT 3
      drainDone (discardReq (errSess d r.sess eIncomplete 4 0 r.reqId) h) r.sess
    else d

end Sys2Proof.Machine
end

