-- ==== Sys2Proof/Machine/Barriers.lean ====
section
/-! DEFINITION. The ring barrier (10 R292 to R294): tokens, votes, the leader's queue, the decision and the release; and the acknowledgements of model loads that
barriers cause (13 R386, R387). What a commit does is in the barrier rows. -/

namespace Sys2Proof.Machine

/-! ### Acknowledgements (13 R387) -/

/-- A MODEL_LOAD_ACK's fields (13 Table RVP-13). -/
structure AckInfo where
  op : Nat
  model : Nat
  status : Nat
  bar : Nat := 0
  reason : Nat := 0
  gen : Nat := 0
  next : Nat := 0
  refuse : Nat := 0
  deriving DecidableEq, Repr

/-- A MODEL_LOAD_ACK to a session while it is open. -/
def loadAck (d : Dev) (n : Nat) (a : AckInfo) : Dev :=
  match sessAt d n with
  | none => d
  | some s =>
    if s.st ≠ 1 then d
    else sessSend d n s 8 ([byteOf a.op, byteOf a.model, byteOf a.status, byteOf a.bar] ++ beBytes 2 a.reason ++ [0, 0] ++ beBytes 4 a.gen ++ [0, 0, 0, 0] ++
      beBytes 8 a.next ++ beBytes 8 a.refuse) false

/-- An acknowledgement to the session that staged an image, while that session is open. -/
def ownerAck (d : Dev) (owner : Option (Nat × Nat)) (a : AckInfo) : Dev :=
  match owner with
  | some (n, tok) => if (sessAt d n).any (fun s => decide (s.token = tok)) then loadAck d n a else d
  | none => d

/-- A load that ended STAGED takes a later status of its image in the block that still shows it, with LOAD_EVT (13 Table RVP-15). -/
def loadEnds (d : Dev) (m gen status : Nat) : Dev :=
  let hit := fun (l : Load) => decide (l.model = m) && decide (l.gen = gen) && decide (l.status = 4)
  evt { d with rvp := { d.rvp with loads := d.rvp.loads.map (fun l => l.map (fun l => if hit l then { l with status := status } else l)) } } Reg.RVP_EVT 4

/-- The sessions that asked for an operation on a model answered, and asked no more. -/
def answerOps (d : Dev) (op model : Nat) (a : AckInfo) : Dev :=
  let mine := d.rvp.reqOps.filter (fun x => decide (x.1 = op) && decide (x.2.1 = model))
  let d := { d with rvp := { d.rvp with reqOps := d.rvp.reqOps.filter (fun x => !(decide (x.1 = op) && decide (x.2.1 = model))) } }
  mine.foldl (fun d x => loadAck d x.2.2 a) d

/-! ### Tokens (10 Table LAP-5) -/

/-- The token that a payload spells, unless it uses a reserved field or encoding. -/
def tokenOf (b : List Byte) : Option Token :=
  let kind := beAt b 0 1
  let phase := beAt b 1 1
  let out := beAt b 2 1
  let zero := fun (i n : Nat) => (slice b i n).all (fun x => decide (x = 0))
  if kind = 0 ∨ 8 < kind ∨ phase = 0 ∨ 2 < phase ∨ (phase = 1 ∧ out ≠ 0) ∨ (phase = 2 ∧ (out = 0 ∨ 2 < out)) ∨ 63 < beAt b 3 1 then none
  else if !zero 7 1 || !zero 88 8 || !zero 160 96 || (slice b 96 64).any (fun x => decide (5 < x.toNat)) then none
  else
    some { kind := kind, phase := phase, outcome := out, leader := beAt b 3 1, id := beAt b 4 2, model := beAt b 6 1, gen := beAt b 8 4, leff := beAt b 12 4,
           ready := beAt b 16 8, refuse := beAt b 24 8, digest := slice b 32 48, arg := slice b 80 8, reasons := (slice b 96 64).map (fun x => x.toNat) }

/-- Whether two tokens are of one barrier. -/
def Token.same (a b : Token) : Bool := decide (a.leader = b.leader) && decide (a.id = b.id)

/-- The lowest-numbered refusing station's reason. -/
def Token.why (t : Token) : Nat :=
  match (List.range 64).find? (fun s => t.refuse.testBit s) with
  | some s => t.reasons.getD s 0
  | none => 0

/-! ### Votes (10 R293, Table LAP-6; 16 R460; 18 R516) -/

/-- Whether both ports are closed. -/
def bothClosed (d : Dev) : Bool := portClosed d 0 && portClosed d 1

/-- Whether an IDENT of a neighbour has shown a state other than FORMING (18 R516). -/
def ringIsUp (d : Dev) : Bool := d.ring.nbr.any (fun n => n.seen && decide (n.state ≠ stForming))

/-- The vote on an ACTIVATE: 0 READY, or the reason of Table LAP-5. -/
def voteActivate (d : Dev) (t : Token) : Nat :=
  match (modelAt d t.model).staged with
  | none => 1
  | some im =>
    if im.gen ≠ t.gen then 1
    else if im.digest ≠ t.digest then 2
    else if im.ringed ∧ (ringSize d = 1 ∨ noRingLap d = true) then 5
    else if !budgetOk d im then 3
    else if !hstoreHolds d (installed d) then 4
    else 0

/-- The vote on a ROLLBACK: the previous image, and room for it (18 R528). -/
def voteRollback (d : Dev) (t : Token) : Nat :=
  let x := modelAt d t.model
  match x.prev with
  | none => 1
  | some im =>
    if im.gen ≠ t.gen then 1
    else if im.ringed ∧ (ringSize d = 1 ∨ noRingLap d = true) then 5
    else
      match (placement d im).bind (fun vm => (itemsAll d im vm).map (fun its => (vm, its))) with
      | none => 4
      | some (vm, its) =>
        if hstoreFits d im && itemsOk d im vm its && its.all (fun y => (installed d).all (fun z => decide (z.id = im.id) || (itemsNow d z).all (fun w => !itemHit y w))) then 0 else 4

/-- The vote on a TWIN_SYNC: A and B are ready when the facing port is closed and the model is active in EXACT mode with the twin flag. -/
def voteTwin (d : Dev) (t : Token) : Nat :=
  let a := (t.arg.getD 0 0).toNat
  let b := (t.arg.getD 1 0).toNat
  let me := stationNo d
  let partner := fld d Reg.DET_TWIN_STATUS 31 24
  let isA := decide (fld d Reg.DET_TWIN_STATUS 23 23 = 1)
  if me ≠ a ∧ me ≠ b then 0
  else if !(if me = a then isA && decide (partner = b) else !isA && decide (partner = a)) then 5
  else if !portClosed d (if isA then 1 else 0) then 5
  else if ((modelAt d (t.arg.getD 2 0).toNat).active).any (fun im => im.twin && !im.fast) then 0 else 5

/-- The vote on a REFORM: both ports closed, and the ring's active images held. A station that has been in the ring holds them; the spec does not say how one that has joined learns which they are: its vote is a
free value (log entry 3). -/
def voteReform (d : Dev) : Nat × Dev :=
  if !bothClosed d then (5, d)
  else if d.ring.joined then
    let (v, d) := draw d
    (v % 2, d)
  else (0, d)

/-- This station's vote: 0 READY, or the reason of its refusal. -/
def voteOf (d : Dev) (t : Token) : Nat × Dev :=
  if d.code = stHalted then (5, d)
  else
    match t.kind with
    | 1 => (if bothClosed d && !(decide (d.code = stForming) && ringIsUp d) then 0 else 5, d)
    | 2 => (voteActivate d t, d)
    | 3 => (voteRollback d t, d)
    | 4 => (if (modelAt d t.model).active.isSome then 0 else 5, d)
    | 5 => (if bothClosed d then 0 else 5, d)
    | 6 => voteReform d
    | 7 => (voteTwin d t, d)
    | _ => (if d.code = stReady then 0 else 5, d)

/-- A token with this station's vote, which is recorded (10 R293). -/
def castVote (d : Dev) (t : Token) : Token × Dev :=
  let me := stationNo d
  let (why, d) := voteOf d t
  let t := if why = 0 then { t with ready := t.ready ||| 2 ^ me } else { t with refuse := t.refuse ||| 2 ^ me, reasons := setAt t.reasons me why }
  (t, { d with ring := { d.ring with voted := some t, lastKind := t.kind, lastId := t.id, lastOutcome := 0 } })

/-! ### Release (10 R293, R294) -/

/-- What an aborted barrier with refusals tells the loader's sessions (13 R386, R387). -/
def tellRefused (d : Dev) (t : Token) : Dev :=
  if t.refuse = 0 then d
  else if t.kind = 2 then
    let x := modelAt d t.model
    match x.staged with
    | some im =>
      if im.gen = t.gen ∧ im.digest = t.digest ∧ x.refused ≠ (t.why, t.refuse) then
        ownerAck (setModel d t.model { x with refused := (t.why, t.refuse) }) x.owner
          { op := 1, model := t.model, status := 4, bar := t.why, reason := 0x16, gen := im.gen, next := im.size, refuse := t.refuse }
      else d
    | none => d
  else if t.kind = 3 then answerOps d 4 t.model { op := 4, model := t.model, status := 6, bar := t.why, reason := 0x16, gen := t.gen, refuse := t.refuse }
  else d

/-- A release acted on: the register's view, the counters; a commit waits for its own command. -/
def actRelease (d : Dev) (t : Token) : Dev :=
  let d := { d with ring := { d.ring with voted := none, lastKind := t.kind, lastId := t.id, lastOutcome := t.outcome } }
  if t.outcome = 1 then cntInc { d with ring := { d.ring with commits := d.ring.commits ++ [t] } } (Reg.LAP_CNT_LO 9)
  else
    let d := tellRefused (evt (cntInc d (Reg.LAP_CNT_LO 10)) Reg.LAP_EVT 0) t
    if t.kind = 8 then sleepAborted d else d

/-- A token sent on from a pass of this station. -/
def passToken (d : Dev) (q : Pass) (t : Token) : Dev :=
  match exitOf d q with
  | some p => queueBar d p t
  | none => d

/-! ### The leader (10 R272, R292, R293) -/

/-- Whether this station leads. -/
def isLeader (d : Dev) : Bool := decide (d.ring.leader = stationNo d)

/-- A barrier queued again after an abort (10 R294), but for a ROLLBACK that its refusal has ended (13 R387). -/
def requeue (d : Dev) (t : Token) : Dev :=
  if t.kind = 3 ∧ t.refuse ≠ 0 then d else { d with ring := { d.ring with queue := d.ring.queue ++ [t.again] } }

/-- Whether a barrier has a ringed effect (10 Table LAP-5, L_EFF). -/
def ringedEffect (d : Dev) (t : Token) : Bool :=
  let x := modelAt d t.model
  match t.kind with
  | 2 => x.staged.any (fun im => im.ringed)
  | 3 => x.prev.any (fun im => im.ringed)
  | 4 => x.active.any (fun im => im.ringed)
  | 6 => true
  | _ => false

/-- The release of a barrier whose collecting lap has ended (10 R293) or timed out (10 R294). -/
def releaseToken (d : Dev) (t : Token) (commit : Bool) : Dev :=
  let rel : Token := { t with phase := 2, outcome := if commit then 1 else 2, leff := if commit && ringedEffect d t then (d.ring.rlap + 2) % 2 ^ 32 else 0 }
  let d := { d with ring := { d.ring with flight := some rel } }
  let d := actRelease d rel
  let d := if commit then d else requeue d rel
  match exitOf d .east with
  | some p => queueBar d p rel
  | none => { d with ring := { d.ring with flight := none } }

/-- The decision on the return of the collecting lap: every live station READY and none REFUSE. For FORM and REFORM every station of the ring is meant. -/
def decideToken (d : Dev) (t : Token) : Dev :=
  let who := if t.kind = 1 ∨ t.kind = 6 then List.range (ringSize d) else liveStations d
  releaseToken d t (decide (t.refuse = 0) && who.all (fun s => t.ready.testBit s))

/-- The digest of the image that an ACTIVATE names, as the leader has staged it now: zeros while it has not (10 Table LAP-5). -/
def tokenDigest (d : Dev) (t : Token) : List Byte :=
  if t.kind = 2 then (((modelAt d t.model).staged.filter (fun im => decide (im.gen = t.gen))).map (fun im => im.digest)).getD (List.replicate 48 0) else t.digest

/-- A barrier started: the leader votes and the token leaves by Port E, or along the loop. -/
def startToken (d : Dev) (t : Token) : Dev :=
  let t := { t with leader := stationNo d, id := d.ring.nextId, digest := tokenDigest d t }
  let d := { d with ring := { d.ring with nextId := (d.ring.nextId + 1) % 65536 } }
  let (t, d) := castVote d t
  let d := { d with ring := { d.ring with flight := some t } }
  match exitOf d .east with
  | some p => queueBar d p t
  | none => decideToken d t

/-- The leader's queue served while no barrier is in flight (10 R292). -/
def serveBarriers : Nat → Dev → Dev
  | 0, d => d
  | fuel + 1, d =>
    match d.ring.flight, takeFirst (fun t => t.due) d.ring.queue with
    | none, some (t, r) => if isLeader d then serveBarriers fuel (startToken { d with ring := { d.ring with queue := r } } t) else d
    | _, _ => d

/-- The leader's queue looked at. -/
def pumpBarriers (d : Dev) : Dev := serveBarriers (d.ring.queue.length + 1) d

/-- Whether a queued or flying barrier asks for the same thing. -/
def Token.asks (a b : Token) : Bool := decide (a.kind = b.kind) && decide (a.model = b.model) && decide (a.gen = b.gen) && decide (a.arg = b.arg)

/-- Whether a barrier asked for has already been committed here (10 R294, corner cases). -/
def alreadyDone (d : Dev) (t : Token) : Bool :=
  let x := modelAt d t.model
  decide (t.kind = 2) && (x.active.any (fun im => decide (im.gen = t.gen)) || (decide (x.pend = 1) && x.staged.any (fun im => decide (im.gen = t.gen))))

/-- A barrier asked for by a station put in the leader's queue, once; the leader serves requests in order of arrival. -/
def enqueueBarrier (d : Dev) (src kind model gen : Nat) : Dev :=
  let n := max 1 (ringSize d)
  let named := decide (kind = 2) || decide (kind = 3) || decide (kind = 4)
  let t : Token := { kind := kind, model := if named then model else 0, gen := if kind = 2 ∨ kind = 3 then gen else 0,
                     arg := if kind = 7 then [byteOf src, byteOf ((src + 1) % n), byteOf model, 0, 0, 0, 0, 0] else List.replicate 8 0 }
  let d := if kind = 5 then { d with ring := { d.ring with joinSeen := true } } else d
  let known := d.ring.queue.any (fun q => q.asks t) || (d.ring.flight).any (fun q => decide (q.phase = 1) && q.asks t)
  let queue := d.ring.queue.map (fun q => if q.asks t then { q with due := true } else q)
  pumpBarriers { d with ring := { d.ring with queue := if known || alreadyDone d t then queue else queue ++ [t] } }

/-- A station asks the leader for a barrier (10 R289, R292): BARRIER_REQ, or its own queue when it leads. -/
def askBarrier (d : Dev) (kind model gen : Nat) : Dev :=
  if isLeader d then enqueueBarrier d (stationNo d) kind model gen
  else sendMsg d 4 d.ring.leader ([byteOf kind, byteOf model] ++ beBytes 4 gen)

/-! ### The rows of the ring barrier -/

/-- A token at a pass of this station: at the leader the eastbound pass ends a lap, and a westbound one that turns here ends it too. Another station votes or acts at its first
visit and passes the token on. -/
def tokenAt (d : Dev) (q : Pass) (t : Token) : Dev :=
  if t.leader = stationNo d then
    match d.ring.flight with
    | none => d
    | some f =>
      if !f.same t || decide (f.phase ≠ t.phase) then d
      else if decide (q = .west) && !turnsMsg d .west then passToken d q t
      else if t.phase = 1 then pumpBarriers (decideToken d t)
      else pumpBarriers { d with ring := { d.ring with flight := none } }
  else if t.phase = 1 then
    if (d.ring.voted).any (fun v => v.same t) then passToken d q t
    else
      let (t, d) := castVote d t
      passToken d q t
  else
    let d := if (d.ring.voted).any (fun v => v.same t) then actRelease d t else d
    passToken d q t

/-- The sequenced payload received first on a port, when it is of a type, and the package without it. -/
def takeSeq (d : Dev) (p typ : Nat) : Option (List Byte × Dev) :=
  match (portAt d p).rx with
  | (t, b) :: r => if t = typ then some (b, modPort d p (fun x => { x with rx := r })) else none
  | [] => none

/-- BARRIER (10 R293): a token arrives. -/
def devBarrier (p : Fin 2) (d : Dev) : Dev :=
  match takeSeq d p.val 0x11 with
  | none => d
  | some (b, d) =>
    match tokenOf b with
    | none => protoErr d p.val 0x11
    | some t => tokenAt d (passFrom p.val) t

/-- FORM_BARRIER_START (10 R272): station 0 with both ports closed, every 10 ms until one commits; not while a neighbour is part of a formed ring (18 R516). A RING_SIZE above 64
never forms. -/
def devFormBarrierStart (d : Dev) : Dev :=
  if decide (d.code = stForming) && isLeader d && decide (stationNo d = 0) && bothClosed d && !ringIsUp d && decide (ringSize d ≤ 64) then
    enqueueBarrier d 0 1 0 0
  else d

/-- BARRIER_TIMEOUT (10 R294): the collecting lap has not returned within BARRIER_TO. -/
def devBarrierTimeout (d : Dev) : Dev :=
  match d.ring.flight with
  | some t => if t.phase = 1 ∧ isLeader d = true then pumpBarriers (releaseToken d t false) else d
  | none => d

/-- BARRIER_DISCARD (10 R294): a station that has voted and has no release after 2 × BARRIER_TO discards the barrier. -/
def devBarrierDiscard (d : Dev) : Dev :=
  match d.ring.voted with
  | some t =>
    if t.leader = stationNo d then d
    else
      let d := { d with ring := { d.ring with voted := none } }
      if t.kind = 8 then sleepAborted d else d
  | none => d

end Sys2Proof.Machine
end

