-- ==== Sys2Proof/Machine/Schedule.lean ====
section
/-! DEFINITION. Hanks and laps (10 R274 to R291; 07 R198 to R202): the two schedules of a station, the hank store and its seeding, launches, the alignment of the two halves,
delivery to cores, and what a lap start switches (10 R297, R298). -/

namespace Sys2Proof.Machine

/-! ### Schedules (10 R276 to R280, R290) -/

/-- Origins of a schedule: the stations of the ring, or the four dies. -/
def originsOf (d : Dev) (ringed : Bool) : Nat := if ringed then max 1 (ringSize d) else 4

/-- The lap and progress of a schedule. -/
def schedLap (d : Dev) (ringed : Bool) : Nat := if ringed then d.ring.rlap else d.ring.plap
def schedRun (d : Dev) (ringed : Bool) : Bool := if ringed then d.ring.rRun else d.ring.pRun
def progressAt (d : Dev) (ringed : Bool) (dir : Nat) : Progress := (if ringed then d.ring.prog else d.ring.pprog).getD dir {}
def setProgress (d : Dev) (ringed : Bool) (dir : Nat) (p : Progress) : Dev :=
  { d with ring := if ringed then { d.ring with prog := setAt d.ring.prog dir p } else { d.ring with pprog := setAt d.ring.pprog dir p } }

/-- The images of a schedule in a lap, in ascending model id. -/
def imagesIn (d : Dev) (ringed : Bool) (lap : Nat) : List Image :=
  d.model.filterMap (fun x =>
    let now := if x.2.pend = 0 then x.2.active else x.2.target
    let im := if now.any (fun y => decide (y.ringed ≠ ringed)) then (if x.2.pend = 0 then none else x.2.active) else x.2.imageOf lap
    im.filter (fun y => decide (y.ringed = ringed)))

/-- The hank indices of a block of a direction: 0 E, 1 W (10 R276, R277). -/
def blockHanks (im : Image) (n dir t : Nat) : List Nat :=
  ((blockOf (positions im) n t).map (fun p => 2 * p + dir)).filter (fun i => decide (i < im.hanks.length))

/-- A direction of a lap in order: block, image, hank index (10 R277, R278). -/
def sequence (d : Dev) (ringed : Bool) (lap dir : Nat) : List (Nat × Image × Nat) :=
  let ims := imagesIn d ringed lap
  let n := originsOf d ringed
  ((List.range n).map (fun t => (ims.map (fun im => (blockHanks im n dir t).map (fun i => (t, im, i)))).flatten)).flatten

/-- The place of a hank in its direction. -/
def placeIn (m index : Nat) : List (Nat × Image × Nat) → Nat → Option Nat
  | [], _ => none
  | x :: r, k => if x.2.1.id = m ∧ x.2.2 = index then some k else placeIn m index r (k + 1)

/-- The origin of a block in the closed ring: E block t at station t, W block t at station (N - t) mod N (10 R277). -/
def originOf (n dir t : Nat) : Nat := if dir = 0 then t else (n - t) % max 1 n

/-- The station that a fold has lost, when it has lost one (10 Table LAP-7). -/
def lostStation (d : Dev) : Option Nat :=
  let n := max 1 (ringSize d)
  match d.ring.mode, d.ring.noticeW, d.ring.noticeE with
  | 2, some w, some e => if (w + n - e + n - 1) % n = 1 then some ((e + 1) % n) else none
  | _, _, _ => none

/-- The station that launches what a station is the origin of: its adopter when it is lost. -/
def launcherOf (d : Dev) (s : Nat) : Nat := if lostStation d = some s then (s + 1) % max 1 (ringSize d) else s

/-! ### Cores that take part (07 R198, R199) -/

/-- The sites whose cores take part in a model: the hosts of its virtual cores, or its participants (16 R442, R443, R446). -/
def sitesOf (d : Dev) (im : Image) : List Nat :=
  let cs := if im.fast then im.participants else (usedVcores im).filterMap (fun v => (smFind v d.det.vmap).map (fun x => x.1))
  (cs.filterMap (servingSite d)).eraseDups

/-- The tasks of a core looked at after its hank skein or the hanks it has seen have changed. -/
def settleCore (d : Dev) (i m : Nat) : Dev :=
  (List.range 8).foldl (fun d n =>
    let t := taskAt (coreAt d i) n
    if decide (t.st ≠ .empty) && decide (t.st ≠ .waitingLap) && decide (dModel t.desc = m) then settleTask d i n else d) d

/-- A hank noted as past on a core. -/
def noteSeen (d : Dev) (i m lap : Nat) (h : HankDef) : Dev :=
  modCore d i (fun c => { c with seen := c.seen ++ [{ model := m, layer := h.layer, hank := h.hank, lap := lap, order := 0 }] })

/-- A hank not delivered to a core (07 R199): MISSED, and its tasks move (07 R201). -/
def coreMiss (d : Dev) (i m lap : Nat) (h : HankDef) : Dev :=
  let a := Reg.CORE_HANK_COUNT i
  let d := setFld d a 31 16 (min (fld d a 31 16 + 1) 0xffff)
  settleCore (noteSeen d i m lap h) i m

/-- A hank not delivered to any core of the station. -/
def missHank (d : Dev) (im : Image) (lap index : Nat) : Dev :=
  match im.hanks[index]? with
  | none => d
  | some h => (sitesOf d im).foldl (fun d i => coreMiss d i im.id lap h) d

/-! ### Switches (10 R297, R298; 14 R409; 18 R528) -/

/-- A request conditioned for an image that goes and not yet dispatched is conditioned again for the image of its new dispatch (18 R528). -/
def requeueReady (d : Dev) (m : Nat) : Dev :=
  let hs := (d.rvp.reqs.filter (fun x => decide (x.2.model = m) && decide (x.2.st = .ready) && x.2.tasks.isEmpty && !x.2.released)).map (fun x => x.1)
  hs.foldl (fun d h => modReq d h (fun r => { r with st := .queued, slot := none })) d

/-- Tasks of a removed model still in WAITING_LAP and queued requests fall back with reason REMOVED (10 R298); a request in reassembly is completed first and falls back then (13 corner cases of R371). -/
def removeWaiting (d : Dev) (m : Nat) : Dev :=
  let waits := fun (r : Req) => r.tasks.any (fun t => decide ((taskAt (coreAt d t.2.1) t.2.2).st = .waitingLap))
  let hs := (d.rvp.reqs.filter (fun x => decide (x.2.model = m) && !x.2.released &&
    (decide (x.2.st = .queued) || decide (x.2.st = .ready) || (decide (x.2.st = .dispatched) && waits x.2)))).map (fun x => x.1)
  let d := fallAll d 6 hs
  let d := { d with rvp := { d.rvp with reqs := d.rvp.reqs.map (fun x => if decide (x.2.model = m) && decide (x.2.st = .reasm) then (x.1, { x.2 with gone := true }) else x) } }
  (usedSites d).foldl (fun d i => (List.range 8).foldl (fun d n =>
    let t := taskAt (coreAt d i) n
    if decide (t.st = .waitingLap) && decide (dModel t.desc = m) then
      let d := setTask d i n {}
      forget (modReq d t.req (fun r => { r with tasks := r.tasks.filter (fun x => !(decide (x.2.1 = i) && decide (x.2.2 = n))) })) t.req
    else d) d) d

/-- The canonical cores that have a site, or a spare on its way (16 R443 to R445): exposed, and not fenced without a spare. -/
def usableCanon (d : Dev) : List Nat := (List.range 256).filter (fun c => (siteOfCanon d.part c).isSome && !d.wdn.noSpare.contains c)

/-- Whether an EXACT image has lost its placement (16 R445): too few cores, or a virtual core whose host is fenced without a spare. -/
def placementGone (d : Dev) (im : Image) : Bool :=
  !im.fast && (decide ((usableCanon d).length < im.place) || (usedVcores im).any (fun v => (smFind v d.det.vmap).any (fun h => d.wdn.noSpare.contains h.1)))

/-- The switch of a model at its effect point. -/
def applySwitch (d : Dev) (m : Nat) : Dev :=
  let x := modelAt d m
  if x.pend = 0 then d
  else
    let leave := x.active.toList
    let held := [x.target, if x.pend = 1 then none else x.staged].filterMap (fun y => y.map (fun im => im.gen))
    let d :=
      if x.pend = 3 then setModel d m { x with active := none, prev := none, old := x.active, going := x.going ++ leave, pend := 0, seeding := false, twinOn := false }
      else
        let d := setModel d m { x with active := x.target, prev := x.active, staged := if x.pend = 1 then none else x.staged, old := x.active,
                                       going := (x.going ++ leave).filter (fun im => decide (some im ≠ x.target)), pend := 0, seeding := true,
                                       twinOn := x.twinOn && x.target.any (fun im => im.twin && !im.fast), exactFail := x.target.any (placementGone d) }
        -- a previous image that is replaced leaves HBM (11 R315)
        let d := match x.prev with
          | some im => if x.pend = 1 then dropImgCopies d m im.gen else d
          | none => d
        let cls : Nat := (x.target.map (fun t => t.flowClass)).getD 0
        if x.target.any (fun im => im.flow) && x.active.any (fun im => decide (im.flowClass ≠ cls)) then loseModel d m cls else d
    -- the places of the image left behind are free for the next (R297)
    let d := { d with ring := { d.ring with store := d.ring.store.filter (fun e => decide (e.model ≠ m) || held.contains e.gen) } }
    let d := if x.pend = 3 then removedSweep (removeWaiting d m) else requeueReady d m
    let d := if x.pend = 1 then loadEnds d m ((x.staged.map (fun im => im.gen)).getD 0) 5 else d
    let d := if x.pend = 1 then ownerAck d x.owner { op := 1, model := m, status := 5, gen := (x.staged.map (fun im => im.gen)).getD 0, next := (x.staged.map (fun im => im.size)).getD 0 } else d
    restate d

/-- Every switch of a schedule due at a lap. -/
def switchesAt (d : Dev) (ringed : Bool) (lap : Nat) : Dev :=
  let due := d.model.filter (fun x => decide (x.2.pend ≠ 0) && decide (((if x.2.pend = 3 then x.2.active else x.2.target).any (fun im => im.ringed)) = ringed) &&
    (x.2.effLap).any (fun e => !lapBefore lap e))
  due.foldl (fun d x => applySwitch d x.1) d

/-- A lap entered at this station (10 R278, R285, R297, R303): its number and period, its switches, and which models seed in it. -/
def enterLap (d : Dev) (ringed : Bool) (lap : Nat) : Dev :=
  let r := d.ring
  let cut := r.interrupted
  let re := ringed && (r.reformAt).any (fun e => !lapBefore lap e)
  let d := { d with ring := if ringed then { r with rlap := lap, rPeriod := if r.rRun then d.now - r.rStart else r.rPeriod, rStart := d.now, rRun := true, held := false, interrupted := false,
                                                    reissued := r.reissued.filter (fun x => decide (x.2.2 = lap)), checked := r.checked.filter (fun x => decide (x.2.2 = lap % 2 ^ 24)) }
                            else { r with plap := lap, pPeriod := if r.pRun then d.now - r.pStart else r.pPeriod, pStart := d.now, pRun := true } }
  let d := { d with model := d.model.foldl (fun mm x => smSet {} mm x.1
      (if x.2.active.any (fun im => decide (im.ringed = ringed)) then { x.2 with seeding := x.2.seeding && ringed && cut } else x.2)) d.model }
  let d := if re then
      restate { d with ring := { d.ring with mode := 1, loopW := false, loopE := false, noticeW := none, noticeE := none, adopted := none, reformAt := none, nLive := ringSize d,
                                             leader := 0 } }
    else d
  let d := switchesAt d ringed lap
  let n := (imagesIn d ringed lap).filter (fun im => (modelAt d im.id).seeding)
  cntAdd d (Reg.LAP_CNT_LO 12) n.length

/-- The end of a lap with no image in the next (10 R298): a removal takes effect there, and the schedule stops. A lap that a fold has interrupted ends when both notices are here, where the next would start
(10 R301). -/
def endLap (d : Dev) (ringed : Bool) : Dev :=
  let lap := schedLap d ringed
  let next := (lap + 1) % 2 ^ 32
  let passed := (List.range 2).all (fun dir => decide ((progressAt d ringed dir).lap = lap) && decide ((sequence d ringed lap dir).length ≤ (progressAt d ringed dir).next))
  let cut := ringed && d.ring.interrupted && d.ring.noticeW.isSome && d.ring.noticeE.isSome
  if schedRun d ringed && (passed || cut) && (imagesIn d ringed next).isEmpty then
    let d := switchesAt d ringed next
    { d with ring := if ringed then { d.ring with rRun := false, rPeriod := d.now - d.ring.rStart } else { d.ring with pRun := false, pPeriod := d.now - d.ring.pStart } }
  else d

/-! ### Alignment and delivery (10 R281) -/

/-- The other hank of a position. -/
def partnerOf (index : Nat) : Nat := if index % 2 = 0 then index + 1 else index - 1

/-- Whether a hank of a lap has passed this station, or never will. -/
def hankPassed (d : Dev) (ringed : Bool) (lap m index : Nat) : Bool :=
  let p := progressAt d ringed (index % 2)
  if p.lap = lap then (match placeIn m index (sequence d ringed lap (index % 2)) 0 with | some k => decide (k < p.next) | none => true) else lapBefore lap p.lap

/-- Hanks of a position handed to the ring agents of the cores that take part; position 0 is the lap start (10 R281). -/
def deliverPos (d : Dev) (im : Image) (lap pos : Nat) (hs : List (Nat × List Byte)) : Dev :=
  let d := if pos = 0 then lapBegin d im.id lap im else d
  let hanks := hs.filterMap (fun h => (im.hanks[h.1]?).map (fun x => (x.layer, x.hank, h.2)))
  let sites := sitesOf d im
  if sites.isEmpty then d else { d with ring := { d.ring with deliver := d.ring.deliver ++ [{ model := im.id, lap := lap, hanks := hanks, sites := sites }] } }

/-- Whether a waiting hank may go: its position has no other, or the other is here too, or it has passed bad or dropped. -/
def alignDue (d : Dev) (a : Aligned) : Bool :=
  let other := partnerOf (2 * a.pos + a.dir)
  match (imagesIn d a.ringed a.lap).find? (fun im => decide (im.id = a.model)) with
  | none => true
  | some im =>
    decide (im.hanks.length ≤ other) || d.ring.align.any (fun b => decide (b.ringed = a.ringed) && decide (b.model = a.model) && decide (b.pos = a.pos) && decide (b.lap = a.lap) && decide (b.dir ≠ a.dir)) ||
      hankPassed d a.ringed a.lap a.model other

/-- The alignment store looked at: every position that is due is delivered, in the order its first hank came. -/
def sweepAlign : Nat → Dev → Dev
  | 0, d => d
  | fuel + 1, d =>
    match d.ring.align.find? (alignDue d) with
    | none => d
    | some a =>
      let mine := fun (b : Aligned) => decide (b.ringed = a.ringed) && decide (b.model = a.model) && decide (b.pos = a.pos) && decide (b.lap = a.lap)
      let both := d.ring.align.filter mine
      let d := { d with ring := { d.ring with align := d.ring.align.filter (fun b => !mine b) } }
      let order := both.filter (fun b => decide (b.dir = 0)) ++ both.filter (fun b => decide (b.dir = 1))
      sweepAlign fuel (match (imagesIn d a.ringed a.lap).find? (fun im => decide (im.id = a.model)) with
        | none => d
        | some im => deliverPos d im a.lap a.pos (order.map (fun b => (2 * b.pos + b.dir, b.body))))

/-- Hanks of a direction between two places missed. -/
def missRange (d : Dev) (ringed : Bool) (lap dir lo hi : Nat) : Dev :=
  (((sequence d ringed lap dir).drop lo).take (hi - lo)).foldl (fun d x => missHank d x.2.1 lap x.2.2) d

/-- A direction brought to a lap: the rest of an older lap is missed; the first direction to see a lap enters it. -/
def reachLap (d : Dev) (ringed : Bool) (lap dir : Nat) : Dev :=
  let p := progressAt d ringed dir
  if p.lap = lap ∧ schedLap d ringed = lap then d
  else
    let d := if schedRun d ringed ∧ lapBefore p.lap lap then missRange d ringed p.lap dir p.next (sequence d ringed p.lap dir).length else d
    let d := if schedLap d ringed = lap ∧ schedRun d ringed = true then d else enterLap d ringed lap
    setProgress d ringed dir { lap := lap, next := 0 }

/-- A hank passes on its direction's own pass (10 R281): `body` is none for a bad one. A hank of an older lap passes unnoticed. -/
def passHank (d : Dev) (ringed : Bool) (lap m index : Nat) (body : Option (List Byte)) : Dev :=
  let dir := index % 2
  if schedRun d ringed && lapBefore lap (progressAt d ringed dir).lap then d
  else
    match placeIn m index (sequence d ringed lap dir) 0, (imagesIn d ringed lap).find? (fun im => decide (im.id = m)) with
    | some k, some im =>
      let d := reachLap d ringed lap dir
      let p := progressAt d ringed dir
      if k < p.next then d
      else
        let d := setProgress (missRange d ringed lap dir p.next k) ringed dir { lap := lap, next := k + 1 }
        let d := match body with
          | none => missHank d im lap index
          | some b =>
            let a : Aligned := { ringed := ringed, model := m, pos := index / 2, lap := lap, dir := dir, gen := im.gen, body := b }
            let d1 := { d with ring := { d.ring with align := d.ring.align ++ [a] } }
            if alignDue d1 a || decide (d.ring.align.length < fld d Reg.LAP_CFG 25 16) then d1
            else missHank (evt (cntInc d (Reg.LAP_CNT_LO 8)) Reg.LAP_EVT 2) im lap index
        pump (removedSweep (endLap (sweepAlign (d.ring.align.length + 1) d) ringed))
    | _, _ => d

/-! ### The hank store (10 R283, R285, R286, R288) -/

/-- Free places of a slice of the hank store. -/
def freePlace (d : Dev) (c : Nat) : Option Nat :=
  (List.range (hstoreWords d / 1024)).find? (fun k => !d.ring.store.any (fun e => decide (e.canon = c) && decide (e.place = k)))

/-- A place for a hank: a pinned block on the die that is its origin (10 R277, R290), a ringed shard spread over the dies (10 R283), the lowest live slice with room first. -/
def newPlace (d : Dev) (im : Image) (block index : Nat) : Option (Nat × Nat) :=
  let die := if im.ringed then index / 2 % 4 else dieAt (originOf 4 (index % 2) block)
  let order := (liveCanon d).filter (fun c => decide (c / 64 = die)) ++ (if im.ringed then (liveCanon d).filter (fun c => decide (c / 64 ≠ die)) else [])
  order.findSome? (fun c => (freePlace d c).map (fun k => (c, k)))

/-- The place of a hank of an image in the store. -/
def storeAt (d : Dev) (m gen index : Nat) : Option StoreEnt :=
  d.ring.store.find? (fun e => decide (e.model = m) && decide (e.gen = gen) && decide (e.index = index))

/-- A free place on the die of a canonical index. -/
def diePlace (d : Dev) (c : Nat) : Option (Nat × Nat) :=
  ((liveCanon d).filter (fun x => decide (x / 64 = c / 64))).findSome? (fun x => (freePlace d x).map (fun k => (x, k)))

/-- The words of a place written or read on the slice that serves it, by the die's ring agent (06 R156). -/
def writePlace (d : Dev) (c k : Nat) (body : List Byte) : Dev :=
  match servingSite d c with
  | none => d
  | some s => (List.range 1024).foldl (fun d j => portWrite d s (hstoreBase d + 1024 * k + j) portRing (slice body (64 * j) 64) true) d

/-- Words read by the ring agent, for which no task waits. -/
def readWords (s w : Nat) : Nat → Dev → Option (List Byte) × Dev
  | 0, d => (some [], d)
  | n + 1, d =>
    match readWord (takeTurn d s w portRing false) s w 0 1 with
    | (none, d) => (none, d)
    | (some x, d) =>
      match readWords s (w + 1) n d with
      | (none, d) => (none, d)
      | (some y, d) => (some (x ++ y), d)

def readPlace (d : Dev) (c k : Nat) : Option (List Byte) × Dev :=
  match servingSite d c with
  | none => (none, d)
  | some s => readWords s (hstoreBase d + 1024 * k) 1024 d

/-- Where a hank of the store goes: its own place; with its slice lost without a spare, a free place on the same die; nowhere while its spare is not LIVE (10 R288); a new place for a hank that has none. -/
def placeFor (d : Dev) (im : Image) (block index : Nat) : Option (Nat × Nat) :=
  match storeAt d im.id im.gen index with
  | none => newPlace d im block index
  | some e => if (servingSite d e.canon).isSome then some (e.canon, e.place) else if d.wdn.noSpare.contains e.canon then diePlace d e.canon else none

/-- A hank written into the store (10 R283, R285). -/
def storeHank (d : Dev) (im : Image) (block index : Nat) (body : List Byte) : Dev :=
  match placeFor d im block index with
  | none => d
  | some (c, k) =>
    let rest := d.ring.store.filter (fun e => !(decide (e.model = im.id) && decide (e.gen = im.gen) && decide (e.index = index)))
    writePlace { d with ring := { d.ring with store := rest ++ [{ model := im.id, gen := im.gen, index := index, canon := c, place := k }] } } c k body

/-- A hank from its place in the store, with its BODY_CRC checked. -/
def storedHank (d : Dev) (im : Image) (index : Nat) : Option (List Byte) × Dev :=
  match storeAt d im.id im.gen index with
  | none => (none, d)
  | some e =>
    match (if e.bad then (none, d) else readPlace d e.canon e.place) with
    | (some b, d) => (if bodyGood im index b then some b else none, d)
    | (none, d) => (none, d)

/-- Whether the golden copy of a hank is damaged, so that its reads go to its source until it is rebuilt (11 R326). -/
def goldenDamaged (d : Dev) (im : Image) (index : Nat) : Bool := (copyAt d im.id im.gen (if im.ringed then 2 + index % 2 else 0)).any (fun c => c.damaged)

/-- A hank of this station's shard from its golden copy; when that fails, of a pinned model from its mirror (10 R284, R285), and of a ringed one whose golden copy is damaged from the hank store, the source of
its rebuild (11 R325, R326). -/
def seedBody (d : Dev) (im : Image) (index : Nat) : Option (List Byte) × Dev :=
  match goldenHank d im index with
  | (some b, d) => (some b, d)
  | (none, d) =>
    if im.ringed then (if goldenDamaged d im index then storedHank d im index else (none, d))
    else
      match mirrorHank d im index with
      | (some b, d) => (some b, cntInc d (Reg.LAP_CNT_LO 6))
      | (none, d) => (none, d)

/-- A hank that this station cannot read (10 R285, R287). The origin of a ringed hank asks station s + 1 for its mirror, on this lap and on every later one; that the mirror is unreadable too shows here when a
hank asked for has not come by the next lap, and an entry is made from then on (DEDUCED, log entry 112). -/
def unreadable (d : Dev) (im : Image) (index : Nat) (adopted : Bool) : Dev :=
  let key := (im.id, index)
  let log := elog 3 5 0x0503 im.id index d
  if im.ringed && !adopted then
    let asked := d.ring.mirrorAsked.contains key
    let d := if asked then log else { d with ring := { d.ring with mirrorAsked := d.ring.mirrorAsked ++ [key] } }
    sendMsg d 2 ((stationNo d + 1) % max 1 (ringSize d)) ([byteOf im.id] ++ beBytes 4 index ++ beBytes 3 (d.ring.rlap % 2 ^ 24))
  else log

/-- A pinned successor seeded into its own store while its predecessor serves (10 R291): places for its hanks, written from the golden copy. -/
def seedStaged (d : Dev) (im : Image) : Dev :=
  if im.ringed || (modelAt d im.id).active.isNone then d
  else (List.range im.hanks.length).foldl (fun d index =>
    match seedBody d im index with
    | (some b, d) => storeHank d im (blockNo (positions im) 4 (index / 2)) index b
    | (none, d) => unreadable d im index false) d

/-- The body that an origin launches in a lap (10 R285, R286, R288): from the golden copy in a seeding lap, else from the store, and from the golden copy where the store fails; an adopted
shard from the mirror on every lap (10 Table LAP-7). -/
def launchBody (d : Dev) (im : Image) (block index : Nat) (adopted : Bool) : Option (List Byte) × Dev :=
  if adopted then
    match mirrorHank d im index with
    | (some b, d) => (some b, cntInc d (Reg.LAP_CNT_LO 6))
    | (none, d) => (none, unreadable d im index true)
  else
    let fromGold := fun (d : Dev) (repair : Bool) =>
      match seedBody d im index with
      | (some b, d) => (some b, storeHank (if repair then cntInc d (Reg.LAP_CNT_LO 5) else d) im block index b)
      | (none, d) => (none, unreadable d im index false)
    if (modelAt d im.id).seeding then fromGold d false
    else
      match storeAt d im.id im.gen index with
      | none => fromGold d true
      | some e =>
        if e.bad then fromGold d true
        else
          match readPlace d e.canon e.place with
          | (some b, d) => (some b, d)
          | (none, d) => fromGold d true

/-! ### Hanks on the link (10 R274, R279, R299) -/

/-- A hank's header (10 Table LAP-3). -/
def hankHeader (im : Image) (index lap : Nat) (repairDst : Option Nat) : List Byte :=
  let h := im.hanks.getD index { layer := 0, hank := 0, crc := 0 }
  let b := [byteOf im.id, byteOf (index % 2 + (if repairDst.isSome then 2 else 0)), byteOf (repairDst.getD 0), 0] ++ beBytes 4 im.gen ++ beBytes 2 h.layer ++ beBytes 2 h.hank ++ beBytes 4 index ++
    beBytes 4 lap ++ beBytes 4 h.crc ++ [0, 0, 0, 0]
  b ++ beBytes 4 (crc32c b)

/-- A hank as 256 parts, with its header in META (09 R251, 10 R274). -/
def hankParts (m : Nat) (header body : List Byte) : List HankPart :=
  (List.range 256).map (fun p => { part := p, model := m, hmeta := if p < 11 then padTo 3 (slice header (3 * p) 3) else [0, 0, 0], data := slice body (256 * p) 256 })

/-- A hank leaves on a pass unless the next pass is its origin's (10 R279); a pass whose end is looped back turns (10 R299), and a turned pass of its own direction takes the hank here. -/
def forwardHank (d : Dev) (origin dir : Nat) (parts : List HankPart) (here : Dev → Dev) : Nat → Pass → Dev
  | 0, _ => d
  | fuel + 1, q =>
    let own := if dir = 0 then Pass.east else Pass.west
    let n := max 1 (ringSize d)
    if turnsHank d q then
      if q.turn = own ∧ origin = stationNo d then d
      else forwardHank (if q.turn = own then here d else d) origin dir parts here fuel q.turn
    else
      let next := match q with | .east => (stationNo d + 1) % n | .west => (stationNo d + n - 1) % n
      if q = own ∧ next = origin then d else modPort d q.port (fun x => { x with hankQ := x.hankQ ++ [parts] })

/-! ### LAP_LAUNCH (10 R278, R285, R290, R301) -/

/-- Whether every hank of the lap has passed in both directions. -/
def lapOver (d : Dev) (ringed : Bool) : Bool :=
  let lap := schedLap d ringed
  (List.range 2).all (fun dir => decide ((progressAt d ringed dir).lap = lap) && decide ((sequence d ringed lap dir).length ≤ (progressAt d ringed dir).next))

/-- Whether ringed hanks may be launched at all: a formed ring that is not SPLIT and has more than one live station (10 R302, Table LAP-7). -/
def ringOpen (d : Dev) : Bool := (decide (d.ring.mode = 1) || decide (d.ring.mode = 2)) && decide (1 < ringSize d) && decide (d.ring.nLive ≠ 1)

/-- The number of the next lap to start here, when one may start (10 R278, R301): the first lap of a schedule that stood is the lap at which its first image takes effect. -/
def nextLap (d : Dev) (ringed : Bool) : Option Nat :=
  let lap := schedLap d ringed
  let due := (d.model.filter (fun x => decide (x.2.pend ≠ 0) && x.2.target.any (fun im => decide (im.ringed = ringed)))).filterMap (fun x => x.2.effLap)
  let first := due.foldl (fun (b : Option Nat) e => match b with | none => some e | some y => some (if lapBefore e y then e else y)) none
  let next := if schedRun d ringed then (lap + 1) % 2 ^ 32 else
    match (if ringed then d.ring.reformAt.filter (fun e => !(imagesIn d ringed e).isEmpty) else none), (imagesIn d ringed lap).isEmpty, first with
    | some e, _, _ => e
    | none, true, some e => e
    | none, _, _ => (lap + 1) % 2 ^ 32
  let may := if schedRun d ringed = false then true
    else if ringed && d.ring.interrupted then d.ring.noticeW.isSome && d.ring.noticeE.isSome
    else lapOver d ringed
  if may && !(imagesIn d ringed next).isEmpty then some next else none

/-- One hank launched: its body, its pass of this station, and the wire. -/
def launchOne (d : Dev) (ringed : Bool) (lap block dir : Nat) (im : Image) (index : Nat) : Dev :=
  let me := stationNo d
  let adopted := ringed && decide (originOf (originsOf d ringed) dir block ≠ me)
  match launchBody d im block index adopted with
  | (none, d) => passHank d ringed lap im.id index none
  | (some b, d) =>
    let d := passHank d ringed lap im.id index (some b)
    if ringed then forwardHank d me dir (hankParts im.id (hankHeader im index lap none) b) id 3 (if dir = 0 then .east else .west) else d

/-- The next hank of a direction launched, when its block is this station's and the block before it has passed; block 0 of the next lap starts that lap. -/
def launchNext (ringed : Bool) (dir : Nat) (d : Dev) : Dev :=
  let mine := fun (d : Dev) (block : Nat) => !ringed || decide (launcherOf d (originOf (originsOf d ringed) dir block) = stationNo d)
  let go := fun (d : Dev) (lap : Nat) (x : Nat × Image × Nat) => if mine d x.1 then launchOne d ringed lap x.1 dir x.2.1 x.2.2 else d
  let p := progressAt d ringed dir
  let lap := schedLap d ringed
  let cur := if schedRun d ringed ∧ p.lap = lap then (sequence d ringed lap dir)[p.next]? else none
  let restart := ringed && d.ring.interrupted && mine d 0 && d.ring.noticeW.isSome && d.ring.noticeE.isSome
  match (if restart then none else cur) with
  | some x => if ringed && d.ring.held then d else go d lap x
  | none =>
    match nextLap d ringed with
    | none => d
    | some l =>
      if !mine d 0 then d
      else
        let d := (List.range 2).foldl (fun d k => reachLap d ringed l k) d
        match (sequence d ringed l dir)[0]? with
        | some x => go d l x
        | none => d

/-- LAP_LAUNCH: `count` hanks of a direction launched one after another. The order of the launches of the two directions and of arrivals is the order of the commands. -/
def devLapLaunch (pinned west : Bool) (count : Nat) (d : Dev) : Dev :=
  if (!pinned && !ringOpen d) || decide (d.code < 5) || decide (d.code = stLost) || decide (d.code = stSleep) then d
  else (List.range count).foldl (fun d _ => launchNext (!pinned) (if west then 1 else 0) d) (if pinned then d else removedSweep (endLap d true))

/-! ### HANK (10 R275, R279, R286, R287) -/

/-- The header that a hank's META carries. -/
def headerOfParts (ps : List HankPart) : List Byte := (((ps.filter (fun p => decide (p.part < 11))).map (fun p => p.hmeta)).flatten).take 32

/-- Whether a hank's parts are all there, in order, with zero META where META is unused (10 R275). -/
def partsOk (ps : List HankPart) : Bool :=
  decide (ps.map (fun p => p.part) = List.range 256) && ps.all (fun p => decide (p.part < 11) || allZero p.hmeta) &&
    (ps.getD 10 { part := 0, model := 0, hmeta := [], data := [] }).hmeta.getD 2 0 == 0

/-- Whether the header of a hank is good: its CRC, its reserved fields, and the model id of every flit. -/
def headerGood (ps : List HankPart) (h : List Byte) : Bool :=
  partsOk ps && decide (beAt h 28 4 = crc32c (h.take 28)) && decide (1 ≤ beAt h 0 1 ∧ beAt h 0 1 ≤ 16) && decide (beAt h 1 1 < 4) && decide (beAt h 3 1 = 0) && decide (beAt h 24 4 = 0) &&
    ((beAt h 1 1).testBit 1 || decide (beAt h 2 1 = 0)) && ps.all (fun p => decide (p.model = beAt h 0 1))

/-- The image that a hank's generation names at this station (10 R275): the active or staged one. In the lap before the last switch the image that was active in it is meant: a lap carries one image only (10 R297),
and its last hanks arrive here when the next lap has begun (DEDUCED, log entry 113). -/
def hankImage (d : Dev) (m gen lap : Nat) : Option Image :=
  let x := modelAt d m
  let before := if x.effLap = some ((lap + 1) % 2 ^ 32) then x.imageOf lap else none
  ([x.active, x.staged, before].filterMap id).find? (fun im => decide (im.gen = gen))

/-- A REISSUE to the origin of a bad hank, once for each hank and lap (10 R286). -/
def reissue (d : Dev) (m index lap : Nat) (im : Image) : Dev :=
  let key := (m, index, lap)
  if d.ring.reissued.contains key then d
  else
    let n := max 1 (ringSize d)
    let o := launcherOf d (originOf n (index % 2) (blockNo (positions im) n (index / 2)))
    let d := cntInc { d with ring := { d.ring with reissued := d.ring.reissued ++ [key] } } (Reg.LAP_CNT_LO 3)
    sendMsg d 1 o ([byteOf m] ++ beBytes 4 index ++ beBytes 3 (lap % 2 ^ 24))

/-- What a hank is taken for: its model, index and lap. A header whose CRC fails is taken for the next hank that its direction expects (07 R199), and in a fold for what it says. -/
def identify (d : Dev) (p : Nat) (good : Bool) (h : List Byte) : Option (Nat × Nat × Nat) :=
  if good then some (beAt h 0 1, beAt h 12 4, beAt h 16 4)
  else if d.ring.mode = 1 then
    let dir := if p = 0 then 0 else 1
    let pr := progressAt d true dir
    ((sequence d true pr.lap dir)[pr.next]?).map (fun x => (x.2.1.id, x.2.2, pr.lap))
  else
    match (modelAt d (beAt h 0 1)).active with
    | some im => if beAt h 12 4 < im.hanks.length then some (beAt h 0 1, beAt h 12 4, beAt h 16 4) else none
    | none => none

/-- A hank written into the rebuild of a damaged copy (11 R326): kind + 10 is the copy that is being rebuilt. -/
def addPartial (d : Dev) (im : Image) (kind index : Nat) (body : List Byte) : Dev :=
  match copyAt d im.id im.gen kind with
  | none => d
  | some c =>
    let b := (copyAt d im.id im.gen (kind + 10)).getD { model := im.id, gen := im.gen, kind := kind + 10, stack := c.stack, hanks := [], granules := [] }
    if !c.damaged || !c.hanks.contains index || b.hanks.contains index then d
    else
      let gs := (freeGranules d c.stack).take 32
      if gs.length < 32 then d
      else
        match writeGranules c.stack gs body d with
        | none => d
        | some d =>
          let rest := d.xmem.copies.filter (fun x => !(decide (x.model = im.id) && decide (x.gen = im.gen) && decide (x.kind = kind + 10)))
          cntAdd { d with xmem := { d.xmem with copies := rest ++ [{ b with hanks := b.hanks ++ [index], granules := b.granules ++ gs }] } } (xreg c.stack (0x80 + 8 * 9)) 65536

/-- A repair hank (10 R287): the origin that asked writes it to its golden copy and its store; anywhere else it is dropped and counted. -/
def takeRepair (d : Dev) (p : Nat) (h body : List Byte) (good : Bool) : Dev :=
  let m := beAt h 0 1
  let index := beAt h 12 4
  match hankImage d m (beAt h 4 4) (beAt h 16 4) with
  | some im =>
    if decide (beAt h 2 1 = stationNo d) && good && im.ringed && decide (p = 1) then
      let kind := 2 + index % 2
      let d := match copyAt d m im.gen kind with
        | some c =>
          if c.damaged then addPartial d im kind index body
          else
            (match indexIn index c.hanks 0 with
             | some k => (writeGranules c.stack ((c.granules.drop (32 * k)).take 32) body d).getD d
             | none => d)
        | none => d
      let n := max 1 (ringSize d)
      let d := storeHank d im (blockNo (positions im) n (index / 2)) index body
      cntInc { d with ring := { d.ring with mirrorAsked := d.ring.mirrorAsked.filter (fun x => decide (x ≠ (m, index))) } } (Reg.LAP_CNT_LO 6)
    else protoErr d p 0x10
  | none => protoErr d p 0x10

/-- A hank of the upstream shard written into the rebuild of a damaged mirror as it passes (10 R287, 11 R326). -/
def mirrorTake (d : Dev) (im : Image) (index : Nat) (body : List Byte) : Dev := addPartial d im (4 + index % 2) index body

/-- A hank relayed, bad or good (10 R279, R286), up to the station before its origin; 256 stands for an origin that the hank does not name. With no room in the relay buffer one that would go on is dropped. -/
def relayHank (d : Dev) (p : Nat) (overflow : Bool) (origin dir m index : Nat) (ps : List HankPart) (here : Dev → Dev) : Dev :=
  let gone := forwardHank d origin dir ps here 3 (passFrom p)
  if overflow && decide (gone.ports ≠ d.ports) then elog 1 5 0x0502 m index (evt (cntInc d (Reg.LAP_CNT_LO 7)) Reg.LAP_EVT 2) else gone

/-- HANK (10 R274 to R281, R286): the hank that arrived first on a port is checked, relayed and passed to the cores. `overflow`: the relay buffer has no room (10 R279). -/
def devHank (p : Fin 2) (overflow : Bool) (d : Dev) : Dev :=
  match (portAt d p.val).hanks with
  | [] => d
  | ps :: rest =>
    let d := modPort d p.val (fun x => { x with hanks := rest })
    let h := headerOfParts ps
    let body := (ps.map (fun q => q.data)).flatten
    if d.ring.mode = 0 ∨ (d.ring.mode = 2 ∧ turnsHank d (if p.val = 0 then .west else .east) = true) then protoErr d p.val 0x10
    else
      let d := cntInc d (Reg.LAP_CNT_LO 0)
      let hg := headerGood ps h
      let im := if hg then hankImage d (beAt h 0 1) (beAt h 4 4) (beAt h 16 4) else none
      let good := hg && (match im with
        | some im => decide (bodyCrc im.gen { layer := beAt h 8 2, hank := beAt h 10 2, crc := 0 } (beAt h 12 4) body = beAt h 20 4)
        | none => false)
      let d := if good then d else evt (cntInc d (Reg.LAP_CNT_LO (if hg && im.isSome then 2 else 1))) Reg.LAP_EVT 1
      if hg && (beAt h 1 1).testBit 1 then takeRepair d p.val h body good
      else
        match identify d p.val hg h with
        | none => relayHank d p.val overflow 256 (if d.ring.mode = 1 then p.val else beAt h 1 1 % 2) (beAt h 0 1) (beAt h 12 4) ps id
        | some (m, index, lap) =>
          let dir := index % 2
          let here := fun (d : Dev) => passHank d true lap m index (if good then some body else none)
          let pass := passFrom p.val
          let own := if dir = 0 then Pass.east else Pass.west
          let which := ((modelAt d m).imageOf lap).orElse (fun _ => (modelAt d m).active)
          let d := match which with
            | some im => if good then mirrorTake d im index body else reissue d m index lap im
            | none => d
          let d := if pass = own then here d else d
          let n := max 1 (ringSize d)
          let o := match which with
            | some im => if index < im.hanks.length then launcherOf d (originOf n dir (blockNo (positions im) n (index / 2))) else 256
            | none => 256
          relayHank d p.val overflow o dir m index ps here

/-! ### HANK_DELIVERY (07 R199 to R201) -/

/-- The slot that the ring agent chooses: the lowest empty one, else the unbound one whose hank came first. -/
def chooseSlot (c : Core) : Option Nat :=
  let all := List.range (skeinAt c 63).count
  match all.find? (fun k => (c.hslots.getD k none).isNone) with
  | some k => some k
  | none =>
    let bound := boundSlots c
    (all.filter (fun k => !bound.contains k)).foldl (fun (b : Option Nat) k =>
      match b with
      | none => some k
      | some j => if ((c.hslots.getD k none).map (fun h => h.order)).getD 0 < ((c.hslots.getD j none).map (fun h => h.order)).getD 0 then some k else some j) none

/-- A hank written into a core's hank skein. -/
def deliverTo (d : Dev) (i m lap : Nat) (h : Nat × Nat × List Byte) : Dev :=
  let c := coreAt d i
  let hd : HankDef := { layer := h.1, hank := h.2.1, crc := 0 }
  match chooseSlot c with
  | none => coreMiss d i m lap hd
  | some k =>
    let s := skeinAt c 63
    let base := localWord (hankBase c k)
    let d := (List.range 1024).foldl (fun d j => portWrite d i (base + j) portRing (slice h.2.2 (64 * j) 64) true) d
    let d := modCore d i (fun c => { c with
      hslots := setAt (c.hslots ++ List.replicate (s.count - c.hslots.length) none) k (some { model := m, layer := h.1, hank := h.2.1, lap := lap, order := c.horder })
      horder := c.horder + 1 })
    let d := setSkein d i 63 ((skeinAt (coreAt d i) 63).setTag k true)
    settleCore (noteSeen d i m lap hd) i m

/-- HANK_DELIVERY (07 R199): the next hanks that wait for a core are written into its hank skein. -/
def devHankDelivery (i : Fin 288) (d : Dev) : Dev :=
  match d.ring.deliver.find? (fun x => x.sites.contains i.val) with
  | none => d
  | some x =>
    let left := d.ring.deliver.filterMap (fun y => if y = x then (let s := y.sites.filter (fun k => decide (k ≠ i.val)); if s.isEmpty then none else some { y with sites := s }) else some y)
    let d := { d with ring := { d.ring with deliver := left } }
    pump (removedSweep (x.hanks.foldl (fun d h => deliverTo d i.val x.model x.lap h) d))

/-! ### MODEL_CLEANUP (10 R298; 18 R528) -/

/-- Whether tasks made for an image still run. -/
def imageBusy (d : Dev) (im : Image) : Bool := d.rvp.reqs.any (fun x => decide (x.2.model = im.id) && decide (x.2.slotGen = im.gen) && !x.2.tasks.isEmpty)

/-- MODEL_CLEANUP: images left behind by a switch whose last task has ended give up their resources; a removed model's flow entries are freed and its copies discarded. -/
def devModelCleanup (m : Fin 16) (d : Dev) : Dev :=
  let id := m.val + 1
  let gone := ((modelAt d id).going).filter (fun im => !imageBusy d im)
  if gone.isEmpty then d
  else
    let d := setModel d id { modelAt d id with going := ((modelAt d id).going).filter (fun im => !gone.contains im) }
    let keep := installed d
    let d := gone.foldl (fun d im => uninstall d im keep) d
    let d := prunePlacement d keep
    let x := modelAt d id
    let kept := [x.active, x.staged, x.prev].filterMap (fun y => y.map (fun im => im.gen)) ++ x.going.map (fun im => im.gen)
    let d := { d with xmem := { d.xmem with copies := d.xmem.copies.filter (fun c => decide (c.model ≠ id) || kept.contains c.gen) } }
    let d := { d with ring := { d.ring with store := d.ring.store.filter (fun e => decide (e.model ≠ id) || kept.contains e.gen) } }
    if x.active.isNone then freeModel d id else d

end Sys2Proof.Machine
end

