-- ==== Sys2Proof/Machine/Loads.lean ====
section
/-! DEFINITION. Model loading (13 R383 to R387; 18 R526, R527): MODEL_LOAD's operations, VERIFYING and STORING. -/

namespace Sys2Proof.Machine

/-! ### The checks of a MODEL_LOAD (13 R384) -/

/-- The first check of a MODEL_LOAD's body that fails, as the error and the offset of the field in the frame (13 Table RVP-12, R388). -/
def loadFormat (b : List Byte) : Option (Nat × Nat) :=
  let op := beAt b 16 1
  let len := beAt b 20 2
  let data := b.length - 48
  firstFail [(decide (b.length < 48), eFormat, 8), (decide (op = 0 ∨ 5 < op), eReserved, 16), (decide (beAt b 17 1 = 0 ∨ 16 < beAt b 17 1), eReserved, 17),
    (decide (1 < beAt b 18 1), eReserved, 18), (decide (beAt b 19 1 ≠ 0), eReserved, 19), (decide (beAt b 22 2 ≠ 0), eReserved, 22), (decide (beAt b 28 4 ≠ 0), eReserved, 28),
    (decide (op = 1 ∧ (len = 0 ∨ 8192 < len ∨ len ≠ data)), eFormat, 20), (decide (op ≠ 1 ∧ (len ≠ 0 ∨ data ≠ 0)), eFormat, 20),
    (decide (op ≠ 1 ∧ beAt b 32 8 ≠ 0), eFormat, 32), (decide (op ≠ 1 ∧ beAt b 40 8 ≠ 0), eFormat, 40)]

/-- A MODEL_LOAD at the front of the frames that wait: a bad one is answered, a good one of the operation acted on, another left for the row of its operation. -/
def loadRow (op : Nat) (act : Dev → Nat → List Byte → Dev) (d : Dev) : Dev :=
  match takeBody d 7 with
  | none => d
  | some (x, e) =>
    let b := x.data
    let n := beAt b 2 2
    match sessAt e n with
    | none => e
    | some s =>
      if s.role ≠ 2 then errSess e n eRole 7 0 0
      else
        match loadFormat b with
        | some (c, off) => errSess e n c 7 off 0
        | none => if beAt b 16 1 = op then act e n b else d

/-! ### Loads (13 R385) -/

/-- The load in progress of a model id: its register block and the load. -/
def loadOf (d : Dev) (m : Nat) : Option (Nat × Load) :=
  (List.range 2).findSome? (fun k => match d.rvp.loads.getD k none with
    | some l => if l.busy && decide (l.model = m) then some (k, l) else none
    | none => none)

/-- A load block written. -/
def putLoad (d : Dev) (k : Nat) (l : Load) : Dev := { d with rvp := { d.rvp with loads := setAt d.rvp.loads k (some l) } }

/-- An acknowledgement to the session that owns a load, while that session is open (13 R387). -/
def toOwner (d : Dev) (l : Load) (a : AckInfo) : Dev := if l.owned then loadAck d l.sess a else d

/-- A change of STATUS: the block, LOAD_EVT and the acknowledgement (13 R387). -/
def loadStatus (d : Dev) (k : Nat) (l : Load) (status reason : Nat) : Dev :=
  let busy := decide (status ≤ 3)
  let l := { l with status := status, reason := reason, busy := busy, bytes := if busy then l.bytes else [] }
  toOwner (evt (putLoad d k l) Reg.RVP_EVT 4) l { op := 1, model := l.model, status := status, reason := reason, gen := l.gen, next := l.next }

/-- Bytes of the largest image that the stations' image areas could hold together (log entry on the size limit). -/
def stageLimit (d : Dev) : Nat := max 1 (ringSize d) * ((List.range 4).map (imgArea d)).sum

/-- A chunk against its load (13 R385). -/
def chunkAt (d : Dev) (k : Nat) (l : Load) (b : List Byte) : Dev :=
  let len := beAt b 20 2
  let off := beAt b 32 8
  let ack : AckInfo := { op := 1, model := l.model, status := l.status, gen := l.gen, next := l.next }
  if beAt b 24 4 ≠ l.gen then errSess d l.sess eFormat 7 24 0
  else if beAt b 40 8 ≠ l.size then errSess d l.sess eFormat 7 40 0
  else if off ≠ l.next ∨ l.size < off + len then
    if l.lastAck = 0 ∨ l.lastAck + 100000 ≤ d.now then loadAck (putLoad d k { l with lastAck := d.now }) l.sess ack else d
  else
    let l := { l with next := l.next + len, bytes := l.bytes ++ b.drop 48 }
    let d := putLoad (rcnt d 15 len) k l
    let d := if decide (off = 0) || decide (beAt b 18 1 = 1) then loadAck d l.sess { ack with next := l.next } else d
    if l.next = l.size then loadStatus d k l 2 0 else d

/-- CHUNK (13 R385). -/
def devChunk : Dev → Dev :=
  loadRow 1 (fun d n b =>
    let m := beAt b 17 1
    let refuse := fun (c : Nat) => loadAck d n { op := 1, model := m, status := 6, reason := c, gen := beAt b 24 4 }
    match loadOf d m with
    | some (k, l) => if l.owned && decide (l.sess = n) then chunkAt d k l b else refuse eLoadBusy
    | none =>
      if beAt b 32 8 ≠ 0 then loadAck d n { op := 1, model := m, status := 0xA, gen := beAt b 24 4 }
      else if (modelAt d m).staged.isSome then refuse eLoadBusy
      else
        match (List.range 2).find? (fun k => !(d.rvp.loads.getD k none).any (fun l => l.busy)) with
        | none => refuse eLoadBusy
        | some k =>
          if stageLimit d < beAt b 40 8 then refuse eLoadCapacity
          else
            let l : Load := { model := m, sess := n, gen := beAt b 24 4, size := beAt b 40 8 }
            chunkAt (evt (putLoad d k l) Reg.RVP_EVT 4) k l b)

/-! ### VERIFYING and STORING (13 R386; 18 R524 to R527) -/

/-- LOAD_VERIFY: the load of a block in VERIFYING is checked. -/
def devLoadVerify (k : Fin 2) (d : Dev) : Dev :=
  match d.rvp.loads.getD k.val none with
  | some l =>
    if decide (l.status = 2) && l.busy then
      match verifyImage d l.model l.size l.bytes with
      | .error e => loadStatus d k.val l 6 e
      | .ok (im, _, _, _) => if im.gen ≠ l.gen then loadStatus d k.val l 6 eLoadImage else loadStatus d k.val l 3 0
    else d
  | none => d

/-- LOAD_STORE_COMPLETE: the copies of a load in STORING have been written and read back, and the image is installed and STAGED. -/
def devLoadStoreComplete (k : Fin 2) (d : Dev) : Dev :=
  match d.rvp.loads.getD k.val none with
  | some l =>
    if decide (l.status = 3) && l.busy then
      match parseImage l.bytes with
      | none => loadStatus d k.val l 6 eLoadImage
      | some (im, off) =>
        match (placement d im).bind (fun vm => (itemsAll d im vm).map (fun its => (vm, its))) with
        | none => loadStatus d k.val l 6 eLoadCapacity
        | some (vm, its) =>
          if !capacityOk d im vm its off then loadStatus d k.val l 6 eLoadCapacity
          else
            match storeCopies im l.bytes off d with
            | none => loadStatus (dropImgCopies d im.id im.gen) k.val l 6 eLoadCapacity
            | some d =>
              let d := installItems its d
              let d := { d with det := { d.det with vmap := vm } }
              let owner := if l.owned then (sessAt d l.sess).map (fun s => (l.sess, s.token)) else none
              let d := setModel d im.id { modelAt d im.id with staged := some im, owner := owner, refused := (0, 0) }
              loadStatus (seedStaged (restate d) im) k.val l 4 0
    else d
  | none => d

/-! ### The other operations (13 R387) -/

/-- A staged image taken away: its resources, its copies and its place among the virtual cores. -/
def unstage (d : Dev) (m : Nat) (im : Image) : Dev :=
  let keep := (installed d).filter (fun x => decide (x ≠ im))
  let d := dropImgCopies (uninstall d im keep) m im.gen
  let d := setModel d m { modelAt d m with staged := none, owner := none, refused := (0, 0) }
  let d := { d with ring := { d.ring with store := d.ring.store.filter (fun e => decide (e.model ≠ m) || decide (e.gen ≠ im.gen)) } }
  restate (prunePlacement d (installed d))

/-- ABORT (13 R387). -/
def devAbort : Dev → Dev :=
  loadRow 2 (fun d n b =>
    let m := beAt b 17 1
    let x := modelAt d m
    let none_ := loadAck d n { op := 2, model := m, status := 6, reason := eLoadState }
    match loadOf d m with
    | some (k, l) =>
      if l.owned && decide (l.sess = n) then
        let d := evt (putLoad d k { l with status := 7, busy := false, bytes := [] }) Reg.RVP_EVT 4
        loadAck (if l.status = 3 then dropImgCopies d m l.gen else d) n { op := 2, model := m, status := 7, gen := l.gen, next := l.next }
      else none_
    | none =>
      match x.staged with
      | some im =>
        if x.owner = some (n, ((sessAt d n).map (fun s => s.token)).getD 0) ∧ x.pend ≠ 1 then
          let d := loadEnds (unstage d m im) m im.gen 7
          loadAck d n { op := 2, model := m, status := 7, gen := im.gen, next := im.size }
        else none_
      | none => none_)

/-- An operation that asks for a barrier: refused while a load of the id is in progress, or when the model's state does not allow it. -/
def barrierOp (op kind : Nat) (gen : ModelSt → Option Nat) : Dev → Dev :=
  loadRow op (fun d n b =>
    let m := beAt b 17 1
    let refuse := fun (c : Nat) => loadAck d n { op := op, model := m, status := 6, reason := c }
    if (loadOf d m).isSome then refuse eLoadBusy
    else
      match gen (modelAt d m) with
      | none => refuse eLoadState
      | some g =>
        let d := if d.rvp.reqOps.contains (op, m, n) then d else { d with rvp := { d.rvp with reqOps := d.rvp.reqOps ++ [(op, m, n)] } }
        askBarrier d kind m g)

/-- REMOVE (13 R387). -/
def devRemove : Dev → Dev := barrierOp 3 4 (fun x => x.active.map (fun _ => 0))

/-- ROLLBACK (13 R387). -/
def devRollback : Dev → Dev := barrierOp 4 3 (fun x => x.prev.map (fun im => im.gen))

/-- QUERY (13 R387): the load in progress, or STAGED, ACTIVE with its generation, or NONE. -/
def devQuery : Dev → Dev :=
  loadRow 5 (fun d n b =>
    let m := beAt b 17 1
    let x := modelAt d m
    loadAck d n (match loadOf d m, x.staged, x.active with
      | some (_, l), _, _ => { op := 5, model := m, status := l.status, gen := l.gen, next := l.next }
      | none, some im, _ => { op := 5, model := m, status := 4, bar := x.refused.1, reason := if x.refused.2 = 0 then 0 else eActivateRefused, gen := im.gen, next := im.size, refuse := x.refused.2 }
      | none, none, some im => { op := 5, model := m, status := 5, gen := im.gen }
      | none, none, none => { op := 5, model := m, status := 0xA }))

end Sys2Proof.Machine
end

