-- ==== Sys2Proof/Machine/Dma.lean ====
section
/-! DEFINITION. The DMA engine's descriptor queue (08 R227 to R234): the DMA command, the start and the checks of a descriptor, the seven kinds of transfer, and
the completion of a descriptor. -/

namespace Sys2Proof.Machine

/-! ### Descriptors -/

/-- Whether a kind has a scratchpad address, an external address or a skein as its source and destination (08 Table STREAM-9). -/
inductive End where
  | ext | spad | skein
  deriving DecidableEq, Repr

/-- The source and destination of a KIND. -/
def kindEnds : Nat → Option (End × End)
  | 0 => some (.ext, .spad) | 1 => some (.spad, .ext) | 2 => some (.spad, .spad) | 3 => some (.ext, .skein)
  | 4 => some (.skein, .ext) | 5 => some (.spad, .skein) | 6 => some (.skein, .spad) | _ => none

/-- Reserved bits of an address in the encoding of its side (08 R230). -/
def endReserved (e : End) (v : Nat) : Bool :=
  match e with
  | .ext => decide (2 ^ 40 ≤ v)
  | .spad => decide (2 ^ 30 ≤ v)
  | .skein => decide (2 ^ 16 ≤ v) || decide (bits v 7 6 ≠ 0) || decide (bits v 5 0 = 63)

/-- DCRC of a descriptor (08 Table STREAM-8). -/
def dmaCrcOk (b : List Byte) : Bool := decide (leAt b 60 4 = crc32c (b.take 60))

/-- Reserved KIND, field or bit of a descriptor (08 Table STREAM-10, 0x2). -/
def dmaReserved (b : List Byte) : Bool :=
  let k := leAt b 0 1
  match kindEnds (k % 16) with
  | none => true
  | some (s, t) =>
    decide (32 ≤ k) || (k.testBit 4 && !([0, 2, 6].contains (k % 16))) || decide (leAt b 1 3 ≠ 0) || decide (65535 < leAt b 4 4) ||
      decide (16777216 < leAt b 24 4) || decide (leAt b 28 4 ≠ 0) || decide (leAt b 48 8 ≠ 0) || decide (leAt b 56 4 ≠ 0) ||
      endReserved s (leAt b 8 8) || endReserved t (leAt b 16 8) ||
      decide (2 ^ 39 < (signExtend 64 (leAt b 32 8)).natAbs) || decide (2 ^ 39 < (signExtend 64 (leAt b 40 8)).natAbs)

/-- A descriptor read from its word. -/
def dmaDesc (b : List Byte) : DmaDesc :=
  { kind := leAt b 0 1 % 16, cls := (leAt b 0 1).testBit 4, rows := leAt b 4 4, len := leAt b 24 4, src := leAt b 8 8, dst := leAt b 16 8,
    srcStride := signExtend 64 (leAt b 32 8), dstStride := signExtend 64 (leAt b 40 8) }

/-- Bytes of a descriptor. -/
def DmaDesc.total (x : DmaDesc) : Nat := x.rows * x.len

/-- The start of row `r` of a side. -/
def rowAt (base : Nat) (stride : Int) (r : Nat) : Int := (base : Int) + (r : Int) * stride

/-- The skein that a side names: its core site and its number, when the index is exposed and served (08 R232). -/
inductive SkeinRef where
  | at (site num : Nat)
  | hole
  | gone
  deriving DecidableEq, Repr

/-- The skein of an encoding. -/
def skeinRef (d : Dev) (v : Nat) : SkeinRef :=
  let c := bits v 15 8
  match siteOfCanon d.part c with
  | none => .hole
  | some _ =>
    match servingSite d c with
    | some i => .at i (bits v 5 0)
    | none => if d.wdn.noSpare.contains c then .hole else .gone

/-- The skein side of a descriptor: its encoding and whether the engine is its producer. -/
def DmaDesc.ring (x : DmaDesc) : Option (Nat × Bool) :=
  match kindEnds x.kind with
  | some (_, .skein) => some (x.dst, true)
  | some (.skein, _) => some (x.src, false)
  | _ => none

/-! ### Faults -/

/-- A DMA fault recorded, the first since clear, and the task aborted (08 R233, Table STREAM-11). -/
def dmaFault (d : Dev) (i : Nat) (q : QCmd) (sub cause addr : Nat) : Dev :=
  let r := Reg.CORE_DMA_FAULT i
  let d :=
    if (rd d r).getLsbD 31 then d
    else cntSet (wr d r (BitVec.ofNat 32 (2 ^ 31 + cause * 2 ^ 16 + sub * 2 ^ 12 + q.k % 256))) (Reg.CORE_DMA_FAULT_ADDR_LO i) (BitVec.ofNat 64 addr)
  faultTask d i q.slot cause q.pos

/-- A fault of a transfer: its subcode, 0 for a cause outside Table STREAM-10, its cause and the address. -/
structure XferErr where
  sub : Nat
  cause : Nat
  addr : Nat
  deriving DecidableEq, Repr

/-- A transfer fault reported. -/
def xferFault (d : Dev) (i : Nat) (q : QCmd) (e : XferErr) : Dev :=
  if e.sub = 0 then faultTask d i q.slot e.cause q.pos else dmaFault d i q e.sub e.cause e.addr

/-- The fault of an access by address that names no word in reach. -/
def spadErr (a : Acc) (byteAddr : Nat) : XferErr :=
  match a with
  | .gone => { sub := 0, cause := cReclaim, addr := byteAddr }
  | _ => { sub := 4, cause := cDmaFault, addr := byteAddr }

/-! ### Moving bytes -/

/-- Bytes of the scratchpad that lie in one word. -/
def spadBytesIn (d : Dev) (i n : Nat) (a k : Nat) : Except XferErr (List Byte) × Dev :=
  let g := dGlobal (taskAt (coreAt d i) n).desc
  match access d (canonAt d i) g (a / 64) with
  | .ok s w =>
    (match portRead (countNet d i s g false 1) s w (portFor i s portDma) with
     | (none, d) => (.error { sub := 0, cause := cSpadUncorr, addr := a }, d)
     | (some data, d) => (.ok (slice data (a % 64) k), d))
  | x => (.error (spadErr x a), d)

/-- Bytes of the scratchpad from a byte address; the words are read in order. -/
def spadBytes (d : Dev) (i n a k : Nat) : Except XferErr (List Byte) × Dev :=
  let k1 := min k (64 - a % 64)
  match spadBytesIn d i n a k1 with
  | (.error e, d) => (.error e, d)
  | (.ok x, d) =>
    if k ≤ k1 then (.ok x, d)
    else
      match spadBytesIn d i n (a + k1) (k - k1) with
      | (.error e, d) => (.error e, d)
      | (.ok y, d) => (.ok (x ++ y), d)

/-- A write of bytes inside one word: a whole word with its class, or a locked read-modify-write that keeps the class (06 R163, R168). -/
def spadPut (d : Dev) (i n a : Nat) (data : List Byte) (weight : Bool) : Except XferErr Unit × Dev :=
  let g := dGlobal (taskAt (coreAt d i) n).desc
  match access d (canonAt d i) g (a / 64) with
  | .ok s w =>
    let d := countNet d i s g true 1
    if data.length = 64 then (.ok (), portWrite d s w (portFor i s portDma) data weight)
    else
      (match portMerge d s w (portFor i s portDma) (a % 64) data with
       | (false, d) => (.error { sub := 0, cause := cSpadUncorr, addr := a }, d)
       | (true, d) => (.ok (), d))
  | x => (.error (spadErr x a), d)

/-- The fault of an external access (08 Table STREAM-10). -/
def extErrOf (e : ExtErr × Nat) (write : Bool) : XferErr :=
  match e.1 with
  | .hole => { sub := 8, cause := cXmemFault, addr := e.2 }
  | .failing => { sub := if write then 0xB else 9, cause := cXmemFault, addr := e.2 }
  | .uncorr => { sub := 9, cause := cXmemFault, addr := e.2 }

/-- The external requester class of a site's descriptor queue (11 Table XMEM-8). -/
def dmaClass (i : Nat) : Nat := 1 + siteDie i

/-- The byte address of a byte of a side: linear sides count rows and strides; a skein side counts from the current slot. -/
def sideAddr (d : Dev) (x : DmaDesc) (e : End) (v : Nat) (stride : Int) (t : Nat) : Nat :=
  match e with
  | .skein =>
    (match skeinRef d v with
     | .at s k =>
       let sk := skeinAt (coreAt d s) k
       let slot := match x.ring with | some (_, true) => sk.tail | _ => sk.head
       sk.slotAddr slot * 64 + t % (sk.size * 64)
     | _ => 0)
  | _ => (rowAt v stride (t / max 1 x.len) + (t % max 1 x.len : Nat)).toNat

/-- One piece read from the source. -/
def sideRead (d : Dev) (i : Nat) (q : QCmd) (e : End) (a k : Nat) : Except XferErr (List Byte) × Dev :=
  match e with
  | .ext =>
    (match extRead (passSeams (cntInc d (Reg.CORE_NET_LO i 0)) i (extDie d a)) a k (dmaClass i) with
     | (.error x, d) => (.error (extErrOf x false), d)
     | (.ok b, d) => (.ok b, d))
  | _ => spadBytes d i q.slot a k

/-- One piece written to the destination. -/
def sideWrite (d : Dev) (i : Nat) (q : QCmd) (e : End) (a : Nat) (data : List Byte) (weight : Bool) : Except XferErr Unit × Dev :=
  match e with
  | .ext =>
    (match extWrite (passSeams (cntInc d (Reg.CORE_NET_LO i 1)) i (extDie d a)) a data with
     | (.error x, d) => (.error (extErrOf x true), d)
     | (.ok _, d) => (.ok (), d))
  | _ => spadPut d i q.slot a data weight

/-- Whether a piece of a transfer waits at a seam behind a hank (02 R61). -/
def sideHold (d : Dev) (i : Nat) (e : End) (a : Nat) : Bool :=
  !d.ring.deliver.isEmpty && (match e with | .ext => seamHold d i (extDie d a) | _ => wordHold d i (a / 64))

/-- What a stretch of a transfer comes to. -/
inductive Xfer where
  | moved (d : Dev) (x : DmaDesc)
  | wait (d : Dev) (x : DmaDesc) (cause : Nat)
  | fault (d : Dev) (x : DmaDesc) (e : XferErr)
  deriving DecidableEq, Repr

/-- The tag that the next byte waits on, at a slot boundary of a tagged skein (07 Table SKEIN-2): the blocking cause. -/
def ringWait (d : Dev) (x : DmaDesc) : Option Nat :=
  match x.ring with
  | none => none
  | some (v, prod) =>
    match skeinRef d v with
    | .at s k =>
      let sk := skeinAt (coreAt d s) k
      if !sk.tagged || decide (x.moved % (sk.size * 64) ≠ 0) then none
      else if prod then (if sk.full sk.tail then some 2 else none)
      else if sk.full sk.head then none else some 1
    | _ => none

/-- A slot step at a slot boundary (07 R185). -/
def ringStep (d : Dev) (x : DmaDesc) : Dev :=
  match x.ring with
  | none => d
  | some (v, prod) =>
    match skeinRef d v with
    | .at s k =>
      let sk := skeinAt (coreAt d s) k
      if x.moved % (sk.size * 64) = 0 then setSkein d s k (if prod then sk.prodStep else sk.consStep) else d
    | _ => d

/-- The class that a write of the descriptor gives (08 R230, R232). -/
def xferClass (d : Dev) (x : DmaDesc) : Bool :=
  match x.ring with
  | some (v, true) => (match skeinRef d v with | .at s k => (skeinAt (coreAt d s) k).ecc | _ => false)
  | _ => x.cls

/-- The rest of a transfer, a piece at a time: a piece ends at the end of a row and at a word of the destination, and a slot is a whole number of pieces. -/
def xferRun (i : Nat) (q : QCmd) (s t : End) : Nat → Dev → DmaDesc → Xfer
  | 0, d, x => .moved d x
  | fuel + 1, d, x =>
    if x.total ≤ x.moved then .moved d x
    else
      match ringWait d x with
      | some c => .wait d x c
      | none =>
        let sa := sideAddr d x s x.src x.srcStride x.moved
        let da := sideAddr d x t x.dst x.dstStride x.moved
        let ringRoom := match s with | .skein => 64 - x.moved % 64 | _ => 64
        let k := min (min (x.len - x.moved % max 1 x.len) (64 - da % 64)) ringRoom
        if sideHold d i s sa || sideHold d i t da then .wait d x 5
        else
        match sideRead d i q s sa k with
        | (.error e, d) => .fault d x e
        | (.ok data, d) =>
          match sideWrite d i q t da data (xferClass d x) with
          | (.error e, d) => .fault d x e
          | (.ok _, d) =>
            let x := { x with moved := x.moved + k }
            xferRun i q s t fuel (ringStep (cntAdd d (Reg.CORE_DMA_BYTES_LO i) k) x) x

/-! ### Checks at the start of a descriptor (08 R233) -/

/-- The scratchpad words of a row, as byte range [a, a + len). -/
def rowSpad (d : Dev) (i n : Nat) (a : Int) (len : Nat) : Option XferErr :=
  let bad : XferErr := { sub := 4, cause := cDmaFault, addr := a.toNat }
  if a < 0 ∨ (2 ^ 30 : Int) < a + len then some bad
  else
    let a := a.toNat
    let g := dGlobal (taskAt (coreAt d i) n).desc
    (List.range ((a % 64 + len + 63) / 64)).findSome? (fun k =>
      match access d (canonAt d i) g (a / 64 + k) with
      | .ok _ _ => none
      | x => some (spadErr x ((a / 64 + k) * 64)))

/-- An external row. -/
def rowExt (d : Dev) (a : Int) (len : Nat) : Option XferErr :=
  if a < 0 then some { sub := 3, cause := cDmaFault, addr := 0 }
  else if extPopulated d a.toNat len then none
  else some { sub := 3, cause := cDmaFault, addr := a.toNat }

/-- The rows of a side checked in order. -/
def sideRows (x : DmaDesc) (base : Nat) (stride : Int) (f : Int → Nat → Option XferErr) : Option XferErr :=
  (List.range x.rows).findSome? (fun r => f (rowAt base stride r) x.len)

/-- The skein side of a descriptor against R232 and R189: an index that is being replaced, a region that is out of reach, which only a descriptor that moves bytes is held to, and REACH. -/
def ringRange (d : Dev) (i : Nat) (q : QCmd) (x : DmaDesc) (v : Nat) : Option XferErr :=
  match skeinRef d v with
  | .hole => if x.total = 0 then none else some { sub := 4, cause := cDmaFault, addr := v }
  | .gone => some { sub := 0, cause := cReclaim, addr := v }
  | .at c k =>
    let sk := skeinAt (coreAt d c) k
    let g := dGlobal (taskAt (coreAt d i) q.slot).desc
    if sk.count = 0 then none
    else
      match (if x.total = 0 then none else rowSpad d i q.slot ((sk.base * 64 : Nat) : Int) (sk.size * sk.count * 64)) with
      | some e => some { e with addr := v }
      | none => if sk.reach && !g then some { sub := 0, cause := cReach, addr := v } else none

/-- Checks 0x3 and 0x4 over both sides, for a descriptor that moves bytes (08 R231); and the skein side. -/
def xferRange (d : Dev) (i : Nat) (q : QCmd) (x : DmaDesc) (s t : End) : Option XferErr :=
  let ext := fun (e : End) (b : Nat) (st : Int) => if decide (e = .ext) && decide (x.total ≠ 0) then sideRows x b st (fun a n => rowExt d a n) else none
  let spad := fun (e : End) (b : Nat) (st : Int) => if decide (e = .spad) && decide (x.total ≠ 0) then sideRows x b st (fun a n => rowSpad d i q.slot a n) else none
  let ring := fun (e : End) (v : Nat) => if e = .skein then ringRange d i q x v else none
  ((ext s x.src x.srcStride).or (ext t x.dst x.dstStride)).or
    (((spad s x.src x.srcStride).or (spad t x.dst x.dstStride)).or ((ring s x.src).or (ring t x.dst)))

/-- Checks 0x5 to 0x7 of a skein side. -/
def xferRing (d : Dev) (x : DmaDesc) : Option XferErr :=
  match x.ring with
  | none => none
  | some (v, prod) =>
    let sk := match skeinRef d v with | .at c k => skeinAt (coreAt d c) k | _ => {}
    let stride := if prod then x.dstStride else x.srcStride
    if decide (0 < sk.count) && (decide (x.total % (max 1 (sk.size * 64)) ≠ 0) || decide (stride ≠ 0)) then some { sub := 5, cause := cDmaFault, addr := v }
    else if sk.count = 0 then some { sub := 6, cause := cSkeinDisabled, addr := v }
    else if (if prod then sk.prod else sk.cons).isSome then some { sub := 7, cause := cSkeinBusy, addr := v }
    else none

/-- The role of a chain. -/
def dmaRole (i : Nat) (q : QCmd) : Role := roleOf i q 5

/-- The role taken on a skein side. -/
def takeRing (d : Dev) (i : Nat) (q : QCmd) (x : DmaDesc) : Dev :=
  match x.ring with
  | none => d
  | some (v, prod) =>
    match skeinRef d v with
    | .at c k =>
      let sk := skeinAt (coreAt d c) k
      setSkein d c k (if prod then { sk with prod := some (dmaRole i q) } else { sk with cons := some (dmaRole i q) })
    | _ => d

/-! ### The commands -/

/-- NDESC and DESC of a DMA command (04 Table CORE-13). -/
def dmaN (w : Nat) : Nat := bits w 95 88
def dmaBase (w : Nat) : Nat := bits w 119 96

/-- Whether a word address lies in the slice of the site's canonical index (06 R157). -/
def isLocal (d : Dev) (i addr : Nat) : Bool :=
  let b := sliceBase (canonAt d i)
  decide (b ≤ addr) && decide (addr < b + 32768)

/-- DMA: DESC must lie in the local slice (06 R157); NDESC 0 completes at once (04 R119). -/
def devDma (i : Fin 288) (d : Dev) : Dev :=
  withWord i.val (isFamily .dma) (fun d n w =>
    issueTo d i.val n 5 w (if isLocal d i.val (dmaBase w) then none else some cReach) (decide (dmaN w = 0))) d

/-- The head of a core's DMA queue when its task is not being aborted. -/
def dmaHead (d : Dev) (i : Nat) : Option QCmd :=
  match (coreAt d i).dma.head? with
  | none => none
  | some q => if q.done || (taskAt (coreAt d i) q.slot).fault.isSome then none else some q

/-- DMA_DESCRIPTOR_START (08 R228, R233): the next descriptor of the chain is read and checked in the order of Table STREAM-10; then its role is taken. -/
def devDmaDescriptorStart (i : Fin 288) (d : Dev) : Dev :=
  match dmaHead d i.val with
  | none => d
  | some q =>
    if q.desc.isSome then d
    else
      let a := dmaBase q.word.toNat + q.k
      if !isLocal d i.val a then faultTask d i.val q.slot cReach q.pos
      else
        match spadBytesIn d i.val q.slot (a * 64) 64 with
        | (.error e, d) => faultTask d i.val q.slot e.cause q.pos
        | (.ok b, d) =>
          if !dmaCrcOk b then dmaFault d i.val q 1 cDmaFault (a * 64)
          else if dmaReserved b then dmaFault d i.val q 2 cDmaFault (a * 64)
          else
            let x := dmaDesc b
            match kindEnds x.kind with
            | none => d
            | some (s, t) =>
              match (xferRange d i.val q x s t).or (xferRing d x) with
              | some e => xferFault d i.val q e
              | none =>
                let d := takeRing d i.val q x
                setHead d i.val 5 { q with desc := some { x with finished := decide (x.total = 0) }, wait := 7 }

/-- A transfer of a kind run as far as the tags of its skein allow. -/
def dmaMove (kind : Nat) (i : Nat) (d : Dev) : Dev :=
  match dmaHead d i with
  | none => d
  | some q =>
    match q.desc, kindEnds kind with
    | some x, some (s, t) =>
      if x.kind ≠ kind ∨ x.finished = true then d
      else if stuckAt d i 5 0 then pump (setHead d i 5 { q with wait := 5, since := if q.wait = 5 then q.since else waitStart d i })
      else
        match xferRun i q s t (x.total + 1) d x with
        | .moved d x => pump (setHead d i 5 { q with desc := some { x with finished := true }, wait := 7 })
        | .wait d x' c =>
          let same := decide (q.wait = c) && decide (x'.moved = x.moved)
          pump (setHead d i 5 { q with desc := some x', wait := c, since := if same then q.since else waitStart d i })
        | .fault d x e =>
          let d := setHead d i 5 { q with desc := some x, wait := 7 }
          pump (xferFault d i q e)
    | _, _ => d

/-- EXTERNAL_TO_SCRATCHPAD (KIND 0x0). -/
def devExternalToScratchpad (i : Fin 288) (d : Dev) : Dev := dmaMove 0 i.val d
/-- SCRATCHPAD_TO_EXTERNAL (KIND 0x1). -/
def devScratchpadToExternal (i : Fin 288) (d : Dev) : Dev := dmaMove 1 i.val d
/-- SCRATCHPAD_TO_SCRATCHPAD (KIND 0x2). -/
def devScratchpadToScratchpad (i : Fin 288) (d : Dev) : Dev := dmaMove 2 i.val d
/-- EXTERNAL_TO_SKEIN (KIND 0x3). -/
def devExternalToSkein (i : Fin 288) (d : Dev) : Dev := dmaMove 3 i.val d
/-- SKEIN_TO_EXTERNAL (KIND 0x4). -/
def devSkeinToExternal (i : Fin 288) (d : Dev) : Dev := dmaMove 4 i.val d
/-- SCRATCHPAD_TO_SKEIN (KIND 0x5). -/
def devScratchpadToSkein (i : Fin 288) (d : Dev) : Dev := dmaMove 5 i.val d
/-- SKEIN_TO_SCRATCHPAD (KIND 0x6). -/
def devSkeinToScratchpad (i : Fin 288) (d : Dev) : Dev := dmaMove 6 i.val d

/-- DMA_DESCRIPTOR_COMPLETE (08 R228): the role is given up; the next descriptor may start, or the chain is done. -/
def devDmaDescriptorComplete (i : Fin 288) (d : Dev) : Dev :=
  match dmaHead d i.val with
  | none => d
  | some q =>
    match q.desc with
    | none => d
    | some x =>
      if !x.finished then d
      else
        let d := dropRoles d (fun r => decide (r = dmaRole i.val q))
        pump (setHead d i.val 5 { q with desc := none, k := q.k + 1, done := decide (dmaN q.word.toNat ≤ q.k + 1) })

end Sys2Proof.Machine
end

