-- ==== Sys2Proof/Machine/Twin.lean ====
section
/-! DEFINITION. Twin mode (16 R458 to R464): layer digests, the TWIN flits of the facing link, matching, and divergence reports. -/

namespace Sys2Proof.Machine

/-- A counter of DET_TWIN_CNT. -/
def twinCnt (d : Dev) (k n : Nat) : Dev := cntAdd d (Reg.DET_TWIN_CNT_LO k) n

/-- The facing port: station A's Port E, station B's Port W (16 R458); none without a partner. -/
def facingPort (d : Dev) : Option Nat :=
  if fld d Reg.DET_TWIN_STATUS 31 24 = 0xFF then none else some (fld d Reg.DET_TWIN_STATUS 23 23)

/-- Whether two entries are of one key (16 R462). -/
def TwinEntry.sameKey (a b : TwinEntry) : Bool :=
  decide (a.req = b.req) && decide (a.layer = b.layer) && decide (a.hank = b.hank) && decide (a.vcore = b.vcore)

/-- The bytes of an entry (09 Table LINK-7). -/
def TwinEntry.bytes (e : TwinEntry) : List Byte :=
  beBytes 8 e.req ++ beBytes 2 e.layer ++ beBytes 2 e.hank ++ [byteOf e.vcore, 0] ++ beBytes 8 e.digest

/-- The entry that bytes spell. -/
def twinEntryOf (bs : List Byte) : TwinEntry :=
  { req := beAt bs 0 8, layer := beAt bs 8 2, hank := beAt bs 10 2, vcore := beAt bs 12 1, digest := beAt bs 14 8, mine := false }

/-- An entry packed into the last TWIN payload that waits, when it has room for it, or into a new one (16 R462). -/
def packTwin (l : List (List Byte)) (e : TwinEntry) : List (List Byte) :=
  match l.reverse with
  | x :: r =>
    let n := beAt x 0 2
    if n < 11 then (padTo 256 (beBytes 2 (n + 1) ++ slice x 2 (6 + 22 * n) ++ e.bytes) :: r).reverse
    else l ++ [padTo 256 (beBytes 2 1 ++ List.replicate 6 0 ++ e.bytes)]
  | [] => [padTo 256 (beBytes 2 1 ++ List.replicate 6 0 ++ e.bytes)]

/-- A divergence (16 R463): at the first of a request a report, the event, the log entry and the alert. `a` is this station's entry, `b` the partner's. -/
def diverge (d : Dev) (a b : TwinEntry) : Dev :=
  let d := twinCnt d 3 1
  if d.det.diverged.contains a.req then d
  else
    let r : DivReport := { req := a.req, model := a.model, layer := a.layer, hank := a.hank, vcore := a.vcore, canon := a.canon, site := a.site,
                           mine := a.digest, peer := b.digest, time := d.now }
    let all := d.det.divs ++ [r]
    let d := { d with det := { d.det with divs := all.drop (all.length - 64), diverged := a.req :: d.det.diverged } }
    alert (elog 1 0xA 0x0A01 a.model (a.req % 2 ^ 32) (evt (twinCnt d 4 1) Reg.DET_EVT 3)) 5

/-- An entry compared with what is kept of the other side, or kept itself; the oldest goes when the store is full (16 R462). -/
def compareEntry (d : Dev) (e : TwinEntry) : Dev :=
  match takeFirst (fun x => x.sameKey e && (x.mine != e.mine)) d.det.store with
  | some (x, rest) =>
    let d := { d with det := { d.det with store := rest } }
    if x.digest = e.digest then twinCnt d 2 1 else if e.mine then diverge d e x else diverge d x e
  | none =>
    let full := decide (16384 ≤ d.det.store.length)
    let d := if full then twinCnt d 5 1 else d
    { d with det := { d.det with store := (if full then d.det.store.drop 1 else d.det.store) ++ [e] } }

/-- TWIN_ENTRY (16 R461, R462): a layer's entry sent to the partner and compared, unless its key has been sent before. -/
def twinEntry (d : Dev) (e : TwinEntry) : Dev :=
  match facingPort d with
  | none => d
  | some p =>
    if d.det.send.any (fun x => x.sameKey e && decide (x.model = e.model)) then d
    else
      let d := twinCnt (modPort d p (fun x => { x with twin := packTwin x.twin e })) 0 1
      compareEntry { d with det := { d.det with send := { e with digest := 0, time := 0, canon := 0, site := 0 } :: d.det.send } } e

/-- The layers of a task as (first position attributed, layer, hank of its first HANKWAIT): consecutive HANKWAITs of one LAYER form one layer, and
the first takes in the commands before it (16 R461). -/
def layersOf : List (Nat × Nat × Nat) → Option Nat → List (Nat × Nat × Nat)
  | [], _ => []
  | (p, l, h) :: r, last => if last = some l then layersOf r last else ((if last.isNone then 0 else p), l, h) :: layersOf r (some l)

/-- Words written by the commands at positions [a, b), in program order. -/
def partsIn (ps : List (Nat × List Byte)) (a b : Nat) : List Byte :=
  let mine := ps.filter (fun x => decide (a ≤ x.1) && decide (x.1 < b))
  let at_ := (mine.map (fun x => x.1)).eraseDups.mergeSort (fun x y => decide (x ≤ y))
  (at_.map (fun k => ((mine.filter (fun x => decide (x.1 = k))).map (fun x => x.2)).flatten)).flatten

/-- Whether a VOP or an SE_W pattern of a task at a position in [a, b) has not completed. -/
def twinBusy (c : Core) (n a b : Nat) : Bool :=
  c.vu.any (fun q => decide (q.slot = n) && decide (a ≤ q.pos) && decide (q.pos < b)) ||
  (activeCtx c 2).any (fun y => decide (y.2.task = n) && decide (a ≤ y.2.pos) && decide (y.2.pos < b))

/-- The next layer entry of a task made, if its time has come (16 R461). -/
def twinNext (d : Dev) (i n : Nat) : Option Dev :=
  let c := coreAt d i
  let t := taskAt c n
  if !t.twin || t.fault.isSome || !(modelAt d (dModel t.desc)).twinOn then none
  else
    let ls := layersOf t.layers none
    match ls[t.layersSent]? with
    | none => none
    | some (a, layer, hank) =>
      let stop := (ls[t.layersSent + 1]?).map (fun x => x.1)
      if stop.isNone && decide (t.st ≠ .ending) then none
      else
        let b := stop.getD (t.issue + 1)
        if twinBusy c n a b then none
        else
          let e : TwinEntry := { req := dReqSeq t.desc, layer := layer, hank := hank, vcore := dVcore t.desc, digest := crc64 (partsIn t.parts a b),
                                 time := d.now, model := dModel t.desc, canon := canonAt d i, site := i }
          some (modTask (twinEntry d e) i n (fun t => { t with layersSent := t.layersSent + 1 }))

/-- Every layer entry of a task that can be made. -/
def twinTask (i n : Nat) : Nat → Dev → Dev
  | 0, d => d
  | k + 1, d => match twinNext d i n with | none => d | some d => twinTask i n k d

/-- Every layer entry of a core that can be made. -/
def twinCore (i : Nat) (d : Dev) : Dev :=
  (List.range 8).foldl (fun d n => twinTask i n ((taskAt (coreAt d i) n).layers.length + 1) d) d

/-- The sequenced payload received first on a port, when it is of a type, and the package without it. -/
def takeRx (d : Dev) (p typ : Nat) : Option (List Byte × Dev) :=
  match (portAt d p).rx with
  | (t, b) :: r => if t = typ then some (b, modPort d p (fun x => { x with rx := r })) else none
  | [] => none

/-- Whether the receiver compares an entry: comparison is on for its request's model, or for some model when the request is not known here. -/
def twinWanted (d : Dev) (p : Nat) (e : TwinEntry) : Bool :=
  decide (facingPort d = some p) &&
    (match d.rvp.reqs.find? (fun x => decide (x.2.reqId = e.req) && (modelAt d x.2.model).twinOn) with
     | some _ => true
     | none =>
       d.model.any (fun x => x.2.twinOn) && !d.rvp.reqs.any (fun x => decide (x.2.reqId = e.req)))

/-- Whether twin mode is on over a port: it faces the partner that the configuration image names, and the partner's IDENT names this station (16 R458). -/
def twinMode (d : Dev) (p : Nat) : Bool :=
  let n := d.ring.nbr.getD p {}
  decide (facingPort d = some p) && n.seen && decide (n.station = fld d Reg.DET_TWIN_STATUS 31 24) && decide (n.twin = some (stationNo d))

/-- TWIN (09 R252; 16 R462): the partner's entries are compared; those of a model whose comparison is off are dropped as UNMATCHED. At a station not in twin mode the flit is discarded and counts in PROTO_ERR (09
corner cases of R255). -/
def devTwin (p : Fin 2) (d : Dev) : Dev :=
  match takeRx d p.val 0x13 with
  | none => d
  | some (b, d) =>
    if !twinMode d p.val then protoErr d p.val 0x13
    else
    (List.range (min 11 (beAt b 0 2))).foldl (fun d k =>
      let e := { twinEntryOf (slice b (8 + 22 * k) 22) with time := d.now }
      let d := twinCnt d 1 1
      if twinWanted d p.val e then compareEntry d e else twinCnt d 5 1) d

/-- TWIN_WAIT_EXPIRY (16 R462): entries unmatched after TWIN_WAIT are dropped. -/
def devTwinWaitExpiry (d : Dev) : Dev :=
  let wait := 1000 * fld d Reg.DET_TWIN_CFG 15 0
  let old := d.det.store.filter (fun e => decide (e.time + wait < d.now))
  let d := twinCnt d 5 old.length
  { d with det := { d.det with store := d.det.store.filter (fun e => !decide (e.time + wait < d.now)) } }

end Sys2Proof.Machine
end

