-- ==== Sys2Proof/Machine/Tasks.lean ====
section
/-! DEFINITION. The rest of a task's life (04 R102 to R127): barriers, TAGOPs, EMIT, YIELD and END, completion of unit commands, aborts and the decision on their
request, deadlines, timeouts, and the stall counters. -/

namespace Sys2Proof.Machine

/-! ### Barriers (04 R106, R107) -/

/-- A DEPMARK or LBAR at the issue pointer: it blocks until every unit that it names has completed, or is passed. -/
def barrierWord (f : Family) (i : Nat) (d : Dev) : Dev :=
  withWord i (isFamily f) (fun d n _ =>
    match blockCause d i n with
    | some k => blockTask d i n k
    | none => pump (advance d i n)) d

/-- DEPMARK. -/
def devDepmark (i : Fin 288) (d : Dev) : Dev := barrierWord .depmark i.val d

/-- LBAR. -/
def devLbar (i : Fin 288) (d : Dev) : Dev := barrierWord .lbar i.val d

/-! ### HANKWAIT and PATTERN_END with the layer entries that they complete (16 R461) -/

/-- HANKWAIT (04 R117), and a layer entry that it ends. -/
def devHankwaitTwin (i : Fin 288) (d : Dev) : Dev := removedSweep (twinCore i.val (devHankwait i d))

/-- HANKWAIT_START, with the fallback of a task that may not move past the end of a removed model (10 R298). -/
def devHankwaitStartRow (i : Fin 288) (n : Fin 8) (d : Dev) : Dev := removedSweep (devHankwaitStart i n d)

/-- PATTERN_END (08 R221), and a layer entry that it ends. -/
def devPatternEndTwin (i : Fin 288) (e : Fin 3) (x : Fin 8) (d : Dev) : Dev := twinCore i.val (devPatternEnd i e x d)

/-! ### TAGOP (04 R121) -/

/-- Whether any engine of the core has a pattern active on a skein. -/
def patternOn (c : Core) (k : Nat) : Bool := c.se.any (fun x => decide (x.2.st ≠ 0) && decide (x.2.skein = k))

/-- The checks of a TAGOP in their order. -/
def tagopCause (c : Core) (w : Nat) : Option Nat :=
  let k := bits w 119 114
  let s := skeinAt c k
  let op := bits w 123 120
  if k = 63 then some cCmdFormat
  else if s.count = 0 then some cSkeinDisabled
  else if !s.tagged then some cTagRaw
  else if op ≠ 4 ∧ (s.count ≤ bits w 113 98 ∨ s.count ≤ bits w 97 82) then some cCmdRange
  else if op = 4 ∧ patternOn c k = true then some cSkeinBusy
  else none

/-- The slots that a TAGOP names, wrapping at the slot count. -/
def tagopSlots (s : Skein) (w : Nat) : List Nat := (List.range (bits w 97 82)).map (fun j => (bits w 113 98 + j) % max 1 s.count)

/-- A TAGOP of an OP at the issue pointer. -/
def tagop (op : Nat) (f : Skein → Nat → Skein) (i : Nat) (d : Dev) : Dev :=
  withWord i (fun w => isFamily .tagop w && decide (bits w 123 120 = op)) (fun d n w =>
    let c := coreAt d i
    match tagopCause c w with
    | some e => faultTask d i n e (taskAt c n).issue
    | none =>
      match blockCause d i n with
      | some k => blockTask d i n k
      | none => pump (advance (setSkein d i (bits w 119 114) (f (skeinAt c (bits w 119 114)) w)) i n)) d

/-- SET_FULL. -/
def devSetFull (i : Fin 288) (d : Dev) : Dev := tagop 0 (fun s w => (tagopSlots s w).foldl (fun s k => s.setTag k true) s) i.val d

/-- SET_EMPTY. -/
def devSetEmpty (i : Fin 288) (d : Dev) : Dev := tagop 1 (fun s w => (tagopSlots s w).foldl (fun s k => s.setTag k false) s) i.val d

/-- WAIT_FULL. -/
def devWaitFull (i : Fin 288) (d : Dev) : Dev := tagop 2 (fun s _ => s) i.val d

/-- WAIT_EMPTY. -/
def devWaitEmpty (i : Fin 288) (d : Dev) : Dev := tagop 3 (fun s _ => s) i.val d

/-- TAGOP_RESET: head and tail to slot 0, all slots empty. -/
def devTagopReset (i : Fin 288) (d : Dev) : Dev := tagop 4 (fun s _ => { s with head := 0, tail := 0, tags := 0 }) i.val d

/-! ### EMIT (04 R123) -/

/-- The cause of an EMIT at its issue: reach, then rank and a second EMIT; the lower code of two is recorded. -/
def emitCause (d : Dev) (t : Task) (i w : Nat) : Option Nat :=
  let src := bits w 119 96
  let n := bits w 95 88
  let g := dGlobal t.desc
  let acc := (List.range n).map (fun k => access d (canonAt d i) g (src + k))
  let bad := acc.any (fun a => match a with | .hole => true | .reach => true | _ => false)
  if passesSlice src n || bad then some cReach
  else if decide (dRank t.desc ≠ 0) || t.emitted || (reqAt d t.req).any (fun r => r.emitted) then some cEmitTwice
  else none

/-- EMIT: the words are read and passed to the egress engine, which accepts them at once (13 R378). -/
def devEmit (i : Fin 288) (d : Dev) : Dev :=
  withWord i.val (isFamily .emit) (fun d n w =>
    let c := coreAt d i.val
    let t := taskAt c n
    match emitCause d t i.val w with
    | some e => faultTask d i.val n e t.issue
    | none =>
      if unitDepth 7 ≤ (unitQ c 7).length then blockTask d i.val n (queueCause d i.val 7)
      else
        match unitReadN d i.val n (bits w 119 96) cReach portSeA (bits w 95 88) with
        | (.error e, d) => faultTask d i.val n e t.issue
        | (.ok data, d) =>
          let d := enqueue (modTask d i.val n (fun t => { t with emitted := true })) i.val n 7 w true
          egressTake d t.req ((Fmt.ofCode (bits w 123 120)).getD .fp32) data) d

/-! ### YIELD and END (04 R102, R118) -/

/-- YIELD: another READY task runs, chosen without the one that yields. -/
def devYield (i : Fin 288) (d : Dev) : Dev :=
  withWord i.val (isFamily .yield) (fun d n _ =>
    let d := advance d i.val n
    match bestReady (coreAt d i.val) (some n) with
    | none => d
    | some k =>
      let d := modTask d i.val n (fun t => { t with st := .ready })
      let d := modCore d i.val (fun c => { c with run := some k, last := k, tasks := modAt c.tasks k (fun t => { t with st := .running }) })
      countSwitch d i.val) d

/-- END: ENDING, and another task is chosen; the task of rank 0 must have issued its EMIT. -/
def devEnd (i : Fin 288) (d : Dev) : Dev :=
  withWord i.val (isFamily .end_) (fun d n _ =>
    let t := taskAt (coreAt d i.val) n
    if dRank t.desc = 0 ∧ t.emitted = false then faultTask d i.val n cNoEmit t.issue
    else
      let d := modTask (advance d i.val n) i.val n (fun t => { t with st := .ending })
      chooseTask (twinCore i.val (modCore d i.val (fun c => { c with run := none }))) i.val) d

/-! ### Completion (04 R103, R108, R118) -/

/-- UNIT_COMMAND_COMPLETE (04 R108): the command at the head of a unit's queue that has done all its work leaves it. Patterns complete by PATTERN_END. -/
def devUnitCommandComplete (i : Fin 288) (u : Fin 8) (d : Dev) : Dev :=
  let c := coreAt d i.val
  match unitQ c u.val with
  | q :: r =>
    if q.done then ctxGo i.val (pump (twinCore i.val (setCore d i.val (setUnitQ c u.val r)))) else d
  | [] => d

/-- Whether a task has a command on any unit. -/
def anyBusy (c : Core) (n : Nat) : Bool :=
  [0, 1, 5, 6, 7].any (fun u => (unitQ c u).any (fun q => decide (q.slot = n))) || c.se.any (fun x => decide (x.2.st ≠ 0) && decide (x.2.task = n))

/-- A task taken from its slot and from its request, which may now be forgotten. -/
def freeSlot (d : Dev) (i n : Nat) : Dev :=
  let h := (taskAt (coreAt d i) n).req
  forget (modReq (setTask d i n {}) h (fun r => { r with tasks := r.tasks.filter (fun x => !(decide (x.2.1 = i) && decide (x.2.2 = n))) })) h

/-- TASK_END_COMPLETE (04 R118; 14 R404): the task leaves ENDING when its commands have completed on every unit; the dirty copy of rank 0 is stored first, and the claim ends. -/
def devTaskEndComplete (i : Fin 288) (n : Fin 8) (d : Dev) : Dev :=
  let c := coreAt d i.val
  let t := taskAt c n.val
  if t.st ≠ .ending ∨ anyBusy c n.val = true then d
  else
    let dirty := c.held.find? (fun h => h.claimed && h.dirty && decide (h.slot = n.val) && h.leaving.isNone)
    let stored : Option Nat × Dev :=
      match (if dRank t.desc = 0 then dirty else none) with
      | none => (none, d)
      | some h =>
        match storeHome d i.val h.entry h with
        | (.ok _, d) => (none, fcnt d 4 1)
        | (.error f, d) =>
          let d := markLost (dropCopies d h.entry) h.entry
          (some f.cause, d)
    match stored with
    | (some e, d) => faultTask d i.val n.val e (t.issue - 1)
    | (none, d) =>
      let d := twinCore i.val d
      let d := if dRank t.desc = 0 then endClaim d t.req else d
      ctxAll (pump (freeSlot d i.val n.val))

/-! ### Aborts (04 R125 to R127) -/

/-- The task and position of the command that a unit of a core executes: 0 MU, 1 VU, 2 to 4 a context of SE_A, SE_B or SE_W, 5 DMA, 6 CTX, 7 egress port. -/
def executing (c : Core) (u x : Nat) : Option (Nat × Nat) :=
  if 2 ≤ u ∧ u ≤ 4 then
    let p := ctxAt c (u - 2) x
    if p.st = 0 then none else some (p.task, p.pos)
  else ((unitQ c u).head?).map (fun q => (q.slot, q.pos))

/-- An access that the data path has reported as unanswered. -/
def stuckFor (d : Dev) (i u x : Nat) : Option Stuck := d.wdn.stuck.find? (fun a => decide (a.site = i) && decide (a.unit = u) && decide (a.ctx = x))

/-- The unanswered accesses that meet a condition are forgotten. -/
def clearStuck (d : Dev) (p : Stuck → Bool) : Dev := { d with wdn := { d.wdn with stuck := d.wdn.stuck.filter (fun a => !p a) } }

/-- The pattern contexts of an aborted task stopped, and the slot rings that they filled or drained reset; a task in the other role of such a ring aborts with RECLAIM, or
with SIBLING where it is of the same group (07 R187, corner cases of R204). -/
def stopPatterns (d : Dev) (i n : Nat) : Dev :=
  let c := coreAt d i
  let rings := ((c.se.filter (fun x => decide (x.2.st ≠ 0) && decide (x.2.task = n))).map (fun x => x.2.skein)).eraseDups
  let others := (rings.map (fun k => ((skeinAt c k).prod.toList ++ (skeinAt c k).cons.toList))).flatten
  let d := setCore d i { c with se := c.se.filter (fun x => !(decide (x.2.st ≠ 0) && decide (x.2.task = n))) }
  let d := rings.foldl (fun d k => setSkein d i k (skeinAt (coreAt d i) k).reset) d
  others.foldl (fun d r =>
    if r.site = i ∧ r.slot = n then d
    else faultTask d r.site r.slot (if (taskAt (coreAt d r.site) r.slot).req = (taskAt c n).req then cSibling else cReclaim) r.pos) d

/-- Whether a request whose task has aborted is dispatched again (04 R126). Before the first lap start of the model that this station has seen, L_next is not known and the spec gives none: the request is then
dispatched again while its deadline has not passed (DESIGN CHOICE, log entry 105). -/
def mayRetry (d : Dev) (r : Req) (cause : Nat) : Bool :=
  match (modelAt d r.model).active with
  | none => false
  | some im =>
    !r.emitted && !r.retried && r.blocks.all (usableBlock d r.port) && decide (cause ≠ cDeadline) && decide (cause ≠ cDesc) &&
      (match nextLapEnd d r.model (fracAdd (d.now, 1) (tIn Config.cornerFigures r.payLen)) im with
       | none => decide (d.now ≤ r.deadline)
       | some e => decide (e + tOut Config.cornerFigures ≤ r.deadline))

/-- Whether every virtual core of an EXACT image has a LIVE host (17 R479). -/
def hostsLive (d : Dev) (im : Image) : Bool :=
  (vcores im).all (fun v => match smFind v d.det.vmap with | some (c, _) => (eligible d [] c).isSome | none => false)

/-- Whether the new dispatch of a request finds its cores now: an EXACT one needs LIVE hosts for all its virtual cores (17 R479). -/
def mayPlace (d : Dev) (r : Req) : Bool :=
  match (modelAt d r.model).active with
  | none => false
  | some im => im.fast || hostsLive d im

/-- GROUP_DECISION (04 R126): the other tasks of the group abort with SIBLING; the request is decided once. -/
def groupDecide (d : Dev) (h i cause : Nat) : Dev :=
  match reqAt d h with
  | none => d
  | some r =>
    let d := modReq d h (fun r => { r with aborted := i :: r.aborted })
    let d := r.tasks.foldl (fun d t => faultTask d t.2.1 t.2.2 cSibling (taskAt (coreAt d t.2.1) t.2.2).issue) d
    if r.st ≠ .dispatched ∨ r.emitted = true then d
    else if mayRetry d r cause && mayPlace d r then modReq d h (fun r => { r with st := .queued, retried := true })
    else fallReq d h 2

/-- A task taken off its core (04 R125): its commands discarded, its patterns stopped, its roles and its claim ended and its flow context handled. -/
def takeOff (d : Dev) (i n : Nat) : Dev :=
  let c := coreAt d i
  let keep := fun (l : List QCmd) => l.filter (fun q => !decide (q.slot = n))
  let d := clearStuck d (fun a => decide (a.site = i) && (executing c a.unit a.ctx).any (fun x => decide (x.1 = n)))
  let d := setCore d i { c with mu := keep c.mu, vu := keep c.vu, dma := keep c.dma, ctx := keep c.ctx, egr := keep c.egr }
  ctxAbort (dropRoles (stopPatterns d i n) (fun r => decide (r.site = i) && decide (r.slot = n))) i n

/-- The abort of a task recorded in the registers of its core and in the error log (04 R125, R129): RETRIED shows whether its request is dispatched again. -/
def recordAbort (d : Dev) (i n : Nat) (t : Task) (cause word : Nat) : Dev :=
  let m := dModel t.desc
  let again := !t.again && (reqAt d t.req).any (fun r => r.retried)
  let d := wr d (Reg.CORE_ABORT_LAST i) (BitVec.ofNat 32 (2 ^ 25 + (if again then 2 ^ 24 else 0) + m * 2 ^ 16 + cause * 2 ^ 8 + n))
  let d := wr d (Reg.CORE_ABORT_PC i) (BitVec.ofNat 32 (word % 2 ^ 24))
  elog 2 1 cause i (m * 2 ^ 24 + word % 2 ^ 24) (inc32 d (Reg.CORE_ABORT_COUNT i))

/-- TASK_ABORT (04 R125): a task marked for abort is taken off its core, its request is decided, the abort is recorded and the slot freed. -/
def devTaskAbort (i : Fin 288) (n : Fin 8) (d : Dev) : Dev :=
  let t := taskAt (coreAt d i.val) n.val
  match t.fault with
  | none => d
  | some (cause, word) =>
    let d := groupDecide (takeOff d i.val n.val) t.req i.val cause
    ctxAll (pump (freeSlot (recordAbort d i.val n.val t cause word) i.val n.val))

/-- DEADLINE_EXPIRY (04 R127; 01 R38): the effective deadline of a request passes before its EMIT is accepted: its fallback, decided at that instant, and every task of its group aborts with DEADLINE. A request whose
deadline is its release instant so falls back there, without LATE (13 corner cases of R377). -/
def devDeadlineExpiry (h : Nat) (d : Dev) : Dev :=
  match reqAt d h with
  | none => d
  | some r =>
    if d.now < r.deadline ∨ d.code = stHalted then d
    else
      match r.st with
      | .dispatched | .held =>
        if r.emitted then d
        else
          let d := fallReqAt d h 1 r.deadline
          r.tasks.foldl (fun d t => faultTask d t.2.1 t.2.2 cDeadline (taskAt (coreAt d t.2.1) t.2.2).issue) d
      | .queued | .ready => if r.released then d else fallReqAt d h (if r.retried && !((modelAt d r.model).active).any (fun im => im.fast) then 2 else 3) r.deadline
      | _ => d

/-! ### Timeouts (06 R162; 07 R194) -/

/-- An access that waits on tags: the task and the position of its command, the time at which its wait began, and the skeins. -/
structure TagWait where
  task : Nat
  pos : Nat
  since : Nat
  skeins : List (Nat × Nat)
  deriving DecidableEq, Repr

/-- What a waiter waits on. -/
def waitsOn (d : Dev) (i : Nat) : TagWaiter → Option TagWait
  | .mu =>
    match (coreAt d i).mu.head? with
    | some q =>
      if q.wait = 1 ∨ q.wait = 2 then
        some ⟨q.slot, q.pos, q.since, [(i, if q.wait = 2 then mmaC q.word.toNat else if q.haveTile then mmaA q.word.toNat else mmaB q.word.toNat)]⟩
      else none
    | none => none
  | .vu =>
    match (coreAt d i).vu.head? with
    | some q =>
      if q.wait = 1 then
        let w := q.word.toNat
        let reads := (List.range (vIfmt w).words).map (fun k => vSrcA w + q.k * (vIfmt w).words + k) ++
          (if vReadsB w then (List.range (vBfmt w).words).map (fun k => vSrcB w + q.k * (vBfmt w).words + k) else [])
        let hit := fun (s : Skein) => reads.any (fun a => s.tagged && decide (0 < s.size) && decide (s.base ≤ a) && decide (a < s.base + s.size * s.count) && !s.full ((a - s.base) / s.size))
        some ⟨q.slot, q.pos, q.since, (d.core.map (fun x => (x.2.skeins.filter (fun y => hit y.2)).map (fun y => (x.1, y.1)))).flatten⟩
      else none
    | none => none
  | .dma =>
    match (coreAt d i).dma.head? with
    | some q =>
      match q.desc.bind (fun x => x.ring) with
      | some (v, _) => if q.wait = 1 ∨ q.wait = 2 then (match skeinRef d v with | .at s k => some ⟨q.slot, q.pos, q.since, [(s, k)]⟩ | _ => none) else none
      | none => none
    | none => none
  | .tag n =>
    let t := taskAt (coreAt d i) n.val
    match peekWord d i n.val t.issue with
    | some w => if decide (t.st = .blocked) && isFamily .tagop w && decide (t.cause = 1 ∨ t.cause = 2) then some ⟨n.val, t.issue, t.since, [(i, bits w 119 114)]⟩ else none
    | none => none
  | .se e x =>
    let p := ctxAt (coreAt d i) e.val x.val
    if p.st = 3 then some ⟨p.task, p.pos, p.since, [(i, p.skein)]⟩ else none

/-- SKEIN_TIMEOUT (07 R194): an access still waits on a tag after the skein's TIMEOUT: its task aborts and TIMEOUT_EVT is set. In the cycle of the expiry itself the tag may still change, and the access
then goes on (07 R196). A debug halt of the core holds the timing; the hank skein has no timeout (07 R195). A DMA wait is recorded as a descriptor fault (08 R233). -/
def devSkeinTimeout (i : Fin 288) (w : TagWaiter) (d : Dev) : Dev :=
  if siteHalted d i.val then d
  else
    match waitsOn d i.val w with
    | none => d
    | some x =>
      let late := x.skeins.filter (fun k =>
        let s := skeinAt (coreAt d k.1) k.2
        decide (k.2 ≠ 63) && decide (s.timeout ≠ 0) && decide (x.since + 1000 * s.timeout < d.now))
      if late.isEmpty then d
      else
        let d := late.foldl (fun d k => setSkein d k.1 k.2 { skeinAt (coreAt d k.1) k.2 with evt := true }) d
        match w, (coreAt d i.val).dma.head? with
        | .dma, some q => dmaFault d i.val q 10 cSkeinTimeout ((q.desc.bind (fun y => y.ring)).elim 0 (fun y => y.1))
        | _, _ => faultTask d i.val x.task cSkeinTimeout x.pos

/-- The timing of the waits of a core held, or resumed from the same value (07 R196): `since` is the time of the start of a wait, or in a debug halt the time that has passed of it. -/
def flipWaits (d : Dev) (i : Nat) : Dev :=
  let q := fun (l : List QCmd) => l.map (fun x => { x with since := d.now - x.since })
  modCore d i (fun c => { c with mu := q c.mu, vu := q c.vu, dma := q c.dma, se := c.se.map (fun x => (x.1, { x.2 with since := d.now - x.2.since })),
                                 tasks := c.tasks.map (fun t => if t.st = .blocked then { t with since := d.now - t.since } else t) })

/-- The waits of the cores of debug groups held or resumed. -/
def flipGroups (d : Dev) (gs : List Nat) : Dev := (usedSites d).foldl (fun d i => if gs.contains (siteDie i) then flipWaits d i else d) d

/-- DISAGREE raised for a core site (17 R474, R475): a LIVE site becomes SUSPECT and a decision is pending; a SUSPECT one only counts it. -/
def disagree (d : Dev) (i detail : Nat) : Dev :=
  let x := siteInfo d i
  if x.st ≠ .live ∧ x.st ≠ .suspect then d
  else
    let d := setSite d i { x with st := .suspect, deciding := true, disagrees := min 255 (x.disagrees + 1),
                                  suspects := d.now :: x.suspects.filter (fun t => decide (d.now < t + 1000000000)) }
    elog 1 1 0x0101 i detail (evt (cntInc d (Reg.WDN_CNT_LO 0)) Reg.WDN_EVT 0)

/-- REMOTE_TIMEOUT (06 R162): a global access of a unit's command to the slice of `target` has no response for 10 µs: the task aborts with REMOTE and the target is reported. -/
def devRemoteTimeout (i : Fin 288) (u : Fin 8) (x : Fin 8) (target : Fin 288) (d : Dev) : Dev :=
  match executing (coreAt d i.val) u.val x.val with
  | none => d
  | some (n, pos) =>
    if target = i ∨ inService d target.val = false ∨ dGlobal (taskAt (coreAt d i.val) n).desc = false ∨ (stuckFor d i.val u.val x.val).any (fun a => decide (d.now < a.since + 10000)) = true then d
    else disagree (faultTask (clearStuck d (fun a => decide (a.site = i.val) && decide (a.unit = u.val) && decide (a.ctx = x.val))) i.val n cRemote pos) target.val 2

/-! ### The bank and the scrubber (06 R170, R173) -/

/-- BANK_CYCLE (06 R173). -/
def devBankCycle (i : Fin 288) (bank : Fin 64) (fresh : List BankReq) (upset : Option (Fin 32768 × WordErr)) (d : Dev) : Dev :=
  bankCycle i.val bank.val fresh upset d

/-- SCRUB_READ (06 R170). -/
def devScrubRead (i : Fin 288) (d : Dev) : Dev := scrubRead i.val d

/-! ### Stall time (04 R110) -/

/-- One tick of TIME_500 on a core: while no task can issue, the task that ran last counts under its cause. -/
def stallCore (d : Dev) (i : Nat) : Dev :=
  let c := coreAt d i
  let t := taskAt c c.last
  if siteHalted d i then d
  else if decide (t.st = .blocked) && (c.run.isNone || decide (c.run = some c.last)) && decide (t.cause ≤ 5) then cntInc d (Reg.CORE_STALL_LO i t.cause)
  else d

/-- One tick on every core. -/
def stallTick (d : Dev) : Dev := (usedSites d).foldl stallCore d

end Sys2Proof.Machine
end

