-- ==== Sys2Proof/Machine/Ring.lean ====
section
/-! DEFINITION. The ring of stations (10): IDENT and closure, ring messages, what each barrier's commit does, the fold, the re-forming, and the timers of the ring. -/

namespace Sys2Proof.Machine

/-! ### IDENT (10 R270, R271; 16 R458) -/

/-- The first 16 bytes of the SHA-384 of the configuration image's ring section. -/
def ringDigest (d : Dev) : List Byte := (sha384 (cfgSection d.boot.image 1)).take 16

/-- The twin partner of the configuration image, when it names one. -/
def twinPartner (d : Dev) : Option Nat := if fld d Reg.DET_TWIN_STATUS 31 24 = 0xFF then none else some (fld d Reg.DET_TWIN_STATUS 31 24)

/-- An IDENT of this station (10 Table LAP-1). -/
def identBytes (d : Dev) (p : Nat) : List Byte :=
  let n := d.ring.nbr.getD p {}
  padTo 256 (beBytes 4 (rdn d Reg.LAP_INSTALL) ++ [byteOf (fld d Reg.LAP_STATION 30 24), byteOf (stationNo d), byteOf (ringSize d), byteOf p,
    byteOf ((if n.ok then 1 else 0) + (if (twinPartner d).isSome then 2 else 0)), byteOf ((twinPartner d).getD 0), if d.part.gradeS then 2 else 1, 0xB0] ++
    padTo 16 (ringDigest d) ++ beBytes 8 d.part.serial ++ [byteOf d.code])

/-- IDENT_TIMER (10 R270): an UP port sends an IDENT. -/
def devIdentTimer (p : Fin 2) (d : Dev) : Dev :=
  if (portAt d p.val).st = 3 then modPort d p.val (fun x => { x with ident := x.ident ++ [identBytes d p.val] }) else d

/-- The first check of Table LAP-2 that fails on an IDENT, 0 for none. -/
def identCheck (d : Dev) (p : Nat) (b : List Byte) : Nat :=
  let n := max 1 (ringSize d)
  if beAt b 0 4 ≠ rdn d Reg.LAP_INSTALL then 1
  else if beAt b 4 1 % 128 ≠ fld d Reg.LAP_STATION 30 24 then 2
  else if beAt b 6 1 ≠ ringSize d ∨ 64 < ringSize d then 3
  else if beAt b 5 1 ≠ (if p = 0 then stationNo d + n - 1 else stationNo d + 1) % n then 4
  else if beAt b 7 1 ≠ 1 - p then 5
  else if slice b 12 16 ≠ padTo 16 (ringDigest d) then 6
  else if decide (beAt b 11 1 ≠ 0xB0) || decide (127 < beAt b 4 1) || decide (3 < beAt b 8 1) || (!(beAt b 8 1).testBit 1 && decide (beAt b 9 1 ≠ 0)) ||
      decide (beAt b 10 1 ≠ 1 ∧ beAt b 10 1 ≠ 2) || decide (0xD < beAt b 36 1) || !allZero (slice b 37 219) then 7
  else 0

/-- The twin check of an IDENT on the facing port (16 R458): the partners must be adjacent and name each other, else twin mode is OFF, with one class C entry when that is first seen. -/
def twinCheck (d : Dev) (p : Nat) (old : Nbr) (b : List Byte) : Dev :=
  match twinPartner d with
  | none => d
  | some q =>
    if fld d Reg.DET_TWIN_STATUS 23 23 ≠ p then d
    else
      let named : Option Nat := if (beAt b 8 1).testBit 1 then some (beAt b 9 1) else none
      let good := decide (beAt b 5 1 = q) && decide (named = some (stationNo d))
      let was := old.seen && decide (old.station = q) && decide (old.twin = some (stationNo d))
      let d := if !good && (was || !old.seen) then elog 1 0xA 0x0A02 0 q d else d
      let st := beAt b 36 1
      if !good || !(decide (st = 6) || decide (st = 7) || decide (st = 0xD)) then twinSuspend d else d

/-- IDENT (10 R271): the checks of Table LAP-2 on the IDENT received first on a port. A closed port whose partner fails goes DOWN with reason COMMAND; a looped port that closes is a joined link,
for which the leader is asked to run JOIN (10 R303). -/
def devIdent (p : Fin 2) (d : Dev) : Dev :=
  match takeSeq d p.val 0x14 with
  | none => d
  | some (b, d) =>
    let old := d.ring.nbr.getD p.val {}
    let wasClosed := portClosed d p.val
    let c := identCheck d p.val b
    let new : Nbr := { seen := true, ok := decide (c = 0), peerOk := decide (c = 0) && (beAt b 8 1).testBit 0, ringId := beAt b 4 1 % 128, station := beAt b 5 1, reason := c,
                       state := beAt b 36 1, twin := if (beAt b 8 1).testBit 1 then some (beAt b 9 1) else none }
    let d := { d with ring := { d.ring with nbr := setAt d.ring.nbr p.val new } }
    let d := if c = 0 then d else evt d Reg.LAP_EVT 7
    let d := if c ≠ 0 ∧ c ≠ old.reason then elog 1 5 0x0501 0 (256 * p.val + c) d else d
    let d := twinCheck d p.val old b
    if c ≠ 0 then (if wasClosed then linkDown d p.val 6 0 else d)
    else
      let looped := if p.val = 0 then d.ring.loopW else d.ring.loopE
      if portClosed d p.val && !wasClosed && looped then askBarrier d 5 0 0 else d

/-! ### Ring messages (10 R289) -/

/-- Whether a ring message uses a reserved field or encoding. -/
def msgReserved (b : List Byte) : Bool :=
  let k := beAt b 0 1
  decide (k = 0 ∨ 4 < k) || !allZero (slice b 4 4) || !allZero (slice b 16 240) || decide (63 < beAt b 1 1) || (decide (63 < beAt b 2 1) && decide (beAt b 2 1 ≠ 0xFF)) ||
    (decide (k ≤ 2) && decide (beAt b 8 1 = 0 ∨ 16 < beAt b 8 1)) || (decide (k = 3) && decide (1 < beAt b 8 1)) || (decide (k = 4) && decide (beAt b 8 1 = 0 ∨ 8 < beAt b 8 1))

/-- A message passed on with TTL one less, while hops are left. -/
def relayMsg (d : Dev) (q : Pass) (m : RingMsg) : Dev :=
  if m.ttl ≤ 1 then d
  else
    match exitOf d q with
    | some p => queueMsg d p { m with ttl := m.ttl - 1 }
    | none => d

/-- RING_MSG (10 R289): the message received first on a port is kept for its own command, passed on, or ended. -/
def devRingMsg (p : Fin 2) (d : Dev) : Dev :=
  match takeSeq d p.val 0x12 with
  | none => d
  | some (b, d) =>
    if msgReserved b then protoErr d p.val 0x12
    else
      let m : RingMsg := { kind := beAt b 0 1, src := beAt b 1 1, dst := beAt b 2 1, ttl := beAt b 3 1, body := slice b 8 8, port := p.val }
      let keep := fun (d : Dev) => { d with ring := { d.ring with msgs := d.ring.msgs ++ [m] } }
      let me := stationNo d
      if m.dst = 0xFF then (if m.src = me then d else relayMsg (keep d) (passFrom p.val) m)
      else if m.dst = me then keep d
      else relayMsg d (passFrom p.val) m

/-- The message that waits first, when it is of a kind, and the package without it. -/
def popMsg (d : Dev) (kind : Nat) : Option (RingMsg × Dev) :=
  match d.ring.msgs with
  | m :: r => if m.kind = kind then some (m, { d with ring := { d.ring with msgs := r } }) else none
  | [] => none

/-- REISSUE (10 R286): the origin checks its stored copy, once for each hank and lap, and rewrites a bad one from the golden copy. -/
def devReissue (d : Dev) : Dev :=
  match popMsg d 1 with
  | none => d
  | some (m, d) =>
    let model := beAt m.body 0 1
    let index := beAt m.body 1 4
    let lap := beAt m.body 5 3
    let n := max 1 (ringSize d)
    match (modelAt d model).active with
    | none => protoErr d m.port 0x12
    | some im =>
      let block := blockNo (positions im) n (index / 2)
      let o := originOf n (index % 2) block
      if !im.ringed || decide (im.hanks.length ≤ index) || decide (launcherOf d o ≠ stationNo d) then protoErr d m.port 0x12
      else
        let d := cntInc d (Reg.LAP_CNT_LO 4)
        let key := (model, index, lap)
        if d.ring.checked.contains key then d
        else
          let d := { d with ring := { d.ring with checked := d.ring.checked ++ [key] } }
          if o ≠ stationNo d then d
          else
            match storeAt d model im.gen index with
            | none => d
            | some e =>
              let (b, d) := readPlace d e.canon e.place
              if b.any (fun b => bodyGood im index b) then d
              else
                match goldenHank d im index with
                | (some g, d) => storeHank (cntInc d (Reg.LAP_CNT_LO 5)) im block index g
                | (none, d) => { d with ring := { d.ring with store := d.ring.store.map (fun x => if x = e then { x with bad := true } else x) } }

/-- MIRROR_REQ (10 R287): the downstream station sends the hank from its mirror as a repair hank out of its Port W, when that port carries hanks: a port
that is not closed, or only joined, does not (10 R271, R303). -/
def devMirrorReq (d : Dev) : Dev :=
  match popMsg d 2 with
  | none => d
  | some (m, d) =>
    let model := beAt m.body 0 1
    let index := beAt m.body 1 4
    match (if portClosed d 0 && !d.ring.loopW then (modelAt d model).imageOf d.ring.rlap else none) with
    | none => d
    | some im =>
      match mirrorHank d im index with
      | (none, d) => d
      | (some b, d) => modPort d 0 (fun x => { x with hankQ := x.hankQ ++ [hankParts model (hankHeader im index d.ring.rlap (some m.src)) b] })

/-- FOLD_NOTICE (10 R294, R299, R300): the other end of a line, from one of its stations; barriers in flight end, also at a notice repeated when a port that was
looped back goes DOWN again. -/
def devFoldNotice (d : Dev) : Dev :=
  match popMsg d 3 with
  | none => d
  | some (m, d) =>
    let west := decide (beAt m.body 0 1 = 0)
    if d.ring.mode = 0 then d
    else if d.ring.mode ≠ 1 ∧ (if west then d.ring.noticeW else d.ring.noticeE) = some m.src then pumpBarriers (foldBegin false d)
    else
      let d := foldBegin true d
      let d := { d with ring := if west then { d.ring with noticeW := some m.src } else { d.ring with noticeE := some m.src } }
      pumpBarriers (removedSweep (endLap (splitSweep (foldDecide d)) true))

/-- FOLD_NOTICE_TIMEOUT (10 R300): a line with one end only reports SPLIT. -/
def devFoldNoticeTimeout (d : Dev) : Dev :=
  if d.ring.mode = 2 ∧ d.ring.noticeW.isSome ≠ d.ring.noticeE.isSome then
    let d := { d with ring := { d.ring with mode := 3, adopted := none, rRun := false } }
    splitSweep (restate (elog 5 5 0x0505 0 0xFF (evt d Reg.LAP_EVT 6)))
  else d

/-- BARRIER_REQ (10 R292): the leader queues the barrier that a station asks for. -/
def devBarrierReq (d : Dev) : Dev :=
  match popMsg d 4 with
  | none => d
  | some (m, d) =>
    if isLeader d && decide (beAt m.body 0 1 ≠ 1) then enqueueBarrier d m.src (beAt m.body 0 1) (beAt m.body 1 1) (beAt m.body 2 4) else d

/-! ### Commits (10 Table LAP-6, R297, R298, R303; 16 R460; 17 R489) -/

/-- The commit that waits first, when it is of a kind, and the package without it. -/
def popCommit (d : Dev) (kind : Nat) : Option (Token × Dev) :=
  match d.ring.commits with
  | t :: r => if t.kind = kind then some (t, { d with ring := { d.ring with commits := r } }) else none
  | [] => none

/-- BARRIER_FORM (10 R272, R295): the ring is formed and the station enters READY. -/
def devBarrierForm (d : Dev) : Dev :=
  match popCommit d 1 with
  | none => d
  | some (t, d) =>
    let d := { d with ring := { d.ring with mode := 1, nLive := ringSize d, leader := t.leader, rlap := 0, prog := [{}, {}], rRun := false, held := false, interrupted := false } }
    if d.code = stForming then restate (setCode d stReady) else d

/-- A request of station A for twin comparison of a model (16 R460). -/
def askTwin (d : Dev) (m : Nat) (im : Option Image) : Dev :=
  if (twinPartner d).isSome && decide (fld d Reg.DET_TWIN_STATUS 23 23 = 1) && im.any (fun im => im.twin && !im.fast) then askBarrier d 7 m 0 else d

/-- The lap at which a commit takes effect for an image: L_EFF, or the next pinned lap (10 R297). -/
def effectLap (d : Dev) (t : Token) (ringed : Bool) : Nat := if ringed then t.leff else (d.ring.plap + 1) % 2 ^ 32

/-- BARRIER_ACTIVATE (10 R297): the staged image becomes active at its effect point. -/
def devBarrierActivate (d : Dev) : Dev :=
  match popCommit d 2 with
  | none => d
  | some (t, d) =>
    let x := modelAt d t.model
    match x.staged with
    | none => d
    | some im =>
      if im.gen ≠ t.gen then d
      else askTwin (setModel d t.model { x with pend := 1, effLap := some (effectLap d t im.ringed), refused := (0, 0) }) t.model (some im)

/-- BARRIER_ROLLBACK (10 R298; 18 R528): the previous image is installed from HBM and becomes active in the same way. -/
def devBarrierRollback (d : Dev) : Dev :=
  match popCommit d 3 with
  | none => d
  | some (t, d) =>
    let x := modelAt d t.model
    match x.prev with
    | none => d
    | some im =>
      if im.gen ≠ t.gen then d
      else
        let d := match (placement d im).bind (fun vm => (itemsAll d im vm).map (fun its => (vm, its))) with
          | some (vm, its) => let d := installItems its d; { d with det := { d.det with vmap := vm } }
          | none => d
        let d := setModel d t.model { x with pend := 2, effLap := some (effectLap d t im.ringed) }
        let d := answerOps d 4 t.model { op := 4, model := t.model, status := 9, gen := im.gen }
        askTwin d t.model (some im)

/-- BARRIER_REMOVE (10 R298): the model stops at its effect point, at once where its schedule stands. -/
def devBarrierRemove (d : Dev) : Dev :=
  match popCommit d 4 with
  | none => d
  | some (t, d) =>
    let x := modelAt d t.model
    match x.active with
    | none => d
    | some im =>
      let d := setModel d t.model { x with pend := 3, effLap := some (effectLap d t im.ringed) }
      let d := answerOps d 3 t.model { op := 3, model := t.model, status := 8, gen := im.gen }
      removedSweep (if schedRun d im.ringed then d else applySwitch d t.model)

/-- BARRIER_JOIN (10 Table LAP-6, 17 R489): a joined station with no active model enters READY. -/
def devBarrierJoin (d : Dev) : Dev :=
  match popCommit d 5 with
  | none => d
  | some (t, d) =>
    if d.code = stForming ∧ anyActive d = false then
      restate (setCode { d with ring := { d.ring with mode := 1, nLive := ringSize d, leader := t.leader, joined := true } } stReady)
    else d

/-- BARRIER_REFORM (10 R303, 17 R489): the ring returns to the closed schedule at L_EFF, at once where no ringed lap runs; the staged images of a joined station activate there. -/
def devBarrierReform (d : Dev) : Dev :=
  match popCommit d 6 with
  | none => d
  | some (t, d) =>
    let d := evt d Reg.LAP_EVT 3
    let d := { d with ring := { d.ring with joinSeen := false, reformAt := some t.leff } }
    let d := if d.ring.joined then
        { d with model := d.model.foldl (fun mm x => smSet {} mm x.1 (match x.2.staged with
            | some im => { x.2 with pend := 1, effLap := some (effectLap d t im.ringed) }
            | none => x.2)) d.model }
      else d
    let d := if d.ring.rRun then d
      else restate { d with ring := { d.ring with mode := 1, loopW := false, loopE := false, noticeW := none, noticeE := none, adopted := none, nLive := ringSize d, leader := 0,
                                                  held := false, interrupted := false } }
    d.model.foldl (fun d x => askTwin d x.1 (if x.2.pend = 1 then x.2.staged else x.2.active)) d

/-- BARRIER_TWIN_SYNC (16 R460): stations A and B start comparison for the model. -/
def devBarrierTwinSync (d : Dev) : Dev :=
  match popCommit d 7 with
  | none => d
  | some (t, d) =>
    let m := (t.arg.getD 2 0).toNat
    let me := stationNo d
    if (t.arg.getD 0 0).toNat = me ∨ (t.arg.getD 1 0).toNat = me then
      evt (setModel d m { modelAt d m with twinOn := true }) Reg.DET_EVT 4
    else d

/-! ### Timers of the ring (10 R296, R303; 16 R460) -/

/-- ACTIVATE_REQUEST_TIMER (10 R296): every 10 ms a BARRIER_REQ for each staged image that no barrier has committed; a station that has joined a ring asks for none (17 R489). Station A
asks again for a TWIN_SYNC that aborted (16 R464, corner cases). -/
def devActivateRequestTimer (d : Dev) : Dev :=
  if d.ring.mode = 0 then d
  else
    let d := if d.ring.joined then d
      else d.model.foldl (fun d x => match x.2.staged with
        | some im => if x.2.pend = 1 then d else askBarrier d 2 x.1 im.gen
        | none => d) d
    if d.ring.lastKind = 7 ∧ d.ring.lastOutcome = 2 then
      d.model.foldl (fun d x => if x.2.twinOn then d else askTwin d x.1 x.2.active) d
    else d

/-- AUTO_REFORM (10 R303): a DOWN port that has seen signal on at least 4 lanes for 1 s retrains, when AUTO_REFORM is set. -/
def devAutoReform (p : Fin 2) (d : Dev) : Dev :=
  let x := portAt d p.val
  if decide (x.st = 4) && (rd d Reg.LAP_CFG).getLsbD 31 && decide (4 ≤ (x.lanes.filter (fun l => l.signal)).length) then retrain d p.val else d

/-- REFORM_TIMER (10 R303): while a joined link exists the leader runs JOIN, and REFORM every 100 ms until one commits. -/
def devReformTimer (d : Dev) : Dev :=
  if isLeader d && d.ring.joinSeen then enqueueBarrier (enqueueBarrier d (stationNo d) 5 0 0) (stationNo d) 6 0 0 else d

/-- REFORM_REQ (10 R303, R304): LAP_CTRL asks the leader for REFORM. -/
def devReformReq (d : Dev) : Dev := if d.ring.mode = 0 then d else askBarrier d 6 0 0

/-- LAP_CLR_CNT (10 R304). -/
def devLapClrCnt (d : Dev) : Dev := cntClrN d (Reg.LAP_CNT_LO 0) 13

end Sys2Proof.Machine
end

