-- ==== Sys2Proof/Machine/MemCtl.lean ====
section
/-! DEFINITION. The memory controllers' commands (11 R317 to R330): arbitration, refresh, errors, map-out, rebuilds and the traffic generator. -/

namespace Sys2Proof.Machine

/-- Whether controller `u` has a channel `c`. -/
def hasCh (u c : Nat) : Bool := decide (c < chCount u)

/-! ### Arbitration and refresh (11 R317 to R321) -/

/-- The default weights of Table XMEM-8. -/
def defaultWeights : List Nat := [96, 24, 24, 24, 24, 32, 32, 0]

/-- The weights and credits of a channel. -/
def chWeights (d : Dev) (u c : Nat) : List Nat := smGet defaultWeights d.xmem.weights (chKey u c)
def chCredits (d : Dev) (u c : Nat) : List Int := smGet (List.replicate 8 0) d.xmem.credits (chKey u c)

/-- R318: the class chosen among those with a unit ready, with the credits after the choice; nothing when none is ready. The class of a request in progress, `going`, has its next unit ready and is chosen at each
of its units; with weight 0 it takes no credit from the others (DEDUCED, log entry 115). -/
def chooseClass (weights : List Nat) (credits : List Int) (last : Nat) (ready : List (Fin 8)) (going : Option Nat) : Option Nat × List Int :=
  let e := (List.range 8).filter (fun k => decide (going = some k) || ready.any (fun r => decide (r.val = k)))
  let p := e.filter (fun k => decide (0 < weights.getD k 0))
  let sum : Int := ((p.map (fun k => weights.getD k 0)).sum : Nat)
  if p.isEmpty then
    let after := e.filter (fun k => decide (last < k))
    (going.orElse (fun _ => if after.isEmpty then e.head? else after.head?), List.replicate 8 0)
  else
    let cr := (List.range 8).map (fun k => if p.contains k then credits.getD k 0 + (weights.getD k 0 : Nat) else 0)
    let best := going.orElse (fun _ => p.foldl (fun (b : Option Nat) k => match b with | none => some k | some j => if cr.getD j 0 < cr.getD k 0 then some k else some j) none)
    (best, match best with | some k => if p.contains k then setAt cr k (cr.getD k 0 - sum) else cr | none => cr)

/-- CHANNEL_UNIT_START (11 R318, R319): a channel starts a unit among the classes `ready`, `final` being whether the unit is its request's last; `reorders` are requests of one class that were moved for page
hits. -/
def devChannelUnitStart (u : Fin 12) (c : Fin 32) (ready : List (Fin 8)) (final : Bool) (reorders : Fin 17) (d : Dev) : Dev :=
  if !hasCh u.val c.val || chGone d u.val c.val then d
  else
    let k := chKey u.val c.val
    let w := chWeights d u.val c.val
    let going := smGet 0 d.xmem.inReq k
    let (best, cr) := chooseClass w (chCredits d u.val c.val) (smGet 7 d.xmem.last k) ready (if going = 0 then none else some (going - 1))
    let d := { d with xmem := { d.xmem with credits := smSet (List.replicate 8 0) d.xmem.credits k cr,
                                            inReq := smSet 0 d.xmem.inReq k (match best with | some b => if final then 0 else b + 1 | none => going),
                                            last := match best with | some b => (if w.getD b 0 = 0 then smSet 7 d.xmem.last k b else d.xmem.last) | none => d.xmem.last } }
    cntAdd (xcnt d u.val 7 reorders.val) (Reg.DET_TIMING_LO 3) reorders.val

/-- WEIGHT_WRITE (11 R317): half of the weights of a channel, or of every channel, written; credits carry over. -/
def devWeightWrite (u : Fin 12) (c : Option (Fin 32)) (high : Bool) (v : BitVec 32) (d : Dev) : Dev :=
  let set := fun (d : Dev) (c : Nat) =>
    let w := chWeights d u.val c
    let bytes := (List.range 4).map (fun i => bits v.toNat (8 * i + 7) (8 * i))
    { d with xmem := { d.xmem with weights := smSet defaultWeights d.xmem.weights (chKey u.val c) (if high then w.take 4 ++ bytes else bytes ++ w.drop 4) } }
  match c with
  | some c => if hasCh u.val c.val then set d c.val else d
  | none => (List.range (chCount u.val)).foldl set d

/-- REFRESH (11 R320, R321): a refresh of a bank of a channel, with the temperature that the stack or package reports and the accesses that met it. -/
def devRefresh (u : Fin 12) (c : Fin 32) (temp : BitVec 8) (waiting : Nat) (d : Dev) : Dev :=
  if !hasCh u.val c.val || chGone d u.val c.val then d
  else
    let s := xreg u.val 0
    let d := setFld d s 31 24 temp.toNat
    let d := if 85 < temp.toInt then setFld d s 23 23 1 else if temp.toInt < 80 then setFld d s 23 23 0 else d
    xcnt d u.val 6 waiting

/-- XMEM_CLR_CNT (11 Table XMEM-12). -/
def devXmemClrCnt (u : Fin 12) (d : Dev) : Dev := cntClrN d (xreg u.val 0x080) 10

/-! ### The traffic generator (11 R327, R328) -/

/-- The base of a generator's registers. -/
def tgReg (u c off : Nat) : Nat := xreg u (0x800 + 0x40 * c + off)

/-- 64 steps of PRBS-31 (x^31 + x^28 + 1), bit 0 first: the word and the state after it. PRESUMED, log entry 21: the state shifts towards its most significant bit, and the bit fed in is the bit sent. -/
def prbsWord (s : Nat) : Nat × Nat :=
  (List.range 64).foldl (fun (a : Nat × Nat) k =>
    let b := (a.2 / 2 ^ 30 + a.2 / 2 ^ 27) % 2
    (a.1 + b * 2 ^ k, (2 * a.2 + b) % 2 ^ 31)) (0, s)

/-- The value of a word at an address (11 Table XMEM-11), and the PRBS state after it. -/
def tgWord (pattern seed a s : Nat) : Nat × Nat :=
  match pattern with
  | 0 => prbsWord s
  | 1 => (a, s)
  | 2 => (2 ^ (a / 8 % 64), s)
  | _ => ((BitVec.ofNat 64 seed).rotateLeft (a / 8 % 64) |>.toNat, s)

/-- The eight words of a block, with the PRBS state after them. -/
def tgBlock (pattern seed a s : Nat) : List Nat × Nat :=
  (List.range 8).foldl (fun (x : List Nat × Nat) k => let (w, s) := tgWord pattern seed (a + 8 * k) x.2; (x.1 ++ [w], s)) ([], s)

/-- A failure recorded: the first since START with its address and values (11 R328). -/
def tgFail (d : Dev) (u c a want got : Nat) : Dev :=
  let first := !(rd d (tgReg u c 0x18)).getLsbD 29
  let d := if first then cntSet (cntSet (cntSet d (tgReg u c 0x20) (BitVec.ofNat 64 a)) (tgReg u c 0x28) (BitVec.ofNat 64 want)) (tgReg u c 0x30) (BitVec.ofNat 64 got) else d
  evt (satAdd (setFld d (tgReg u c 0x18) 29 29 1) (tgReg u c 0x1C) 1) (xreg u 0x00C) 4

/-- Whether a channel's generator runs. -/
def tgRunning (d : Dev) (u c : Nat) : Bool := decide (fld d (tgReg u c 0x18) 31 30 = 1)

/-- One pass over blocks of a channel: a write, or a check of each word. -/
def tgPass (u c pattern seed : Nat) (check : Bool) : Nat → Nat → Nat → Dev → Dev
  | 0, _, _, d => d
  | n + 1, blk, s, d =>
    let off := 64 * blk
    let a := addrOfLocal u c off
    let (ws, s') := tgBlock pattern seed a s
    let d :=
      if chMib d u * 2 ^ 20 ≤ off ∨ inReserved d a = true then (if check then d else satAdd d (tgReg u c 0x38) 1)
      else if check then
        match extRead1 d a 64 7 with
        | (.ok bs, d) => (List.range 8).foldl (fun d k => if leAt bs (8 * k) 8 = ws.getD k 0 then d else tgFail d u c (a + 8 * k) (ws.getD k 0) (leAt bs (8 * k) 8)) d
        | (.error _, d) => d
      else (extWrite1 d a ((ws.map (leBytes 8)).flatten)).2
    tgPass u c pattern seed check n (blk + 1) s' d

/-- The first `n` blocks of a run: a check run counts its skipped blocks once. -/
def tgRun (d : Dev) (u c n : Nat) : Dev :=
  let cfg := rdn d (tgReg u c 0)
  let op := bits cfg 5 4
  let pattern := bits cfg 10 8
  let seed := rdn d (tgReg u c 0x08) + 2 ^ 32 * rdn d (tgReg u c 0x0C)
  let first := rdn d (tgReg u c 0x10)
  let s := seed % 2 ^ 31
  let skipped := ((List.range n).filter (fun k => let off := 64 * (first + k); decide (chMib d u * 2 ^ 20 ≤ off) || inReserved d (addrOfLocal u c off))).length
  let d := if op = 1 then satAdd d (tgReg u c 0x38) skipped else tgPass u c pattern seed false n first s d
  if op = 0 then d else tgPass u c pattern seed true n first s d

/-! ### Errors (11 R322 to R324) -/

/-- A generator run ended with FAIL, at the address where its channel failed if no mismatch stands yet (11 corner cases of R328). -/
def failTg (d : Dev) (u c addr : Nat) : Dev :=
  let tg := xreg u (0x800 + 0x40 * c)
  let d := if (rd d (tg + 0x18)).getLsbD 29 then d else cntSet d (tg + 0x20) (BitVec.ofNat 64 addr)
  setFld (setFld d (tg + 0x18) 31 30 3) (tg + 0x18) 29 29 1

/-- A channel becomes FAILING (11 R324): the event, the cause for its map-out, and a generator run stopped after the `covered` blocks that it had reached. -/
def becomeFailing (d : Dev) (u c why addr covered : Nat) : Dev :=
  if chState d u c ≠ 0 then d
  else
    let running := tgRunning d u c
    let d := if running then tgRun d u c (min covered (rdn d (tgReg u c 0x14))) else d
    let st := xreg u (0x200 + 4 * c)
    let d := evt (setFld d st 31 28 1) (xreg u 0x00C) 1
    let d := { d with xmem := { d.xmem with why := smSet 0 d.xmem.why (chKey u c) why } }
    if running then failTg d u c addr else d

/-- CHANNEL_ERROR (11 R322): an error of a channel in an access at an address; `covered` are the blocks that a run of the channel's generator has reached. -/
def devChannelError (u : Fin 12) (c : Fin 32) (addr : Fin (2 ^ 40)) (e : ChanErr) (covered : Nat) (d : Dev) : Dev :=
  let u := u.val
  let c := c.val
  if !hasCh u c || decide (chState d u c ≠ 0) || decide (ctlOf d addr.val ≠ some u) || decide (chOf u addr.val ≠ c) then d
  else
    let st := xreg u (0x200 + 4 * c)
    match e with
    | .corrected => xcnt d u 4 1
    | .uncorrectable => if u < 4 then { d with mem := { d.mem with extErr := smSet 0 d.mem.extErr (addr.val / 64) 1 } } else d
    | .retried code n good =>
      let n := if good then max 1 n.val else 4
      let k := chKey u c
      let win := smGet 0 d.xmem.retryWin k + n
      let d := evt (xcnt d u 2 n) (xreg u 0x00C) 2
      let d := setFld (setFld d st 27 24 (code.val + 1)) st 15 0 (min (fld d st 15 0 + n) 0xffff)
      let d := { d with xmem := { d.xmem with retryWin := smSet 0 d.xmem.retryWin k win } }
      if !good then becomeFailing (xcnt d u 3 1) u c 1 addr.val covered
      else if fld d (xreg u 0x014) 31 16 < win then becomeFailing d u c 2 addr.val covered
      else d

/-! ### Map-out (11 R324, R325) -/

/-- Whether an image of a copy is the active one. -/
def copyActive (d : Dev) (x : ImgCopy) : Bool := (modelAt d x.model).active.any (fun im => decide (im.gen = x.gen))

/-- Whether a copy has a granule on a channel. A hank spans one granule of every channel of its stack. -/
def copyHit (u c : Nat) (x : ImgCopy) : Bool := decide (x.stack = u) && x.granules.any (fun g => decide (g % 32 = c))

/-- Copies of a generation gone: a staged image is given up, a previous one is no longer kept (11 Table XMEM-10). An image whose switch is decided stays, and the copy alone goes. -/
def discardCopy (d : Dev) (x : ImgCopy) : Dev :=
  let d := { d with xmem := { d.xmem with copies := d.xmem.copies.filter (fun y => !(decide (y.model = x.model) && decide (y.gen = x.gen) && decide (y.kind = x.kind))) } }
  let ms := modelAt d x.model
  match ms.staged, ms.prev with
  | some im, p =>
    if im.gen = x.gen ∧ ms.pend ≠ 1 then unstage d x.model im
    else if p.any (fun q => decide (q.gen = x.gen)) && decide (ms.pend ≠ 2) then dropImgCopies (setModel d x.model { ms with prev := none }) x.model x.gen
    else d
  | none, some q => if q.gen = x.gen ∧ ms.pend ≠ 2 then dropImgCopies (setModel d x.model { ms with prev := none }) x.model x.gen else d
  | none, none => d

/-- What the image copies become when a channel of a stack is mapped out (11 Table XMEM-10). -/
def damageCopies (d : Dev) (u c : Nat) : Dev :=
  let hit := d.xmem.copies.filter (copyHit u c)
  let d := { d with xmem := { d.xmem with copies := (d.xmem.copies.filter (fun x => !(copyHit u c x && decide (10 ≤ x.kind)))).map (fun x => if copyHit u c x then { x with damaged := true } else x) } }
  let lost := hit.filter (fun x => (decide (2 ≤ x.kind) && decide (x.kind ≤ 5)) && !copyActive d x)
  let d := lost.foldl discardCopy d
  -- program sections damaged on both stacks: a staged image cannot be kept (18 R528, corner cases)
  let both := hit.filter (fun x => decide (x.kind = 6 ∨ x.kind = 7) && !copyActive d x && (copyAt d x.model x.gen (13 - x.kind)).any (fun y => y.damaged))
  both.foldl discardCopy d

/-- Queued or conditioned requests whose retained payload has a byte in a hole fall back (11 Table XMEM-10). -/
def retentionLost (d : Dev) : Dev :=
  let hs := (d.rvp.reqs.filter (fun x => !x.2.released && (decide (x.2.st = .queued) || decide (x.2.st = .ready)) && !x.2.blocks.all (usableBlock d x.2.port))).map (fun x => x.1)
  fallAll d 5 hs

/-- The error log's spill copies after a map-out (17 R491). -/
def spillCheck (d : Dev) : Dev :=
  let gone := fun (j kind : Nat) => match regionIn d j kind with | some (b, n) => extHole d b n | none => true
  let had := spillOn d
  let d := if gone 1 6 then setFld d Reg.ELOG_STATUS 11 11 0 else d
  let d := if gone 3 7 then setFld d Reg.ELOG_STATUS 12 12 0 else d
  if had && !spillOn d then evt d Reg.ELOG_EVT 3 else d

/-- A channel mapped out by the warden (11 R324, R325): `detail` is that of its log entry. -/
def mapOut (d : Dev) (u c detail : Nat) : Dev :=
  if chGone d u c then d
  else
    let before := d
    let d := if tgRunning d u c then failTg d u c (addrOfLocal u c (64 * rdn d (tgReg u c 0x10))) else d
    let d := setFld d (xreg u (0x200 + 4 * c)) 31 28 2
    let d := evt d (xreg u 0x004) c
    let d := setFld d (xreg u 0x008) 31 0 (rdn d (xreg u 0x008) - chMib d u)
    let left := fld d (xreg u 0) 15 8 - 1
    let d := setFld d (xreg u 0) 15 8 left
    let d := evt d (xreg u 0x00C) 0
    let d := elog 3 (chBlock u) 0x0603 (chUnit u c) detail d
    -- a stack or package with no channel left is lost (17 Table FAULT-1)
    let d := if left = 0 then elog 4 (chBlock u) 0x0604 (256 * (if u < 4 then u else u - 4) + 0xFF) 0 (setFld d (xreg u 0) 3 0 3) else d
    let d := if u < 4 then damageCopies d u c else spillCheck (retentionLost (retireHomes before (u - 4) d))
    restate d

/-- CHANNEL_MAP_OUT (11 R324). -/
def devChannelMapOut (u : Fin 12) (c : Fin 32) (d : Dev) : Dev :=
  if hasCh u.val c.val && decide (chState d u.val c.val = 1) then mapOut d u.val c.val (smGet 0 d.xmem.why (chKey u.val c.val)) else d

/-! ### Rebuilds (11 R326) -/

/-- A copy's place taken by its rebuild: REBUILD_EVT. -/
def replaceCopy (d : Dev) (c new : ImgCopy) : Dev :=
  let rest := d.xmem.copies.filter (fun x => !(decide (x.model = c.model) && decide (x.gen = c.gen) && (decide (x.kind = c.kind) || decide (x.kind = c.kind + 10))))
  evt { d with xmem := { d.xmem with copies := rest ++ [{ new with kind := c.kind, damaged := false }] } } (xreg c.stack 0x00C) 5

/-- A rebuild that cannot be done (11 R326): its class P entry. -/
def rebuildFailed (d : Dev) (c : ImgCopy) : Dev := elog 4 6 0x0605 (256 * c.stack + 0xFF) c.model d

/-- Hanks of a pinned copy written from the other copy into granules, 32 to each: those that the other copy gives, with their granules, and whether it gave all. -/
def rebuildPinned (im : Image) (from_ stack : Nat) : List Nat → List Nat → Dev → List Nat × List Nat × Bool × Dev
  | [], _, d => ([], [], true, d)
  | i :: r, gs, d =>
    match copyHank d im from_ i 0 with
    | (none, d) => let (hs, ns, _, d) := rebuildPinned im from_ stack r gs d; (hs, ns, false, d)
    | (some body, d) =>
      match writeGranules stack (gs.take 32) body d with
      | none => let (hs, ns, _, d) := rebuildPinned im from_ stack r gs d; (hs, ns, false, d)
      | some d => let (hs, ns, all, d) := rebuildPinned im from_ stack r (gs.drop 32) (xcnt d stack 9 65536); (i :: hs, gs.take 32 ++ ns, all, d)

/-- The hanks of a damaged own shard that its rebuild lacks, taken from the hank store; one whose stored copy is bad is asked for with MIRROR_REQ (11 Table XMEM-10). -/
def rebuildShard (d : Dev) (im : Image) (c : ImgCopy) : Dev :=
  c.hanks.foldl (fun d i =>
    if (copyAt d c.model c.gen (c.kind + 10)).any (fun b => b.hanks.contains i) then d
    else
      match storedHank d im i with
      | (some body, d) => addPartial d im c.kind i body
      | (none, d) => unreadable d im i false) d

/-- REBUILD_COMPLETE (11 R326): the rebuild of a damaged copy ends. A mirror of the upstream shard has been written as the upstream blocks passed, and a hank asked for with MIRROR_REQ as its repair hank came: a
rebuild that lacks one has not ended. A pinned copy is rebuilt without the hanks that the other copy cannot give, and both copies of it damaged are a class P fault (11 corner cases of R326). -/
def devRebuildComplete (m : Fin 16) (gen : BitVec 32) (kind : Fin 8) (d : Dev) : Dev :=
  let id := m.val + 1
  match copyAt d id gen.toNat kind.val, imageByGen d id gen.toNat with
  | some c, some im =>
    if !c.damaged then d
    else
      let free := (freeGranules d c.stack).length
      if decide (2 ≤ kind.val) && decide (kind.val ≤ 5) then
        let have_ := ((copyAt d id im.gen (kind.val + 10)).map (fun b => b.hanks)).getD []
        if free < 32 * (c.hanks.countP (fun i => !have_.contains i)) then rebuildFailed d c
        else
          let d := if kind.val < 4 then rebuildShard d im c else d
          match copyAt d id im.gen (kind.val + 10) with
          | some b => if c.hanks.all (fun i => b.hanks.contains i) then replaceCopy d c b else d
          | none => if c.hanks.isEmpty then replaceCopy d c c else d
      else if free < c.granules.length then rebuildFailed d c
      else
        let gs := (freeGranules d c.stack).take c.granules.length
        let other := if kind.val < 2 then 1 - kind.val else 13 - kind.val
        match copyAt d id im.gen other with
        | none => rebuildFailed d c
        | some o =>
          if o.damaged then rebuildFailed d c
          else if kind.val < 2 then
            let (hs, ns, all, d) := rebuildPinned im other c.stack c.hanks gs d
            let d := replaceCopy d c { c with hanks := hs, granules := ns }
            if all then d else rebuildFailed d c
          else
            match readGranules o.stack 0 o.granules d with
            | (some b, d) => ((writeGranules c.stack gs b d).map (fun d => replaceCopy (xcnt d c.stack 9 (2048 * gs.length)) c { c with granules := gs })).getD d
            | (none, d) => rebuildFailed d c
  | _, _ => d

/-! ### Runs of the generator (11 R328) -/

/-- TG_START (11 R328): refused on a mapped-out channel, while the generator runs, and in SLEEP; a run of no blocks completes at once. -/
def devTgStart (u : Fin 12) (c : Fin 32) (d : Dev) : Dev :=
  let u := u.val
  let c := c.val
  if !hasCh u c || chGone d u c || tgRunning d u c || decide (d.code = stSleep) then d
  else
    let d := wr (wr d (tgReg u c 0x1C) 0) (tgReg u c 0x38) 0
    let d := cntSet (cntSet (cntSet d (tgReg u c 0x20) 0) (tgReg u c 0x28) 0) (tgReg u c 0x30) 0
    wr d (tgReg u c 0x18) (if rdn d (tgReg u c 0x14) = 0 then 0x80000000#32 else 0x40000000#32)

/-- TG_STOP (11 R328): a run ends after the current block; `done` blocks had been covered. -/
def devTgStop (u : Fin 12) (c : Fin 32) (done : Nat) (d : Dev) : Dev :=
  if hasCh u.val c.val && tgRunning d u.val c.val then
    setFld (tgRun d u.val c.val (min done (rdn d (tgReg u.val c.val 0x14)))) (tgReg u.val c.val 0x18) 31 30 3
  else d

/-- TG_RUN_COMPLETE (11 R327): a run has covered its blocks. -/
def devTgRunComplete (u : Fin 12) (c : Fin 32) (d : Dev) : Dev :=
  if hasCh u.val c.val && tgRunning d u.val c.val then
    setFld (tgRun d u.val c.val (rdn d (tgReg u.val c.val 0x14))) (tgReg u.val c.val 0x18) 31 30 2
  else d

end Sys2Proof.Machine
end

