-- ==== Sys2Proof/Machine/Warden.lean ====
section
/-! DEFINITION. The warden (17): DISAGREE and SUSPECT, decisions, fences, reclaim, spares and EXACT moves, seams, failover, and the loss of the package. -/

namespace Sys2Proof.Machine

/-! ### Loss of the package (17 R487, R488) -/

/-- Whether a warden still acts: not both lost, and not on a lost die (17 R484). -/
def wardenLives (d : Dev) (detail : Nat) : Bool :=
  decide (detail ≠ 2) && (!d.wdn.dieLost.getD d.wdn.active false || (decide (d.wdn.standby = 0) && !d.wdn.dieLost.getD 1 false))

/-- Every task on every core stopped, with its commands, patterns and roles. -/
def stopTasks (d : Dev) : Dev :=
  { d with wdn := { d.wdn with stuck := [] }, core := d.core.map (fun x => (x.1, { x.2 with
      tasks := List.replicate 8 {}, run := none, mu := [], vu := [], dma := [], ctx := [], egr := [], se := [], bank := [], locked := [],
      skeins := x.2.skeins.map (fun y => (y.1, { y.2 with prod := none, cons := none })) })) }

/-- Requests, verdicts and payloads abandoned (17 R488). -/
def abandonAll (d : Dev) : Dev :=
  let d := dropSessions d
  { d with rvp := { d.rvp with reqs := [], rx := [], body := [], reqOps := [] }, fcs := { d.fcs with waits := [], msgs := [] }, ring := { d.ring with deliver := [], align := [] } }

/-- The package enters LOST (17 R487, R488): the entry, the ports DOWN with reason COMMAND while a warden lives, and everything that served is given up. -/
def enterLost (unit detail : Nat) (mgmt : Bool) (d : Dev) : Dev :=
  if d.code = stLost then (if wardenLives d detail then d else { d with wdn := { d.wdn with dead := true } })
  else
    let lives := wardenLives d detail
    let d := setCode (elog 5 8 0x0803 unit (detail + if mgmt then 2 ^ 31 else 0) d) stLost
    let d := abandonAll (stopTasks d)
    let d := ethDown (ethDown d 0) 1
    if lives then
      let d := linkDown (linkDown d 0 6 0) 1 6 0
      { d with pwr := { d.pwr with darkAt := some (d.now + 10000000) } }
    else { d with wdn := { d.wdn with dead := true } }

/-- The lasers of a lost station go dark 10 ms after the ports went DOWN (17 R488). -/
def lostTick (d : Dev) : Dev :=
  match d.pwr.darkAt with
  | some t => if t ≤ d.now then { d with pwr := { d.pwr with darkAt := none }, ports := d.ports.map (fun p => { p with sending := 0, downDue := 0 }) } else d
  | none => d

/-! ### Reclaim (17 R480, R481; 07 R203) -/

/-- Everything that may wait on a tag in a core. -/
def tagWaiters : List TagWaiter :=
  [.mu, .vu, .dma] ++ (List.finRange 8).map .tag ++ ((List.finRange 3).map (fun e => (List.finRange 8).map (fun x => TagWaiter.se e x))).flatten

/-- The tasks that wait on a tag of a skein, as (site, slot, position). -/
def waitingOn (d : Dev) (s k : Nat) : List (Nat × Nat × Nat) :=
  ((usedSites d).map (fun i => (tagWaiters.filterMap (waitsOn d i)).filterMap (fun w => if w.skeins.contains (s, k) then some (i, w.task, w.pos) else none))).flatten

/-- The parties of the skeins that a fence takes (07 Table SKEIN-3): for the skeins that the fenced core reached as a remote DMA party, the other role and the waiters; for its own skeins, the
remote roles and waiters. -/
def reclaimParties (d : Dev) (i : Nat) : List (Nat × Nat × Nat) :=
  let role := fun (r : Option Role) => (r.toList).map (fun r => (r.site, r.slot, r.pos))
  let byDma := fun (r : Option Role) => r.any (fun r => decide (r.site = i) && decide (r.unit = 5))
  ((d.core.map (fun x => (x.2.skeins.map (fun y =>
    if x.1 = i then role y.2.prod ++ role y.2.cons ++ (if y.2.prod.isSome || y.2.cons.isSome then waitingOn d i y.1 else [])
    else if byDma y.2.prod then role y.2.cons ++ waitingOn d x.1 y.1
    else if byDma y.2.cons then role y.2.prod ++ waitingOn d x.1 y.1
    else [])).flatten)).flatten).filter (fun v => decide (v.1 ≠ i))

/-- The skeins elsewhere that the fenced core filled or drained by DMA: drained to empty, and its role cleared. -/
def reclaimSkeins (d : Dev) (i : Nat) : Dev :=
  let byDma := fun (r : Option Role) => r.any (fun r => decide (r.site = i) && decide (r.unit = 5))
  { d with core := d.core.map (fun x => if x.1 = i then x else (x.1, { x.2 with skeins := x.2.skeins.map (fun y =>
      if byDma y.2.prod || byDma y.2.cons then
        (y.1, { y.2 with head := 0, tail := 0, tags := 0, prod := if byDma y.2.prod then none else y.2.prod, cons := if byDma y.2.cons then none else y.2.cons })
      else y) })) }

/-- A site's resources reclaimed (17 Table FAULT-4): its skein roles and the other parties, its flow entries, its tasks and their groups, its bindings. -/
def reclaim (d : Dev) (i : Nat) : Dev :=
  let others := reclaimParties d i
  let d := reclaimSkeins d i
  let d := match (siteInfo d i).canon with
    | some c => loseCore d c
    | none => d
  let d := others.foldl (fun d v => faultTask d v.1 v.2.1 cReclaim v.2.2) d
  let d := (List.range 8).foldl (fun d n => faultTask d i n cReclaim (taskAt (coreAt d i) n).issue) d
  let d := (List.finRange 8).foldl (fun d n => if h : i < 288 then devTaskAbort ⟨i, h⟩ n d else d) d
  let d := setCore d i {}
  cntInc { d with ring := { d.ring with deliver := d.ring.deliver.map (fun x => { x with sites := x.sites.filter (fun s => decide (s ≠ i)) }) } } (Reg.WDN_CNT_LO 5)

/-! ### EXACT moves (16 R444, R445) -/

/-- A virtual core moved off a lost host: to the live core with room that hosts the fewest, on the same die if one has room, the lowest index first. -/
def moveVcore (live : List Nat) (limit c : Nat) (a : SMap (Nat × Nat) × List Nat) (v : Nat) : SMap (Nat × Nat) × List Nat :=
  let room := live.filter (fun h => decide ((windowsOn a.1 h).length < limit))
  let near := room.filter (fun h => decide (h / 64 = c / 64))
  let best := (if near.isEmpty then room else near).foldl (fun (b : Option Nat) h =>
    match b with
    | none => some h
    | some k => if (windowsOn a.1 h).length < (windowsOn a.1 k).length then some h else b) none
  match best with
  | some h => (smPut v (some (h, lowestFree (windowsOn a.1 h))) a.1, a.2)
  | none => (a.1, a.2 ++ [v])

/-- An item written again from the golden copy: a skein that stands keeps its tags and takes its words. -/
def refillItem (d : Dev) (x : Nat × Item) : Dev :=
  match x.2 with
  | .skein _ s data => putWords s.base s.ecc (rowsOf 64 data) (installItem d x)
  | _ => installItem d x

/-- Where an item is installed, without the content that it brings. -/
def itemHome (x : Nat × Item) : Nat × Item :=
  (x.1, match x.2 with
    | .skein n s _ => .skein n s []
    | .region k a n _ => .region k a n []
    | y => y)

/-- An item whose golden copies cannot be read: installed without content. -/
def clearItem (d : Dev) (x : Nat × Item) : Dev := x.2.span.foldl (fun d s => clearWords s.1 s.2 d) (refillItem d (itemHome x))

/-- A model that has lost its placement stops serving here (16 R445). -/
def stopModel (d : Dev) (m : Nat) : Dev :=
  let d := setModel d m { modelAt d m with exactFail := true }
  elog 4 0xA 0x0A03 m (usableCanon d).length (fallAll d 2 ((waitingReqs d m).map (fun x => x.1)))

/-- The virtual cores of a core fenced without a spare move (16 R444); an image that finds no room, or too few cores, stops serving. -/
def exactMove (d : Dev) (c : Nat) : Dev :=
  let exact := (installed d).filter (fun im => !im.fast)
  if exact.isEmpty then d
  else
    let limit := exact.foldl (fun m im => min m ((255 + im.place) / max 1 im.place)) 256
    let vs := (d.det.vmap.filter (fun x => decide (x.2.1 = c))).map (fun x => x.1)
    let (vm, _) := vs.foldl (moveVcore (liveCanon d) limit c) (d.det.vmap, [])
    let before := d
    let d := { d with det := { d.det with vmap := vm } }
    let bad := d.model.filter (fun x => !x.2.exactFail && x.2.active.any (placementGone d))
    let d := bad.foldl (fun d x => stopModel d x.1) d
    (exact.filter (fun im => !placementGone d im)).foldl (fun d im =>
      let was := itemsNow before im
      let now := itemsNow d im
      let moved := fun (its : List (Nat × Item)) => ((now.zip its).filter (fun x => !was.contains x.1)).map (fun x => x.2)
      if (moved now).isEmpty then d
      else
        match goldenProgram d im (1 + c / 64) with
        | (some g, d) => (moved (itemsNow d g)).foldl refillItem d
        | (none, d) => (moved now).foldl clearItem d) d

/-! ### Spares (02 R54 to R56; 06 R177; 10 R288) -/

/-- The first free spare for a canonical index (02 R54): the row of its original site, then rows at distance 1, 2 up to 7, the lower row first. -/
def pickSpare (d : Dev) (c : Nat) : Option Nat :=
  match siteOfCanon d.part c with
  | none => none
  | some o =>
    let r := o % 72 / 9
    let rows := r :: ((List.range 7).map (fun k => (if k + 1 ≤ r then [r - (k + 1)] else []) ++ (if r + k + 1 < 8 then [r + k + 1] else []))).flatten
    (rows.map (fun row => 72 * siteDie o + 9 * row + 4)).find? (fun s => decide ((siteInfo d s).st = .spare))

/-- Places of the hank store on a canonical index marked to be read from the golden copy (10 R288). -/
def markStore (d : Dev) (c : Nat) : Dev :=
  { d with ring := { d.ring with store := d.ring.store.map (fun e => if e.canon = c then { e with bad := true } else e) } }

/-- Marked places of an index written again from the golden copy, or a pinned hank from its mirror, in the promoted spare, or where there is none in free places of the die (10 R288; 11 R325). -/
def rewriteStore (d : Dev) (c : Nat) : Dev :=
  (d.ring.store.filter (fun e => decide (e.canon = c) && e.bad)).foldl (fun d e =>
    match imageByGen d e.model e.gen with
    | none => d
    | some im =>
      let n := if im.ringed then max 1 (ringSize d) else 4
      match seedBody d im e.index with
      | (none, d) => unreadable d im e.index false
      | (some b, d) => storeHank d im (blockNo (positions im) n (e.index / 2)) e.index b) d

/-- A canonical index without a site given the next spare, or fenced without one (17 R477 step 4; 02 R54, R55). `site` is the site that was fenced. -/
def promote (d : Dev) (c site : Nat) : Dev :=
  match pickSpare d c with
  | some s => clearSlice (setCore (setSite d s { siteInfo d s with st := .promoting, canon := some c }) s {}) s
  | none =>
    let d := elog 4 1 0x0106 site c { d with wdn := { d.wdn with noSpare := d.wdn.noSpare ++ [c] } }
    rewriteStore (exactMove d c) c

/-- The number of a gate: a site's own, and those of the seams after them. -/
def gateNum : GateUnit → Nat
  | .site i => i.val
  | .seam k => 288 + k.val

/-- The tasks whose accesses wait at a gate that closes abort with RECLAIM: the access is dropped there (06 R162). For the unacknowledged transfers of a lost seam the spec says that the tasks abort as class T and may
be retried (02 corner cases of R63) and names no cause: DEDUCED, log entry 111. -/
def dropAtGate (d : Dev) (g : Nat) : Dev :=
  let d := (d.wdn.stuck.filter (fun a => decide (a.gate = g))).foldl (fun d a =>
    match executing (coreAt d a.site) a.unit a.ctx with
    | some (n, pos) => faultTask d a.site n cReclaim pos
    | none => d) d
  clearStuck d (fun a => decide (a.gate = g))

/-- An access reported to wait at a gate, from a time: the unit that made it goes no further. -/
def noteStuck (d : Dev) (g : Nat) (who : Option GateReq) (since : Nat) : Dev :=
  match who with
  | none => d
  | some a =>
    if (executing (coreAt d a.site.val) a.unit.val a.ctx.val).isNone || stuckAt d a.site.val a.unit.val a.ctx.val then d
    else { d with wdn := { d.wdn with stuck := d.wdn.stuck ++ [{ site := a.site.val, unit := a.unit.val, ctx := a.ctx.val, gate := g, since := since }] } }

/-- A site declared FENCED, with its counter, event and entry (17 R472, R477). -/
def declareFenced (d : Dev) (i cause : Nat) (mgmt : Bool) : Dev :=
  let d := dropAtGate (setSite d i { siteInfo d i with st := .fenced, cause := cause, deciding := false, mgmtFence := false }) i
  elog 3 1 0x0103 i (cause + if mgmt then 2 ^ 31 else 0) (evt (cntInc d (Reg.WDN_CNT_LO 2)) Reg.WDN_EVT 1)

/-- A core site fenced (17 R477): SUSPECT, reclaimed, FENCED, and its index promoted. A spare not in use becomes SPARE_FAILED (17 R479, corner cases); one that is PROMOTING is fenced and the next is
selected. -/
def fenceSite (d : Dev) (i cause : Nat) (mgmt : Bool) : Dev :=
  let x := siteInfo d i
  match x.st with
  | .live | .suspect =>
    let d := reclaim (setSite d i { x with st := .suspect }) i
    let d := declareFenced d i cause mgmt
    restate (match x.canon with
      | some c => promote (markStore d c) c i
      | none => d)
  | .promoting =>
    let d := declareFenced d i cause mgmt
    restate (match x.canon with
      | some c => promote d c i
      | none => d)
  | .spare => setSite d i { x with st := .spareFailed, cause := cause }
  | _ => d

/-- The hank skein of every core: tagged, weight class and local (07 R198; 18 R506). -/
def hankSkeinDef (d : Dev) (c : Nat) : Skein :=
  { defd := true, base := sliceBase c + hankSkeinBase d, size := 1024, count := hankSkeinSlots d, tagged := true, ecc := true }

/-- The refill of a slice from the golden copies of the images that stand at the station, or from their mirrors (06 R177), in the class of the slice's die; whether every active image's has been read. -/
def refillFrom (c : Nat) : List Image → Dev → Bool × Dev
  | [], d => (true, d)
  | im :: r, d =>
    match goldenProgram d im (1 + c / 64) with
    | (some g, d) => refillFrom c r ((itemsNow d g).foldl (refillSlice c) d)
    | (none, d) => let (ok, d) := refillFrom c r d; (ok && !((modelAt d im.id).active = some im), d)

/-- SPARE_REFILL_COMPLETE (06 R177): the slice of a PROMOTING spare has been cleared and refilled and the site is LIVE; a spare that fails is fenced and the next is selected. The spare stays PROMOTING while a
resident region of an active image cannot be read from either copy. -/
def devSpareRefillComplete (i : Fin 288) (good : Bool) (d : Dev) : Dev :=
  let x := siteInfo d i.val
  match x.st, x.canon with
  | .promoting, some c =>
    if x.mgmtFence then fenceSite d i.val x.cause false
    else if !good then fenceSite d i.val 6 false
    else
      let e := setCore (setSite d i.val { x with st := .live, promoted := true }) i.val { skeins := [(63, hankSkeinDef d c)] }
      let (whole, e) := refillFrom c (installed e) e
      if !whole then setCore (setSite e i.val x) i.val {}
      else
        let e := elog 3 1 0x0104 i.val c (cntInc { e with wdn := { e.wdn with canonSite := smPut c (some i.val) e.wdn.canonSite } } (Reg.WDN_CNT_LO 3))
        restate (rewriteStore e c)
  | _, _ => d

/-- SPARE_TEST (02 R56): a spare that fails its test is never selected; one that fails as it is selected is passed over. -/
def devSpareTest (i : Fin 288) (pass : Bool) (d : Dev) : Dev :=
  let x := siteInfo d i.val
  if pass then d
  else
    match x.st with
    | .spare => elog 1 1 0x0105 i.val 0 (setSite d i.val { x with st := .spareFailed })
    | .promoting =>
      let d := elog 1 1 0x0105 i.val 0 (setSite d i.val { x with st := .spareFailed, canon := none })
      (match x.canon with
       | some c => promote d c ((siteOfCanon d.part c).getD i.val)
       | none => d)
    | _ => d

/-! ### Seams (17 R485, R487; 02 R63) -/

/-- A die declared lost. -/
def loseDie (d : Dev) (k : Nat) : Dev := { d with wdn := { d.wdn with dieLost := setAt d.wdn.dieLost k true } }

/-- A seam declared LOST (17 R485): the event and the class P entry; a second lost seam loses the package, with a die whose seams are both gone. -/
def loseSeam (d : Dev) (k : Nat) (mgmt : Bool) : Dev :=
  if (seamAt d k).st = .lost then d
  else
    let d := dropAtGate (setSeam d k { seamAt d k with st := .lost, deciding := false, mgmtFence := false }) (288 + k)
    let d := evt (evt d Reg.WDN_EVT 1) Reg.MGT_SEAM_STATUS (16 + k)
    let d := elog 4 3 0x0302 k (if mgmt then 2 ^ 31 else 0) d
    let cut := (List.range 4).filter (fun x => (List.range 4).all (fun s => !(decide ((seamDies s).1 = x) || decide ((seamDies s).2 = x)) || decide ((seamAt d s).st = .lost)))
    let d := cut.foldl loseDie d
    if 2 ≤ seamsLost d then enterLost d.wdn.active 3 mgmt d else pump (restate d)

/-! ### DISAGREE, SUSPECT and decisions (17 R472 to R476) -/

/-- Traffic that reaches the gate of a FENCED site or a LOST seam from its side (17 R473); the entry is of block CORE. -/
def gateDrop (d : Dev) : GateUnit → Dev
  | .site i => elog 1 1 0x0107 i.val 0 (evt (cntInc d (Reg.WDN_CNT_LO 4)) Reg.WDN_EVT 2)
  | .seam _ => evt (cntInc d (Reg.WDN_CNT_LO 4)) Reg.WDN_EVT 2

/-- DISAGREE for a seam (17 R474): a failed repeat is reported; the seam is SUSPECT and a decision is pending. -/
def disagreeSeam (d : Dev) (k : Nat) : Dev :=
  let x := seamAt d k
  match x.st with
  | .up | .suspect =>
    let d := setSeam d k { x with st := .suspect, deciding := true, suspects := d.now :: x.suspects.filter (fun t => decide (d.now < t + 1000000000)) }
    elog 1 3 0x0301 k 0 (evt (cntInc d (Reg.WDN_CNT_LO 0)) Reg.WDN_EVT 0)
  | _ => d

/-- DISAGREE raised by the data path: an unanswered access or a failed seam repeat (17 R474). A unit out of service that sends again is stopped at its gate (17 R473). A seam repeat that succeeds is a class C event
and delays no one (02 R59). -/
def devDisagree (u : GateUnit) (who : Option GateReq) (cured : Bool) (d : Dev) : Dev :=
  if d.code = stReset then d
  else
    match u with
    | .site i => if (siteInfo d i.val).st = .fenced then gateDrop d u else disagree d i.val 2
    | .seam k =>
      if (seamAt d k.val).st = .lost then gateDrop d u
      else if cured then cntInc d (Reg.ELOG_CNT_LO 0)
      else disagreeSeam (noteStuck d (gateNum u) who d.now) k.val

/-- Whether a unit is in service, LIVE or SUSPECT: handshakes are offered at its gate. -/
def gateOpen (d : Dev) : GateUnit → Bool
  | .site i => inService d i.val
  | .seam k => decide ((seamAt d k.val).st ≠ .lost)

/-- GATE_WATCHDOG: a handshake at a unit's gate unanswered for GATE_WD (17 R474): the access that offered it still waits. -/
def devGateWatchdog (u : GateUnit) (who : Option GateReq) (d : Dev) : Dev :=
  if d.code = stReset then d
  else
    let d := if gateOpen d u then noteStuck d (gateNum u) who (d.now - 1000 * fld d Reg.WDN_CFG 31 16) else d
    match u with
    | .site i => disagree d i.val 1
    | .seam k => disagreeSeam d k.val

/-- Whether a unit has become SUSPECT SUSPECT_LIMIT times within one second (17 R476). -/
def overLimit (d : Dev) (l : List Nat) : Bool := decide (fld d Reg.WDN_CFG 3 0 ≤ (l.filter (fun t => decide (d.now < t + 1000000000))).length)

/-- WARDEN_DECISION (17 R476): the probe's result for a unit on which a decision is pending: a SUSPECT unit, or a PROMOTING site marked for a fence (06 R171). `pass` means that the probe passed and every pending
handshake completed. A management fence that waits for the decision is applied whatever the probe shows, and is answered. -/
def devWardenDecision (u : GateUnit) (pass : Bool) (d : Dev) : Dev :=
  match u with
  | .site i =>
    let x := siteInfo d i.val
    if (x.st ≠ .suspect ∧ x.st ≠ .promoting) ∨ x.deciding = false then d
    else if x.mgmtFence then
      if x.cause = 5 then answerFence (fenceSite d i.val 5 true) 1 i.val else fenceSite d i.val x.cause false
    else if overLimit d x.suspects then fenceSite d i.val 2 false
    else if pass then pump (elog 1 1 0x0102 i.val 0 (cntInc (setSite (clearStuck d (fun a => decide (a.gate = gateNum u))) i.val { x with st := .live, deciding := false }) (Reg.WDN_CNT_LO 1)))
    else fenceSite d i.val 1 false
  | .seam k =>
    let x := seamAt d k.val
    if x.st ≠ .suspect ∨ x.deciding = false then d
    else if x.mgmtFence then answerFence (loseSeam d k.val true) 2 k.val
    else if overLimit d x.suspects || !pass then loseSeam d k.val false
    else pump (cntInc (cntInc (setSeam (clearStuck d (fun a => decide (a.gate = gateNum u))) k.val { x with st := .up, deciding := false }) (Reg.WDN_CNT_LO 1)) (Reg.ELOG_CNT_LO 0))

/-! ### Failover (17 R482 to R484) -/

/-- The standby takes over (17 R483), or the last warden is lost (17 R484). `why`: 1 heartbeat, 2 fault report, 3 ROM check. -/
def takeOver (d : Dev) (why : Nat) : Dev :=
  if d.wdn.standby = 0 then
    let d := { d with wdn := { d.wdn with active := 1, standby := 1, missed := 0 } }
    restate (elog 3 8 0x0801 1 why (evt (cntInc d (Reg.WDN_CNT_LO 6)) Reg.WDN_EVT 3))
  else enterLost d.wdn.active 2 false d

/-- HEARTBEAT (17 R483): a heartbeat reaches the standby, or is missed; three missed in a row are a takeover. -/
def devHeartbeat (received : Bool) (d : Dev) : Dev :=
  if d.wdn.standby ≠ 0 ∨ d.code = stReset then d
  else if received then { d with wdn := { d.wdn with missed := 0 } }
  else if 2 ≤ d.wdn.missed then takeOver d 1
  else { d with wdn := { d.wdn with missed := d.wdn.missed + 1 } }

/-- TAKEOVER (17 R483, R484). -/
def devTakeover (why : Fin 3) (d : Dev) : Dev := if d.code = stReset then d else takeOver d (why.val + 1)

/-- STANDBY_ACK_TIMEOUT (17 R482): the standby is declared LOST and the active warden goes on alone. -/
def devStandbyAckTimeout (d : Dev) : Dev :=
  if d.wdn.standby ≠ 0 ∨ d.code = stReset then d
  else restate (elog 3 8 0x0802 1 0 (evt { d with wdn := { d.wdn with standby := 2 } } Reg.WDN_EVT 4))

/-! ### Registers (17 R496) -/

/-- WDN_CLR_CNT. -/
def devWdnClrCnt (d : Dev) : Dev := cntClrN d (Reg.WDN_CNT_LO 0) 8

/-- ELOG_CLR_CNT. -/
def devElogClrCnt (d : Dev) : Dev := cntClrN d (Reg.ELOG_CNT_LO 0) 7

/-- The entry of a SEQ, and where it is held: 1 on die, 2 in the spill alone, 0 not held. An entry of an earlier boot has its own numbering and is not found by SEQ. -/
def elogFind (d : Dev) (seq : Nat) : Nat × Option ElogEntry :=
  let hit := fun (e : ElogEntry) => decide (e.seq = seq) && decide (e.boot = d.wdn.bootId)
  match d.wdn.elog.find? hit with
  | some e => (1, some e)
  | none => match d.wdn.spill.find? hit with | some e => (2, some e) | none => (0, none)

/-- ELOG_SEL: the entry is captured for ELOG_DATA as one untorn set, and READY is set (17 R496). -/
def devElogSel (seq : BitVec 32) (d : Dev) : Dev :=
  let d := { d with wdn := { d.wdn with shown := (elogFind d seq.toNat).2 } }
  setFld (wr d Reg.ELOG_SEL seq) Reg.ELOG_SEL_STATUS 8 8 1

end Sys2Proof.Machine
end

