-- ==== Sys2Proof/Machine/Settings.lean ====
section
/-! DEFINITION. The settings of the configuration image: the Image fields of the register tables with their defaults (18 R507, R508), and the range and consistency rules of every
block, which bind the image and every management write (00 R12, R14). -/

namespace Sys2Proof.Machine

/-! ### The register of an address -/

/-- The indices of an instance of a register array at an offset from its base. -/
def unIndex : List (Nat × Nat) → Nat → Option (List Nat)
  | [], off => if off = 0 then some [] else none
  | (n, s) :: r, off => if off / s < n then (unIndex r (off % s)).map (fun l => off / s :: l) else none

/-- The row of the register tables that an address belongs to, with the indices of the instance (19 R551). -/
def regAt (a : Nat) : Option (RegGroup × List Nat) :=
  regTable.findSome? (fun g => if a < g.base then none else (unIndex g.dims (a - g.base)).map (fun l => (g, l)))

/-- The index at a place of an index list. -/
def ix (l : List Nat) (k : Nat) : Nat := l.getD k 0

/-! ### Image fields -/

/-- The bits of a register whose reset is Image, and the value they default to (18 R508); no bits for a register without such a field. -/
def imageField (id : RegId) : W32 × W32 :=
  match id with
  | .MGT_VCORE_CFG => (0x00ff00ff, 0)
  | .MGT_VCORE_STAT => (0x000000ff, 0)
  | .MGT_THROTTLE_CFG => (0x03ff00ff, 0x02620064)
  | .MGT_SPAD_CFG => (0x1fff03ff, 0x01000040)
  | .MGT_NET_SPLIT => (0x00000fff, 0x00000448)
  | .WDN_CFG => (0xffff000f, 0x00050003)
  | .TIM_OUT_CFG => (0x8000ffff, 0)
  | .TIM_CFG => (0xfc1ffffb, 0)
  | .TIM_PRESC => (0xffffffff, 0x00010000)
  | .TIM_STATUS => (0x80000000, 0)
  | .TIM_CAP_CFG => (0x000000ff, 0)
  | .TIM_CMP_LO | .TIM_CMP_HI | .TIM_PRE_LO | .TIM_PRE_HI => (0xffffffff, 0)
  | .TIM_ACT => (0x000003ff, 0)
  | .TBS_CFG => (0xffff0007, 0x07d00000)
  | .TBS_CFG2 => (0xffff01ff, 0x000a0032)
  | .TBS_LOSS_CFG => (0xffff00ff, 0x03e80004)
  | .LNK_CFG => (0x03ffffff, 0x000a1064)
  | .LAP_STATION => (0x7fff00ff, 0)
  | .LAP_INSTALL => (0xffffffff, 0)
  | .LAP_CFG => (0x83ffffff, 0x00002710)
  | .LAP_HSTORE => (0xffff7fff, 0)
  | .HBM_CFG => (0xffff00ff, 0x01000000)
  | .LPX_CFG => (0xffff0000, 0x01000000)
  | .LPX_RGN_A => (0xf000ffff, 0)
  | .LPX_RGN_B => (0x0000ffff, 0)
  | .ETH_CFG => (0xff073017, 0)
  | .ETH_PTP_ASYM => (0xffffffff, 0)
  | .ETH_LANE_CFG => (0x00000003, 0)
  | .ETH_SP_MAC_LO | .ETH_SP_IPV4 | .ETH_SP_IPV6 | .ETH_SP_PFC => (0xffffffff, 0)
  | .ETH_SP_MAC_HI => (0x0000ffff, 0)
  | .ETH_SP_VLAN => (0x8007efff, 0)
  | .ETH_SP_L3 => (0xffffff3f, 0xb8a64000)
  | .ETH_SP_MACSEC => (0x8000ffff, 0)
  | .RVP_CFG => (0xffffffff, 0x000a00c8)
  | .RVP_CREDIT_CFG => (0xffff03ff, 0x10000064)
  | .RVP_LOAD_CFG => (0x8000ffff, 0)
  | .FCS_CFG => (0xffff000f, 0x012c0000)
  | .DET_TWIN_STATUS => (0xff800000, 0)
  | .DET_TWIN_CFG => (0x0000ffff, 0x00002710)
  | .DET_AUDIT_CAP | .ELOG_SPILL_CAP | .DET_MODEL_BUDGET => (0xffffffff, 0)
  | .DET_MODEL_MODE => (0x0000ff07, 0)
  | _ => (0, 0)

/-- The addresses of all instances of an array from a base. -/
def instances : List (Nat × Nat) → Nat → List Nat
  | [], a => [a]
  | (n, s) :: r, a => ((List.range n).map (fun i => instances r (a + i * s))).flatten

/-- The rows with Image fields. -/
def imageGroups : List RegGroup := regTable.filter (fun g => decide ((imageField g.id).1 ≠ 0))

/-! ### Rules of a register's value (00 R14) -/

/-- A number within bounds. -/
def within (lo hi n : Nat) : Bool := decide (lo ≤ n) && decide (n ≤ hi)

/-- The regions of package `j` as (kind, base, size) in MiB. -/
def regionsOf (d : Dev) (j : Nat) : List (Nat × Nat × Nat) :=
  (List.range 4).map (fun r => (fld d (Reg.LPX_RGN_A j r) 31 28, fld d (Reg.LPX_RGN_A j r) 15 0, fld d (Reg.LPX_RGN_B j r) 15 0))

/-- Whether a region kind may stand in package `j` (11 Table XMEM-7). -/
def kindAllowed (j kind : Nat) : Bool :=
  match kind with
  | 0 => true
  | 1 => decide (j = 0) || decide (j = 1)
  | 2 => decide (j = 2) || decide (j = 3)
  | 3 => true
  | 4 => decide (j = 0)
  | 5 => decide (j = 2)
  | 6 => decide (j = 1)
  | 7 => decide (j = 3)
  | _ => false

/-- The regions of a package that are in use. -/
def liveRegions (d : Dev) (j : Nat) : List (Nat × Nat × Nat) := (regionsOf d j).filter (fun x => decide (x.1 ≠ 0))

/-- Whether the regions of package `j` keep R316 but for a kind that is absent: kinds where they may stand and each once, multiples of 4 MiB within the package, no overlap. -/
def regionsOk (d : Dev) (j : Nat) : Bool :=
  let l := liveRegions d j
  l.all (fun x => kindAllowed j x.1 && decide (x.2.1 % 4 = 0) && decide (x.2.2 % 4 = 0) && decide (x.2.1 + x.2.2 ≤ lpxMib d)) &&
    distinct (l.map (fun x => x.1)) &&
    (List.range l.length).all (fun a => (List.range l.length).all (fun b => decide (b ≤ a) || !spanHit (l.getD a (0, 0, 0)).2 (l.getD b (0, 0, 0)).2))

/-- The kinds that package `j` must hold (11 R316): retention only of an enabled port. -/
def kindsNeeded (d : Dev) (j : Nat) : List Nat :=
  [3] ++ (if j < 2 ∧ ethDisabled d 0 = false then [1] else []) ++ (if j / 2 = 1 ∧ ethDisabled d 1 = false then [2] else []) ++
    (match j with | 0 => [4] | 2 => [5] | 1 => [6] | 3 => [7] | _ => [])

/-- Whether every region that R316 asks of package `j` is there. -/
def regionsThere (d : Dev) (j : Nat) : Bool := (kindsNeeded d j).all (fun k => (liveRegions d j).any (fun x => decide (x.1 = k)))

/-- Whether the flow region of package `j`, where there is one, holds its homes of the configured class (14 R391). -/
def homeFits (d : Dev) (j : Nat) : Bool :=
  ((liveRegions d j).all (fun x => decide (x.1 ≠ 3) || decide (8192 * 2 ^ (8 + fld d Reg.FCS_CFG 3 0) ≤ x.2.2 * 2 ^ 20)))

/-- PFC and VLAN rules of a sub-port that exists (12 R339, R340). -/
def pfcOk (d : Dev) (n s : Nat) : Bool :=
  let a := Reg.ETH_SP_PFC n s
  decide (subPorts d n ≤ s) || decide (fld d a 7 0 = 0) || (decide (fld d a 31 20 < fld d a 19 8) && decide (fld d a 19 8 + 64 ≤ ethShare d n / 1024))

/-- The VLAN rule of a sub-port that exists. -/
def vlanOk (d : Dev) (n s : Nat) : Bool :=
  let a := Reg.ETH_SP_VLAN n s
  decide (subPorts d n ≤ s) || decide (fld d a 31 31 = 0) || within 1 4094 (fld d a 11 0)

/-- The settings of TIMER_31 (15 Table TIME-6), register by register. -/
def beatCfgOk (d : Dev) : Bool :=
  let c := Reg.TIM_CFG 31
  decide (fld d c 11 8 = 1) && decide (fld d c 1 0 = 0) && decide (fld d c 31 31 = 0) && decide (fld d c 15 12 = 0)
def beatPrescOk (d : Dev) : Bool := decide (rdn d (Reg.TIM_PRESC 31) = 0x00010000)
def beatPeriodOk (cmpA : Nat) : Bool := decide (500 % (cmpA + 1) = 0)
def beatActOk (d : Dev) (y : Nat) : Bool := decide (rdn d (Reg.TIM_ACT 31 y) = if y = 0 then 0x101 else 0)
def beatOk (d : Dev) : Bool := beatCfgOk d && beatPrescOk d && beatPeriodOk ((timerAt d 31).cmp.getD 0 0) && (List.range 5).all (beatActOk d)

/-- LOAD_EN bits of a disabled port must be 0 (12 R583). -/
def loadEnOk (d : Dev) : Bool := (List.range 2).all (fun n => !ethDisabled d n || decide (fld d Reg.RVP_LOAD_CFG (8 * n + 7) (8 * n) = 0))

/-- Whether the hank skein ends within a slice and keeps clear of the hank store (18 R506). -/
def hankSkeinOk (d : Dev) : Bool :=
  decide (hankSkeinBase d + 1024 * hankSkeinSlots d ≤ 32768) && !spanHit (hankSkeinBase d, 1024 * hankSkeinSlots d) (hstoreBase d, hstoreWords d)

/-- Whether the value that a register holds keeps the rules of its block, reserved encodings among them. -/
def regRule (d : Dev) (id : RegId) (l : List Nat) : Bool :=
  let k := ix l 0
  let f := fun (a hi lo : Nat) => fld d a hi lo
  match id with
  | .MGT_VCORE_CFG => let a := Reg.MGT_VCORE_CFG k; within 120 170 (f a 23 16) && within 120 170 (f a 7 0) && decide (f a 23 16 ≤ f a 7 0)
  | .MGT_THROTTLE_CFG => within 200 750 (f Reg.MGT_THROTTLE_CFG 25 16) && within 85 104 (f Reg.MGT_THROTTLE_CFG 7 0)
  | .MGT_SPAD_CFG => within 16 4096 (f Reg.MGT_SPAD_CFG 28 16) && within 16 1000 (f Reg.MGT_SPAD_CFG 9 0)
  | .MGT_NET_SPLIT =>
    let x := [f Reg.MGT_NET_SPLIT 11 8, f Reg.MGT_NET_SPLIT 7 4, f Reg.MGT_NET_SPLIT 3 0]
    x.all (within 1 14) && decide (x.sum = 16)
  | .WDN_CFG => within 1 1000 (f Reg.WDN_CFG 31 16) && within 2 15 (f Reg.WDN_CFG 3 0)
  | .LNK_CFG => let a := Reg.LNK_CFG k; within 2 1000 (f a 25 16) && within 4 64 (f a 15 8) && decide (f a 7 0 ≠ 0)
  | .LAP_CFG => within 16 1023 (f Reg.LAP_CFG 25 16) && decide (1000 ≤ f Reg.LAP_CFG 15 0)
  | .LAP_HSTORE => decide (hstoreBase d + hstoreWords d ≤ 32768) && (d.boot.image.isEmpty || hankSkeinOk d)
  | .HBM_CFG => decide (f (Reg.HBM_CFG k) 31 16 ≠ 0) && decide (f (Reg.HBM_CFG k) 7 0 ≤ 144) && decide (((List.range 4).map (fun j => f (Reg.HBM_CFG j) 7 0)).sum ≤ 576)
  | .LPX_CFG => decide (f (Reg.LPX_CFG k) 31 16 ≠ 0)
  | .LPX_RGN_A | .LPX_RGN_B => regionsOk d k && homeFits d k
  | .RVP_LOAD_CFG => loadEnOk d
  | .ETH_CFG => decide (f (Reg.ETH_CFG k) 13 12 ≠ 3) && loadEnOk d && (List.range 8).all (fun s => pfcOk d k s && vlanOk d k s)
  | .ETH_SP_VLAN => vlanOk d k (ix l 1)
  | .ETH_SP_L3 => decide (subPorts d k ≤ ix l 1) || decide (f (Reg.ETH_SP_L3 k (ix l 1)) 31 16 ≠ 0)
  | .ETH_SP_PFC => pfcOk d k (ix l 1)
  | .RVP_CFG => within 1 3600 (f Reg.RVP_CFG 31 16) && within 10 10000 (f Reg.RVP_CFG 15 0)
  | .RVP_CREDIT_CFG => decide (64 ≤ f Reg.RVP_CREDIT_CFG 31 16) && within 1 1000 (f Reg.RVP_CREDIT_CFG 9 0)
  | .FCS_CFG => decide (f Reg.FCS_CFG 3 0 ≤ 8) && decide (f Reg.FCS_CFG 31 16 ≠ 0) && (List.range 8).all (homeFits d)
  | .TBS_CFG => within 100 65535 (f Reg.TBS_CFG 31 16)
  | .TBS_CFG2 => within 1 3600 (f Reg.TBS_CFG2 31 16) && within 1 500 (f Reg.TBS_CFG2 8 0)
  | .TBS_LOSS_CFG => within 10 65535 (f Reg.TBS_LOSS_CFG 31 16) && within 2 255 (f Reg.TBS_LOSS_CFG 7 0)
  | .DET_TWIN_CFG => within 100 65535 (f Reg.DET_TWIN_CFG 15 0)
  | .TIM_CFG =>
    let a := Reg.TIM_CFG k
    decide (f a 11 8 ≤ 7) && (decide (f a 11 8 ≠ 7) || decide (f a 7 3 ≠ k)) && decide (f a 27 26 ≠ 3) && (timerAt d k).cmp.all (fun v => decide (v < 2 ^ tmWidth d k)) &&
      (timerAt d k).pre.all (fun v => decide (v < 2 ^ tmWidth d k)) && (decide (k ≠ 31) || beatCfgOk d)
  | .TIM_PRESC => decide (f (Reg.TIM_PRESC k) 31 16 ≠ 0) && (decide (k ≠ 31) || beatPrescOk d)
  | .TIM_ACT => decide (k ≠ 31) || beatActOk d (ix l 1)
  | .TIM_CAP_CFG => decide (f (Reg.TIM_CAP_CFG k) 7 4 ≤ 9) && decide (f (Reg.TIM_CAP_CFG k) 3 0 ≤ 9)
  | .HBM_TG_CFG => decide (f (Reg.HBM_TG_CFG k (ix l 1)) 5 4 ≠ 3) && decide (f (Reg.HBM_TG_CFG k (ix l 1)) 10 8 ≤ 3)
  | .LPX_TG_CFG => decide (f (Reg.LPX_TG_CFG k (ix l 1)) 5 4 ≠ 3) && decide (f (Reg.LPX_TG_CFG k (ix l 1)) 10 8 ≤ 3)
  | .CORE_SPAD_INJECT => let a := Reg.CORE_SPAD_INJECT k; decide (f a 31 31 = 0) || (decide (f a 30 29 ≠ 0) && decide (f a 28 25 ≤ 7))
  | .DET_MODEL_FAST_G => let a := Reg.DET_MODEL_FAST_G k; if f a 15 15 = 1 then within 1 256 (f a 8 0) else decide (f a 8 0 = 0)
  | _ => true

/-! ### Loading (18 R507, R508) -/

/-- A register's Image fields given a value: the compares of a timer, and their preloads with them, stand in the timer. -/
def loadField (d : Dev) (g : RegGroup) (l : List Nat) (a v : Nat) : Dev :=
  let n := ix l 0
  let x := ix l 1
  let half := fun (old : Nat) (hi : Bool) => if hi then old % 2 ^ 32 + v * 2 ^ 32 else old / 2 ^ 32 * 2 ^ 32 + v
  let put := fun (hi : Bool) => let t := timerAt d n; let c := setAt t.cmp x (half (t.cmp.getD x 0) hi); setTimer d n { t with cmp := c, pre := c }
  match g.id with
  | .TIM_CMP_LO => put false
  | .TIM_CMP_HI => put true
  | .TIM_PRE_LO | .TIM_PRE_HI | .TIM_STATUS | .DET_AUDIT_CAP | .ELOG_SPILL_CAP | .LAP_STATION | .LAP_INSTALL | .DET_TWIN_STATUS | .MGT_VCORE_STAT | .DET_MODEL_MODE | .DET_MODEL_BUDGET => d
  | _ => wr d a (BitVec.ofNat 32 v)

/-- The Image fields at their defaults. -/
def loadDefaults (d : Dev) : Dev :=
  imageGroups.foldl (fun d g => if (imageField g.id).2 = 0 then d else (instances g.dims g.base).foldl (fun d a => wr d a (imageField g.id).2) d) d

/-- The entries of SETTINGS as (offset, value). -/
def settingsOf (img : List Byte) : List (Nat × Nat) := (rowsOf 8 (cfgSection img 3)).map (fun e => (leAt e 0 4, leAt e 4 4))

/-- Whether an entry of SETTINGS keeps R507 by itself: a register with an Image field, no other bit set, a sub-port within its port's MODE. -/
def entryOk (d : Dev) (e : Nat × Nat) : Bool :=
  match regAt e.1 with
  | none => false
  | some (g, l) =>
    let m := (imageField g.id).1
    let sub := [RegId.ETH_SP_MAC_LO, .ETH_SP_MAC_HI, .ETH_SP_IPV4, .ETH_SP_IPV6, .ETH_SP_VLAN, .ETH_SP_L3, .ETH_SP_PFC, .ETH_SP_MACSEC].contains g.id
    decide (m ≠ 0) && decide (BitVec.ofNat 32 e.2 &&& ~~~m = 0) && (!sub || decide (ix l 1 < subPorts d (ix l 0)))

/-- The first entry out of order (18 R507). -/
def disordered : List (Nat × Nat) → Option Nat
  | x :: y :: r => if x.1 < y.1 then disordered (y :: r) else some y.1
  | _ => none

/-- The settings loaded: defaults, then entries, then the fields that come from other sections or are computed (18 R508). -/
def loadSettings (d : Dev) (img : List Byte) : Dev :=
  let d := { d with boot := { d.boot with image := img } }
  let d := (settingsOf img).foldl (fun d e => match regAt e.1 with | some (g, l) => loadField d g l e.1 e.2 | none => d) (loadDefaults d)
  let ring := cfgSection img 1
  let stn := cfgSection img 2
  let me := leAt stn 0 1
  let n := leAt ring 5 1
  let d := wr d Reg.LAP_STATION (BitVec.ofNat 32 (me + 2 ^ 16 * n + 2 ^ 24 * leAt ring 4 1))
  let d := wr d Reg.LAP_INSTALL (BitVec.ofNat 32 (leAt ring 0 4))
  let twin := leAt stn 2 1
  let named := leAt stn 1 1 % 2 = 1
  let d := setFld d Reg.DET_TWIN_STATUS 31 24 (if named then twin else 0xFF)
  let d := setFld d Reg.DET_TWIN_STATUS 23 23 (if named ∧ twin = (me + 1) % max 1 n ∧ (n ≠ 2 ∨ me < twin) then 1 else 0)
  let d := (List.range 4).foldl (fun d k => setFld d (Reg.MGT_VCORE_STAT k) 7 0 (fld d (Reg.MGT_VCORE_CFG k) 7 0)) d
  let size := fun (j kind : Nat) => ((regionIn d j kind).map (fun r => r.2)).getD 0
  let d := wr d Reg.DET_AUDIT_CAP (BitVec.ofNat 32 (min (size 0 4) (size 2 5) / 128))
  wr d Reg.ELOG_SPILL_CAP (BitVec.ofNat 32 (min (size 1 6) (size 3 7) / 32))

/-- The register that fails check 8 of Table BOOT-9 (18 R507, R508): an entry that breaks R507, or the first register whose complete value breaks a rule of its block. -/
def settingsFail (d : Dev) (img : List Byte) : Option Nat :=
  let s := settingsOf img
  match disordered s with
  | some a => some a
  | none =>
    let d1 := loadSettings d img
    match s.find? (fun e => !entryOk d1 e) with
    | some e => some e.1
    | none =>
      match imageGroups.findSome? (fun g => (instances g.dims g.base).find? (fun a => !regRule d1 g.id ((unIndex g.dims (a - g.base)).getD []))) with
      | some a => some a
      | none =>
        if !beatOk d1 then some (Reg.TIM_CFG 31)
        else
          match (List.range 8).find? (fun j => !regionsThere d1 j) with
          | some j => some (Reg.LPX_RGN_A j 0)
          | none => none

end Sys2Proof.Machine
end

