-- ==== Sys2Proof/Machine/Boot.lean ====
section
/-! DEFINITION. Resets, straps, the boot flash, the configuration image and the boot phases (18 R497 to R519). -/

namespace Sys2Proof.Machine

/-! ### VCORE (03 R82) -/

/-- The commanded VCORE of a die, in 5 mV codes. -/
def commanded (d : Dev) (k : Nat) : Nat := fld d (Reg.MGT_VCORE_STAT k) 7 0

/-- A code commanded to a die's regulator over AVSBus; completion is awaited (03 R82). -/
def commandVcore (d : Dev) (k code : Nat) : Dev :=
  let d := setFld d (Reg.MGT_VCORE_STAT k) 7 0 code
  { d with pwr := { d.pwr with avs := setAt d.pwr.avs k 1 } }

/-- The next code on a die's way to its goal; at the goal none is left. -/
def stepVcore (d : Dev) (k : Nat) : Dev :=
  let g := d.pwr.goal.getD k 0
  if g = 0 then d
  else if commanded d k = g then { d with pwr := { d.pwr with goal := setAt d.pwr.goal k 0 } }
  else commandVcore d k (if commanded d k < g then commanded d k + 1 else commanded d k - 1)

/-- Every die moved to a code, each change one code whose completion is awaited before the next (03 R82). -/
def steerVcore (code : Dev → Nat → Nat) (d : Dev) : Dev :=
  (List.range 4).foldl (fun d k =>
    let d := { d with pwr := { d.pwr with goal := setAt d.pwr.goal k (code d k) } }
    if d.pwr.avs.getD k 0 = 0 then stepVcore d k else d) d

/-! ### Reference clocks (03 R92) -/

/-- The entries of the SERREF_156 inputs that are absent when the settings have shown which Ethernet ports are enabled (03 R92; 20 corner cases of R565). -/
def serrefAbsent (d : Dev) : Dev :=
  (List.range 2).foldl (fun d n => if d.pwr.serref.getD n true || ethDisabled d n then d else elog 3 9 0x0903 n 1 d) d

/-- The entries of the OPTREF_156 inputs that are absent when the package leaves reset. -/
def optrefAbsent (d : Dev) : Dev :=
  (List.range 2).foldl (fun d p => if d.pwr.optref.getD p true then d else elog 3 9 0x0903 (2 + p) 2 d) d

/-! ### Resets (18 R497, R498) -/

/-- Everything back at reset, but for what a reset of any type keeps here: the part, and the number of free values drawn. -/
def freshDev (d : Dev) (cause : Nat) : Dev :=
  { part := d.part, free := d.free,
    regs := { val := [(Reg.MGT_ALERT_EN, 0xff), (Reg.ELOG_ALERT_MASK, 0x1c), (Reg.BOOT_STATUS, BitVec.ofNat 32 (16 * cause))] } }

/-- A power-on reset (18 Table BOOT-1): `vaon` says that VAON itself fell below 0.72 V, which alone clears the THERMTRIP_N latch (20 R561). -/
def devPor (vaon : Bool) (d : Dev) : Dev :=
  let n := freshDev d 1
  if vaon then n else { n with pwr := { n.pwr with thermtrip := d.pwr.thermtrip } }

/-- A PIN or MGMT reset (18 Table BOOT-1): LPDDR 5X contents stay, the error log spill among them, and the VAON domain. -/
def softReset (cause : Nat) (d : Dev) : Dev :=
  let n := freshDev d cause
  let lpx := fun (a : Nat) => decide (0x4000000000 ≤ a)
  { n with mem := { n.mem with ext := d.mem.ext.filter (fun x => lpx x.1), extErr := d.mem.extErr.filter (fun x => lpx (64 * x.1)) },
           wdn := { n.wdn with spill := d.wdn.spill },
           pwr := { n.pwr with serref := d.pwr.serref, optref := d.pwr.optref, sysref := d.pwr.sysref, xt32k := d.pwr.xt32k, pwrgd := d.pwr.pwrgd, thermtrip := d.pwr.thermtrip } }

/-- PWRGD_FALL (20 R560; 18 R499, corner cases): the package is in RESET from that moment, and it is a POR. -/
def devPwrgdFall (d : Dev) : Dev := devPor false d

/-- RESET_RELEASE (18 R499): RESET_N and PWRGD are high; the straps are sampled (bit 0 FLASH_0, 1 FLASH_1, 2 SMB_0, 3 SMB_1, 4 TEST) and BOOT is entered with a new challenge (R518). -/
def devResetRelease (straps : Fin 32) (d : Dev) : Dev :=
  if d.code ≠ stReset then d
  else
    let d := { d with pwr := { d.pwr with resetN := true, pwrgd := true }, boot := { d.boot with bootFrom := d.now } }
    let d := setFld d Reg.BOOT_STATUS 20 16 straps.val
    let d := (List.range 4).foldl (fun d w => let (v, d) := draw d; wr d (Reg.BOOT_CHALLENGE w) (BitVec.ofNat 32 v)) d
    optrefAbsent (setCode d stBoot)

/-! ### The boot flash (18 R501) -/

/-- What an erased byte of flash reads as (log entry 7). -/
def flashDefault : Byte := 0xFF

/-- `n` bytes of flash from an address. -/
def flashRead (fl : List Host.Cell) (a n : Nat) : List Byte := (List.range n).map (fun i => smGet flashDefault fl (a + i))

/-- The first byte of a slot. -/
def slotBase (k : Nat) : Nat := 0x400000 * k

/-! ### The checks of a copy (18 Table BOOT-9) -/

/-- Check 2: the fixed fields of the header and IMAGE_SIZE. -/
def cfgHeaderOk (h : List Byte) : Bool :=
  decide (h.take 4 = [0x55, 0x37, 0x43, 0x46]) && decide (leAt h 4 2 = 1) && decide (leAt h 6 2 = 256) && within 448 4194304 (leAt h 8 4)

/-- Check 3: the key of the header's slot (18 R509). A slot above 3 is no slot. -/
def cfgKeyOk (fz : Fuses) (h : List Byte) : Bool :=
  match fz.keys[leAt h 20 1]? with
  | none => false
  | some k => k.provisioned && !k.revoked && decide (sha384 (slice h 32 96) = k.hash) && p384KeyOk (keyBytes (slice h 32 96))

/-- The section table of a configuration image as (TYPE, OFFSET, LENGTH). -/
def cfgTable (img : List Byte) : List (Nat × Nat × Nat) :=
  (List.range (leAt img 21 1)).map (fun i => let e := slice img (256 + 16 * i) 16; (leAt e 0 1, leAt e 4 4, leAt e 8 4))

/-- Whether sections lie one after another at multiples of 8 with zeros between, from `pos` to `hi`. -/
def cfgLayout (img : List Byte) : Nat → Nat → List (Nat × Nat × Nat) → Bool
  | pos, hi, [] => decide (pos ≤ hi) && allZero (slice img pos (hi - pos))
  | pos, hi, s :: r =>
    decide (s.2.1 % 8 = 0) && decide (pos ≤ s.2.1) && decide (s.2.1 + s.2.2 ≤ hi) && allZero (slice img pos (s.2.1 - pos)) && cfgLayout img (s.2.1 + s.2.2) hi r

/-- A section put in order of offset, an empty one first. -/
def insertCfg (s : Nat × Nat × Nat) : List (Nat × Nat × Nat) → List (Nat × Nat × Nat)
  | [] => [s]
  | x :: r => if s.2.1 < x.2.1 ∨ (s.2.1 = x.2.1 ∧ s.2.2 ≤ x.2.2) then s :: x :: r else x :: insertCfg s r

/-- Whether a section has a length that Table BOOT-6 allows. -/
def cfgLenOk (s : Nat × Nat × Nat) : Bool :=
  match s.1 with
  | 1 => decide (s.2.2 = 400)
  | 2 => decide (s.2.2 = 8)
  | 3 => decide (s.2.2 % 8 = 0) && decide (s.2.2 ≤ 32768)
  | 4 => decide (s.2.2 = 8)
  | 5 => decide (s.2.2 = 4)
  | 6 => decide (s.2.2 = 104)
  | _ => false

/-- RING (18 Table BOOT-7; 10 R269). -/
def cfgRingOk (r : List Byte) : Bool :=
  let mask := leAt r 6 1
  decide (leAt r 4 1 < 128) && decide (leAt r 5 1 ≠ 0) && decide (mask < 16) && allZero (slice r 7 9) &&
    (List.range 4).all (fun k => let key := slice r (16 + 96 * k) 96; if mask.testBit k then p384KeyOk (keyBytes key) else allZero key)

/-- STATION. -/
def cfgStationOk (n : Nat) (s : List Byte) : Bool :=
  let twin := leAt s 2 1
  decide (leAt s 0 1 < n) && decide (leAt s 1 1 < 2) && allZero (slice s 3 5) && (if leAt s 1 1 = 1 then decide (twin < n) && decide (twin ≠ leAt s 0 1) else decide (twin = 0))

/-- HANK_SKEIN. -/
def cfgHankOk (h : List Byte) : Bool :=
  decide (leAt h 0 2 < 32768) && within 8 16 (leAt h 2 1) && allZero (slice h 3 5) && decide (leAt h 0 2 + 1024 * leAt h 2 1 ≤ 32768)

/-- DEBUG. -/
def cfgDebugOk (b : List Byte) : Bool :=
  b.isEmpty || (decide (leAt b 0 1 ≤ 2) && allZero (slice b 1 7) && (if leAt b 0 1 = 1 then p384KeyOk (keyBytes (slice b 8 96)) else allZero (slice b 8 96)))

/-- Check 7: the header's reserved fields, the section table and the sections (18 R502 to R506). -/
def cfgStructureOk (img : List Byte) : Bool :=
  let n := leAt img 21 1
  let tab := cfgTable img
  let count := fun (t : Nat) => tab.countP (fun s => decide (s.1 = t))
  decide (leAt img 16 4 ≤ 63) && decide (leAt img 23 1 ≤ 3) && (decide (n = 5) || decide (n = 6)) && allZero (slice img 24 8) && allZero (slice img 128 128) &&
    (List.range n).all (fun i => allZero (slice img (257 + 16 * i) 3) && allZero (slice img (268 + 16 * i) 4)) &&
    [1, 2, 3, 4, 5].all (fun t => decide (count t = 1)) && decide (count 6 ≤ 1) && tab.all cfgLenOk &&
    cfgLayout img (256 + 16 * n) (img.length - 96) (tab.foldr insertCfg []) &&
    cfgRingOk (cfgSection img 1) && cfgStationOk (leAt (cfgSection img 1) 5 1) (cfgSection img 2) && cfgHankOk (cfgSection img 4) &&
    decide (2 ^ 31 ≤ leAt (cfgSection img 5) 0 4) && cfgDebugOk (cfgSection img 6)

/-- The reason for which a copy fails Table BOOT-9, 0 for none, with the register that fails check 8. -/
def checkCopy (fz : Fuses) (d : Dev) (read : Bool) (img : List Byte) : Nat × Nat :=
  if !read then (2, 0)
  else if !cfgHeaderOk img then (1, 0)
  else if !cfgKeyOk fz img then (3, 0)
  else if !sigOk (slice img 32 96) (img.take (img.length - 96)) (img.drop (img.length - 96)) then (4, 0)
  else if leAt img 16 4 < fz.minSvn then (5, 0)
  else if leAt img 22 1 ≠ 0xB0 ∨ (leAt img 23 1).testBit (if d.part.gradeS then 1 else 0) = false then (6, 0)
  else if !cfgStructureOk img then (7, 0)
  else match settingsFail d img with
    | some a => (8, a)
    | none => (0, 0)

/-- The bytes of a slot that its header says the image has. -/
def slotImage (fl : List Host.Cell) (k : Nat) : List Byte :=
  let h := flashRead fl (slotBase k) 256
  if cfgHeaderOk h then flashRead fl (slotBase k) (leAt h 8 4) else h

/-- The header fields of a copy shown in its registers (18 Table BOOT-13). -/
def showCopy (d : Dev) (k : Nat) (img : List Byte) : Dev :=
  let d := setFld d (Reg.BOOT_COPY k) 17 16 (leAt img 20 1)
  wr (wr d (Reg.BOOT_COPY_SEQ k) (BitVec.ofNat 32 (leAt img 12 4))) (Reg.BOOT_COPY_SVN k) (BitVec.ofNat 32 (leAt img 16 4 % 64))

/-! ### BOOT_FAILED and the end of a phase -/

/-- The next phase shown (18 Table BOOT-10). -/
def phase (d : Dev) (n : Nat) : Dev := setFld d Reg.BOOT_STATUS 3 0 n

/-- No copy is selected: BOOT_FAILED (18 R512). -/
def bootFailed (d : Dev) : Dev := elog 5 11 0x0B02 0 0 (setCode (phase d 9) stBootFailed)

/-- A copy rejected. -/
def rejectCopy (d : Dev) (k reason : Nat) : Dev := elog 1 11 0x0B01 0 k (setFld d (Reg.BOOT_COPY k) 31 24 reason)

/-- A copy tried: selected, or rejected (18 R512). -/
def tryCopy (fz : Fuses) (fl : List Host.Cell) (read : List Bool) (d : Dev) (k : Nat) : Dev :=
  if fld d Reg.BOOT_STATUS 27 26 ≠ 0 then d
  else
    let img := slotImage fl k
    match checkCopy fz d (read.getD k false) img with
    | (0, _) =>
      let d := setFld d Reg.BOOT_STATUS 27 26 (k + 1)
      let d := setFld d Reg.BOOT_STATUS 29 28 (leAt (cfgSection img 6) 0 1)
      let dig := sha384 img
      let d := (List.range 12).foldl (fun d w => wr d (Reg.BOOT_IMAGE_DIGEST w) (BitVec.ofNat 32 (leAt dig (4 * w) 4))) d
      { d with boot := { d.boot with image := img } }
    | (r, a) =>
      let d := rejectCopy d k r
      if r = 8 then wr d Reg.BOOT_SETTING_FAIL (BitVec.ofNat 32 a) else d

/-! ### The phases -/

/-- ROM. -/
def bootRom (good0 good1 sysref xt32k : Bool) (d : Dev) : Dev :=
  let d := { d with pwr := { d.pwr with sysref := sysref, xt32k := xt32k } }
  if !good0 && !good1 then enterLost 0 2 false { d with wdn := { d.wdn with standby := 2 } }
  else
    let d := if !good0 then takeOver d 3 else if !good1 then devStandbyAckTimeout d else d
    if !sysref then enterLost d.wdn.active 6 false d
    else phase (if xt32k then d else elog 1 9 0x0904 0 0 d) 1

/-- FLASH: STRAP_TEST high, and a flash that cannot be read, end in BOOT_FAILED (18 Tables BOOT-2, BOOT-3, R501 corner cases). -/
def bootFlash (ok : Bool) (d : Dev) : Dev :=
  let straps := fld d Reg.BOOT_STATUS 20 16
  if straps.testBit 4 then bootFailed d
  else if !ok ∨ straps % 4 = 3 then bootFailed (rejectCopy (rejectCopy d 0 2) 1 2)
  else phase d 2

/-- VERIFY: the choice of the copy in use (18 R512). -/
def bootVerify (fz : Fuses) (fl : List Host.Cell) (readA readB : Bool) (d : Dev) : Dev :=
  let hdr := fun (k : Nat) => flashRead fl (slotBase k) 256
  let a := readA && cfgHeaderOk (hdr 0)
  let b := readB && cfgHeaderOk (hdr 1)
  let d := if readA then showCopy d 0 (hdr 0) else d
  let d := if readB then showCopy d 1 (hdr 1) else d
  let order := if a && b then (if leAt (hdr 0) 12 4 < leAt (hdr 1) 12 4 then [1, 0] else [0, 1]) else if b then [1, 0] else [0, 1]
  let d := order.foldl (tryCopy fz fl [readA, readB]) d
  if fld d Reg.BOOT_STATUS 27 26 = 0 then bootFailed d else phase d 3

/-- CLEAR: every slice cleared (06 R165), and the hank skein defined on every core (07 R198). -/
def bootClear (d : Dev) : Dev :=
  let d := { d with mem := { d.mem with spad := [], cls := [], err := [] } }
  let d := (List.range 256).foldl (fun d c => match servingSite d c with
    | some s => setCore d s { skeins := [(63, hankSkeinDef d c)] }
    | none => d) d
  phase d 5

/-- A core site that fails its self-test: a spare is marked failed and passed over, a canonical site fenced and replaced (18 Table BOOT-10; 02 R56). -/
def failSite (d : Dev) (i : Fin 288) : Dev :=
  match (siteInfo d i.val).st with
  | .spare => devSpareTest i false d
  | .live => fenceSite d i.val 1 false
  | _ => d

/-- The end of SELFTEST (18 R514): the timers of TIMER_START and TIMER_31 started on its grid, boot lock, the debug policy OPEN, SETPOINT commanded to every regulator
(20 corner cases of R557), TRAIN with both ring ports in training. -/
def endBoot (d : Dev) : Dev :=
  let mask := leAt (cfgSection d.boot.image 5) 0 4
  let d := (List.range 32).foldl (fun d n => if mask.testBit n then setTimer d n { timerAt d n with running := true } else d) d
  let d := alignBeats d
  let d := setFld d Reg.BOOT_STATUS 31 31 1
  let d := if fld d Reg.BOOT_STATUS 29 28 = 2 then setFld d Reg.BOOT_STATUS 30 30 1 else d
  let d := wr d (Reg.BOOT_TIME 0) (BitVec.ofNat 32 ((d.now - d.boot.bootFrom) / 1000))
  let d := (List.range 4).foldl (fun d k => commandVcore d k (fld d (Reg.MGT_VCORE_CFG k) 7 0)) d
  let d := setCode (phase { d with boot := { d.boot with trainFrom := d.now } } 6) stTrain
  (List.range 2).foldl (fun d p => if d.pwr.optref.getD p true then startTraining d p 1 else linkDown (startTraining d p 1) p 5 0) d

/-- SELFTEST: spares before the canonical sites that they may replace, these in ascending canonical index (02 corner cases of R56), then seams. -/
def bootSelftest (sites : List (Fin 288)) (seams : List (Fin 4)) (d : Dev) : Dev :=
  let d := (sites.filter (fun i => isSpareSite i.val)).foldl failSite d
  let d := ((List.range 256).filterMap (fun c => sites.find? (fun i => decide (siteOfCanon d.part c = some i.val)))).foldl failSite d
  let d := (List.finRange 4).foldl (fun d k => if seams.contains k then loseSeam d k.val false else setSeam d k.val { seamAt d k.val with st := .up }) d
  if d.code = stLost then d else endBoot d

/-- A channel that fails training (11 R306): TRAIN_FAILED, its granules holes. -/
def failChannel (d : Dev) (u c : Nat) : Dev :=
  if hasCh u c = false ∨ chState d u c = 3 then d
  else elog 3 (chBlock u) 0x0601 (chUnit u c) 0 (evt (evt (setFld d (xreg u (0x200 + 4 * c)) 31 28 3) (xreg u 0x004) c) (xreg u 0x00C) 0)

/-- The end of a controller's training: its state, live channels and capacity; with no channel left it is lost (11 R306). -/
def trainCtl (d : Dev) (u : Nat) : Dev :=
  let live := (List.range (chCount u)).countP (fun c => decide (chState d u c = 0))
  let d := setFld (setFld d (xreg u 0) 15 8 live) (xreg u 0) 3 0 (if live = 0 then 3 else 1)
  let d := wr d (xreg u 0x008) (BitVec.ofNat 32 (live * chMib d u))
  if live = 0 then elog 4 (chBlock u) 0x0604 (256 * (if u < 4 then u else u - 4) + 0xFF) 0 d else d

/-- The LOG_SEQ of the good audit record that holds a byte of a copy of the log from `b` (18 R515). -/
def recordAt (d : Dev) (b a : Nat) : Option Nat :=
  let r := memRead d.mem.ext (b + 128 * ((a - b) / 128)) 128
  if extHole d (b + 128 * ((a - b) / 128)) 128 || decide (leAt r 124 4 ≠ crc32c (r.take 124)) then none else some (leAt r 104 8)

/-- One above the LOG_SEQ of the newest good audit record in either copy, 0 if there is none (18 R515). A record whose bytes all read 0 has no good CRC, so the listed bytes of memory show every record. -/
def nextLogSeq (d : Dev) : Nat :=
  let seqs : Nat → Nat → List Nat := fun j kind =>
    match regionIn d j kind with
    | none => []
    | some (b, n) => (d.mem.ext.filter (fun (x : Host.Cell) => decide (b ≤ x.1) && decide (x.1 < b + n / 128 * 128))).filterMap (fun x => recordAt d b x.1)
  (seqs 0 4 ++ seqs 2 5).foldl (fun m s => max m (s + 1)) 0

/-- Whether a spill copy can be written: its region is there and no byte of it lies in a hole. -/
def spillCopyOk (d : Dev) (j kind : Nat) : Bool := match regionIn d j kind with | some (b, n) => !extHole d b n | none => false

/-- BOOT_ID, the entries of this boot and the audit log at the end of MEMTRAIN (17 R493; 18 R515). -/
def bootLogs (d : Dev) : Dev :=
  let a := spillCopyOk d 1 6
  let b := spillCopyOk d 3 7
  let old := if a || b then d.wdn.spill else []
  let id := match old.getLast? with | some e => (e.boot + 1) % 65536 | none => 0
  let mine := d.wdn.elog.map (fun e => { e with boot := id, spilled := a || b })
  let all := old ++ (if a || b then mine else [])
  let d := setFld (setFld d Reg.ELOG_STATUS 11 11 (if a then 1 else 0)) Reg.ELOG_STATUS 12 12 (if b then 1 else 0)
  { d with wdn := { d.wdn with bootId := id, elog := mine, spill := all.drop (all.length - spillCap d) }, det := { d.det with audSeq := nextLogSeq d } }

/-- TRAIN ends when the memory is done and both ring ports are UP or DOWN (18 R515): FORMING. -/
def endTrain (d : Dev) : Dev :=
  if d.code = stTrain ∧ d.boot.memDone = true ∧ (d.ports.all (fun p => decide (p.st = 3) || decide (p.st = 4))) = true then
    let d := if fld d Reg.BOOT_STATUS 3 0 = 7 then wr d (Reg.BOOT_TIME 1) (BitVec.ofNat 32 ((d.now - d.boot.trainFrom) / 1000)) else d
    setCode (phase d 8) stForming
  else d

/-- MEMTRAIN (11 R306; 18 R515). -/
def bootMemtrain (fails : List (Fin 12 × Fin 32)) (d : Dev) : Dev :=
  let d := fails.foldl (fun d x => failChannel d x.1.val x.2.val) d
  let d := (List.range 12).foldl trainCtl d
  phase { bootLogs d with boot := { d.boot with memDone := true } } 7

/-- BOOT_PHASE_COMPLETE (18 R513): what the phase under way comes to; the outcome of another phase changes nothing. -/
def devBootPhaseComplete (o : BootOutcome) (fz : Fuses) (fl : List Host.Cell) (d : Dev) : Dev :=
  let p := fld d Reg.BOOT_STATUS 3 0
  if d.code = stBoot then
    match o with
    | .rom a b s x => if p = 0 then bootRom a b s x d else d
    | .flash ok => if p = 1 then bootFlash ok d else d
    | .verify a b => if p = 2 then bootVerify fz fl a b d else d
    | .settings => if p = 3 then phase (serrefAbsent (loadSettings d d.boot.image)) 4 else d
    | .clear => if p = 4 then bootClear d else d
    | .selftest s k => if p = 5 then bootSelftest s k d else d
    | _ => d
  else if d.code = stTrain then
    match o with
    | .memtrain f => if p = 6 ∧ d.boot.memDone = false then bootMemtrain f d else d
    | .ringtrain => endTrain d
    | _ => d
  else d

/-- FORMING_RETRAIN (18 R516): every second in FORMING the warden retrains each DOWN ring port whose reference clock is present. -/
def devFormingRetrain (d : Dev) : Dev :=
  if d.code = stForming then (List.range 2).foldl (fun d p => if (portAt d p).st = 4 ∧ d.pwr.optref.getD p true = true then retrain d p else d) d else d

end Sys2Proof.Machine
end

