-- ==== Sys2Proof/Machine/Power.lean ====
section
/-! DEFINITION. Speed monitors, the voltage throttle, clocks and their loss, thermal protection, SLEEP and wake (03 R79 to R92; 15 R438, R439; 20 R557 to R565). -/

namespace Sys2Proof.Machine

/-! ### Speed (03 R79, R80) -/

/-- The guaranteed minimum of the step rate in steps per µs at a commanded VCORE code (03 Table SPEED-2): the value of the next lower row; below 0.60 V no row applies. -/
def speedFloor (code : Nat) : Nat :=
  if 170 ≤ code then 1530 else if 160 ≤ code then 1420 else if 150 ≤ code then 1300 else if 140 ≤ code then 1120 else if 130 ≤ code then 950 else if 120 ≤ code then 800 else 0

/-- SPEED_MONITOR_UPDATE (03 R79, R80): the eight monitors of a die report. A minimum of 0 is no reading, so it neither adds to the run of low
updates nor ends it (DESIGN CHOICE, log entry 121). -/
def devSpeedMonitorUpdate (k : Fin 4) (rates : List (BitVec 12)) (d : Dev) : Dev :=
  if rates.length ≠ 8 ∨ d.code = stReset ∨ d.code = stSleep then d
  else
    let rs := rates.map (fun r => r.toNat)
    let d := (List.range 8).foldl (fun d m => wr d (Reg.MGT_SPEED k.val m) (BitVec.ofNat 32 (rs.getD m 0))) d
    let mn := rs.foldl min 4095
    let low := fld d (Reg.MGT_SPEED_MIN k.val) 27 16
    let low := if mn = 0 then low else if low = 0 then mn else min low mn
    let d := setFld (setFld d (Reg.MGT_SPEED_MIN k.val) 11 0 mn) (Reg.MGT_SPEED_MIN k.val) 27 16 low
    if mn = 0 then d
    else if mn < speedFloor (commanded d k.val) then
      let n := d.pwr.low.getD k.val 0 + 1
      let d := { d with pwr := { d.pwr with low := setAt d.pwr.low k.val n } }
      if n = 3 then elog 1 9 0x0901 k.val mn (alert (evt d Reg.MGT_PWR_STATUS 11) 1) else d
    else { d with pwr := { d.pwr with low := setAt d.pwr.low k.val 0 } }

/-! ### The throttle (03 R82 to R86) -/

/-- The four sensors of a die, in °C. -/
def dieTemps (t : BitVec 32) : List Int := [0, 8, 16, 24].map (fun i => (t.extractLsb' i 8).toInt)

/-- What the four dies report, in their registers (03 Tables SPEED-9, SPEED-11). -/
def showReadings (d : Dev) (rs : List DieReading) : Dev :=
  (List.range 4).foldl (fun d k => match rs[k]? with
    | some r => setFld (setFld (wr d (Reg.MGT_TEMP k) r.temps) (Reg.MGT_VCORE_STAT k) 31 16 r.current.toNat) (Reg.MGT_VCORE_STAT k) 15 8 r.measured.toNat
    | none => d) d

/-- The lowest code of a die. -/
def floorOf (d : Dev) (k : Nat) : Nat := fld d (Reg.MGT_VCORE_CFG k) 23 16

/-- Whether a regulator has completed its last command (03 R82). -/
def avsReady (d : Dev) (k : Nat) : Bool := decide (d.pwr.avs.getD k 0 = 0)

/-- One code down on every die above its floor; a ramp under way ends. Every die at its floor while a rule still demands is reported once: the entry has UNIT 0 and COMMANDED of D0 (DESIGN CHOICE, log entry
116). -/
def throttleDown (d : Dev) : Dev :=
  if (List.range 4).all (fun k => decide (commanded d k ≤ floorOf d k)) then
    let d := evt d Reg.MGT_PWR_STATUS 8
    if d.pwr.atFloor then d else elog 1 9 0x0902 0 (commanded d 0) { d with pwr := { d.pwr with atFloor := true } }
  else
    (List.range 4).foldl (fun d k => if avsReady d k && decide (floorOf d k < commanded d k) then commandVcore d k (commanded d k - 1) else d)
      { d with pwr := { d.pwr with atFloor := false, goal := if d.code = stSleep then d.pwr.goal else [0, 0, 0, 0] } }

/-- One code up, to the setpoint. -/
def throttleUp (d : Dev) : Dev :=
  (List.range 4).foldl (fun d k => if avsReady d k && decide (commanded d k < fld d (Reg.MGT_VCORE_CFG k) 7 0) then commandVcore d k (commanded d k + 1) else d) d

/-- THROTTLE_EVALUATION (03 R83, R84, Table SPEED-4): one code down on every die that is above its floor if a rule demands it, one code up to the setpoint if none does and all are released; a die whose regulator has not completed the last
command waits (R82). Before SETTINGS no limit stands, and in SLEEP VCORE is not raised. A rule is in force from its demand to its release (DEDUCED, log entry 116). -/
def devThrottleEvaluation (rs : List DieReading) (d : Dev) : Dev :=
  if rs.length ≠ 4 ∨ d.code = stReset ∨ d.wdn.dead = true then d
  else
    let d := showReadings d rs
    let temps := (rs.map (fun r => dieTemps r.temps)).flatten
    let watts := (rs.map (fun r => r.watts.toNat)).sum
    let thr : Int := fld d Reg.MGT_THROTTLE_CFG 7 0
    let lim := fld d Reg.MGT_THROTTLE_CFG 25 16
    let hot := decide (thr ≠ 0) && temps.any (fun t => decide (thr ≤ t))
    let above := decide (lim ≠ 0) && decide (lim < watts)
    let cool := decide (thr = 0) || temps.all (fun t => decide (t < thr - 5))
    let under := decide (lim = 0) || decide (watts + 20 ≤ lim)
    let was := fld d Reg.MGT_PWR_STATUS 1 0
    let thermal := hot || (was.testBit 0 && !cool)
    let power := above || (was.testBit 1 && !under)
    let d := setFld (setFld d Reg.MGT_PWR_STATUS 31 16 watts) Reg.MGT_PWR_STATUS 1 0 ((if thermal then 1 else 0) + (if power then 2 else 0))
    let d := if hot then evt d Reg.MGT_PWR_STATUS 9 else d
    let d := if above then evt d Reg.MGT_PWR_STATUS 10 else d
    if hot || above then throttleDown d
    else
      let d := { d with pwr := { d.pwr with atFloor := false } }
      if cool && under && decide (d.code ≠ stSleep) then throttleUp d else d

/-- AVS_COMPLETION (03 R82): a regulator has completed the commanded change; the next code on the way to the die's goal follows. -/
def devAvsCompletion (k : Fin 4) (d : Dev) : Dev := if avsReady d k.val then d else stepVcore { d with pwr := { d.pwr with avs := setAt d.pwr.avs k.val 0 } } k.val

/-- The package lost by a brown-out of a die (03 R86): the die's warden, if it has one, is lost with it. -/
def brownOut (d : Dev) (k : Nat) : Dev := if d.code = stReset then d else enterLost k 5 false (loseDie d k)

/-- AVS_TIMEOUT (03 R86, corner cases): the command is retried once; a second failure is a brown-out. -/
def devAvsTimeout (k : Fin 4) (d : Dev) : Dev :=
  match d.pwr.avs.getD k.val 0 with
  | 0 => d
  | 1 => { d with pwr := { d.pwr with avs := setAt d.pwr.avs k.val 2 } }
  | _ => brownOut { d with pwr := { d.pwr with avs := setAt d.pwr.avs k.val 0 } } k.val

/-- BROWN_OUT (03 R86): a VCORE below 0.55 V for more than 10 µs, or a regulator fault. -/
def devBrownOut (k : Fin 4) (d : Dev) : Dev := brownOut d k.val

/-- THERMAL_FENCE (03 R85): a sensor of a die has read at least 105 °C for 100 ms while the die is at its floor. -/
def devThermalFence (k : Fin 4) (d : Dev) : Dev :=
  if d.code = stReset ∨ floorOf d k.val = 0 then d
  else if commanded d k.val ≤ floorOf d k.val then enterLost k.val 4 false d else d

/-- THERMTRIP (03 R85; 20 R561): a sensor at 112 °C or more latches THERMTRIP_N, and the package enters LOST; in RESET only the latch acts. -/
def devThermtrip (k : Fin 4) (d : Dev) : Dev :=
  let d := { d with pwr := { d.pwr with thermtrip := true } }
  if d.code = stReset then d else enterLost k.val 4 false d

/-! ### Reference clocks (03 R92; 20 R565) -/

/-- SYSREF_LOSS: the memory PHYs and the time base stop, and the package enters LOST; the loss is final until reset. -/
def devSysrefLoss (d : Dev) : Dev :=
  let d := { d with pwr := { d.pwr with sysref := false } }
  if d.code = stReset then d else enterLost d.wdn.active 6 false { d with tim := { d.tim with stopped := true } }

/-- SERREF_LOSS: loss of SERREF_156 on D0 or D1 takes that die's Ethernet port down; on its return the sub-ports retry (12 R335). The entry of one lost before the settings are loaded is made when they are. -/
def devSerrefLoss (n : Fin 2) (present : Bool) (d : Dev) : Dev :=
  let was := d.pwr.serref.getD n.val true
  let d := { d with pwr := { d.pwr with serref := setAt d.pwr.serref n.val present } }
  if was = false ∨ present = true ∨ d.code = stReset ∨ (d.code = stBoot ∧ fld d Reg.BOOT_STATUS 3 0 < 4) ∨ ethDisabled d n.val = true then d
  else elog 3 9 0x0903 n.val 1 (ethDown d n.val)

/-- OPTREF_LOSS: loss of OPTREF_156 on D2 or D3 takes Port W or Port E down with reason REFCLK; on its return the port retrains. -/
def devOptrefLoss (p : Fin 2) (present : Bool) (d : Dev) : Dev :=
  let was := d.pwr.optref.getD p.val true
  let d := { d with pwr := { d.pwr with optref := setAt d.pwr.optref p.val present } }
  if was = present ∨ d.code = stReset then d
  else if present then (if (portAt d p.val).st = 4 ∧ d.code ≠ stLost then retrain d p.val else d)
  else linkDown (elog 3 9 0x0903 (2 + p.val) 2 d) p.val 5 0

/-! ### SLEEP and wake (03 R88, R89; 15 R438, R439) -/

/-- Every memory controller that is up or in self-refresh set to a state (11 Table XMEM-12). -/
def memState (d : Dev) (n : Nat) : Dev :=
  (List.range 12).foldl (fun d u => if fld d (xreg u 0) 3 0 = 1 ∨ fld d (xreg u 0) 3 0 = 2 then setFld d (xreg u 0) 3 0 n else d) d

/-- The station leaves SLEEP (03 R89): the lasers are relit, the memories leave self-refresh, VCORE returns to the setpoint, and the station passes through TRAIN. -/
def wakeUp (d : Dev) : Dev :=
  if d.code ≠ stSleep then d
  else
    let d := memState { d with pwr := { d.pwr with wakeDue := false }, boot := { d.boot with trainFrom := d.now } } 1
    let d := steerVcore (fun d k => fld d (Reg.MGT_VCORE_CFG k) 7 0) d
    let d := setCode d stTrain
    (List.range 2).foldl (fun d p => if d.pwr.optref.getD p true then startTraining d p 1 else linkDown (startTraining d p 1) p 5 0) d

/-- A wake event (03 R89): the station wakes; one that comes while the sleep barrier is in flight wakes it when it has gone to sleep. -/
def wakeEvent (d : Dev) : Dev := if sleepInFlight d then { d with pwr := { d.pwr with wakeDue := true } } else wakeUp d

/-- The station enters SLEEP (03 R88, Table SPEED-5): sessions close, the links go dark with signal detect left, the memories go to self-refresh, VCORE to 0.60 V, and device time is counted from XT_32K. The ring is to be formed again. -/
def enterSleep (d : Dev) : Dev :=
  let d := closeSessions d
  let d := ethDown (ethDown d 0) 1
  let d := { d with ports := d.ports.map (fun (p : Port) => { p.forget with st := 0, sending := 0, downDue := 0, attempt := 0, txMask := 0, lanes := p.lanes.map (fun l => { signal := l.signal }) }),
                    ring := { d.ring with mode := 0, nLive := 0, adopted := none, loopW := false, loopE := false, nbr := [{}, {}], voted := none, flight := none, queue := [], commits := [], msgs := [], noticeW := none, noticeE := none,
                                          rRun := false, pRun := false, align := [], deliver := [] } }
  setCode (timeSleep (steerVcore (fun _ _ => 120) (memState d 2))) stSleep

/-- SLEEP_TICK (15 R438): one cycle of XT_32K while it counts device time, with the levels of TIMIN_0 to TIMIN_3; an EVENT wakes the station. -/
def devSleepTick (pins : Fin 16) (d : Dev) : Dev :=
  if d.tim.current ≠ 4 then d
  else
    let before := d.now
    let d := sleepTime d
    let ((mask, res), d) := takeGstart before d.now d
    let old := rd d Reg.TIM_MEVT
    let e := sleepTimers pins.val mask res (wr d Reg.TIM_MEVT 0)
    let hit := decide (rd e Reg.TIM_MEVT ≠ 0)
    let e := wr e Reg.TIM_MEVT (rd e Reg.TIM_MEVT ||| old)
    if hit then wakeUp e else e

/-- WAKE_RELOCK (15 R439): the first tick of TIME_500, locked again. -/
def devWakeRelock (d : Dev) : Dev := if d.tim.current = 4 ∧ d.code ≠ stSleep then timeWake d else d

/-- SIGNAL_DETECT_WAKE (03 R89): signal detect on a lane of a ring port. -/
def devSignalDetectWake (p : Fin 2) (k : Fin 17) (d : Dev) : Dev :=
  if d.code = stSleep then wakeUp (modLane d p.val k.val (fun l => { l with signal := true })) else wakeEvent d

/-- XT_32K_LOSS (20 R565): an entry, sleep commands refused until reset, and a sleeping station wakes. -/
def devXt32kLoss (d : Dev) : Dev :=
  if d.pwr.xt32k = false then d
  else
    let d := { d with pwr := { d.pwr with xt32k := false } }
    if d.code = stReset then d
    else if d.code = stSleep then wakeUp (elog 1 9 0x0904 0 2 d)
    else elog 1 9 0x0904 0 1 d

end Sys2Proof.Machine
end

