-- ==== Sys2Proof/Machine/Views.lean ====
section
/-! DEFINITION. What management registers read: the stored values, the fields that show the state of a block, the latches of 64-bit pairs (04 R129), and the image shadow (18 R529). -/

namespace Sys2Proof.Machine

/-! ### Fields (00 R11, R13) -/

/-- Fields packed into a register value as (lowest bit, width, value). -/
def pack (l : List (Nat × Nat × Nat)) : Nat := (l.map (fun x => x.2.2 % 2 ^ x.2.1 * 2 ^ x.1)).sum

/-- A flag as a number. -/
def bit (b : Bool) : Nat := if b then 1 else 0

/-- The bits of a list of flags, the first lowest. -/
def bitsOf (l : List Bool) : Nat := ((List.range l.length).map (fun k => bit (l.getD k false) * 2 ^ k)).sum

/-- A two's complement field of 32 bits, saturating. -/
def sat32 (z : Int) : Nat := (BitVec.ofInt 32 (max (-(2 ^ 31 : Int)) (min (2 ^ 31 - 1) z))).toNat

/-! ### The package (02, 03, 17, 19) -/

/-- A word of the fuse map of die `k`: sites from `lo`. -/
def fuseWord (d : Dev) (k lo : Nat) : Nat := bitsOf ((List.range 32).map (fun i => decide (lo + i < 72) && isFused d.part (72 * k + lo + i)))

/-- MGT_SPARE_k (02 Table PKG-9): FREE is set by the boot self-test, whose end is boot lock. -/
def viewSpare (d : Dev) (k : Nat) : Nat :=
  let sts := (sparesOfDie k).map (siteInfo d)
  let locked := (rd d Reg.BOOT_STATUS).getLsbD 31
  pack [(16, 8, bitsOf (sts.map (fun x => decide (x.st = .spareFailed) || decide (x.st = .fenced)))),
    (8, 8, bitsOf (sts.map (fun x => x.promoted && decide (x.st ≠ .fenced ∧ x.st ≠ .spareFailed)))),
    (0, 8, bitsOf (sts.map (fun x => decide (x.st = .spare) && locked)))]

/-- The code of a seam in MGT_SEAM_STATUS. -/
def seamCode (d : Dev) (k : Nat) : Nat := match (seamAt d k).st with | .up | .suspect => 0 | .lost => 1 | .checking => 2

/-- MGT_CANON_MAP_c: SITE is the site that serves the index: the last that was declared LIVE for it, which a core fenced without a spare keeps (02 Table PKG-10). -/
def viewCanonMap (d : Dev) (c : Nat) : Nat :=
  match siteOfCanon d.part c with
  | none => 0
  | some own =>
    let s := smGet own d.wdn.canonSite c
    pack [(31, 1, 1), (30, 1, bit (isSpareSite s)), (0, 9, s)]

/-- WDN_SITE_i (17 Table FAULT-8). -/
def viewSite (d : Dev) (i : Nat) : Nat :=
  let x := siteInfo d i
  pack [(16, 8, min x.disagrees 255), (8, 8, x.cause), (0, 4, x.st.code)]

/-! ### Time (15) -/

/-- Milliseconds left of REQUAL. -/
def requalLeft (d : Dev) : Nat :=
  match d.tim.requal with
  | none => 0
  | some _ => 1000 * fld d Reg.TBS_CFG2 31 16 - (d.now - d.tim.requalFrom) / 1000000

/-- TBS_STATUS (15 Table TIME-9). -/
def viewTbs (d : Dev) : Nat :=
  pack [(28, 4, d.tim.current), (24, 4, candidateOf d), (20, 4, d.tim.requal.getD 15), (18, 2, d.tim.phase), (17, 1, bit d.tim.todValid), (16, 1, bit (stepOk d)),
    (8, 3, bitsOf d.tim.valid)]

/-! ### The ring (09, 10) -/

/-- LNK_x_LANE_n_STAT: the physical position that carries logical lane `n`. -/
def viewLane (d : Dev) (p n : Nat) : Nat :=
  let x := portAt d p
  let inTx := bit (x.txMask.testBit n)
  let inRx := bit (x.rxMaskShown.testBit n)
  match (List.range 17).find? (fun k => decide ((laneAt x k).logical = some n)) with
  | none => pack [(4, 1, inTx), (3, 1, inRx)]
  | some k =>
    let l := laneAt x k
    pack [(27, 5, k), (15, 12, l.skew), (5, 1, bit l.retired), (4, 1, inTx), (3, 1, inRx), (2, 1, bit (decide (4 ≤ l.ts))), (1, 1, bit l.lock), (0, 1, bit l.signal)]

/-- LNK_x_STATUS. -/
def viewLink (d : Dev) (p : Nat) : Nat :=
  let x := portAt d p
  pack [(16, 5, popMask x.rxMaskShown), (8, 5, popMask x.txMask), (6, 2, x.attempt), (0, 4, x.st)]

/-- LAP_NBR_W and LAP_NBR_E. -/
def viewNbr (d : Dev) (p : Nat) : Nat :=
  let n := d.ring.nbr.getD p {}
  pack [(31, 1, bit (portClosed d p)), (24, 7, n.ringId), (20, 4, n.reason), (0, 8, n.station)]

/-- LAP_MODEL_nn_STAT. -/
def viewModel (d : Dev) (m : Nat) : Nat :=
  let x := modelAt d m
  let st := match x.active.isSome, x.staged.isSome with | false, false => 0 | false, true => 1 | true, false => 2 | true, true => 3
  pack [(28, 4, st), (27, 1, bit ((x.active.or x.staged).any (fun im => im.ringed))), (26, 1, bit x.prev.isSome), (25, 1, bit x.seeding)]

/-! ### Ethernet, RVP and the flow context store (12 to 14) -/

/-- The session that RVP_SESS_SEL names. -/
def selSession (d : Dev) : Option (Nat × Session) :=
  let n := fld d Reg.RVP_SESS_SEL 12 0
  if n = 0 ∨ 4096 < n then none else (sessAt d n).map (fun s => (n, s))

/-- RVP_SESS_INFO. -/
def viewSession (d : Dev) : Nat :=
  match selSession d with
  | none => 0
  | some (n, s) => pack [(30, 2, s.st), (28, 2, s.role), (26, 2, s.fallback), (25, 1, s.port), (22, 3, s.sp), (0, 16, (sessReqs d n).length)]

/-- RVP_LOAD_k_STAT. -/
def viewLoad (d : Dev) (k : Nat) : Nat :=
  match d.rvp.loads.getD k none with
  | none => 0
  | some l => pack [(24, 8, l.status), (16, 5, l.model), (0, 13, l.sess)]

/-- FCS_ENTRY_STAT. -/
def viewEntry (d : Dev) (e : Nat) : Nat :=
  let x := entAt d e
  let (st, h) := match x.st with | .free => (0, 0) | .inMemory => (1, 0) | .held c => (2, c) | .evicting c _ => (3, c)
  pack [(30, 2, st), (29, 1, bit x.lost), (28, 1, bit (retired d e)), (27, 1, bit x.granted), (26, 1, bit x.zero), (16, 8, h), (12, 4, x.cls), (0, 5, x.model)]

/-- The FCS_ENTRY registers of an entry: STAT, TAG, KEY_0 to KEY_3 and IDLE (14 Table FLOW-6). -/
def entryRegs (d : Dev) (e : Nat) : List Nat :=
  let x := entAt d e
  [viewEntry d e, pack [(16, 16, x.claims.length), (0, 16, x.etag)]] ++ (List.range 4).map (fun i => beAt (padTo 16 x.key) (4 * i) 4) ++
    [if x.st = .free ∨ x.granted = true then 0 else (d.now - x.lastEnd) / 1000000000]

/-- What FCS_ENTRY register `i` shows: the set captured by the last write of FCS_ENTRY_SEL (14 R414), before the first write entry 0 as it is. -/
def entryShown (d : Dev) (i : Nat) : Nat := (if d.fcs.shown = [] then entryRegs d 0 else d.fcs.shown).getD i 0

/-- A write of FCS_ENTRY_SEL: the entry's registers are captured as one untorn set (14 R414). -/
def selectEntry (d : Dev) (e : Nat) : Dev := { wr d Reg.FCS_ENTRY_SEL (BitVec.ofNat 32 e) with fcs := { d.fcs with shown := entryRegs d e } }

/-! ### Determinism (16) -/

/-- The divergence report shown: the one that the last write of DET_DIV_SEL found, else the one that it names, the oldest held first (16 R467; log entry 130). -/
def selDiv (d : Dev) : Option DivReport := match d.det.shown with | some r => some r | none => d.det.divs[fld d Reg.DET_DIV_SEL 5 0]?

/-- A write of DET_DIV_SEL: the report held there is captured as one untorn set (16 R467). -/
def selectDiv (d : Dev) (r : Nat) : Dev := { wr d Reg.DET_DIV_SEL (BitVec.ofNat 32 r) with det := { d.det with shown := d.det.divs[r]? } }

/-- DET_MODEL_nn_MODE of an active image. -/
def viewMode (im : Image) : Nat := pack [(8, 8, im.cohort - 1), (2, 1, bit im.twin), (0, 2, if im.fast then 2 else 1)]

/-! ### The error log (17) -/

/-- The bytes of an entry (17 Table FAULT-6). -/
def ElogEntry.raw (e : ElogEntry) : List Byte :=
  let b := leBytes 8 e.time ++ leBytes 4 e.seq ++ leBytes 2 e.boot ++ [byteOf e.cls, byteOf e.block] ++ leBytes 2 e.code ++ leBytes 2 e.rep ++ leBytes 4 e.unit ++ leBytes 4 e.detail
  b ++ leBytes 4 (crc32c b)

/-! ### Cores (04, 06, 07, 08) -/

/-- CORE_ID. -/
def viewCoreId (d : Dev) (i : Nat) : Nat :=
  pack [(24, 2, if isSpareSite i then 2 else 1), (16, 8, canonAt d i), (15, 1, bit (inService d i)), (0, 9, i)]

/-- CORE_TASK_n. -/
def viewTask (t : Task) : Nat :=
  if t.st = .empty then 0x700
  else pack [(16, 5, dModel t.desc), (8, 3, if t.st = .blocked then t.cause else 7), (5, 1, bit (dGlobal t.desc)), (4, 1, bit (dSwitch t.desc)), (0, 4, t.st.code)]

/-- CORE_SKEIN_s_STAT but for TIMEOUT_EVT. -/
def viewSkeinStat (d : Dev) (i k : Nat) : Nat :=
  let c := coreAt d i
  let s := skeinAt c k
  if k = 63 then pack [(14, 1, bit (c.tasks.any (fun t => !t.hmatch.isEmpty))), (0, 14, (c.hslots.filter (fun h => h.isSome)).length)]
  else if s.tagged then pack [(16, 16, s.timeout), (14, 1, bit (!(waitingOn d i k).isEmpty)), (0, 14, s.fullCount)]
  else 0

/-- CORE_SE_e_CTX_x_STAT. -/
def viewCtx (p : PatCtx) : Nat :=
  if p.st = 0 then 0 else pack [(30, 2, p.st), (27, 3, p.task), (21, 6, p.skein), (8, 8, p.pc), (0, 8, p.entry)]

/-- CORE_DMA_STAT. -/
def viewDma (c : Core) : Nat :=
  match c.dma.head? with
  | none => 0
  | some q =>
    if q.done then 0
    else
      let st := if q.wait = 1 ∨ q.wait = 2 then 2 else if q.desc.any (fun x => x.finished) then 3 else 1
      pack [(30, 2, st), (27, 3, q.slot), (16, 8, q.k), (8, 8, dmaN q.word.toNat)]

/-- CORE_SPAD_STATUS.SLICE_STATE. A spare reads 2 from its selection, since its clear is part of that step, to LIVE (DESIGN CHOICE, log entry 117); in the CLEAR phase every slice that is there reads 3. -/
def sliceState (d : Dev) (i : Nat) : Nat :=
  if (siteInfo d i).st = .promoting then 2
  else if d.code = stBoot ∧ fld d Reg.BOOT_STATUS 3 0 = 4 ∧ ((siteInfo d i).st = .spare ∨ inService d i = true) then 3
  else if inService d i then 1 else 0

/-! ### The value of a register -/

/-- The active image of a model, or a default of zeros. -/
def activeVal (d : Dev) (m : Nat) (f : Image → Nat) : Nat := match (modelAt d m).active with | some im => f im | none => 0

/-- The fields of a single register that show state rather than a stored value. -/
def viewOne (d : Dev) (id : RegId) (l : List Nat) : Nat :=
  let k := ix l 0
  let n := ix l 1
  match id with
  | .MGT_ID => 0xb0070000
  | .MGT_SERIAL_LO => d.part.serial % 2 ^ 32
  | .MGT_SERIAL_HI => d.part.serial / 2 ^ 32
  | .MGT_STATE => d.code
  | .MGT_SMB => pack [(16, 1, bit d.mgmt.eid.isSome), (8, 8, d.mgmt.eid.getD 0), (0, 7, 0x64 + fld d Reg.BOOT_STATUS 19 18)]
  | .MGT_KEYS => 0
  | .MGT_DEBUG => 256 * maskOf d.halted
  | .MGT_PKG_INV => pack [(16, 4, d.part.lpxCap), (12, 4, 3), (8, 4, if d.part.gradeS then 2 else 1), (0, 8, if d.part.gradeS then 60 else 64)]
  | .MGT_SITE_FUSE_LO => fuseWord d k 0
  | .MGT_SITE_FUSE_MID => fuseWord d k 32
  | .MGT_SITE_FUSE_HI => fuseWord d k 64
  | .MGT_SPARE => viewSpare d k
  | .MGT_SEAM_STATUS => pack [(12, 4, seamCode d 3), (8, 4, seamCode d 2), (4, 4, seamCode d 1), (0, 4, seamCode d 0)]
  | .MGT_CANON_MAP => viewCanonMap d k
  | .WDN_STATUS => pack [(8, 4, d.wdn.standby), (0, 4, d.wdn.active)]
  | .WDN_DIE => pack [(0, 2, bit (d.wdn.dieLost.getD 0 false)), (2, 2, bit (d.wdn.dieLost.getD 1 false)), (4, 2, bit (d.wdn.dieLost.getD 2 false)), (6, 2, bit (d.wdn.dieLost.getD 3 false))]
  | .WDN_SITE => viewSite d k
  | .TIM_GSTATUS => bit d.tim.gstart.isSome
  | .TIM_STATUS => pack [(31, 1, bit (timerAt d k).running), (30, 1, bit (tmFrozen d k))]
  | .TBS_STATUS => viewTbs d
  | .TBS_OFFSET => sat32 d.tim.offset
  | .TBS_FREQ => sat32 d.tim.freq
  | .TBS_REQUAL_LEFT => requalLeft d
  | .LNK_STATUS => viewLink d k
  | .LNK_TX_MASK => (portAt d k).txMask
  | .LNK_RX_MASK => (portAt d k).rxMaskShown
  | .LNK_TX_RETIRED => (portAt d k).txRetired
  | .LNK_RX_RETIRED => (portAt d k).rxRetired
  | .LNK_DOWN_INFO => pack [(8, 8, (portAt d k).peerCode), (0, 8, (portAt d k).reason)]
  | .LNK_SEQ_TX => pack [(16, 16, (portAt d k).nextSeq), (0, 16, (portAt d k).oldest)]
  | .LNK_SEQ_RX => pack [(16, 16, (portAt d k).expected), (0, 12, (portAt d k).replay.length)]
  | .LNK_LANE_STAT => viewLane d k n
  | .LAP_STATE => pack [(24, 8, d.ring.nLive), (16, 8, d.ring.leader), (8, 8, d.ring.adopted.getD 0xFF), (5, 1, bit d.ring.loopE), (4, 1, bit d.ring.loopW), (0, 4, d.ring.mode)]
  | .LAP_NBR => viewNbr d k
  | .LAP_RLAP => d.ring.rlap
  | .LAP_PLAP => d.ring.plap
  | .LAP_PERIOD => if k = 0 then d.ring.rPeriod else d.ring.pPeriod
  | .LAP_BARRIER => pack [(24, 8, d.ring.lastKind), (22, 2, d.ring.lastOutcome), (21, 1, bit d.ring.voted.isSome), (0, 16, d.ring.lastId)]
  | .LAP_MODEL_STAT => viewModel d (k + 1)
  | .LAP_MODEL_GEN => Option.elim (match n with | 0 => (modelAt d (k + 1)).active | 1 => (modelAt d (k + 1)).staged | _ => (modelAt d (k + 1)).prev) 0 Image.gen
  | .HBM_CH_WEIGHT_LO => leNat (((chWeights d k n).take 4).map byteOf)
  | .HBM_CH_WEIGHT_HI => leNat (((chWeights d k n).drop 4).map byteOf)
  | .LPX_CH_WEIGHT_LO => leNat (((chWeights d (k + 4) n).take 4).map byteOf)
  | .LPX_CH_WEIGHT_HI => leNat (((chWeights d (k + 4) n).drop 4).map byteOf)
  | .ETH_STATUS => pack [(8, 8, bitsOf ((List.range 8).map (fun s => (spAt d k s).an))), (0, 8, bitsOf ((List.range 8).map (fun s => (spAt d k s).up)))]
  | .ETH_SP_MACSEC => pack [(16, 2, (spAt d k n).txAn.getD 0)]
  | .RVP_STATUS => pack [(16, 13, d.rvp.sess.length), (0, 2, (d.rvp.loads.filter (fun x => x.any (fun l => l.busy))).length)]
  | .RVP_RET => if n = 0 then retUsable d k else retGranted d k
  | .RVP_SESS_INFO => viewSession d
  | .RVP_SESS_LIMIT => (match selSession d with | none => 0 | some (_, s) => (match k with | 0 => s.limit | 1 => s.used | _ => s.grant))
  | .RVP_LOAD_STAT => viewLoad d k
  | .RVP_LOAD_GEN => ((d.rvp.loads.getD k none).map (fun x => x.gen)).getD 0
  | .FCS_LIVE => (d.fcs.dir.filter (fun x => decide (x.2.st ≠ .free))).length
  | .FCS_RETIRED => (List.range 65536).countP (fun e => retired d e)
  | .FCS_ENTRY_STAT => entryShown d 0
  | .FCS_ENTRY_TAG => entryShown d 1
  | .FCS_ENTRY_KEY => entryShown d (2 + k)
  | .FCS_ENTRY_IDLE => entryShown d 6
  | .DET_TWIN_STATUS => bitsOf ((List.range 16).map (fun m => (modelAt d (m + 1)).twinOn))
  | .DET_DIV_COUNT => d.det.divs.length
  | .DET_DIV_POS => (match selDiv d with | none => 0 | some r => pack [(16, 16, r.layer), (0, 16, r.hank)])
  | .DET_DIV_CORE => (match selDiv d with | none => 0 | some r => pack [(31, 1, 1), (26, 5, r.model), (18, 8, r.vcore), (8, 9, r.site), (0, 8, r.canon)])
  | .DET_MODEL_MODE => activeVal d (k + 1) viewMode
  | .DET_MODEL_BUDGET => activeVal d (k + 1) (fun im => im.budget)
  | .DET_VMAP => (match smFind k d.det.vmap with | none => 0 | some (h, w) => pack [(31, 1, 1), (8, 4, w), (0, 8, h)])
  | .ELOG_STATUS => pack [(16, 16, if d.boot.memDone then d.wdn.bootId else 0), (0, 11, d.wdn.elog.length)]
  | .ELOG_HEAD => d.wdn.elogSeq
  | .ELOG_SEL_STATUS => pack [(8, 1, fld d Reg.ELOG_SEL_STATUS 8 8), (0, 2, if fld d Reg.ELOG_SEL_STATUS 8 8 = 0 then 0 else (elogFind d (rdn d Reg.ELOG_SEL)).1)]
  | .ELOG_DATA => (match d.wdn.shown with | none => 0 | some e => leAt e.raw (4 * k) 4)
  | .CORE_ID => viewCoreId d k
  | .CORE_TASK => viewTask (taskAt (coreAt d k) n)
  | .CORE_TASK_PC => if (taskAt (coreAt d k) n).st = .empty then 0 else wordIndex (coreAt d k) (taskAt (coreAt d k) n) (taskAt (coreAt d k) n).issue
  | .CORE_SKEIN_BASE => pack [(31, 1, bit (skeinAt (coreAt d k) n).defd), (0, 24, (skeinAt (coreAt d k) n).base)]
  | .CORE_SKEIN_GEOM =>
    let s := skeinAt (coreAt d k) n
    pack [(31, 1, bit s.ecc), (30, 1, bit s.reach), (29, 1, bit s.tagged), (13, 16, s.count), (0, 13, s.size)]
  | .CORE_SKEIN_PTR => pack [(16, 16, (skeinAt (coreAt d k) n).head), (0, 16, (skeinAt (coreAt d k) n).tail)]
  | .CORE_SKEIN_STAT => viewSkeinStat d k n + 2 ^ 15 * bit (skeinAt (coreAt d k) n).evt
  | .CORE_SE_CTX_STAT => viewCtx (ctxAt (coreAt d k) n (ix l 2))
  | .CORE_SE_CTX_POS =>
    let p := ctxAt (coreAt d k) n (ix l 2)
    if p.st = 0 then 0 else pack [(16, 16, ringSlot (skeinAt (coreAt d k) p.skein) n), (0, 13, p.f)]
  | .CORE_DMA_STAT => viewDma (coreAt d k)
  | .CORE_DMA_DESC => (match (coreAt d k).dma.head? with | none => 0 | some q => if q.done then 0 else dmaBase q.word.toNat + q.k)
  | .CORE_SPAD_STATUS => 64 * sliceState d k
  | _ => 0

/-- Whether a per-model register of 16 reads 0 now: no image of its model is active (16 R467). -/
def modelHidden (d : Dev) (id : RegId) (l : List Nat) : Bool :=
  match id with
  | .DET_MODEL_FAST_G | .DET_MODEL_LATE_LO | .DET_MODEL_LATE_HI | .DET_MODEL_CHOICE_LO | .DET_MODEL_CHOICE_HI => (modelAt d (ix l 0 + 1)).active.isNone
  | _ => false

/-- A 64-bit value shown by a pair that is not a stored counter. -/
def viewPair (d : Dev) (id : RegId) (l : List Nat) : Option Nat :=
  let k := ix l 0
  let x := ix l 1
  match id with
  | .TIM_COUNT_LO => some (timerAt d k).count
  | .TIM_CMP_LO => some ((timerAt d k).cmp.getD x 0)
  | .TIM_PRE_LO => some ((timerAt d k).pre.getD x 0)
  | .TIM_CAP_LO => some ((timerAt d k).cap.getD x 0)
  | .TIM_GSTART_AT_LO => some (rdn d Reg.TIM_GSTART_AT_LO + 2 ^ 32 * rdn d Reg.TIM_GSTART_AT_HI)
  | .TBS_TIME_LO => some d.now
  | .ETH_SP_TX_PN_LO => some (match txSa (spAt d k x) with | some a => a.pn | none => 0)
  | .RVP_SESS_PARTNER_LO => some (match selSession d with | some (_, s) => s.partner | none => 0)
  | .RVP_LOAD_NEXT_LO => some (((d.rvp.loads.getD k none).map (fun y => y.next)).getD 0)
  | .DET_AUDIT_HEAD_LO => some d.det.audSeq
  | .DET_DIV_REQ_LO => some ((selDiv d).map (fun r => r.req) |>.getD 0)
  | .DET_DIV_LOCAL_LO => some ((selDiv d).map (fun r => r.mine) |>.getD 0)
  | .DET_DIV_PEER_LO => some ((selDiv d).map (fun r => r.peer) |>.getD 0)
  | .DET_DIV_TIME_LO => some ((selDiv d).map (fun r => r.time) |>.getD 0)
  | _ => none

/-- Whether the HI half of a pair reads 0 whatever was latched: that of a model with no active image (16 R467), and the partner of no session (13 R389). -/
def halfHidden (d : Dev) (id : RegId) (l : List Nat) : Bool := modelHidden d id l || (decide (id = .RVP_SESS_PARTNER_HI) && (selSession d).isNone)

/-- The value of a 64-bit pair, by the row of its LO half. -/
def pairValue (d : Dev) (id : RegId) (l : List Nat) (a : Nat) : Nat :=
  if modelHidden d id l then 0 else (viewPair d id l).getD (cnt d a).toNat

/-- Whether a pair is plain storage read half by half: the seed of a traffic generator, which no rule reads LO then HI. -/
def plainPair (id : RegId) : Bool :=
  match id with
  | .HBM_TG_SEED_LO | .HBM_TG_SEED_HI | .LPX_TG_SEED_LO | .LPX_TG_SEED_HI => true
  | _ => false

/-- The values that the fuses show in a register (18 Table BOOT-13; 19 Table MGMT-12). -/
def fuseView (fz : Fuses) (id : RegId) : Nat :=
  match id with
  | .MGT_KEYS => bit fz.kwk.isSome
  | .BOOT_KEYS => pack [(4, 4, bitsOf (fz.keys.map (fun k => k.revoked))), (0, 4, bitsOf (fz.keys.map (fun k => k.provisioned)))]
  | .BOOT_MIN_SVN => fz.minSvn
  | _ => 0

/-- The bits of a register that are read. -/
def readMask (g : RegGroup) : W32 := g.ro ||| g.rw ||| g.rwl ||| g.w1c

/-- What a single register reads. -/
def oneValue (fz : Fuses) (d : Dev) (g : RegGroup) (l : List Nat) (a : Nat) : W32 :=
  if modelHidden d g.id l then 0
  else (rd d a ||| BitVec.ofNat 32 (viewOne d g.id l ||| fuseView fz g.id)) &&& readMask g

/-! ### Frames that are not there (02 R52, 12 R351) -/

/-- The site of an address in the per-core frames (00 R18). -/
def frameSite (a : Nat) : Option Nat := if 0x100000 ≤ a ∧ a < 0x220000 then some ((a - 0x100000) / 0x1000) else none

/-- The port and sub-port of an address in the sub-port frames (12 R351). -/
def framePort (a : Nat) : Option (Nat × Nat) :=
  if 0x70000 ≤ a ∧ a < 0x78000 ∧ 0x1000 ≤ a % 0x4000 ∧ a % 0x4000 < 0x2000 then some ((a - 0x70000) / 0x4000, (a % 0x4000 - 0x1000) / 0x200) else none

/-- Whether an address lies in a frame of a unit that is absent. -/
def frameAbsent (d : Dev) (a : Nat) : Bool :=
  (frameSite a).any (isFused d.part) || (framePort a).any (fun x => decide (subPorts d x.1 ≤ x.2))

/-! ### The address map (19 Table MGMT-8) -/

/-- The rows of Table MGMT-8 as (first, last). -/
def mgmtRows : List (Nat × Nat) :=
  [(0, 0xFF), (0x100, 0x7FF), (0x10000, 0x11FFF), (0x20000, 0x200FF), (0x21000, 0x22FFF), (0x28000, 0x280FF), (0x30000, 0x303FF), (0x38000, 0x383FF), (0x40000, 0x403FF)] ++
    (List.range 4).map (fun k => (0x50000 + k * 0x1000, 0x50FFF + k * 0x1000)) ++ (List.range 8).map (fun j => (0x60000 + j * 0x1000, 0x60FFF + j * 0x1000)) ++
    [(0x70000, 0x73FFF), (0x74000, 0x77FFF), (0x80000, 0x801FF), (0x90000, 0x901FF), (0xA0000, 0xA0BFF), (0xB0000, 0xB00FF), (0x100000, 0x21FFFF), (0x300000, 0x30FFFF), (0x310000, 0x70FFFF)]

/-- Whether `n` registers from an address lie in one row of the map, at multiples of 4 (19 R536). -/
def rangeOk (a n : Nat) : Bool := decide (a % 4 = 0) && mgmtRows.any (fun r => decide (r.1 ≤ a) && decide (a + 4 * n ≤ r.2 + 1))

/-- The first address of the image shadow. -/
abbrev shadowBase : Nat := 0x310000

/-- A register read (19 R537, R538; 04 R129): its value, and the latch that a read of a LO half loads. -/
def readReg (fz : Fuses) (d : Dev) (a : Nat) : W32 × Dev :=
  if shadowBase ≤ a then (BitVec.ofNat 32 (leAt (slice d.boot.image (a - shadowBase) 4) 0 4), d)
  else if frameAbsent d a then (0, d)
  else
    match frameSite a with
    | some i =>
      if 0x800 ≤ a % 0x1000 ∧ a % 0x1000 < 0xC00 then (smGet 0 (coreAt d i).pats ((a % 0x1000 - 0x800) / 4), d) else listed d
    | none => listed d
where
  /-- A register listed in a table; an unlisted offset reads 0. -/
  listed (d : Dev) : W32 × Dev :=
    match regAt a with
    | none => (0, d)
    | some (g, l) =>
      match g.kind, plainPair g.id with
      | .lo, false =>
        let v := pairValue d g.id l a
        (BitVec.ofNat 32 v &&& readMask g, { d with regs := { d.regs with latch := smSet 0 d.regs.latch a (BitVec.ofNat 32 (v / 2 ^ 32)) } })
      | .hi, false => (if halfHidden d g.id l then 0 else smGet 0 d.regs.latch (a - 4) &&& readMask g, d)
      | _, _ => (oneValue fz d g l a, d)

/-- `n` registers read in ascending order (19 R536). -/
def readRegs (fz : Fuses) (a : Nat) : Nat → Dev → List W32 × Dev
  | 0, d => ([], d)
  | n + 1, d =>
    let (v, d) := readReg fz d a
    let (vs, d) := readRegs fz (a + 4) n d
    (v :: vs, d)

end Sys2Proof.Machine
end

