-- ==== Sys2Proof/Machine/Writes.lean ====
section
/-! DEFINITION. Management writes of registers (00 R11 to R14; 19 R537 to R539): the checks in their order, the actions of WO bits, and the writes of registers that stand in a block. -/

namespace Sys2Proof.Machine

/-- Whether boot lock is set (18 R514). -/
def bootLocked (d : Dev) : Bool := (rd d Reg.BOOT_STATUS).getLsbD 31

/-- Whether the station is unlocked for debug (18 R517): once unlocked, or in BOOT_FAILED. -/
def debugOpen (d : Dev) : Bool := (rd d Reg.BOOT_STATUS).getLsbD 30 || decide (d.code = stBootFailed)

/-- Whether management may act: after boot lock, or in BOOT_FAILED (18 R514; 19 R535), while a warden lives (17 R488). -/
def mgmtOpen (d : Dev) : Bool := (bootLocked d || decide (d.code = stBootFailed)) && !d.wdn.dead

/-- The effect of a register write that management makes in a site's frame: nothing for a fused-out site (02 R52). -/
def siteWrite (i : Fin 288) (f : Dev → Dev) (d : Dev) : Dev := if mgmtOpen d && !isFused d.part i.val then f d else d

/-- The effect of a register write that management makes. -/
def byWrite (f : Dev → Dev) (d : Dev) : Dev := if mgmtOpen d then f d else d

/-! ### Clearing actions -/

/-- CORE_CTRL (04 Table CORE-18). -/
def clrAbort (i : Nat) (d : Dev) : Dev := wr (wr d (Reg.CORE_ABORT_LAST i) 0) (Reg.CORE_ABORT_COUNT i) 0
def clrSwitch (i : Nat) (d : Dev) : Dev := cntClr d (Reg.CORE_SWITCH_LO i)
def clrStall (i : Nat) (d : Dev) : Dev := cntClrN d (Reg.CORE_STALL_LO i 0) 6

/-- CORE_SPAD_CTRL (06 Table SPAD-7). -/
def clrWrFirst (i : Nat) (d : Dev) : Dev := cntClr d (Reg.CORE_SPAD_WR_FIRST_LO i)
def clrInfo (i : Nat) (d : Dev) : Dev := wr (wr d (Reg.CORE_SPAD_ERR_INFO i) 0) (Reg.CORE_SPAD_ERR_SYN i) 0
def clrCount (i : Nat) (d : Dev) : Dev := wr (wr d (Reg.CORE_SPAD_CE_COUNT i) 0) (Reg.CORE_SPAD_UE_COUNT i) 0

/-- CORE_SE_CTRL and CORE_DMA_CTRL (08 Table STREAM-11). -/
def seClrFault (i : Nat) (d : Dev) : Dev := wr (wr d (Reg.CORE_SE_FAULT i) 0) (Reg.CORE_SE_FAULT_ADDR i) 0
def clrWords (i : Nat) (d : Dev) : Dev := cntClrN d (Reg.CORE_SE_WORDS_LO i 0) 3
def dmaClrFault (i : Nat) (d : Dev) : Dev := cntClr (wr d (Reg.CORE_DMA_FAULT i) 0) (Reg.CORE_DMA_FAULT_ADDR_LO i)
def clrBytes (i : Nat) (d : Dev) : Dev := cntClr d (Reg.CORE_DMA_BYTES_LO i)

/-- LNK_x_CTRL.CLR_CNT (09 Table LINK-10). -/
def lnkClrCnt (p : Nat) (d : Dev) : Dev :=
  (List.range 17).foldl (fun d n => wr (wr (wr d (Reg.LNK_LANE_CORR p n) 0) (Reg.LNK_LANE_UNCORR p n) 0) (Reg.LNK_LANE_LOL p n) 0) (cntClrN d (Reg.LNK_CNT_LO p 0) 13)

/-- RVP_CTRL, FCS_CTRL and DET_CTRL. -/
def rvpClrCnt (d : Dev) : Dev := cntClrN d (Reg.RVP_CNT_LO 0) 17
def fcsClrCnt (d : Dev) : Dev := cntClrN d (Reg.FCS_CNT_LO 0) 15
def detClrCnt (d : Dev) : Dev :=
  let d := wr (cntClrN (cntClrN (cntClr d Reg.DET_CHOICE_LO) (Reg.DET_TIMING_LO 0) 5) (Reg.DET_TWIN_CNT_LO 0) 6) Reg.DET_AUDIT_DROP 0
  (List.range 16).foldl (fun d m => cntClr (cntClr d (Reg.DET_MODEL_LATE_LO m)) (Reg.DET_MODEL_CHOICE_LO m)) d

/-! ### WO action bits (19 R538) -/

/-- The actions of a write to TIM_nn_CTRL: captures at the count as it stands, then RESET, START and STOP; a STOP wins over a START (15 R430, R431). -/
def timerCtrl (n : Fin 32) (v : W32) (d : Dev) : Dev :=
  let on := fun (b : Nat) (f : Dev → Dev) (d : Dev) => if v.getLsbD b then f d else d
  on 1 (devTimerStop n) (on 0 (devTimerStart n) (on 2 (devTimerReset n) (on 4 (devSwcap1 n) (on 3 (devSwcap0 n) d))))

/-- The actions of a write to a traffic generator's CTRL: a STOP ends the run after a number of blocks that the spec does not give (a free value). -/
def tgCtrl (u : Fin 12) (c : Fin 32) (v : W32) (d : Dev) : Dev :=
  let d := if v.getLsbD 0 then devTgStart u c d else d
  if v.getLsbD 1 then
    let (n, d) := draw d
    devTgStop u c (n % (rdn d (tgReg u.val c.val 0x14) + 1)) d
  else d

/-- The actions of the WO bits of a register. -/
def woAction (id : RegId) (l : List Nat) (v : W32) (d : Dev) : Dev :=
  let k := ix l 0
  let on := fun (b : Nat) (f : Dev → Dev) (d : Dev) => if v.getLsbD b then f d else d
  let u := fun (lpx : Bool) => Fin.ofNat 12 (if lpx then k + 4 else k)
  match id with
  | .WDN_CTRL => on 0 devWdnClrCnt d
  | .TIM_GSTART_CTRL => if v.getLsbD 0 then devGstartGo (v.getLsbD 2) (v.getLsbD 1) d else d
  | .TIM_CTRL => timerCtrl (Fin.ofNat 32 k) v d
  | .LNK_CTRL => on 0 (fun d => retrain d k) (on 1 (lnkClrCnt k) d)
  | .LAP_CTRL => on 0 devReformReq (on 1 devLapClrCnt d)
  | .HBM_CTRL => on 0 (devXmemClrCnt (u false)) d
  | .LPX_CTRL => on 0 (devXmemClrCnt (u true)) d
  | .HBM_WEIGHT_ALL_LO => devWeightWrite (u false) none false v d
  | .HBM_WEIGHT_ALL_HI => devWeightWrite (u false) none true v d
  | .LPX_WEIGHT_ALL_LO => devWeightWrite (u true) none false v d
  | .LPX_WEIGHT_ALL_HI => devWeightWrite (u true) none true v d
  | .HBM_TG_CTRL => tgCtrl (u false) (Fin.ofNat 32 (ix l 1)) v d
  | .LPX_TG_CTRL => tgCtrl (u true) (Fin.ofNat 32 (ix l 1)) v d
  | .RVP_CTRL => on 0 rvpClrCnt d
  | .FCS_CTRL => on 0 fcsClrCnt d
  | .DET_CTRL => on 0 detClrCnt d
  | .ELOG_CTRL => on 0 devElogClrCnt d
  | .CORE_CTRL => on 0 (clrStall k) (on 1 (clrSwitch k) (on 2 (clrAbort k) d))
  | .CORE_SE_CTRL => on 0 (clrWords k) (on 1 (seClrFault k) d)
  | .CORE_DMA_CTRL => on 0 (clrBytes k) (on 1 (dmaClrFault k) d)
  | .CORE_SPAD_CTRL => on 0 (clrCount k) (on 1 (clrInfo k) (on 2 (clrWrFirst k) d))
  | _ => d

/-! ### Values that stand in a block -/

/-- A timer's compare or preload set from the LO half written before and the HI half written now (15 R428); without a LO half written since the last HI, the low half stays. -/
def commitCompare (d : Dev) (n x : Nat) (hi : Nat) : Dev :=
  let t := timerAt d n
  let pre := tmPreload d n x
  let old := (if pre then t.pre else t.cmp).getD x 0
  let v := (t.lo.getD x none).getD (old % 2 ^ 32) + 2 ^ 32 * hi
  let t := { t with lo := setAt t.lo x none }
  setTimer d n (if pre then { t with pre := setAt t.pre x v } else { t with cmp := setAt t.cmp x v })

/-- The value of a 64-bit number with one half replaced. -/
def halfSet (old : Nat) (hi : Bool) (v : Nat) : Nat := if hi then old % 2 ^ 32 + 2 ^ 32 * v else old / 2 ^ 32 * 2 ^ 32 + v

/-- The RW and RWL fields of a register set and its W1C bits cleared. -/
def setFields (d : Dev) (g : RegGroup) (l : List Nat) (a : Nat) (v : W32) : Dev :=
  let k := ix l 0
  let x := ix l 1
  match g.id with
  | .TIM_COUNT_LO => setTimer d k { timerAt d k with count := halfSet (timerAt d k).count false v.toNat }
  | .TIM_COUNT_HI => setTimer d k { timerAt d k with count := halfSet (timerAt d k).count true v.toNat }
  | .TIM_CMP_LO => setTimer d k { timerAt d k with lo := setAt (timerAt d k).lo x (some v.toNat) }
  | .TIM_CMP_HI => commitCompare d k x v.toNat
  | .HBM_CH_WEIGHT_LO => devWeightWrite (Fin.ofNat 12 k) (some (Fin.ofNat 32 x)) false v d
  | .HBM_CH_WEIGHT_HI => devWeightWrite (Fin.ofNat 12 k) (some (Fin.ofNat 32 x)) true v d
  | .LPX_CH_WEIGHT_LO => devWeightWrite (Fin.ofNat 12 (k + 4)) (some (Fin.ofNat 32 x)) false v d
  | .LPX_CH_WEIGHT_HI => devWeightWrite (Fin.ofNat 12 (k + 4)) (some (Fin.ofNat 32 x)) true v d
  | .ELOG_SEL => devElogSel v d
  | .FCS_ENTRY_SEL => selectEntry d (v.toNat % 65536)
  | .DET_DIV_SEL => selectDiv d (v.toNat % 64)
  | .CORE_SKEIN_STAT => if v.getLsbD 15 then setSkein d k x { skeinAt (coreAt d k) x with evt := false } else d
  | _ =>
    let m := g.rw ||| g.rwl
    wr d a (((rd d a &&& ~~~m) ||| (v &&& m)) &&& ~~~(v &&& g.w1c))

/-! ### The checks (19 R537) -/

/-- Bits that a table lists but that are reserved in this instance: IMG_SIZE of an LPDDR 5X package, and the regions of an HBM3E stack (11 Table XMEM-12). -/
def notHere (id : RegId) : W32 :=
  match id with
  | .LPX_CFG => 0x000000ff
  | .HBM_RGN_A => 0xf000ffff
  | .HBM_RGN_B => 0x0000ffff
  | _ => 0

/-- The bits of a register that a write may set. -/
def fieldMask (g : RegGroup) : W32 := (g.ro ||| g.rw ||| g.rwl ||| g.w1c ||| g.wo) &&& ~~~(notHere g.id)

/-- Whether the value to be written breaks a rule of its block or holds a reserved encoding (00 R14). An odd TIM_GSTART_AT is stored, and the GO that would start on it is refused (DESIGN CHOICE, log entry 106). The
compare of TIMER_31 is checked when its HI half commits it. -/
def encodingBad (d : Dev) (g : RegGroup) (l : List Nat) (a : Nat) (v : W32) : Bool :=
  let k := ix l 0
  let top := 2 ^ tmWidth d k
  let seedBad := fun (u : Nat) => v.getLsbD 0 && decide (fld d (tgReg u (ix l 1) 0) 10 8 = 0) && decide (fld d (tgReg u (ix l 1) 0x08) 30 0 = 0)
  match g.id with
  | .TIM_COUNT_LO | .TIM_CMP_LO => decide (top ≤ v.toNat)
  | .TIM_COUNT_HI => decide (top ≤ 2 ^ 32 * v.toNat)
  | .TIM_CMP_HI =>
    let t := timerAt d k
    decide (top ≤ 2 ^ 32 * v.toNat) || (decide (k = 31) && decide (ix l 1 = 0) && !beatPeriodOk ((t.lo.getD 0 none).getD (t.cmp.getD 0 0 % 2 ^ 32) + 2 ^ 32 * v.toNat))
  | .TIM_GSTART_CTRL => v.getLsbD 0 && !v.getLsbD 2 && decide (rdn d Reg.TIM_GSTART_AT_LO % 2 = 1)
  | .HBM_TG_CTRL => seedBad k
  | .LPX_TG_CTRL => seedBad (k + 4)
  | _ => decide (g.rw ||| g.rwl ≠ 0) && !regRule (setFields d g l a v) g.id l

/-- Whether a register belongs to the frame of TIMER_31, whose registers are RWL (15 R424). -/
def beatTimer (id : RegId) (l : List Nat) : Bool :=
  (match id with | .TIM_CFG | .TIM_PRESC | .TIM_CTRL | .TIM_COUNT_LO | .TIM_COUNT_HI | .TIM_CAP_CFG | .TIM_CMP_LO | .TIM_CMP_HI | .TIM_ACT => true | _ => false) && decide (ix l 0 = 31)

/-- The RWL bits of a register that the debug unlock opens (18 R517). -/
def debugMask (id : RegId) : W32 :=
  match id with
  | .CORE_SPAD_INJECT => 0xffffffff
  | .DET_MODEL_FAST_G => 0x000081ff
  | _ => 0

/-- Whether a write changes a field that boot lock shuts (00 R12). -/
def lockHit (d : Dev) (g : RegGroup) (l : List Nat) (a : Nat) (v : W32) : Bool :=
  if !bootLocked d then false
  else if beatTimer g.id l then
    let t := timerAt d 31
    let x := ix l 1
    match g.id with
    | .TIM_CTRL => decide (v &&& g.wo ≠ 0)
    | .TIM_COUNT_LO => decide (v.toNat ≠ t.count % 2 ^ 32)
    | .TIM_COUNT_HI => decide (v.toNat ≠ t.count / 2 ^ 32)
    | .TIM_CMP_LO => decide (v.toNat ≠ t.cmp.getD x 0 % 2 ^ 32)
    | .TIM_CMP_HI => decide (v.toNat ≠ t.cmp.getD x 0 / 2 ^ 32)
    | _ => decide ((rd d a ^^^ v) &&& g.rw ≠ 0)
  else
    let m := g.rwl &&& ~~~(if debugOpen d then debugMask g.id else 0)
    decide ((rd d a ^^^ v) &&& m ≠ 0)

/-- The status of a register that its block cannot accept now, 0 for none: a timer that runs (15 R427), a START that R328 of 11 refuses, a RETRAIN of a port that is not DOWN or OFF (09 R267). -/
def blockStatus (d : Dev) (g : RegGroup) (l : List Nat) (v : W32) : Nat :=
  let k := ix l 0
  let tg := fun (u : Nat) =>
    if !v.getLsbD 0 then 0
    else if chGone d u (ix l 1) then msUnitAbsent
    else if fld d (tgReg u (ix l 1) 0x18) 31 30 = 1 ∨ d.code = stSleep then msUnitBusy else 0
  match g.id with
  | .TIM_CFG | .TIM_PRESC | .TIM_COUNT_LO | .TIM_COUNT_HI => if tmBusy d k then msUnitBusy else 0
  | .HBM_TG_CTRL => tg k
  | .LPX_TG_CTRL => tg (k + 4)
  | .LNK_CTRL => if v.getLsbD 0 && decide ((portAt d k).st ≠ 0) && decide ((portAt d k).st ≠ 4) then msUnitBusy else 0
  | _ => 0

/-- A write to a register of a row of the tables, after the check for an absent frame: the first check that fails gives the status and nothing is performed (19 R537). -/
def writeAt (d : Dev) (g : RegGroup) (l : List Nat) (a : Nat) (v : W32) : Nat × Dev :=
  if v &&& ~~~(fieldMask g) ≠ 0 then (msReservedField, d)
  else if encodingBad d g l a v then (msReservedEncoding, d)
  else if lockHit d g l a v then (msLockViolation, d)
  else
    let s := blockStatus d g l v
    if s ≠ 0 then (s, d) else (msSuccess, woAction g.id l v (setFields d g l a v))

/-- A register write. A write to the pattern store, which is RO, has no effect; the image shadow and unlisted offsets are reserved (19 R538). -/
def writeReg (d : Dev) (a : Nat) (v : W32) : Nat × Dev :=
  if frameAbsent d a then (msUnitAbsent, d)
  else if (frameSite a).isSome = true ∧ 0x800 ≤ a % 0x1000 ∧ a % 0x1000 < 0xC00 then (msSuccess, d)
  else
    match (if shadowBase ≤ a then none else regAt a) with
    | none => (msReservedField, d)
    | some (g, l) => writeAt d g l a v

/-- The entry of a write refused under R12 or R13 (19 R535). -/
def noteRefusal (d : Dev) (status a : Nat) : Dev := if status = msReservedField ∨ status = msLockViolation then elog 1 8 0x0804 0 a d else d

/-- Registers written in order; the first that is refused ends the request: the status, the registers performed, and the register refused (19 R537). -/
def writeRegs (a : Nat) : List W32 → Nat → Dev → (Nat × Nat × Nat) × Dev
  | [], n, d => ((msSuccess, n, 0), d)
  | v :: vs, n, d =>
    match writeReg d a v with
    | (0, d) => writeRegs (a + 4) vs (n + 1) d
    | (s, d) => ((s, n, a), noteRefusal d s a)

/-! ### Rows that are single register writes -/

/-- What a write leaves: the entry for a refusal under R12 or R13. -/
def wrote (a : Nat) (r : Nat × Dev) : Dev := if r.1 = 0 then r.2 else noteRefusal r.2 r.1 a

/-- REGISTER_WRITE (19 R537): a register write, checked and performed. An address outside Table MGMT-8 or not a multiple of 4 is refused. -/
def devRegisterWrite (a : BitVec 32) (v : W32) (d : Dev) : Dev :=
  byWrite (fun d => if rangeOk a.toNat 1 then wrote a.toNat (writeReg d a.toNat v) else d) d

/-- COUNTER_LO_READ (04 R129): the LO half of a 64-bit pair read; its latch is loaded. -/
def devCounterLoRead (fz : Fuses) (a : BitVec 32) (d : Dev) : Dev :=
  byWrite (fun d => if rangeOk a.toNat 1 then (readReg fz d a.toNat).2 else d) d

/-- The row of a register in the tables. -/
def rowOf (id : RegId) : RegGroup :=
  (regTable.find? (fun g => decide (g.id = id))).getD { id := id, base := 0, dims := [], kind := .one, ro := 0, rw := 0, rwl := 0, w1c := 0, wo := 0, rst := 0 }

/-- The row, indices and address of a timer's register. -/
def TimerReg.at (n : Nat) : TimerReg → RegId × List Nat × Nat
  | .cfg => (.TIM_CFG, [n], Reg.TIM_CFG n)
  | .presc => (.TIM_PRESC, [n], Reg.TIM_PRESC n)
  | .countLo => (.TIM_COUNT_LO, [n], Reg.TIM_COUNT_LO n)
  | .countHi => (.TIM_COUNT_HI, [n], Reg.TIM_COUNT_HI n)
  | .cmpLo x => (.TIM_CMP_LO, [n, x.val], Reg.TIM_CMP_LO n x.val)
  | .cmpHi x => (.TIM_CMP_HI, [n, x.val], Reg.TIM_CMP_HI n x.val)

/-- TIMER_CONFIG_WRITE (15 R427, R428). -/
def devTimerConfigWrite (n : Fin 32) (r : TimerReg) (v : W32) (d : Dev) : Dev :=
  byWrite (fun d => let x := r.at n.val; wrote x.2.2 (writeAt d (rowOf x.1) x.2.1 x.2.2 v)) d

/-- FAST_G_WRITE (16 R465): the override of model `m` + 1. -/
def devFastGWrite (m : Fin 16) (v : W32) (d : Dev) : Dev :=
  byWrite (fun d => wrote (Reg.DET_MODEL_FAST_G m.val) (writeAt d (rowOf .DET_MODEL_FAST_G) [m.val] (Reg.DET_MODEL_FAST_G m.val) v)) d

/-- FCS_ENTRY_SEL (14 R414). -/
def devFcsEntrySel (e : Fin 65536) (d : Dev) : Dev := byWrite (fun d => selectEntry d e.val) d

/-- RETRAIN (09 R267): refused unless the port is DOWN or OFF. -/
def devRetrain (p : Fin 2) (d : Dev) : Dev := byWrite (fun d => retrain d p.val) d

end Sys2Proof.Machine
end

