-- ==== Sys2Proof/Machine/Mctp.lean ====
section
/-! DEFINITION. The management transport (19 R530 to R535, R547): MCTP packets over SMBus, control commands, the queue of vendor requests and their first checks, the Alert Response Address. The packet and control
layouts are those of DSP0236 and DSP0237 (PRESUMED, log entry 9). -/

namespace Sys2Proof.Machine

/-! ### Packets (DSP0237) -/

/-- The SMBus packet error code: CRC-8 with polynomial x^8 + x^2 + x + 1. -/
def crc8 (bs : List Byte) : Nat :=
  bs.foldl (fun c b => (List.range 8).foldl (fun (c : Nat) _ => if 128 ≤ c then (2 * c) % 256 ^^^ 7 else 2 * c) (c ^^^ b.toNat)) 0

/-- The 7-bit SMBus address (19 R530). -/
def smbAddr (d : Dev) : Nat := 0x64 + fld d Reg.BOOT_STATUS 19 18

/-- Whether a destination endpoint is this one: the null endpoint, or the one assigned. -/
def destOk (d : Dev) (e : Nat) : Bool := decide (e = 0) || decide (d.mgmt.eid = some e)

/-- A status that needs no request in execution: the answer to a vendor request that was not queued. -/
def refuseNow (d : Dev) (q : VReq) (status : Nat) : Dev := answer d q status []

/-- A vendor request queued, or answered UNIT_BUSY when 8 are queued, the one being executed among them (19 R534). -/
def enqueueReq (d : Dev) (q : VReq) : Dev :=
  let d := cntInc d (Reg.MGT_MSG_CNT_LO 0)
  if 8 ≤ d.mgmt.queue.length + (if d.mgmt.cur.isSome then 1 else 0) then refuseNow (cntInc d (Reg.MGT_MSG_CNT_LO 3)) q msUnitBusy
  else { d with mgmt := { d.mgmt with queue := d.mgmt.queue ++ [q] } }

/-- A whole vendor message (19 Table MGMT-2): one of another shape, longer than 1,037 bytes or with RESP set is dropped. -/
def takeVendor (d : Dev) (eid tag : Nat) (m : List Byte) : Dev :=
  if decide (m.length < 13) || decide (1037 < m.length) || decide (slice m 1 4 ≠ [0x00, 0x00, 0xD7, 0xA2]) || (m.getD 7 0).getLsbD 7 then d
  else
    enqueueReq d { eid := eid, tag := tag, version := leAt m 5 1, cmd := leAt m 6 1, flags := leAt m 7 1, rsvd := leAt m 8 1, seq := leAt m 9 2, status := leAt m 11 2, body := m.drop 13 }

/-- An MCTP control response. -/
def ctlAnswer (d : Dev) (q : CtlReq) (code : Nat) (data : List Byte) : Dev :=
  { d with mgmt := { d.mgmt with out := d.mgmt.out ++ [(q.eid, q.tag, [0x00, byteOf q.inst, byteOf q.cmd, byteOf code] ++ data)] } }

/-- A whole MCTP control message: a request waits for its row; a command that is not supported is answered ERROR_UNSUPPORTED_CMD (19 R531). -/
def takeControl (d : Dev) (eid tag : Nat) (m : List Byte) : Dev :=
  let h := leAt m 1 1
  if m.length < 3 ∨ h < 128 then d
  else
    let q : CtlReq := { eid := eid, tag := tag, inst := h % 32, cmd := leAt m 2 1, data := m.drop 3 }
    if 1 ≤ q.cmd ∧ q.cmd ≤ 6 then { d with mgmt := { d.mgmt with ctl := d.mgmt.ctl ++ [q] } } else ctlAnswer d q 5 []

/-- A whole message: control messages to the null endpoint or this one, vendor messages to the endpoint assigned (19 R532); any other type is dropped. -/
def takeMessage (d : Dev) (dst eid tag : Nat) (m : List Byte) : Dev :=
  if leAt m 0 1 = 0 then takeControl d eid tag m
  else if leAt m 0 1 = 0x7F ∧ d.mgmt.eid = some dst then takeVendor d eid tag m
  else d

/-- A packet's payload added to the message of its sender and tag: SOM starts one, a packet out of sequence or larger than the first ends the assembly. -/
def assemble (d : Dev) (dst eid tag flags : Nat) (pay : List Byte) : Dev :=
  let rest := d.mgmt.parts.filter (fun p => !(decide (p.eid = eid) && decide (p.tag = tag)))
  let d0 : Dev := { d with mgmt := { d.mgmt with parts := rest } }
  let som := flags.testBit 7
  let eom := flags.testBit 6
  let seq := bits flags 5 4
  let cont := if som then some ({ eid := eid, tag := tag, next := seq, unit := pay.length, bytes := [] } : Partial)
    else d.mgmt.parts.find? (fun p => decide (p.eid = eid) && decide (p.tag = tag))
  match cont with
  | none => d0
  | some p =>
    let sized := if eom then decide (pay.length ≤ p.unit) else decide (pay.length = p.unit)
    if decide (p.next ≠ seq) || !sized then d0
    else
      let m := p.bytes ++ pay
      if eom then takeMessage d0 dst eid tag m
      else { d0 with mgmt := { d0.mgmt with parts := rest ++ [{ p with next := (seq + 1) % 4, bytes := m }] } }

/-- MCTP_PACKET (19 R531): the bytes of an SMBus block write, from the destination address to the PEC. A packet that is not for this address or not MCTP is not taken; a bad PEC or byte count drops it and counts it; other
packets that DSP0236 does not accept are dropped. With no warden the management path is silent (17 R488). -/
def devMctpPacket (b : List Byte) (d : Dev) : Dev :=
  let n := b.length
  if d.wdn.dead ∨ n < 3 ∨ leAt b 0 1 ≠ 2 * smbAddr d ∨ leAt b 1 1 ≠ 0x0F then d
  else if leAt b 2 1 + 4 ≠ n ∨ crc8 (b.take (n - 1)) ≠ leAt b (n - 1) 1 then cntInc d (Reg.MGT_MSG_CNT_LO 2)
  else if n < 9 ∨ 73 < n then d
  else
    let f := leAt b 7 1
    let dst := leAt b 5 1
    if leAt b 4 1 % 16 ≠ 1 ∨ destOk d dst = false ∨ f.testBit 3 = false then d
    else assemble d dst (leAt b 6 1) (f % 8) f (slice b 8 (n - 9))

/-- DSP0237_TIMEOUT (19 R532, R535): a partial message of a sender and tag is discarded, or, for none, the newest response that was not delivered. -/
def devDsp0237Timeout (w : Option (BitVec 8 × Fin 8)) (d : Dev) : Dev :=
  match w with
  | some (e, t) => { d with mgmt := { d.mgmt with parts := d.mgmt.parts.filter (fun p => !(decide (p.eid = e.toNat) && decide (p.tag = t.val))) } }
  | none => { d with mgmt := { d.mgmt with out := d.mgmt.out.dropLast } }

/-! ### Control commands (19 Table MGMT-1) -/

/-- The first control request that waits, when it has a command code and so many bytes of data; a wrong length is answered ERROR_INVALID_LENGTH. -/
def onControl (cmd len : Nat) (f : Dev → CtlReq → Dev) (d : Dev) : Dev :=
  match d.mgmt.ctl with
  | q :: rest =>
    if q.cmd = cmd then
      let d := { d with mgmt := { d.mgmt with ctl := rest } }
      if q.data.length = len then f d q else ctlAnswer d q 3 []
    else d
  | [] => d

/-- SET_ENDPOINT_ID (19 R532): the assignment is accepted; the null and broadcast endpoints, and operations other than set and force, are invalid data. -/
def devSetEndpointId : Dev → Dev :=
  onControl 1 2 (fun d q =>
    let e := leAt q.data 1 1
    if 2 ≤ leAt q.data 0 1 % 4 ∨ e = 0 ∨ e = 0xFF then ctlAnswer d q 2 []
    else ctlAnswer { d with mgmt := { d.mgmt with eid := some e } } q 0 [0, byteOf e, 0])

/-- GET_ENDPOINT_ID: the endpoint, a simple endpoint with a dynamic EID. -/
def devGetEndpointId : Dev → Dev := onControl 2 0 (fun d q => ctlAnswer d q 0 [byteOf (d.mgmt.eid.getD 0), 0, 0])

/-- GET_ENDPOINT_UUID (19 R532): 8 zero bytes and the serial number. -/
def devGetEndpointUuid : Dev → Dev := onControl 3 0 (fun d q => ctlAnswer d q 0 (List.replicate 8 0 ++ beBytes 8 d.part.serial))

/-- GET_MCTP_VERSION_SUPPORT: version 1.3 of the base specification and of control messages; other types are not supported. -/
def devGetMctpVersionSupport : Dev → Dev :=
  onControl 4 1 (fun d q => if leAt q.data 0 1 = 0xFF ∨ leAt q.data 0 1 = 0 then ctlAnswer d q 0 [1, 0xF1, 0xF3, 0xF0, 0x00] else ctlAnswer d q 0x80 [])

/-- GET_MESSAGE_TYPE_SUPPORT: vendor defined, IANA. -/
def devGetMessageTypeSupport : Dev → Dev := onControl 5 0 (fun d q => ctlAnswer d q 0 [1, 0x7F])

/-- GET_VENDOR_DEFINED_MESSAGE_SUPPORT: the one vendor set, with the IANA number of R533. -/
def devGetVendorDefinedMessageSupport : Dev → Dev :=
  onControl 6 1 (fun d q => if leAt q.data 0 1 = 0 then ctlAnswer d q 0 [0xFF, 1, 0x00, 0x00, 0xD7, 0xA2, 0, 0] else ctlAnswer d q 2 [])

/-! ### The first checks of a vendor request (19 R535, Table MGMT-4) -/

/-- Whether a CMD is one of Table MGMT-4. -/
def cmdKnown (c : Nat) : Bool := [0x01, 0x02, 0x10, 0x11, 0x12, 0x13, 0x20, 0x30, 0x31, 0x32, 0x50, 0x51, 0x52, 0x60, 0x61, 0x62, 0x63, 0x70, 0x71].contains c

/-- Whether a body has the length of its command. -/
def lengthOk (c : Nat) (b : List Byte) : Bool :=
  let n := b.length
  match c with
  | 0x01 => decide (n = 8)
  | 0x02 => decide (8 ≤ n) && decide (n = 8 + 4 * leAt b 4 2)
  | 0x10 => decide (n = 4)
  | 0x20 => decide (n = 12)
  | 0x50 => decide (n = 84)
  | 0x51 => decide (n = 8)
  | 0x60 => decide (n = 52)
  | 0x61 => decide (n = 32)
  | 0x62 => decide (n = 4)
  | 0x63 => decide (n = 96)
  | 0x70 => decide (n = 4)
  | 0x71 => decide (12 ≤ n) && decide (n = 12 + leAt b 8 2)
  | _ => decide (n = 0)

/-- Whether a command is allowed in the station's state (19 Table MGMT-4); a request is executed outside RESET. -/
def stateAllows (d : Dev) (c : Nat) (b : List Byte) : Bool :=
  let failed := decide (d.code = stBootFailed)
  match c with
  | 0x10 | 0x50 | 0x51 | 0x62 | 0x63 => bootLocked d
  | 0x30 => decide (d.code = stReady) && d.pwr.xt32k
  | 0x31 => decide (d.code = stSleep)
  | 0x60 => failed || decide (leAt b 0 1 ≠ 1)
  | 0x61 => failed
  | 0x70 | 0x71 => bootLocked d || failed
  | _ => true

/-- Checks 1 to 4 of R535, then the reserved bits of the header: the status, 0 when all pass. -/
def firstChecks (d : Dev) (q : VReq) : Nat :=
  if q.version ≠ 1 ∨ cmdKnown q.cmd = false then msBadCommand
  else if lengthOk q.cmd q.body = false then msBadLength
  else if bootLocked d = false ∧ d.code ≠ stBootFailed ∧ q.cmd ≠ 0x11 ∧ q.cmd ≠ 0x12 then msUnitBusy
  else if stateAllows d q.cmd q.body = false then msState
  else if q.flags ≠ 0 ∨ q.rsvd ≠ 0 ∨ q.status ≠ 0 then msReservedField
  else msSuccess

/-- VENDOR_MESSAGE (19 R534, R535): the oldest request is taken once the one before it is done, and checked; a failure is answered, and a request that passes is executed by the row of its command. A request from MCTP that no warden
lives to serve is dropped (17 R488). -/
def devVendorMessage (d : Dev) : Dev :=
  match d.mgmt.cur, d.mgmt.queue with
  | none, q :: rest =>
    let d := { d with mgmt := { d.mgmt with queue := rest } }
    if d.wdn.dead && !q.jtag then d
    else
      let s := firstChecks d q
      if s = 0 then { d with mgmt := { d.mgmt with cur := some q } } else answer d q s []
  | _, _ => d

/-- The request being executed, when it has a command code: its status and response body, and the package after it. -/
def runCmd (cmd : Nat) (f : VReq → Dev → (Nat × List Byte) × Dev) (d : Dev) : Dev :=
  match d.mgmt.cur with
  | some q => if q.cmd = cmd then (match f q d with | (r, d) => finish d q r.1 r.2) else d
  | none => d

/-! ### ALERT_N (19 R547) -/

/-- ALERT_RESPONSE: a read of the Alert Response Address while ALERT_N is asserted returns the address; ALERT_N is released once the arbitration is won. -/
def devAlertResponse (wins : Bool) (d : Dev) : Dev :=
  if d.alertN then d
  else
    let d := { d with mgmt := { d.mgmt with ara := d.mgmt.ara ++ [smbAddr d] } }
    if wins then { d with alertN := true } else d

end Sys2Proof.Machine
end

