-- ==== Sys2Proof/Machine/Mgmt.lean ====
section
/-! DEFINITION. The vendor commands (19 Table MGMT-4, R536 to R546), each executed on the request that VENDOR_MESSAGE took. -/

namespace Sys2Proof.Machine

/-! ### Register access (19 R536, R537) -/

/-- READ. -/
def devRead (fz : Fuses) : Dev → Dev :=
  runCmd 0x01 (fun q d =>
    let a := leAt q.body 0 4
    let n := leAt q.body 4 2
    if leAt q.body 6 2 ≠ 0 then ((msReservedField, []), d)
    else if 240 < n then ((msReservedEncoding, []), d)
    else if n ≠ 0 ∧ rangeOk a n = false then ((msBadAddress, []), d)
    else
      let (vs, d) := readRegs fz a n d
      ((msSuccess, leBytes 2 n ++ [0, 0] ++ (vs.map (fun v => leBytes 4 v.toNat)).flatten), d))

/-- The values of a WRITE. -/
def writeValues (b : List Byte) : List W32 := (List.range (leAt b 4 2)).map (fun k => BitVec.ofNat 32 (leAt b (8 + 4 * k) 4))

/-- The response body of a WRITE. -/
def writeBody (done failAddr : Nat) : List Byte := leBytes 2 done ++ [0, 0] ++ leBytes 4 failAddr

/-- WRITE. -/
def devWrite : Dev → Dev :=
  runCmd 0x02 (fun q d =>
    let a := leAt q.body 0 4
    let n := leAt q.body 4 2
    if leAt q.body 6 2 ≠ 0 then ((msReservedField, writeBody 0 0), d)
    else if 253 < n then ((msReservedEncoding, writeBody 0 0), d)
    else if n ≠ 0 ∧ rangeOk a n = false then ((msBadAddress, writeBody 0 0), d)
    else
      match writeRegs a (writeValues q.body) 0 d with
      | ((s, done, fail), d) => ((s, writeBody done fail), d))

/-! ### FENCE (19 R541) -/

/-- A management fence counted (19 R541, 17 Table FAULT-8). -/
def countFence (d : Dev) : Dev := cntInc (cntInc d (Reg.MGT_MSG_CNT_LO 4)) (Reg.WDN_CNT_LO 7)

/-- A channel fenced by management (11 R324): FAILING, to be mapped out; its map-out entry has only bit 31 of DETAIL. How far a run of its generator has come, and so the block at which the run fails, is a free
value. -/
def fenceChannel (d : Dev) (u c : Nat) : Nat × Dev :=
  if chState d u c ≠ 0 then (msSuccess, d)
  else
    let (n, d) := if tgRunning d u c then draw d else (0, d)
    let n := min n (rdn d (tgReg u c 0x14))
    (msSuccess, countFence (becomeFailing d u c (2 ^ 31) (addrOfLocal u c (64 * (rdn d (tgReg u c 0x10) + n))) n))

/-- The fence of the unit of a kind and index: the status. A unit already out of service is left as it is. -/
def fenceUnit (d : Dev) (kind index : Nat) : Nat × Dev :=
  match kind with
  | 1 =>
    if 288 ≤ index then (msReservedEncoding, d)
    else if isFused d.part index then (msUnitAbsent, d)
    else match (siteInfo d index).st with
      | .fenced | .spareFailed | .absent => (msSuccess, d)
      | _ => (msSuccess, fenceSite (countFence d) index 5 true)
  | 2 =>
    if 4 ≤ index then (msReservedEncoding, d)
    else if (seamAt d index).st = .lost then (msSuccess, d)
    else (msSuccess, loseSeam (countFence d) index true)
  | 3 => if 128 ≤ index then (msReservedEncoding, d) else fenceChannel d (index / 32) (index % 32)
  | 4 => if 32 ≤ index then (msReservedEncoding, d) else fenceChannel d (4 + index / 4) (index % 4)
  | 5 =>
    if 2 ≤ index then (msReservedEncoding, d)
    else if (portAt d index).st = 0 ∨ (portAt d index).st = 4 then (msSuccess, d)
    else (msSuccess, linkDownAs (2 ^ 31 + 6) (countFence d) index 6 0)
  | 6 =>
    if index ≠ 0 then (msReservedEncoding, d)
    else if d.code = stLost then (msSuccess, d)
    else (msSuccess, enterLost d.wdn.active 7 true (countFence d))
  | _ => (msReservedEncoding, d)

/-- Whether a decision is pending on the site or seam that a FENCE names: the fence is applied at that decision (17 R476; 19 R541). -/
def decisionPending (d : Dev) (kind index : Nat) : Bool :=
  match kind with
  | 1 => decide (index < 288) && !isFused d.part index && decide ((siteInfo d index).st = .suspect) && (siteInfo d index).deciding
  | 2 => decide (index < 4) && decide ((seamAt d index).st = .suspect) && (seamAt d index).deciding
  | _ => false

/-- Whether a management fence waits for the decision on a unit. -/
def fenceMarked (d : Dev) (kind index : Nat) : Bool :=
  if kind = 1 then (siteInfo d index).mgmtFence && decide ((siteInfo d index).cause = 5) else (seamAt d index).mgmtFence

/-- A management fence that waits for the decision on a unit. -/
def markFence (d : Dev) (kind index : Nat) : Dev :=
  if fenceMarked d kind index then d
  else if kind = 1 then countFence (setSite d index { siteInfo d index with mgmtFence := true, cause := 5 })
  else countFence (setSeam d index { seamAt d index with mgmtFence := true })

/-- The FENCE request being executed, when it must wait for a decision: its kind and index. -/
def fenceWaits (d : Dev) : Option (Nat × Nat) :=
  match d.mgmt.cur with
  | some q => if q.cmd = 0x10 ∧ leAt q.body 1 1 = 0 ∧ decisionPending d (leAt q.body 0 1) (leAt q.body 2 2) = true then some (leAt q.body 0 1, leAt q.body 2 2) else none
  | none => none

/-- FENCE. On a site or seam on which a decision is pending it is applied, and answered, at that decision. -/
def devFence (d : Dev) : Dev :=
  match fenceWaits d with
  | some (kind, index) => markFence d kind index
  | none => fenceNow d
where
  /-- The fence performed at once. -/
  fenceNow : Dev → Dev := runCmd 0x10 (fun q d =>
    if leAt q.body 1 1 ≠ 0 then ((msReservedField, []), d)
    else match fenceUnit d (leAt q.body 0 1) (leAt q.body 2 2) with | (s, d) => ((s, []), d))

/-! ### State, telemetry and alerts (19 Table MGMT-4, R543, R547) -/

/-- The value that a register shows. -/
def shown (d : Dev) (id : RegId) (l : List Nat) (a : Nat) : Nat := (oneValue {} d (rowOf id) l a).toNat

/-- STATE_GET. -/
def devStateGet : Dev → Dev :=
  runCmd 0x11 (fun _ d => ((msSuccess, [byteOf d.code, byteOf d.ring.mode, byteOf d.ring.nLive, 0] ++ leBytes 4 (shown d .BOOT_STATUS [] Reg.BOOT_STATUS)), d))

/-- The TELEMETRY body (19 Table MGMT-6). -/
def telemetry (d : Dev) : List Byte :=
  let hot := fun (k : Nat) => (dieTemps (rd d (Reg.MGT_TEMP k))).foldl max (-128)
  let sites := (List.range 288).map (siteInfo d)
  let gone := ((List.range 12).map (fun u => ((List.range (chCount u)).filter (fun c => chGone d u c)).length)).sum
  let width := fun (p : Nat) => [byteOf (popMask (portAt d p).txMask), byteOf (popMask (portAt d p).rxMaskShown)]
  [byteOf d.code, byteOf d.ring.mode, byteOf d.ring.nLive, byteOf (fld d Reg.MGT_PWR_STATUS 1 0)] ++ (List.range 4).map (fun k => BitVec.ofInt 8 (hot k)) ++
    leBytes 2 (fld d Reg.MGT_PWR_STATUS 31 16) ++ [0, 0] ++ ((List.range 4).map (fun k => leBytes 2 (fld d (Reg.MGT_SPEED_MIN k) 11 0))).flatten ++
    leBytes 2 (sites.filter (fun x => decide (x.st = .fenced))).length ++ [byteOf (((List.range 4).map (fun k => ((List.range 8).filter (fun r => (viewSpare d k).testBit r)).length)).sum), byteOf gone] ++
    width 0 ++ width 1 ++ List.replicate 4 0 ++ leBytes 8 d.now ++ [byteOf d.tim.current, byteOf d.tim.phase, 0, 0] ++ leBytes 4 d.wdn.elogSeq ++
    leBytes 8 (cnt d (Reg.RVP_CNT_LO 2)).toNat ++ leBytes 8 (cnt d (Reg.RVP_CNT_LO 4)).toNat

/-- TELEMETRY. -/
def devTelemetry : Dev → Dev := runCmd 0x12 (fun _ d => ((msSuccess, telemetry d), d))

/-- GET_ALERTS: every bit returned is cleared. -/
def devGetAlerts : Dev → Dev := runCmd 0x13 (fun _ d => ((msSuccess, leBytes 4 (rdn d Reg.MGT_ALERT)), wr d Reg.MGT_ALERT 0))

/-! ### Logs (19 R542) -/

/-- The order of an error log entry: its BOOT_ID within a half-range of the current one, then its SEQ. -/
def elogOrder (d : Dev) (boot seq : Nat) : Nat := (boot + 65536 + 32768 - d.wdn.bootId) % 65536 * 2 ^ 32 + seq

/-- The entries held, oldest first: those of the spill alone, then those on die. -/
def elogHeld (d : Dev) : List ElogEntry := (d.wdn.spill.filter (fun e => !d.wdn.elog.any (fun x => decide (x.seq = e.seq) && decide (x.boot = e.boot)))) ++ d.wdn.elog

/-- The response of a LOG_READ. -/
def logBody (first : List Byte) (es : List (List Byte)) : List Byte := first ++ [byteOf es.length] ++ List.replicate 7 0 ++ es.flatten

/-- LOG_READ of the error log. -/
def readElog (d : Dev) (n : Nat) (from_ : List Byte) : List Byte :=
  let es := ((elogHeld d).filter (fun e => decide (elogOrder d (leAt from_ 4 2) (leAt from_ 0 4) ≤ elogOrder d e.boot e.seq))).take n
  logBody (match es with | [] => from_ | e :: _ => leBytes 4 e.seq ++ leBytes 2 e.boot ++ [0, 0]) (es.map ElogEntry.raw)

/-- The bytes of an audit record's place in a copy of the log, when the copy can be read. -/
def auditPlace (d : Dev) (j kind s : Nat) : Option (List Byte) :=
  match regionIn d j kind with
  | none => none
  | some (b, _) =>
    let a := b + 128 * (s % max 1 (rdn d Reg.DET_AUDIT_CAP))
    if extHole d a 128 then none else some (memRead d.mem.ext a 128)

/-- Whether bytes are a record with a good REC_CRC. -/
def recordGood (r : List Byte) : Bool := decide (leAt r 124 4 = crc32c (r.take 124))

/-- An audit record by its LOG_SEQ: the L0 copy, the L2 copy when REC_CRC fails there, and as stored when it fails in both; none when its place holds another record or nothing. -/
def auditRecord (d : Dev) (s : Nat) : Option (List Byte) :=
  let mine := fun (r : List Byte) => recordGood r && decide (leAt r 104 8 = s)
  let a := auditPlace d 0 4 s
  let b := auditPlace d 2 5 s
  if a.any mine then a
  else if b.any mine then b
  else if (a.any recordGood) || (b.any recordGood) then none
  else (a.or b).bind (fun r => if allZero r then none else some r)

/-- The LOG_SEQ of the oldest audit record held. -/
def auditOldest (d : Dev) : Option Nat :=
  let lo := d.det.audSeq - rdn d Reg.DET_AUDIT_CAP
  let seqs : Nat → Nat → List Nat := fun j kind =>
    match regionIn d j kind with
    | none => []
    | some (b, n) => (d.mem.ext.filter (fun (x : Host.Cell) => decide (b ≤ x.1) && decide (x.1 < b + n / 128 * 128))).filterMap (fun x => recordAt d b x.1)
  ((seqs 0 4 ++ seqs 2 5).filter (fun s => decide (lo ≤ s) && decide (s < d.det.audSeq))).foldl (fun m s => some (match m with | none => s | some k => min k s)) none

/-- Audit records from a LOG_SEQ on, up to a number, ending before one that has no stored copy. -/
def auditFrom (d : Dev) (s : Nat) : Nat → List (List Byte)
  | 0 => []
  | n + 1 =>
    if d.det.audSeq ≤ s then []
    else match auditRecord d s with
      | none => []
      | some r => r :: auditFrom d (s + 1) n

/-- LOG_READ of the audit log. -/
def readAudit (d : Dev) (n : Nat) (from_ : List Byte) : List Byte :=
  match auditOldest d with
  | none => logBody from_ []
  | some o =>
    let s := max o (leNat from_)
    logBody (leBytes 8 s) (auditFrom d s n)

/-- LOG_READ. -/
def devLogRead : Dev → Dev :=
  runCmd 0x20 (fun q d =>
    let log := leAt q.body 0 1
    let n := leAt q.body 1 1
    let from_ := slice q.body 4 8
    if leAt q.body 2 2 ≠ 0 ∨ (log = 0 ∧ leAt q.body 10 2 ≠ 0) then ((msReservedField, []), d)
    else if 1 < log ∨ (if log = 0 then 30 else 7) < n then ((msReservedEncoding, []), d)
    else ((msSuccess, if log = 0 then readElog d n from_ else readAudit d n from_), d))

/-! ### SLEEP, WAKE and RESET -/

/-- SLEEP (03 R88): the sleep barrier is asked of the leader; the request waits for its commit or abort. -/
def devSleep (d : Dev) : Dev :=
  match d.mgmt.cur with
  | some q => if q.cmd = 0x30 then askBarrier d 8 0 0 else d
  | none => d

/-- BARRIER_SLEEP (03 R88; 10 R293): a committed SLEEP barrier, at its release: the SLEEP request is answered and the station sleeps; a wake event that came meanwhile wakes it at once (03 R89). -/
def devBarrierSleep (d : Dev) : Dev :=
  match popCommit d 8 with
  | none => d
  | some (_, d) =>
    let due := d.pwr.wakeDue
    let d := enterSleep (answerSleep { d with pwr := { d.pwr with wakeDue := false } } msSuccess)
    if due then wakeUp d else d

/-- WAKE (03 R89). -/
def devWake : Dev → Dev := runCmd 0x31 (fun _ d => ((msSuccess, []), wakeEvent d))

/-- RESET: SUCCESS, then a MGMT reset (18 R497); the response already sent stays. -/
def devReset (d : Dev) : Dev :=
  match d.mgmt.cur with
  | some q =>
    if q.cmd = 0x32 then
      let d := finish d q msSuccess []
      let n := softReset 3 d
      { n with mgmt := { n.mgmt with out := d.mgmt.out } }
    else d
  | none => d

/-! ### MACsec keys (19 R544; 12 R345 to R347) -/

/-- Whether the selector bytes of Table MGMT-9 hold no reserved value. -/
def saSelOk (d : Dev) (b : List Byte) : Bool :=
  let port := leAt b 0 1
  let dir := leAt b 2 1
  decide (port ≤ 1) && decide (leAt b 1 1 < subPorts d port) && decide (dir ≤ 1) && decide (leAt b 3 1 ≤ 7) && (decide (dir = 1) || decide (leAt b 3 1 = 0)) && decide (leAt b 4 1 ≤ 3)

/-- The SAs of the SC that a body names. -/
def saList (p : SubPort) (b : List Byte) : List Sa := if leAt b 2 1 = 0 then p.tx else p.rxSc.getD (leAt b 3 1) []

/-- The sub-port with the SAs of that SC replaced. -/
def saPut (p : SubPort) (b : List Byte) (l : List Sa) : SubPort := if leAt b 2 1 = 0 then { p with tx := l } else { p with rxSc := setAt p.rxSc (leAt b 3 1) l }

/-- Whether a body names the transmit SA in use. -/
def saInUse (p : SubPort) (b : List Byte) : Bool := decide (leAt b 2 1 = 0) && decide (p.txAn = some (leAt b 4 1))

/-- SA_INSTALL: the checks in the order of R544, then the SA in place of one of the same AN; USE_NOW puts a transmit SA in use. -/
def devSaInstall (fz : Fuses) : Dev → Dev :=
  runCmd 0x50 (fun q d =>
    let b := q.body
    let flags := leAt b 5 1
    if 2 ≤ flags ∨ leAt b 6 2 ≠ 0 then ((msReservedField, []), d)
    else if !saSelOk d b || decide (leAt b 2 1 = 1 ∧ flags = 1) then ((msReservedEncoding, []), d)
    else
      match fz.kwk with
      | none => ((msState, []), d)
      | some kwk =>
        match keyUnwrap kwk (slice b 28 56) with
        | none => ((msAuthFail, []), d)
        | some plain =>
          if !allZero (plain.drop 44) then ((msAuthFail, []), d)
          else
            let n := leAt b 0 1
            let s := leAt b 1 1
            let p := spAt d n s
            let an := leAt b 4 1
            let others := (saList p b).filter (fun a => decide (a.an ≠ an))
            if saInUse p b then ((msUnitBusy, []), d)
            else if 2 ≤ others.length then ((msRefused, []), d)
            else
              let pn := leAt b 20 8
              let sa : Sa := { an := an, sci := slice b 8 8, ssci := slice b 16 4, key := plain.take 32, salt := slice plain 32 12, pn := pn, low := pn }
              let p := saPut p b (others ++ [sa])
              let p := if flags = 1 then { p with txAn := some an } else p
              ((msSuccess, []), txGo (pnNear (setSp d n s p) n (decide (flags = 1) && decide (pnNearFrom ≤ pn))) n s))

/-- SA_DELETE: refused for the transmit SA in use; an AN that is not installed leaves everything as it is. -/
def devSaDelete : Dev → Dev :=
  runCmd 0x51 (fun q d =>
    let b := q.body
    if !allZero (slice b 5 3) then ((msReservedField, []), d)
    else if !saSelOk d b then ((msReservedEncoding, []), d)
    else
      let p := spAt d (leAt b 0 1) (leAt b 1 1)
      if saInUse p b then ((msUnitBusy, []), d)
      else ((msSuccess, []), setSp d (leAt b 0 1) (leAt b 1 1) (saPut p b ((saList p b).filter (fun a => decide (a.an ≠ leAt b 4 1))))))

/-- ZEROISE (12 R346). -/
def devZeroise : Dev → Dev := runCmd 0x52 (fun _ d => ((msSuccess, []), clearSas d))

/-! ### Debug unlock (18 R518) -/

/-- The message that a debug token signs: SERIAL, BOOT_ID and the challenge. -/
def tokenMessage (d : Dev) : List Byte := leBytes 8 d.part.serial ++ leBytes 2 d.wdn.bootId ++ ((List.range 4).map (fun w => leBytes 4 (rdn d (Reg.BOOT_CHALLENGE w)))).flatten

/-- A new challenge (18 R518; log entry 3). -/
def newChallenge (d : Dev) : Dev := (List.range 4).foldl (fun d w => match draw d with | (v, d) => wr d (Reg.BOOT_CHALLENGE w) (BitVec.ofNat 32 v)) d

/-- DEBUG_UNLOCK: LOCKED never unlocks, and a fourth attempt after 3 failures is refused; OPEN has unlocked at boot lock. -/
def devDebugUnlock : Dev → Dev :=
  runCmd 0x63 (fun q d =>
    let policy := fld d Reg.BOOT_STATUS 29 28
    let fails := rdn d Reg.BOOT_DEBUG
    if policy = 0 ∨ 3 ≤ fails then ((msState, []), d)
    else if policy = 2 then ((msSuccess, []), d)
    else if sigOk (slice (cfgSection d.boot.image 6) 8 96) (tokenMessage d) q.body then ((msSuccess, []), setFld d Reg.BOOT_STATUS 30 30 1)
    else ((msAuthFail, []), newChallenge (setFld d Reg.BOOT_DEBUG 1 0 (fails + 1))))

/-! ### Keys and flash (18 R509, R510; 19 R545, R546) -/

/-- The request being executed that acts on the fuses or the flash. -/
def runState (cmd : Nat) (f : VReq → State → (Nat × List Byte) × State) (s : State) : State :=
  match s.dev.mgmt.cur with
  | some q => if q.cmd = cmd then (match f q s with | (r, s) => { s with dev := finish s.dev q r.1 r.2 }) else s
  | none => s

/-- KEY_SLOT's checks of its body, then its effect on the fuses. -/
def keySlot (b : List Byte) (fz : Fuses) : Nat × Fuses :=
  let op := leAt b 0 1
  let k := leAt b 1 1
  let slot := fz.keys.getD k {}
  if leAt b 2 2 ≠ 0 ∨ (op = 2 ∧ allZero (slice b 4 48) = false) then (msReservedField, fz)
  else if op ≠ 1 ∧ op ≠ 2 ∨ 3 < k then (msReservedEncoding, fz)
  else if op = 1 then
    if slot.provisioned then (msRefused, fz) else (msSuccess, { fz with keys := setAt fz.keys k { slot with hash := padTo 48 (slice b 4 48), provisioned := true } })
  else if !slot.provisioned then (msRefused, fz)
  else if slot.revoked then (msSuccess, fz)
  else if (fz.keys.filter (fun x => x.provisioned && !x.revoked)).length ≤ 1 then (msRefused, fz)
  else (msSuccess, { fz with keys := setAt fz.keys k { slot with revoked := true } })

/-- KEY_SLOT with an OP that is not revoke. -/
def stKeySlotProgram (s : State) : State :=
  match s.dev.mgmt.cur with
  | some q => if leAt q.body 0 1 = 2 then s else runState 0x60 (fun q s => match keySlot q.body s.fuse with | (r, fz) => ((r, []), { s with fuse := fz })) s
  | none => s

/-- KEY_SLOT with OP revoke. -/
def stKeySlotRevoke (s : State) : State :=
  match s.dev.mgmt.cur with
  | some q => if leAt q.body 0 1 = 2 then runState 0x60 (fun q s => match keySlot q.body s.fuse with | (r, fz) => ((r, []), { s with fuse := fz })) s else s
  | none => s

/-- KWK_SET: fused once. -/
def stKwkSet : State → State :=
  runState 0x61 (fun q s => if s.fuse.kwk.isSome then ((msRefused, []), s) else ((msSuccess, []), { s with fuse := { s.fuse with kwk := some (padTo 32 q.body) } }))

/-- SVN of the copy selected at this boot. -/
def selectedSvn (d : Dev) : Nat :=
  match fld d Reg.BOOT_STATUS 27 26 with
  | 0 => 0
  | c => fld d (Reg.BOOT_COPY_SVN (c - 1)) 5 0

/-- MIN_SVN: it only rises, to 63 and the SVN of the selected copy at most. -/
def stMinSvn : State → State :=
  runState 0x62 (fun q s =>
    let new := leAt q.body 0 1
    if !allZero (slice q.body 1 3) then ((msReservedField, []), s)
    else if new = s.fuse.minSvn then ((msSuccess, []), s)
    else if new < s.fuse.minSvn ∨ 63 < new ∨ selectedSvn s.dev < new then ((msRefused, []), s)
    else ((msSuccess, []), { s with fuse := { s.fuse with minSvn := new } }))

/-- Whether a slot is the one selected at this boot (18 R501). -/
def slotInUse (d : Dev) (k : Nat) : Bool := decide (fld d Reg.BOOT_STATUS 27 26 = k + 1)

/-- A slot erased from its start for `n` bytes. -/
def flashErase (fl : List Host.Cell) (k n : Nat) : List Host.Cell := fl.filter (fun c => decide (c.1 < slotBase k) || decide (slotBase k + n ≤ c.1))

/-- Bytes programmed from an address: programming clears bits and sets none (PRESUMED, log entry 7). -/
def flashProgram (fl : List Host.Cell) (a : Nat) : List Byte → List Host.Cell
  | [] => fl
  | b :: bs => flashProgram (smSet flashDefault fl a (smGet flashDefault fl a &&& b)) (a + 1) bs

/-- The LEN bytes that a FLASH_WRITE carries (19 R546). -/
def flashData (b : List Byte) : List Byte := (b.drop 12).take (leAt b 8 2)

/-- The status of a flash command before it acts: its reserved fields and ranges, then the selected slot. -/
def flashStatus (d : Dev) (write : Bool) (b : List Byte) : Nat :=
  let k := leAt b 0 1
  if !allZero (slice b 1 3) || (write && decide (leAt b 10 2 ≠ 0)) then msReservedField
  else if decide (1 < k) || (write && (decide (512 < leAt b 8 2) || decide (0x400000 < leAt b 4 4 + leAt b 8 2))) then msReservedEncoding
  else if slotInUse d k then msUnitBusy
  else msSuccess

/-- FLASH_ERASE: the whole slot. -/
def stFlashErase : State → State :=
  runState 0x70 (fun q s =>
    let r := flashStatus s.dev false q.body
    if r = 0 then ((msSuccess, []), { s with flash := flashErase s.flash (leAt q.body 0 1) 0x400000 }) else ((r, []), s))

/-- FLASH_WRITE. -/
def stFlashWrite : State → State :=
  runState 0x71 (fun q s =>
    let r := flashStatus s.dev true q.body
    if r = 0 then ((msSuccess, []), { s with flash := flashProgram s.flash (slotBase (leAt q.body 0 1) + leAt q.body 4 4) (flashData q.body) }) else ((r, []), s))

/-- A reset while a flash command is being executed (18 R499): the device stops after a part that the spec does not give (a free value). -/
def cutFlash (s : State) : State :=
  match s.dev.mgmt.cur with
  | some q =>
    let k := leAt q.body 0 1
    if q.cmd = 0x70 ∧ flashStatus s.dev false q.body = 0 then
      match draw s.dev with
      | (n, d) => { s with dev := d, flash := flashErase s.flash k (n % (0x400000 + 1)) }
    else if q.cmd = 0x71 ∧ flashStatus s.dev true q.body = 0 then
      match draw s.dev with
      | (n, d) => { s with dev := d, flash := flashProgram s.flash (slotBase k + leAt q.body 4 4) ((flashData q.body).take (n % ((flashData q.body).length + 1))) }
    else s
  | none => s

/-- PIN_RESET (18 R497): RESET_N low for a time in ns; below 500 ns it is ignored. -/
def stPinReset (lowNs : Nat) (s : State) : State :=
  if lowNs < 500 then s else (let s := cutFlash s; { s with dev := softReset 2 s.dev })

/-- POR. -/
def stPor (vaon : Bool) (s : State) : State := let s := cutFlash s; { s with dev := devPor vaon s.dev }

/-- PWRGD_FALL. -/
def stPwrgdFall (s : State) : State := let s := cutFlash s; { s with dev := devPwrgdFall s.dev }

/-! ### JTAG (19 R548 to R550) -/

/-- An instruction selected at the TAP: while the station is locked, any but IDCODE, SAMPLE/PRELOAD and BYPASS selects BYPASS. -/
def tapSelect (code dr : Nat) (d : Dev) : Dev :=
  let free := decide (code = 0x01) || decide (code = 0x02)
  if free || debugOpen d then { d with mgmt := { d.mgmt with tap := { d.mgmt.tap with instr := code, dr := dr } } }
  else { d with mgmt := { d.mgmt with tap := { d.mgmt.tap with instr := 0xFF, dr := 0 } } }

/-- TAP_RESET (18 R497): the controller alone; IDCODE is selected (IEEE 1149.1; PRESUMED, log entry 70). -/
def devTapReset (d : Dev) : Dev := { d with mgmt := { d.mgmt with tap := { d.mgmt.tap with instr := 0x01, dr := 0xB007A1D5 } } }

/-- IDCODE. -/
def devIdcode : Dev → Dev := tapSelect 0x01 0xB007A1D5

/-- SAMPLE/PRELOAD: the levels of the lands are captured (a free value), and the values shifted in are preloaded. -/
def devSamplePreload (vals : List Byte) (d : Dev) : Dev :=
  match draw d with
  | (v, d) => let d := tapSelect 0x02 v d; { d with mgmt := { d.mgmt with tap := { d.mgmt.tap with preload := vals } } }

/-- EXTEST: the chain is driven and the fabric, the memory PHYs and the optical engines are held quiet until a reset. -/
def devExtest (d : Dev) : Dev :=
  let d1 := tapSelect 0x03 0 d
  if debugOpen d then { d1 with mgmt := { d1.mgmt with tap := { d1.mgmt.tap with extest := true } } } else d1

/-- CLAMP. -/
def devClamp : Dev → Dev := tapSelect 0x04 0

/-- HIGHZ. -/
def devHighz : Dev → Dev := tapSelect 0x05 0

/-- BYPASS. -/
def devBypass (d : Dev) : Dev := { d with mgmt := { d.mgmt with tap := { d.mgmt.tap with instr := 0xFF, dr := 0 } } }

/-- The groups of a mask. -/
def groupsOf (m : BitVec 8) : List Nat := (List.range 8).filter (fun k => m.getLsbD k)

/-- Whether a debug group holds serving cores: a site of its die with a resident task, or a canonical core of an active model (19 R549). -/
def groupServes (d : Dev) (k : Nat) : Bool :=
  decide (k < 4) && ((usedSites d).any (fun i => decide (siteDie i = k) && (coreAt d i).tasks.any (fun t => decide (t.st ≠ .empty))) ||
    d.model.any (fun x => x.2.active.any (fun im => (sitesOf d im).any (fun i => decide (siteDie i = k)))))

/-- DEBUG_HALT (19 R549): a DBG_CTRL update with HALT bits, on an unlocked station. -/
def devDebugHalt (m : BitVec 8) (d : Dev) : Dev :=
  let d1 := tapSelect 0x40 (256 * maskOf d.halted) d
  if !debugOpen d then d1
  else
    let g := groupsOf m
    let d1 := flipGroups d1 (g.filter (fun k => !d1.halted.contains k))
    let d2 := { d1 with halted := (List.range 8).filter (fun k => d1.halted.contains k || g.contains k) }
    if isServing d2 && g.any (groupServes d2) then setCode d2 stHalted else d2

/-- DEBUG_RESUME (19 R549): on the resume of the last group of cores the station returns to its serving state, and every request whose deadline has passed falls back. -/
def devDebugResume (m : BitVec 8) (d : Dev) : Dev :=
  let d1 := tapSelect 0x40 (256 * maskOf d.halted) d
  if !debugOpen d then d1
  else
    let g := groupsOf m
    let d1 := flipGroups d1 (g.filter (fun k => d1.halted.contains k))
    let d2 := { d1 with halted := d1.halted.filter (fun k => !g.contains k) }
    if decide (d2.code = stHalted) && d2.halted.all (fun k => decide (4 ≤ k)) then
      let d3 := setCode d2 (servingCode d2)
      pump (resumeReleases ((d3.rvp.reqs.map (fun x => x.1)).foldl (fun d h => devDeadlineExpiry h d) d3))
    else pump d2

/-- A MEM_ACCESS update (19 R550): one register access queued with the requests of SMBus; the next capture shows it pending. -/
def memAccess (d : Dev) (q : VReq) : Dev :=
  let d := { d with mgmt := { d.mgmt with tap := { d.mgmt.tap with memStatus := 1 } } }
  enqueueReq d { q with jtag := true }

/-- MEM_ACCESS with OP 1. -/
def devMemAccessRead (a : BitVec 32) (d : Dev) : Dev :=
  let d1 := tapSelect 0x41 d.mgmt.tap.memStatus d
  if debugOpen d then memAccess d1 { cmd := 1, body := leBytes 4 a.toNat ++ [1, 0, 0, 0] } else d1

/-- MEM_ACCESS with OP 2. -/
def devMemAccessWrite (a v : BitVec 32) (d : Dev) : Dev :=
  let d1 := tapSelect 0x41 d.mgmt.tap.memStatus d
  if debugOpen d then memAccess d1 { cmd := 2, body := leBytes 4 a.toNat ++ [1, 0, 0, 0] ++ leBytes 4 v.toNat } else d1

end Sys2Proof.Machine
end

