-- ==== Sys2Proof/Machine/Lift.lean ====
section
/-! DEFINITION. How a meaning over the package becomes a meaning over the machine, and what an idle step does. -/

namespace Sys2Proof.Machine

/-- What a meaning answers. -/
abbrev Answer := Host.Outcome State Fault Refusal

/-- Whether the package acts on commands and events: it is out of RESET (18 R497), and EXTEST does not hold its fabric quiet (19 R548). -/
def live (d : Dev) : Bool := !d.mgmt.tap.extest && decide (d.code ≠ stReset)

/-- A command with an effect on the package while it is live. -/
def onDev (f : Dev → Dev) (s : State) : Answer := .next { s with dev := if live s.dev then f s.dev else s.dev }

/-- A command of a block that stands still in SLEEP (03 Table SPEED-5): the compute fabric, the memories, the receivers but for signal detect. -/
def onAwake (f : Dev → Dev) (s : State) : Answer := onDev (fun d => if d.code = stSleep then d else f d) s

/-- A command with an effect on the package in every state: the TAP, the references, the release of reset. -/
def onAny (f : Dev → Dev) (s : State) : Answer := .next { s with dev := f s.dev }

/-- A command that reaches the fuses or the flash, while the package is live. -/
def onState (f : State → State) (s : State) : Answer := .next (if live s.dev then f s else s)

/-- The windows of one second in which corrected errors (06 R168) and retries (11 R322) are counted begin again. -/
def secondTick (before : Nat) (d : Dev) : Dev :=
  if d.now / 1000000000 = before / 1000000000 then d
  else
    { d with
      core := d.core.filterMap (fun x => let c := { x.2 with ceWindow := 0 }; if c = {} then none else some (x.1, c)),
      xmem := { d.xmem with retryWin := [] } }

/-- What passes when no command waits: one cycle of TIME_500 with the timer block's tick (15 R415, R425), the stall counters (04 R110), the audit engine's next record (16 R469), the
darkening of a lost station's lasers (17 R488), the start of a barrier that waits at the leader (10 R292). Nothing passes
in SLEEP, where SLEEP_TICK is the clock (DESIGN CHOICE, log entry 15). -/
def idleTick (d : Dev) : Dev :=
  if live d && decide (d.code ≠ stSleep) then secondTick d.now (pumpBarriers (auditDrain (stallTick (lostTick (timeTick d))))) else d

end Sys2Proof.Machine
end

