-- ==== Sys2Proof/Machine/CmdAction.lean ====
section
/-! DEFINITION. The meanings of the commands of register actions and further events: one for each row, over the operations of its block. -/

namespace Sys2Proof.Machine

/-- CLR_ABORT (04 R129): CORE_CTRL.CLR_ABORT clears CORE_ABORT_LAST and CORE_ABORT_COUNT. -/
def execClrAbort (site : Fin 288) (s : State) : Answer := onDev (siteWrite site (clrAbort site.val)) s

/-- CLR_SWITCH (04 R129): CORE_CTRL.CLR_SWITCH clears CORE_SWITCH. -/
def execClrSwitch (site : Fin 288) (s : State) : Answer := onDev (siteWrite site (clrSwitch site.val)) s

/-- CLR_STALL (04 R129): CORE_CTRL.CLR_STALL clears the six stall counters. -/
def execClrStall (site : Fin 288) (s : State) : Answer := onDev (siteWrite site (clrStall site.val)) s

/-- CLR_WR_FIRST (06 R179): CORE_SPAD_CTRL.CLR_WR_FIRST clears CORE_SPAD_WR_FIRST. -/
def execClrWrFirst (site : Fin 288) (s : State) : Answer := onDev (siteWrite site (clrWrFirst site.val)) s

/-- CLR_INFO (06 R179): CORE_SPAD_CTRL.CLR_INFO clears ERR_INFO and ERR_SYN. -/
def execClrInfo (site : Fin 288) (s : State) : Answer := onDev (siteWrite site (clrInfo site.val)) s

/-- CLR_COUNT (06 R179): CORE_SPAD_CTRL.CLR_COUNT clears CE_COUNT and UE_COUNT. -/
def execClrCount (site : Fin 288) (s : State) : Answer := onDev (siteWrite site (clrCount site.val)) s

/-- SE_CLR_FAULT (08 R235): CORE_SE_CTRL.CLR_FAULT clears CORE_SE_FAULT and its address. -/
def execSeClrFault (site : Fin 288) (s : State) : Answer := onDev (siteWrite site (seClrFault site.val)) s

/-- CLR_WORDS (08 R235): CORE_SE_CTRL.CLR_WORDS clears the stream engine word counters. -/
def execClrWords (site : Fin 288) (s : State) : Answer := onDev (siteWrite site (clrWords site.val)) s

/-- DMA_CLR_FAULT (08 R235): CORE_DMA_CTRL.CLR_FAULT clears CORE_DMA_FAULT and its address. -/
def execDmaClrFault (site : Fin 288) (s : State) : Answer := onDev (siteWrite site (dmaClrFault site.val)) s

/-- CLR_BYTES (08 R235): CORE_DMA_CTRL.CLR_BYTES clears CORE_DMA_BYTES. -/
def execClrBytes (site : Fin 288) (s : State) : Answer := onDev (siteWrite site (clrBytes site.val)) s

/-- LNK_CLR_CNT (09 R268): LNK_x_CTRL.CLR_CNT clears the link counters and per-lane counts. -/
def execLnkClrCnt (port : Fin 2) (s : State) : Answer := onDev (byWrite (lnkClrCnt port.val)) s

/-- RETRAIN (09 R267): LNK_x_CTRL.RETRAIN restarts training of a DOWN or OFF port. -/
def execRetrain (port : Fin 2) (s : State) : Answer := onDev (devRetrain port) s

/-- LAP_CLR_CNT (10 R304): LAP_CTRL.CLR_CNT clears the LAP_CNT counters. -/
def execLapClrCnt (s : State) : Answer := onDev (byWrite devLapClrCnt) s

/-- REFORM_REQ (10 R303): LAP_CTRL.REFORM_REQ sends BARRIER_REQ for REFORM to the leader. -/
def execReformReq (s : State) : Answer := onDev (byWrite devReformReq) s

/-- XMEM_CLR_CNT (11 R329): The memory controller CTRL.CLR_CNT clears its counters. -/
def execXmemClrCnt (ctrl : Fin 12) (s : State) : Answer := onDev (byWrite (devXmemClrCnt ctrl)) s

/-- RVP_CLR_CNT (13 R389): RVP_CTRL.CLR_CNT clears the RVP counters. -/
def execRvpClrCnt (s : State) : Answer := onDev (byWrite rvpClrCnt) s

/-- FCS_CLR_CNT (14 R414): FCS_CTRL.CLR_CNT clears the flow context store counters. -/
def execFcsClrCnt (s : State) : Answer := onDev (byWrite fcsClrCnt) s

/-- GSTART_GO (15 R432): TIM_GSTART_CTRL.GO arms a global start, immediate or at AT, optionally with reset. -/
def execGstartGo (immediate : Bool) (reset : Bool) (s : State) : Answer := onDev (byWrite (devGstartGo immediate reset)) s

/-- TIMER_START (15 R429): TIM_nn_CTRL.START makes a stopped timer RUNNING. -/
def execTimerStart (timer : Fin 32) (s : State) : Answer := onDev (byWrite (devTimerStart timer)) s

/-- TIMER_STOP (15 R429): TIM_nn_CTRL.STOP stops a timer. -/
def execTimerStop (timer : Fin 32) (s : State) : Answer := onDev (byWrite (devTimerStop timer)) s

/-- TIMER_RESET (15 R426): TIM_nn_CTRL.RESET loads 0 into a timer and clears its prescaler. -/
def execTimerReset (timer : Fin 32) (s : State) : Answer := onDev (byWrite (devTimerReset timer)) s

/-- SWCAP_0 (15 R431): TIM_nn_CTRL.SWCAP_0 triggers capture 0. -/
def execSwcap0 (timer : Fin 32) (s : State) : Answer := onDev (byWrite (devSwcap0 timer)) s

/-- SWCAP_1 (15 R431): TIM_nn_CTRL.SWCAP_1 triggers capture 1. -/
def execSwcap1 (timer : Fin 32) (s : State) : Answer := onDev (byWrite (devSwcap1 timer)) s

/-- TIMER_CONFIG_WRITE (15 R427): A write of a timer's CFG, PRESC, COUNT or compare is accepted only while stopped and within width. -/
def execTimerConfigWrite (timer : Fin 32) (reg : TimerReg) (val : W32) (s : State) : Answer := onDev (devTimerConfigWrite timer reg val) s

/-- DET_CLR_CNT (16 R467): DET_CTRL.CLR_CNT clears every DET_ counter. -/
def execDetClrCnt (s : State) : Answer := onDev (byWrite detClrCnt) s

/-- FAST_G_WRITE (16 R465): A write of DET_MODEL_nn_FAST_G sets or clears the group-size override. -/
def execFastGWrite (model : Fin 16) (val : W32) (s : State) : Answer := onDev (devFastGWrite model val) s

/-- WDN_CLR_CNT (17 R496): WDN_CTRL.CLR_CNT clears the warden counters. -/
def execWdnClrCnt (s : State) : Answer := onDev (byWrite devWdnClrCnt) s

/-- ELOG_CLR_CNT (17 R496): ELOG_CTRL.CLR_CNT clears the error log counters. -/
def execElogClrCnt (s : State) : Answer := onDev (byWrite devElogClrCnt) s

/-- ELOG_SEL (17 R496): A write of ELOG_SEL makes ELOG_DATA show the selected entry within 10 µs and sets READY. -/
def execElogSel (seq : BitVec 32) (s : State) : Answer := onDev (byWrite (devElogSel seq)) s

/-- FCS_ENTRY_SEL (14 R414): A write of FCS_ENTRY_SEL selects the directory entry shown as one untorn set. -/
def execFcsEntrySel (entry : Fin 65536) (s : State) : Answer := onDev (devFcsEntrySel entry) s

/-- WEIGHT_WRITE (11 R317): A write of a channel's class weights takes effect within 1 µs with credits carried over. -/
def execWeightWrite (ctrl : Fin 12) (chan : Option (Fin 32)) (high : Bool) (val : BitVec 32) (s : State) : Answer := onDev (byWrite (devWeightWrite ctrl chan high val)) s

/-- LINK_DOWN (12 R335): An Ethernet sub-port loses its link (PCS loss of lock or remote fault), setting LINK_EVT and invalidating the PTP reference of that sub-port. -/
def execLinkDown (port : Fin 2) (sub : Fin 8) (s : State) : Answer := onDev (devLinkDown port sub) s

/-- LASER_BIAS_FAULT (09 R239): A ring port transmitter detects a laser bias fault on a lane, makes the class C entry 0x0405 and keeps sending. -/
def execLaserBiasFault (port : Fin 2) (lane : Fin 17) (s : State) : Answer := onDev (devLaserBiasFault port lane) s

/-- MCTP_PACKET (19 R531): An SMBus MCTP packet arrives and is assembled into a message, or dropped for a bad PEC or inconsistent byte count with PEC_DROPS increased. -/
def execMctpPacket (bytes : List Byte) (s : State) : Answer := onDev (devMctpPacket bytes) s

/-- DSP0237_TIMEOUT (19 R532): The DSP0237 timeout expires on a partial MCTP message or an undelivered response, which is then discarded. -/
def execDsp0237Timeout (msg : Option (BitVec 8 × Fin 8)) (s : State) : Answer := onDev (devDsp0237Timeout msg) s

end Sys2Proof.Machine
end

