-- ==== Sys2Proof/Machine/CmdCore.lean ====
section
/-! DEFINITION. The meanings of the commands of the cores: tasks, sequencer, units, scratchpad and skeins: one for each row, over the operations of its block. -/

namespace Sys2Proof.Machine

/-- TASK_DISPATCH (04 R100): The ingress engine places a task descriptor in a free slot, where it is checked and becomes WAITING_LAP or aborts with DESC. -/
def execTaskDispatch (model : Fin 16) (s : State) : Answer := onAwake (devTaskDispatch model) s

/-- END (04 R118): END places the task in ENDING, aborting a rank-0 task with NO_EMIT if it has issued no EMIT. -/
def execEnd (site : Fin 288) (s : State) : Answer := onAwake (devEnd site) s

/-- TASK_END_COMPLETE (04 R118): All the ENDING task's commands complete and its slot becomes EMPTY. -/
def execTaskEndComplete (site : Fin 288) (slot : Fin 8) (s : State) : Answer := onAwake (devTaskEndComplete site slot) s

/-- MMA (04 R114): An MMA computes C = A × B from the A and B slot rings and writes ROWS slots of C. -/
def execMma (site : Fin 288) (s : State) : Answer := onAwake (devMma site) s

/-- VOP (04 R116): A VOP applies FUNC to COUNT 64-lane vectors from SRC_A and SRC_B and writes the results from DST. -/
def execVop (site : Fin 288) (s : State) : Answer := onAwake (devVop site) s

/-- HANKWAIT (04 R117): A HANKWAIT registers a match and completes when the named hank of the task's lap is bound to its hank binding. -/
def execHankwait (site : Fin 288) (s : State) : Answer := onAwake (devHankwaitTwin site) s

/-- HANKWAIT_START (07 R200): A HANKWAIT starts once earlier HANKWAITs on its HB have completed and no active pattern uses the HB, releasing the old binding. -/
def execHankwaitStart (site : Fin 288) (slot : Fin 8) (s : State) : Answer := onAwake (devHankwaitStartRow site slot) s

/-- DEPMARK (04 R106): A DEPMARK stops issue and run-ahead until every named unit completes the task's earlier commands. -/
def execDepmark (site : Fin 288) (s : State) : Answer := onAwake (devDepmark site) s

/-- LBAR (04 R107): An LBAR stops the issue pointer until every named unit completes the task's earlier commands. -/
def execLbar (site : Fin 288) (s : State) : Answer := onAwake (devLbar site) s

/-- DMA (04 R119): A DMA command starts a chain of NDESC descriptors from DESC. -/
def execDma (site : Fin 288) (s : State) : Answer := onAwake (devDma site) s

/-- PAT (04 R120): A PAT starts a stream pattern at ENTRY on the named engine with its ring skein and base. -/
def execPat (site : Fin 288) (s : State) : Answer := onAwake (devPat site) s

/-- PATTERN_START (08 R208): A pattern context starts when its engine has room, after the start checks, issued by run-ahead or the issue pointer. -/
def execPatternStart (site : Fin 288) (slot : Fin 8) (s : State) : Answer := onAwake (devPatternStart site slot) s

/-- SET_FULL (04 R121): TAGOP SET_FULL marks COUNT slots of a skein full. -/
def execSetFull (site : Fin 288) (s : State) : Answer := onAwake (devSetFull site) s

/-- SET_EMPTY (04 R121): TAGOP SET_EMPTY marks COUNT slots of a skein empty. -/
def execSetEmpty (site : Fin 288) (s : State) : Answer := onAwake (devSetEmpty site) s

/-- WAIT_FULL (04 R121): TAGOP WAIT_FULL blocks the issue pointer until the named slots are full. -/
def execWaitFull (site : Fin 288) (s : State) : Answer := onAwake (devWaitFull site) s

/-- WAIT_EMPTY (04 R121): TAGOP WAIT_EMPTY blocks the issue pointer until the named slots are empty. -/
def execWaitEmpty (site : Fin 288) (s : State) : Answer := onAwake (devWaitEmpty site) s

/-- TAGOP_RESET (07 R186): TAGOP RESET sets head and tail to slot 0 and every tag empty. -/
def execTagopReset (site : Fin 288) (s : State) : Answer := onAwake (devTagopReset site) s

/-- CTXLOAD (14 R400): CTXLOAD, once its request holds the claim, fills the context words at SPAD from the source the directory entry selects. -/
def execCtxload (site : Fin 288) (s : State) : Answer := onAwake (devCtxload site) s

/-- CTXSTORE (14 R403): CTXSTORE writes the held context to its home, updates the CRC and, with RELEASE, evicts the copy and ends the claim. -/
def execCtxstore (site : Fin 288) (s : State) : Answer := onAwake (devCtxstore site) s

/-- EMIT (04 R123): EMIT passes NWORDS of logits to the egress engine of the descriptor's port. -/
def execEmit (site : Fin 288) (s : State) : Answer := onAwake (devEmit site) s

/-- YIELD (04 R102): YIELD lets another READY task run, the yielding task becoming READY. -/
def execYield (site : Fin 288) (s : State) : Answer := onAwake (devYield site) s

/-- UNIT_COMMAND_COMPLETE (04 R108): A unit completes a command of a task, satisfying barriers and DEPMARKs that wait on it. -/
def execUnitCommandComplete (site : Fin 288) (unit : Fin 8) (s : State) : Answer := onAwake (devUnitCommandComplete site unit) s

/-- TASK_ABORT (04 R125): A faulting task is aborted: its commands discarded, patterns stopped, bindings released and context handled. -/
def execTaskAbort (site : Fin 288) (slot : Fin 8) (s : State) : Answer := onAwake (devTaskAbort site slot) s

/-- DEADLINE_EXPIRY (04 R127): A request's effective deadline passes before its EMIT is accepted; its fallback is issued and its tasks abort with DEADLINE. -/
def execDeadlineExpiry (handle : Nat) (s : State) : Answer := onDev (devDeadlineExpiry handle) s

/-- BANK_CYCLE (06 R173): A scratchpad bank arbiter chooses one pending access by fixed priority and performs it. -/
def execBankCycle (site : Fin 288) (bank : Fin 64) (fresh : List BankReq) (word : Fin 32768) (upset : Option WordErr) (s : State) : Answer := onAwake (devBankCycle site bank fresh (upset.map (fun e => (word, e)))) s

/-- SCRUB_READ (06 R170): The scrubber reads the next word of its slice in its period, taking priority after 1 ms of starvation. -/
def execScrubRead (site : Fin 288) (s : State) : Answer := onAwake (devScrubRead site) s

/-- REMOTE_TIMEOUT (06 R162): A global access has no response within 10 µs; the requester aborts with REMOTE and the target is reported. -/
def execRemoteTimeout (site : Fin 288) (unit : Fin 8) (ctx : Fin 8) (target : Fin 288) (s : State) : Answer := onAwake (devRemoteTimeout site unit ctx target) s

/-- SPARE_REFILL_COMPLETE (06 R177): A promoted spare's slice has been cleared and refilled, and the warden declares it LIVE for its canonical index. -/
def execSpareRefillComplete (site : Fin 288) (good : Bool) (s : State) : Answer := onDev (devSpareRefillComplete site good) s

/-- SPARE_TEST (02 R56): A background test of an idle spare completes, marking it failed if it fails. -/
def execSpareTest (site : Fin 288) (pass : Bool) (s : State) : Answer := onDev (devSpareTest site pass) s

/-- SKEIN_TIMEOUT (07 R194): A tag wait exceeds the skein's TIMEOUT and the owning task aborts with SKEIN_TIMEOUT. -/
def execSkeinTimeout (site : Fin 288) (waiter : TagWaiter) (s : State) : Answer := onAwake (devSkeinTimeout site waiter) s

/-- HANK_DELIVERY (07 R199): The ring agent writes an arriving good hank into a core's hank skein slot and tags it full, binding waiting matches. -/
def execHankDelivery (site : Fin 288) (s : State) : Answer := onAwake (devHankDelivery site) s

end Sys2Proof.Machine
end

