-- ==== Sys2Proof/Machine/CmdDma.lean ====
section
/-! DEFINITION. The meanings of the commands of the DMA engine: one for each row, over the operations of its block. -/

namespace Sys2Proof.Machine

/-- DMA_DESCRIPTOR_START (08 R233): The DMA engine reads and checks the next descriptor of a chain before moving any byte. -/
def execDmaDescriptorStart (site : Fin 288) (s : State) : Answer := onAwake (devDmaDescriptorStart site) s

/-- DMA_DESCRIPTOR_COMPLETE (08 R228): Every write of a descriptor is acknowledged, letting the next descriptor start or the chain complete. -/
def execDmaDescriptorComplete (site : Fin 288) (s : State) : Answer := onAwake (devDmaDescriptorComplete site) s

/-- EXTERNAL_TO_SCRATCHPAD (08 R231): KIND 0x0 moves rows from external memory to the scratchpad. -/
def execExternalToScratchpad (site : Fin 288) (s : State) : Answer := onAwake (devExternalToScratchpad site) s

/-- SCRATCHPAD_TO_EXTERNAL (08 R231): KIND 0x1 moves rows from the scratchpad to external memory. -/
def execScratchpadToExternal (site : Fin 288) (s : State) : Answer := onAwake (devScratchpadToExternal site) s

/-- SCRATCHPAD_TO_SCRATCHPAD (08 R231): KIND 0x2 moves rows between scratchpad addresses. -/
def execScratchpadToScratchpad (site : Fin 288) (s : State) : Answer := onAwake (devScratchpadToScratchpad site) s

/-- EXTERNAL_TO_SKEIN (08 R232): KIND 0x3 fills a skein as producer from external memory. -/
def execExternalToSkein (site : Fin 288) (s : State) : Answer := onAwake (devExternalToSkein site) s

/-- SKEIN_TO_EXTERNAL (08 R232): KIND 0x4 drains a skein as consumer to external memory. -/
def execSkeinToExternal (site : Fin 288) (s : State) : Answer := onAwake (devSkeinToExternal site) s

/-- SCRATCHPAD_TO_SKEIN (08 R232): KIND 0x5 fills a skein as producer from the scratchpad. -/
def execScratchpadToSkein (site : Fin 288) (s : State) : Answer := onAwake (devScratchpadToSkein site) s

/-- SKEIN_TO_SCRATCHPAD (08 R232): KIND 0x6 drains a skein as consumer to the scratchpad. -/
def execSkeinToScratchpad (site : Fin 288) (s : State) : Answer := onAwake (devSkeinToScratchpad site) s

end Sys2Proof.Machine
end

