-- ==== Sys2Proof/Machine/CmdEth.lean ====
section
/-! DEFINITION. The meanings of the commands of the Ethernet ports and PTP: one for each row, over the operations of its block. -/

namespace Sys2Proof.Machine

/-- LINK_RETRY (12 R335): A down Ethernet sub-port retries bring-up every 100 ms. -/
def execLinkRetry (port : Fin 2) (sub : Fin 8) (locks : Bool) (s : State) : Answer := onDev (devLinkRetry port sub locks) s

/-- AUTONEG_COMPLETE (12 R334): Clause 73 auto-negotiation resolves and link training follows, or AN_FAIL_EVT is set. -/
def execAutonegComplete (port : Fin 2) (sub : Fin 8) (partner : BitVec 4) (trained : Bool) (s : State) : Answer := onDev (devAutonegComplete port sub partner trained) s

/-- FRAME_RECEIVE (12 R337): A received Ethernet frame is timestamped and checked in order, then dropped or passed to its consumer. -/
def execFrameReceive (port : Fin 2) (sub : Fin 8) (frame : RxFrame) (s : State) : Answer := onDev (devFrameReceive port sub frame.bytes frame.fec) s

/-- PFC_REPEAT (12 R339): PFC is repeated every 32,768 quanta while the XOFF condition lasts. -/
def execPfcRepeat (port : Fin 2) (sub : Fin 8) (s : State) : Answer := onDev (devPfcRepeat port sub) s

/-- PFC_PAUSE_EXPIRY (12 R339): The quanta of a received PFC expire and transmission of that priority resumes. -/
def execPfcPauseExpiry (port : Fin 2) (sub : Fin 8) (prio : Fin 8) (s : State) : Answer := onDev (devPfcPauseExpiry port sub prio) s

/-- ARP_REQUEST (12 R341): An ARP request for the sub-port's address is answered. -/
def execArpRequest (port : Fin 2) (sub : Fin 8) (s : State) : Answer := onDev (devArpRequest port sub) s

/-- NEIGHBOR_SOLICITATION (12 R341): An IPv6 Neighbor Solicitation for the sub-port's address is answered. -/
def execNeighborSolicitation (port : Fin 2) (sub : Fin 8) (s : State) : Answer := onDev (devNeighborSolicitation port sub) s

/-- ANNOUNCE (12 R349): A PTP Announce is accepted for master selection. -/
def execAnnounce (port : Fin 2) (s : State) : Answer := onDev (devAnnounce port) s

/-- SYNC (12 R349): A PTP Sync is accepted and gives an offset sample. -/
def execSync (port : Fin 2) (s : State) : Answer := onDev (devSync port) s

/-- FOLLOW_UP (12 R349): A PTP Follow_Up completes a two-step Sync sample. -/
def execFollowUp (port : Fin 2) (s : State) : Answer := onDev (devFollowUp port) s

/-- DELAY_RESP (12 R349): A PTP Delay_Resp completes a delay measurement and sets the Delay_Req interval. -/
def execDelayResp (port : Fin 2) (s : State) : Answer := onDev (devDelayResp port) s

/-- DELAY_REQ (12 R349): The PTP clock sends Delay_Req at the interval the master sets. -/
def execDelayReq (port : Fin 2) (s : State) : Answer := onDev (devDelayReq port) s

/-- TX_SA_WAIT_EXPIRY (12 R347): Frames waiting for a new transmit SA for 1 ms are discarded and counted in TX_NOKEY. -/
def execTxSaWaitExpiry (port : Fin 2) (sub : Fin 8) (s : State) : Answer := onDev (devTxSaWaitExpiry port sub) s

end Sys2Proof.Machine
end

