-- ==== Sys2Proof/Machine/CmdFlow.lean ====
section
/-! DEFINITION. The meanings of the commands of the flow context store: one for each row, over the operations of its block. -/

namespace Sys2Proof.Machine

/-- CLAIM_GRANT (14 R397): The directory grants the claim to the head of an entry's claim queue. -/
def execClaimGrant (entry : Fin 65536) (s : State) : Answer := onDev (devClaimGrant entry) s

/-- LEAVING (14 R406): A LEAVING(t) message puts the directory entry in EVICTING(t). -/
def execLeaving (core : Fin 256) (s : State) : Answer := onAwake (devLeaving core) s

/-- NOTICE (14 R406): A NOTICE(t) message puts the entry IN_MEMORY with ETAG t and releases waiters. -/
def execNotice (core : Fin 256) (s : State) : Answer := onAwake (devNotice core) s

/-- SNOOP (14 R407): A holder receives SNOOP and copies its context to the requester, or answers RETRY if leaving. -/
def execSnoop (core : Fin 256) (s : State) : Answer := onAwake (devSnoop core) s

/-- RETRY (14 R407): A requester receives RETRY(t) and waits until the entry reaches ETAG t before reading the home. -/
def execRetry (core : Fin 256) (s : State) : Answer := onAwake (devRetry core) s

/-- DROP (14 R406): A holder receives DROP and evicts its held copy. -/
def execDrop (core : Fin 256) (s : State) : Answer := onAwake (devDrop core) s

/-- EVICTION_WRITEBACK_COMPLETE (14 R406): A dirty copy's home write is acknowledged or fails, and NOTICE is sent. -/
def execEvictionWritebackComplete (core : Fin 256) (entry : Fin 65536) (s : State) : Answer := onAwake (devEvictionWritebackComplete core entry) s

/-- FLOW_EXPIRY (14 R412): An unclaimed entry idle for IDLE_EXPIRE seconds becomes FREE. -/
def execFlowExpiry (entry : Fin 65536) (s : State) : Answer := onDev (devFlowExpiry entry) s

end Sys2Proof.Machine
end

