-- ==== Sys2Proof/Machine/CmdLink.lean ====
section
/-! DEFINITION. The meanings of the commands of the SerBy links: one for each row, over the operations of its block. -/

namespace Sys2Proof.Machine

/-- CODEWORD_LOCK (09 R241): A receiver declares codeword lock on a lane after 8 decodable codewords. -/
def execCodewordLock (port : Fin 2) (lane : Fin 17) (s : State) : Answer := onAwake (devCodewordLock port lane) s

/-- LOSS_OF_LOCK (09 R241): A lane loses signal or gives 3 uncorrectable codewords and loses lock, which retires it. -/
def execLossOfLock (port : Fin 2) (lane : Fin 17) (signal : Bool) (s : State) : Answer := onDev (devLossOfLock port lane signal) s

/-- LANE_DEGRADE_CHECK (09 R243): Every 100 ms period, a lane over LANE_DEGRADE for 3 periods is retired. -/
def execLaneDegradeCheck (port : Fin 2) (corr : List Nat) (uncorr : List Nat) (s : State) : Answer := onDev (devLaneDegradeCheck port corr uncorr) s

/-- TRAINING_START (09 R246): Training lights all lanes and sends PRBS13Q for 20 ms. -/
def execTrainingStart (port : Fin 2) (s : State) : Answer := onAwake (devTrainingStart port) s

/-- TS_TRAIN_START (09 R246): At 20 ms the transmitter starts coded TS_TRAIN on all lanes at LBC 0. -/
def execTsTrainStart (port : Fin 2) (s : State) : Answer := onDev (devTsTrainStart port) s

/-- TS_TRAIN (09 R244): A received TS_TRAIN is accepted on a lane towards alignment, identity and skew. -/
def execTsTrain (port : Fin 2) (lane : Fin 17) (ts : List Byte) (skew : Nat) (s : State) : Answer := onDev (devTsTrain port lane ts skew) s

/-- TS_START (09 R247): A received TS_START fixes the partner's transmit mask and the LBC at which flit mode starts. -/
def execTsStart (port : Fin 2) (lane : Fin 17) (ts : List Byte) (skew : Nat) (s : State) : Answer := onDev (devTsStart port lane ts skew) s

/-- RX_LOCKED (09 R246): RX_MASK unchanged for 1 ms with at least 4 lanes sets RX_LOCKED. -/
def execRxLocked (port : Fin 2) (s : State) : Answer := onDev (devRxLocked port) s

/-- TRAINING_TIMEOUT (09 R246): Steps 3 to 6 not complete within 80 ms restart training, and after 3 attempts the port goes DOWN with TRAIN_FAIL. -/
def execTrainingTimeout (port : Fin 2) (s : State) : Answer := onDev (devTrainingTimeout port) s

/-- FLIT_TRANSMIT (09 R255): In each flit slot the transmitter sends the first available item by priority, with the current ACK_SEQ. -/
def execFlitTransmit (port : Fin 2) (s : State) : Answer := onDev (devFlitTransmit port) s

/-- FLIT_RECEIVE (09 R254): A received flit is checked for CRC and reserved fields, its trailer used and it is handled by class. -/
def execFlitReceive (port : Fin 2) (flit : List Byte) (s : State) : Answer := onDev (devFlitReceive port flit) s

/-- IDLE (09 R239): An IDLE flit is received and only its trailer is used. -/
def execIdle (port : Fin 2) (s : State) : Answer := onDev (devIdle port) s

/-- NAK (09 R258): A received NAK makes the transmitter resend every flit from NAK_SEQ. -/
def execNak (port : Fin 2) (s : State) : Answer := onDev (devNak port) s

/-- WIDTH_REQ (09 R262): A received WIDTH_REQ makes the transmitter end the epoch, start one with the new mask, send WIDTH and replay. -/
def execWidthReq (port : Fin 2) (s : State) : Answer := onDev (devWidthReq port) s

/-- WIDTH (09 R261): A received WIDTH with the current REQ_ID starts the new epoch at the receiver. -/
def execWidth (port : Fin 2) (s : State) : Answer := onDev (devWidth port) s

/-- DOWN (09 R266): A received DOWN flit takes the port DOWN with reason PEER. -/
def execDown (port : Fin 2) (s : State) : Answer := onDev (devDown port) s

/-- HANK (10 R286): A hank's last HANK flit arrives; the hank is checked, relayed onward and delivered or reported for reissue. -/
def execHank (port : Fin 2) (overflow : Bool) (s : State) : Answer := onDev (devHank port overflow) s

/-- BARRIER (10 R293): A barrier token arrives; the station votes on the collecting lap or acts on the release. -/
def execBarrier (port : Fin 2) (s : State) : Answer := onDev (devBarrier port) s

/-- RING_MSG (10 R289): A ring message arrives and is acted on or passed on with TTL decremented. -/
def execRingMsg (port : Fin 2) (s : State) : Answer := onDev (devRingMsg port) s

/-- TWIN (16 R462): A TWIN flit arrives and its layer digest entries are matched against the station's own. -/
def execTwin (port : Fin 2) (s : State) : Answer := onDev (devTwin port) s

/-- IDENT (10 R271): An IDENT arrives and is checked, closing the port or recording the failed check. -/
def execIdent (port : Fin 2) (s : State) : Answer := onDev (devIdent port) s

/-- NAK_REPEAT (09 R258): The expected flit has not arrived REPLAY_TO after the last NAK, so the NAK is repeated. -/
def execNakRepeat (port : Fin 2) (s : State) : Answer := onDev (devNakRepeat port) s

/-- REPLAY_TIMEOUT (09 R259): The oldest unacknowledged flit is not acknowledged within REPLAY_TO and is replayed, the port going DOWN at REPLAY_LIMIT. -/
def execReplayTimeout (port : Fin 2) (s : State) : Answer := onDev (devReplayTimeout port) s

/-- WIDTH_REQ_REPEAT (09 R261): An unanswered WIDTH_REQ is repeated every 1 µs. -/
def execWidthReqRepeat (port : Fin 2) (s : State) : Answer := onDev (devWidthReqRepeat port) s

/-- SPARE_QUALIFIED (09 R263): Lane 16 passes 1,024 codewords of qualification and a WIDTH_REQ adds it to the mask. -/
def execSpareQualified (port : Fin 2) (pass : Bool) (s : State) : Answer := onDev (devSpareQualified port pass) s

/-- SIGNAL_LOSS (09 R266): Loss of signal on every lane for 1 µs takes the port DOWN with reason SIGNAL. -/
def execSignalLoss (port : Fin 2) (s : State) : Answer := onDev (devSignalLoss port) s

/-- IDENT_TIMER (10 R270): An UP port sends an IDENT every 1 ms until the partner shows PEER_OK, then every second. -/
def execIdentTimer (port : Fin 2) (s : State) : Answer := onDev (devIdentTimer port) s

end Sys2Proof.Machine
end

