-- ==== Sys2Proof/Machine/CmdMgmt.lean ====
section
/-! DEFINITION. The meanings of the commands of management, MCTP, SMBus alerts and the TAP: one for each row, over the operations of its block. -/

namespace Sys2Proof.Machine

/-- SET_ENDPOINT_ID (19 R532): The bus owner assigns the endpoint ID. -/
def execSetEndpointId (s : State) : Answer := onDev devSetEndpointId s

/-- GET_ENDPOINT_ID (19 R531): The MCTP control command returns the endpoint ID. -/
def execGetEndpointId (s : State) : Answer := onDev devGetEndpointId s

/-- GET_ENDPOINT_UUID (19 R532): The MCTP control command returns a UUID carrying the serial number. -/
def execGetEndpointUuid (s : State) : Answer := onDev devGetEndpointUuid s

/-- GET_MCTP_VERSION_SUPPORT (19 R531): The MCTP control command returns the supported MCTP version. -/
def execGetMctpVersionSupport (s : State) : Answer := onDev devGetMctpVersionSupport s

/-- GET_MESSAGE_TYPE_SUPPORT (19 R531): The MCTP control command returns the supported message types. -/
def execGetMessageTypeSupport (s : State) : Answer := onDev devGetMessageTypeSupport s

/-- GET_VENDOR_DEFINED_MESSAGE_SUPPORT (19 R531): The MCTP control command returns the vendor message support. -/
def execGetVendorDefinedMessageSupport (s : State) : Answer := onDev devGetVendorDefinedMessageSupport s

/-- VENDOR_MESSAGE (19 R535): A vendor message is queued and checked in order before its command is performed. -/
def execVendorMessage (s : State) : Answer := onDev devVendorMessage s

/-- READ (19 R536): READ returns COUNT consecutive registers, each untorn. -/
def execRead (s : State) : Answer := onDev (devRead s.fuse) s

/-- WRITE (19 R537): WRITE performs COUNT consecutive register writes in order, stopping at the first refused. -/
def execWrite (s : State) : Answer := onDev devWrite s

/-- REGISTER_WRITE (19 R537): A write to a register with no row of its own is checked and performed, W1C bits clearing. -/
def execRegisterWrite (addr : BitVec 32) (val : W32) (s : State) : Answer := onDev (devRegisterWrite addr val) s

/-- COUNTER_LO_READ (04 R129): A read of a 64-bit counter's LO half latches its HI half. -/
def execCounterLoRead (addr : BitVec 32) (s : State) : Answer := onDev (devCounterLoRead s.fuse addr) s

/-- FENCE (19 R541): FENCE takes the named core site, seam, channel, port or package out of service. -/
def execFence (s : State) : Answer := onDev devFence s

/-- STATE_GET (19 R540): STATE_GET returns the station state, ring state, N_LIVE and BOOT_STATUS. -/
def execStateGet (s : State) : Answer := onDev devStateGet s

/-- TELEMETRY (19 R543): TELEMETRY returns the 64-byte telemetry body. -/
def execTelemetry (s : State) : Answer := onDev devTelemetry s

/-- GET_ALERTS (19 R547): GET_ALERTS returns the MGT_ALERT bits and clears them. -/
def execGetAlerts (s : State) : Answer := onDev devGetAlerts s

/-- LOG_READ (19 R542): LOG_READ returns error log or audit log entries from FROM onward. -/
def execLogRead (s : State) : Answer := onDev devLogRead s

/-- SLEEP (03 R88): The SLEEP command carries a sleep request to every station in the next ring barrier. -/
def execSleep (s : State) : Answer := onDev devSleep s

/-- WAKE (03 R89): The WAKE command wakes a sleeping station. -/
def execWake (s : State) : Answer := onDev devWake s

/-- RESET (19 R540): The RESET command begins a MGMT reset within 1 ms of its response. -/
def execReset (s : State) : Answer := onDev devReset s

/-- SA_INSTALL (19 R544): SA_INSTALL unwraps and installs a MACsec SA, optionally putting it in use. -/
def execSaInstall (s : State) : Answer := onDev (devSaInstall s.fuse) s

/-- SA_DELETE (19 R544): SA_DELETE removes an installed MACsec SA other than the one in use. -/
def execSaDelete (s : State) : Answer := onDev devSaDelete s

/-- ZEROISE (12 R346): ZEROISE clears every SA of both ports. -/
def execZeroise (s : State) : Answer := onDev devZeroise s

/-- KEY_SLOT_PROGRAM (18 R509): KEY_SLOT program fuses a key hash into a slot in BOOT_FAILED. -/
def execKeySlotProgram (s : State) : Answer := onState stKeySlotProgram s

/-- KEY_SLOT_REVOKE (18 R509): KEY_SLOT revoke sets a slot's revoke bit, effective at the next boot. -/
def execKeySlotRevoke (s : State) : Answer := onState stKeySlotRevoke s

/-- KWK_SET (19 R545): KWK_SET fuses the key-wrap key once. -/
def execKwkSet (s : State) : Answer := onState stKwkSet s

/-- MIN_SVN (18 R510): MIN_SVN raises the fused minimum security version. -/
def execMinSvn (s : State) : Answer := onState stMinSvn s

/-- DEBUG_UNLOCK (18 R518): DEBUG_UNLOCK verifies a token signature and unlocks debug until reset. -/
def execDebugUnlock (s : State) : Answer := onDev devDebugUnlock s

/-- FLASH_ERASE (19 R546): FLASH_ERASE erases a whole 4 MiB flash slot not selected at this boot. -/
def execFlashErase (s : State) : Answer := onState stFlashErase s

/-- FLASH_WRITE (19 R546): FLASH_WRITE programs up to 512 bytes into a flash slot not selected at this boot. -/
def execFlashWrite (s : State) : Answer := onState stFlashWrite s

/-- ALERT_RESPONSE (19 R547): A read of the Alert Response Address returns the U7's address and releases ALERT_N. -/
def execAlertResponse (wins : Bool) (s : State) : Answer := onDev (devAlertResponse wins) s

/-- IDCODE (19 R548): The IDCODE instruction selects the 32-bit identification register. -/
def execIdcode (s : State) : Answer := onAny devIdcode s

/-- SAMPLE_PRELOAD (19 R548): The SAMPLE/PRELOAD instruction samples or preloads the boundary scan chain. -/
def execSamplePreload (vals : List Byte) (s : State) : Answer := onAny (devSamplePreload vals) s

/-- EXTEST (19 R548): EXTEST drives the boundary scan chain with the fabric held quiet until reset. -/
def execExtest (s : State) : Answer := onAny devExtest s

/-- CLAMP (19 R548): CLAMP holds outputs at the preloaded values with the bypass register selected. -/
def execClamp (s : State) : Answer := onAny devClamp s

/-- HIGHZ (19 R548): HIGHZ puts outputs in high impedance with the bypass register selected. -/
def execHighz (s : State) : Answer := onAny devHighz s

/-- BYPASS (19 R548): BYPASS selects the 1-bit bypass register. -/
def execBypass (s : State) : Answer := onAny devBypass s

/-- DEBUG_HALT (19 R549): A DBG_CTRL HALT bit halts a debug group, possibly putting the station in HALTED. -/
def execDebugHalt (mask : BitVec 8) (s : State) : Answer := onDev (devDebugHalt mask) s

/-- DEBUG_RESUME (19 R549): A DBG_CTRL RESUME bit resumes a debug group, and the last resume restores the station state. -/
def execDebugResume (mask : BitVec 8) (s : State) : Answer := onDev (devDebugResume mask) s

/-- MEM_ACCESS_READ (19 R550): MEM_ACCESS with OP 1 queues one management register read. -/
def execMemAccessRead (addr : BitVec 32) (s : State) : Answer := onDev (devMemAccessRead addr) s

/-- MEM_ACCESS_WRITE (19 R550): MEM_ACCESS with OP 2 queues one management register write. -/
def execMemAccessWrite (addr : BitVec 32) (val : BitVec 32) (s : State) : Answer := onDev (devMemAccessWrite addr val) s

end Sys2Proof.Machine
end

