-- ==== Sys2Proof/Machine/CmdPackage.lean ====
section
/-! DEFINITION. The meanings of the commands of the package: resets, boot, power, references, sleep: one for each row, over the operations of its block. -/

namespace Sys2Proof.Machine

/-- POR (18 R497): A power-on reset from rails and PWRGD, or VAON below 0.72 V, resets everything but fuses and flash. -/
def execPor (vaon : Bool) (s : State) : Answer := .next (stPor vaon s)

/-- PIN_RESET (18 R497): RESET_N held low for 500 ns or more resets everything except the VAON domain and keeps LPDDR 5X in self-refresh. -/
def execPinReset (lowNs : Nat) (s : State) : Answer := .next (stPinReset lowNs s)

/-- TAP_RESET (18 R497): TRST_N low, or five TCK cycles with TMS high, resets only the JTAG TAP controller. -/
def execTapReset (s : State) : Answer := onAny devTapReset s

/-- PWRGD_FALL (20 R560): PWRGD goes low and the package is held in RESET before the rails leave range. -/
def execPwrgdFall (s : State) : Answer := .next (stPwrgdFall s)

/-- RESET_RELEASE (18 R499): With RESET_N and PWRGD both high, the package samples the straps and enters BOOT within 10 µs. -/
def execResetRelease (straps : Fin 32) (s : State) : Answer := onAny (devResetRelease straps) s

/-- BOOT_PHASE_COMPLETE (18 R513): A boot phase (ROM, FLASH, VERIFY, SETTINGS, CLEAR, SELFTEST, MEMTRAIN, RINGTRAIN) completes and the next begins, or the station ends in FORMING or BOOT_FAILED. -/
def execBootPhaseComplete (outcome : BootOutcome) (s : State) : Answer := onDev (devBootPhaseComplete outcome s.fuse s.flash) s

/-- FORMING_RETRAIN (18 R516): Every second in FORMING the warden writes RETRAIN to each DOWN ring port. -/
def execFormingRetrain (s : State) : Answer := onDev devFormingRetrain s

/-- SPEED_MONITOR_UPDATE (03 R79): Every 10 µs each speed monitor reports its step count and MIN is updated, with SPEED_LOW_EVT after three low updates. -/
def execSpeedMonitorUpdate (die : Fin 4) (rates : List (BitVec 12)) (s : State) : Answer := onDev (devSpeedMonitorUpdate die rates) s

/-- THROTTLE_EVALUATION (03 R83): Every 1 ms the warden evaluates the thermal and power rules and lowers or raises every die's VCORE by one code. -/
def execThrottleEvaluation (readings : List DieReading) (s : State) : Answer := onDev (devThrottleEvaluation readings) s

/-- AVS_COMPLETION (03 R82): A VCORE regulator reports completion of a commanded 5 mV change, letting the warden issue the next. -/
def execAvsCompletion (die : Fin 4) (s : State) : Answer := onDev (devAvsCompletion die) s

/-- AVS_TIMEOUT (03 R86): A regulator does not report completion within 100 µs; the command is retried once and a second failure is a brown-out. -/
def execAvsTimeout (die : Fin 4) (s : State) : Answer := onDev (devAvsTimeout die) s

/-- THERMAL_FENCE (03 R85): A die sensor at 105 °C or more for 100 ms while at its floor makes the warden fence the package as class S. -/
def execThermalFence (die : Fin 4) (s : State) : Answer := onDev (devThermalFence die) s

/-- THERMTRIP (03 R85): A sensor reading 112 °C asserts the latched THERMTRIP_N output within 10 µs and the package enters LOST. -/
def execThermtrip (die : Fin 4) (s : State) : Answer := onAny (devThermtrip die) s

/-- BROWN_OUT (03 R86): A VCORE below 0.55 V for over 10 µs or a regulator fault puts the package in LOST as class S. -/
def execBrownOut (die : Fin 4) (s : State) : Answer := onDev (devBrownOut die) s

/-- SYSREF_LOSS (03 R92): Loss of SYSREF_100 stops the memory PHYs and time base and the package enters LOST. -/
def execSysrefLoss (s : State) : Answer := onAny devSysrefLoss s

/-- SERREF_LOSS (03 R92): Loss or return of SERREF_156 on a die takes that die's Ethernet port down or lets it retrain. -/
def execSerrefLoss (port : Fin 2) (present : Bool) (s : State) : Answer := onAny (devSerrefLoss port present) s

/-- OPTREF_LOSS (03 R92): Loss or return of OPTREF_156 on a die takes that die's ring port down or lets it retrain. -/
def execOptrefLoss (port : Fin 2) (present : Bool) (s : State) : Answer := onAny (devOptrefLoss port present) s

/-- XT_32K_LOSS (20 R565): XT_32K shows no edge for 1 ms; an error log entry is made, sleep commands are refused and a sleeping station wakes. -/
def execXt32kLoss (s : State) : Answer := onAny devXt32kLoss s

/-- SIGNAL_DETECT_WAKE (03 R89): Signal detect on a ring lane wakes a sleeping station, which relights its lasers and passes through TRAIN and FORMING. -/
def execSignalDetectWake (port : Fin 2) (lane : Fin 17) (s : State) : Answer := onDev (devSignalDetectWake port lane) s

/-- SLEEP_TICK (15 R438): In SLEEP, each XT_32K cycle advances device time and accrues the events of each timer, performing outward actions once. -/
def execSleepTick (pins : Fin 16) (s : State) : Answer := onDev (devSleepTick pins) s

/-- WAKE_RELOCK (15 R439): On wake, at the first tick of relocked TIME_500, device time rounds down, timers return to their sources and TIMER_31 is realigned. -/
def execWakeRelock (s : State) : Answer := onDev devWakeRelock s

end Sys2Proof.Machine
end

