-- ==== Sys2Proof/Machine/CmdPattern.lean ====
section
/-! DEFINITION. The meanings of the commands of stream patterns: one for each row, over the operations of its block. -/

namespace Sys2Proof.Machine

/-- SETA (08 R215): SETA sets an address register from a source plus an immediate. -/
def execSeta (site : Fin 288) (engine : Fin 3) (ctx : Fin 8) (s : State) : Answer := onAwake (devSeta site engine ctx) s

/-- SETS (08 R215): SETS sets a stride register from a source plus an immediate. -/
def execSets (site : Fin 288) (engine : Fin 3) (ctx : Fin 8) (s : State) : Answer := onAwake (devSets site engine ctx) s

/-- SETC (08 R216): SETC sets a loop count register, aborting if out of range. -/
def execSetc (site : Fin 288) (engine : Fin 3) (ctx : Fin 8) (s : State) : Answer := onAwake (devSetc site engine ctx) s

/-- MOVA (08 R215): MOVA copies an address register plus an immediate into another. -/
def execMova (site : Fin 288) (engine : Fin 3) (ctx : Fin 8) (s : State) : Answer := onAwake (devMova site engine ctx) s

/-- ADDA (08 R215): ADDA adds a stride register to an address register. -/
def execAdda (site : Fin 288) (engine : Fin 3) (ctx : Fin 8) (s : State) : Answer := onAwake (devAdda site engine ctx) s

/-- LOOP (08 R217): LOOP opens a loop over the next LEN instructions with the count of its counter, or skips the body at 0. -/
def execLoop (site : Fin 288) (engine : Fin 3) (ctx : Fin 8) (s : State) : Answer := onAwake (devLoop site engine ctx) s

/-- WORD (08 R219): WORD emits one address at the current slot position, optionally incrementing and stepping the slot. -/
def execWord (site : Fin 288) (engine : Fin 3) (ctx : Fin 8) (s : State) : Answer := onAwake (devWord site engine ctx) s

/-- RUN (08 R215): RUN emits N strided addresses and optionally steps the slot. -/
def execRun (site : Fin 288) (engine : Fin 3) (ctx : Fin 8) (s : State) : Answer := onAwake (devRun site engine ctx) s

/-- STEP (08 R220): STEP completes the current slot. -/
def execStep (site : Fin 288) (engine : Fin 3) (ctx : Fin 8) (s : State) : Answer := onAwake (devStep site engine ctx) s

/-- PAD (08 R219): PAD advances the slot position by N without moving data. -/
def execPad (site : Fin 288) (engine : Fin 3) (ctx : Fin 8) (s : State) : Answer := onAwake (devPad site engine ctx) s

/-- PATTERN_END (08 R221): A pattern's END completes it once its writes are acknowledged and frees its context. -/
def execPatternEnd (site : Fin 288) (engine : Fin 3) (ctx : Fin 8) (s : State) : Answer := onAwake (devPatternEndTwin site engine ctx) s

/-- SLOT_STEP_COMPLETE (08 R220): A slot step takes effect once the slot's words are written or read, setting the tag and advancing tail or head. -/
def execSlotStepComplete (site : Fin 288) (engine : Fin 3) (ctx : Fin 8) (s : State) : Answer := onAwake (devSlotStepComplete site engine ctx) s

end Sys2Proof.Machine
end

