-- ==== Sys2Proof/Machine/CmdRing.lean ====
section
/-! DEFINITION. The meanings of the commands of the ring, its barriers and its schedule: one for each row, over the operations of its block. -/

namespace Sys2Proof.Machine

/-- FORM_BARRIER_START (10 R272): Station 0 with both ports closed starts a FORM barrier every 10 ms until one commits. -/
def execFormBarrierStart (s : State) : Answer := onDev devFormBarrierStart s

/-- BARRIER_FORM (10 R272): A committed FORM barrier puts every station in READY. -/
def execBarrierForm (s : State) : Answer := onDev devBarrierForm s

/-- BARRIER_ACTIVATE (10 R297): A committed ACTIVATE makes a staged image active at L_EFF or the next pinned lap start. -/
def execBarrierActivate (s : State) : Answer := onDev devBarrierActivate s

/-- BARRIER_ROLLBACK (10 R298): A committed ROLLBACK reactivates the previous image. -/
def execBarrierRollback (s : State) : Answer := onDev devBarrierRollback s

/-- BARRIER_REMOVE (10 R298): A committed REMOVE stops the model at its effect point and gives waiting requests REMOVED fallbacks. -/
def execBarrierRemove (s : State) : Answer := onDev devBarrierRemove s

/-- BARRIER_JOIN (10 R293): A committed JOIN puts joined stations with no active model in READY. -/
def execBarrierJoin (s : State) : Answer := onDev devBarrierJoin s

/-- BARRIER_REFORM (10 R303): A committed REFORM returns the ring to the closed schedule at L_EFF. -/
def execBarrierReform (s : State) : Answer := onDev devBarrierReform s

/-- BARRIER_TWIN_SYNC (16 R460): A committed TWIN_SYNC starts twin comparison for the model on stations A and B. -/
def execBarrierTwinSync (s : State) : Answer := onDev devBarrierTwinSync s

/-- BARRIER_SLEEP (03 R88): A committed SLEEP barrier puts every station in SLEEP at its release. -/
def execBarrierSleep (s : State) : Answer := onDev devBarrierSleep s

/-- BARRIER_TIMEOUT (10 R294): The collecting lap does not return within BARRIER_TO and the leader releases ABORT. -/
def execBarrierTimeout (s : State) : Answer := onDev devBarrierTimeout s

/-- BARRIER_DISCARD (10 R294): A station that voted and got no release discards the barrier after 2 × BARRIER_TO. -/
def execBarrierDiscard (s : State) : Answer := onDev devBarrierDiscard s

/-- REISSUE (10 R286): The origin receives REISSUE, checks its stored copy and rewrites it from the golden copy if bad. -/
def execReissue (s : State) : Answer := onDev devReissue s

/-- MIRROR_REQ (10 R287): The downstream station receives MIRROR_REQ and sends the hank from its mirror as a repair hank. -/
def execMirrorReq (s : State) : Answer := onDev devMirrorReq s

/-- FOLD_NOTICE (10 R300): A received FOLD_NOTICE aborts barriers and lets end stations count missing stations and fold, adopt or split. -/
def execFoldNotice (s : State) : Answer := onDev devFoldNotice s

/-- BARRIER_REQ (10 R292): The leader receives BARRIER_REQ and queues the requested barrier. -/
def execBarrierReq (s : State) : Answer := onDev devBarrierReq s

/-- FOLD_NOTICE_TIMEOUT (10 R300): No second FOLD_NOTICE within 2 × BARRIER_TO makes the station report SPLIT. -/
def execFoldNoticeTimeout (s : State) : Answer := onDev devFoldNoticeTimeout s

/-- LAP_LAUNCH (10 R278): An origin launches its block of a direction once the preceding block has passed, or starts the next lap. -/
def execLapLaunch (pinned : Bool) (west : Bool) (count : Nat) (s : State) : Answer := onDev (devLapLaunch pinned west count) s

/-- ACTIVATE_REQUEST_TIMER (10 R296): A station with a staged image sends BARRIER_REQ for ACTIVATE every 10 ms until committed. -/
def execActivateRequestTimer (s : State) : Answer := onDev devActivateRequestTimer s

/-- AUTO_REFORM (10 R303): A DOWN port with signal on 4 lanes for 1 s retrains automatically when AUTO_REFORM is set. -/
def execAutoReform (port : Fin 2) (s : State) : Answer := onDev (devAutoReform port) s

/-- REFORM_TIMER (10 R303): The leader runs REFORM every 100 ms while a joined link exists until one commits. -/
def execReformTimer (s : State) : Answer := onDev devReformTimer s

/-- MODEL_CLEANUP (10 R298): When a removed model's last task ends, its regions are cleared, contexts freed and HBM copies discarded. -/
def execModelCleanup (model : Fin 16) (s : State) : Answer := onDev (devModelCleanup model) s

end Sys2Proof.Machine
end

