-- ==== Sys2Proof/Machine/CmdRvp.lean ====
section
/-! DEFINITION. The meanings of the commands of the Rank-Verdict Protocol: one for each row, over the operations of its block. -/

namespace Sys2Proof.Machine

/-- SESSION_OPEN (13 R358): A partner SESSION_OPEN is decided and a session opened, replayed or refused. -/
def execSessionOpen (s : State) : Answer := onDev devSessionOpen s

/-- SESSION_CLOSE (13 R360): A partner SESSION_CLOSE makes the session DRAINING, or FREE with ABANDON semantics. -/
def execSessionClose (s : State) : Answer := onDev devSessionClose s

/-- CREDIT (13 R366): A partner CREDIT is answered with a CREDIT carrying CREDIT_LIMIT and USED. -/
def execCredit (s : State) : Answer := onDev devCredit s

/-- REQUEST (13 R369): A REQUEST is checked and accepted with credits charged, or refused with an ERROR. -/
def execRequest (s : State) : Answer := onDev devRequest s

/-- REQUEST_CONT (13 R370): A REQUEST_CONT is added to reassembly, dropped or refused, completing the request when all frames are in. -/
def execRequestCont (s : State) : Answer := onDev devRequestCont s

/-- RVP_FRAME_RECEIVE (13 R354): A received RVP frame is checked in order for version, station state and session before its body. -/
def execRvpFrameReceive (s : State) : Answer := onDev devRvpFrameReceive s

/-- SESSION_IDLE_TIMEOUT (13 R361): A session with no frame for IDLE_TO is closed with reason IDLE. -/
def execSessionIdleTimeout (session : Nat) (s : State) : Answer := onDev (devSessionIdleTimeout session) s

/-- REASM_TIMEOUT (13 R370): A request not complete within REASM_TO is discarded and answered with ERROR INCOMPLETE. -/
def execReasmTimeout (handle : Nat) (s : State) : Answer := onDev (devReasmTimeout handle) s

/-- CREDIT_UPDATE_TIMER (13 R366): The U7 sends a CREDIT when CREDIT_LIMIT has risen and no VERDICT carried it for 50 µs. -/
def execCreditUpdateTimer (session : Nat) (s : State) : Answer := onDev (devCreditUpdateTimer session) s

/-- CONDITIONING_START (13 R373): A complete request takes a free input slot and is conditioned into tensors. -/
def execConditioningStart (model : Fin 16) (s : State) : Answer := onDev (devConditioningStart model) s

/-- CHUNK (13 R385): A MODEL_LOAD CHUNK is accepted at NEXT, or dropped and answered, starting a load at offset 0. -/
def execChunk (s : State) : Answer := onDev devChunk s

/-- ABORT (13 R387): MODEL_LOAD ABORT ends the session's load of the id or removes its staged image. -/
def execAbort (s : State) : Answer := onDev devAbort s

/-- REMOVE (13 R387): MODEL_LOAD REMOVE requests a REMOVE barrier for an active model. -/
def execRemove (s : State) : Answer := onDev devRemove s

/-- ROLLBACK (13 R387): MODEL_LOAD ROLLBACK requests a ROLLBACK barrier when a previous image is kept. -/
def execRollback (s : State) : Answer := onDev devRollback s

/-- QUERY (13 R387): MODEL_LOAD QUERY reports the load in progress or the model's status. -/
def execQuery (s : State) : Answer := onDev devQuery s

/-- LOAD_VERIFY (13 R386): A received image is verified for signature, structure, generation, capacity and budget. -/
def execLoadVerify (block : Fin 2) (s : State) : Answer := onDev (devLoadVerify block) s

/-- LOAD_STORE_COMPLETE (18 R527): The image copies are stored and read back and the image is installed and STAGED. -/
def execLoadStoreComplete (block : Fin 2) (s : State) : Answer := onDev (devLoadStoreComplete block) s

/-- RELEASE_BEAT (15 R437): At a beat each egress engine releases every held verdict whose release instant has come. -/
def execReleaseBeat (s : State) : Answer := onDev devReleaseBeat s

end Sys2Proof.Machine
end

