-- ==== Sys2Proof/Machine/CmdTime.lean ====
section
/-! DEFINITION. The meanings of the commands of timers and the time base: one for each row, over the operations of its block. -/

namespace Sys2Proof.Machine

/-- TIMER_COMPARE_MATCH (15 R428): A count event leaves a timer equal to a compare and that compare's actions take effect. -/
def execTimerCompareMatch (timer : Fin 32) (cmp : Fin 4) (s : State) : Answer := onDev (devTimerCompareMatch timer cmp) s

/-- TIMER_OVERFLOW (15 R427): A timer wraps from its maximum to 0 and its overflow actions take effect. -/
def execTimerOverflow (timer : Fin 32) (s : State) : Answer := onDev (devTimerOverflow timer) s

/-- TIMER_CAPTURE (15 R431): A capture trigger stores the timer count and sets CAP_EVT. -/
def execTimerCapture (timer : Fin 32) (capture : Fin 2) (s : State) : Answer := onDev (devTimerCapture timer capture) s

/-- GLOBAL_START (15 R432): At the armed tick the named timers become RUNNING, optionally loading 0. -/
def execGlobalStart (s : State) : Answer := onDev devGlobalStart s

/-- PULSE_WIDTH_EXPIRY (15 R434): A TIMOUT pulse's WIDTH ticks elapse and the pin deasserts. -/
def execPulseWidthExpiry (pin : Fin 4) (s : State) : Answer := onDev (devPulseWidthExpiry pin) s

/-- PPS_EDGE (15 R419): A PPS_IN edge is captured and judges PPS_IN validity. -/
def execPpsEdge (s : State) : Answer := onDev devPpsEdge s

/-- REFERENCE_LOSS (15 R420): The current time reference becomes invalid and the time base holds over and qualifies a candidate. -/
def execReferenceLoss (s : State) : Answer := onDev devReferenceLoss s

/-- REFERENCE_COMMIT (15 R420): At the end of QUAL_WIN the best valid reference becomes current. -/
def execReferenceCommit (off : Int) (s : State) : Answer := onDev (devReferenceCommit off) s

/-- REFERENCE_CANCEL (15 R421): The lost reference returns before the commit and the switch is cancelled. -/
def execReferenceCancel (off : Int) (s : State) : Answer := onDev (devReferenceCancel off) s

/-- REQUAL_COMMIT (15 R422): A better reference valid for REQUAL without interruption becomes current. -/
def execRequalCommit (off : Int) (s : State) : Answer := onDev (devRequalCommit off) s

/-- SLEW_LOCKED (15 R423): The offset falls below 20 ns and the time base reports LOCKED. -/
def execSlewLocked (off : Fin 39) (s : State) : Answer := onDev (devSlewLocked off) s

/-- PTP_SYNC_LOSS (15 R419): LOSS_SYNC Sync intervals pass without a sample and the PTP reference becomes invalid. -/
def execPtpSyncLoss (port : Fin 2) (s : State) : Answer := onDev (devPtpSyncLoss port) s

/-- PPS_TIMEOUT (15 R419): No PPS_IN edge arrives within 1 s plus PPS_TOL and PPS_IN becomes invalid. -/
def execPpsTimeout (s : State) : Answer := onDev devPpsTimeout s

end Sys2Proof.Machine
end

