-- ==== Sys2Proof/Machine/CmdWarden.lean ====
section
/-! DEFINITION. The meanings of the commands of determinism checks and the warden: one for each row, over the operations of its block. -/

namespace Sys2Proof.Machine

/-- TWIN_WAIT_EXPIRY (16 R462): A twin entry unmatched after TWIN_WAIT is dropped as UNMATCHED. -/
def execTwinWaitExpiry (s : State) : Answer := onDev devTwinWaitExpiry s

/-- DISAGREE (17 R474): The data path raises DISAGREE for a core or seam and its gate declares it SUSPECT. -/
def execDisagree (report : GateReport) (s : State) : Answer := onDev (devDisagree report.gate report.who report.cured) s

/-- GATE_WATCHDOG (17 R474): A handshake at a unit's gate is unanswered for GATE_WD and raises DISAGREE. -/
def execGateWatchdog (wait : GateWait) (s : State) : Answer := onDev (devGateWatchdog wait.gate wait.who) s

/-- WARDEN_DECISION (17 R476): Within 1 ms the warden probes a SUSPECT unit and returns it to LIVE or reclaims and fences it. -/
def execWardenDecision (gate : GateUnit) (pass : Bool) (s : State) : Answer := onDev (devWardenDecision gate pass) s

/-- HEARTBEAT (17 R483): The active warden sends a heartbeat to the standby every 100 µs. -/
def execHeartbeat (received : Bool) (s : State) : Answer := onDev (devHeartbeat received) s

/-- TAKEOVER (17 R483): The standby warden takes over after three missed heartbeats, a fault report or a failed ROM check. -/
def execTakeover (why : Fin 3) (s : State) : Answer := onDev (devTakeover why) s

/-- STANDBY_ACK_TIMEOUT (17 R482): The standby does not acknowledge a mirror write within 100 µs and is declared LOST. -/
def execStandbyAckTimeout (s : State) : Answer := onDev devStandbyAckTimeout s

end Sys2Proof.Machine
end

