-- ==== Sys2Proof/Machine/CmdXmem.lean ====
section
/-! DEFINITION. The meanings of the commands of the memory controllers: one for each row, over the operations of its block. -/

namespace Sys2Proof.Machine

/-- CHANNEL_UNIT_START (11 R318): A memory channel chooses a requester class by weighted credit and starts a 64-byte unit. -/
def execChannelUnitStart (ctrl : Fin 12) (chan : Fin 32) (ready : List (Fin 8)) (start : UnitStart) (s : State) : Answer := onAwake (devChannelUnitStart ctrl chan ready start.final start.reorders) s

/-- CHANNEL_ERROR (11 R322): A channel error is retried, corrected or reported, and may make the channel FAILING. -/
def execChannelError (ctrl : Fin 12) (chan : Fin 32) (addr : Fin (2 ^ 40)) (report : ChanReport) (s : State) : Answer := onAwake (devChannelError ctrl chan addr report.err report.covered) s

/-- CHANNEL_MAP_OUT (11 R324): Within 1 ms of FAILING, the warden maps the channel out, making its granules holes and its content damaged. -/
def execChannelMapOut (ctrl : Fin 12) (chan : Fin 32) (s : State) : Answer := onDev (devChannelMapOut ctrl chan) s

/-- REBUILD_COMPLETE (11 R326): A rebuild of a damaged image copy completes and REBUILD_EVT is set. -/
def execRebuildComplete (model : Fin 16) (gen : BitVec 32) (kind : Fin 8) (s : State) : Answer := onAwake (devRebuildComplete model gen kind) s

/-- REFRESH (11 R320): A scheduled per-bank refresh runs, doubling in rate above 85 °C. -/
def execRefresh (ctrl : Fin 12) (chan : Fin 32) (temp : BitVec 8) (waiting : Nat) (s : State) : Answer := onAwake (devRefresh ctrl chan temp waiting) s

/-- TG_START (11 R328): START begins a traffic generator run of write, check or write then check. -/
def execTgStart (ctrl : Fin 12) (chan : Fin 32) (s : State) : Answer := onDev (byWrite (devTgStart ctrl chan)) s

/-- TG_STOP (11 R328): STOP ends a traffic generator run after the current block. -/
def execTgStop (ctrl : Fin 12) (chan : Fin 32) (done : Nat) (s : State) : Answer := onDev (byWrite (devTgStop ctrl chan done)) s

/-- TG_RUN_COMPLETE (11 R327): A traffic generator run covers its blocks and is done. -/
def execTgRunComplete (ctrl : Fin 12) (chan : Fin 32) (s : State) : Answer := onAwake (devTgRunComplete ctrl chan) s

end Sys2Proof.Machine
end

