-- ==== Sys2Proof/Machine/Dispatch.lean ====
section
/-! DEFINITION. One arm for each command, each a call of its meaning. -/

namespace Sys2Proof.Machine

/-- What a command does to everything but the queue. -/
def exec (i : Instr) (s : State) : Host.Outcome State Fault Refusal :=
  match i with
  | .por vaon => Sys2Proof.Machine.execPor vaon s
  | .pinReset lowNs => Sys2Proof.Machine.execPinReset lowNs s
  | .tapReset => Sys2Proof.Machine.execTapReset s
  | .pwrgdFall => Sys2Proof.Machine.execPwrgdFall s
  | .resetRelease straps => Sys2Proof.Machine.execResetRelease straps s
  | .bootPhaseComplete outcome => Sys2Proof.Machine.execBootPhaseComplete outcome s
  | .formingRetrain => Sys2Proof.Machine.execFormingRetrain s
  | .speedMonitorUpdate die rates => Sys2Proof.Machine.execSpeedMonitorUpdate die rates s
  | .throttleEvaluation readings => Sys2Proof.Machine.execThrottleEvaluation readings s
  | .avsCompletion die => Sys2Proof.Machine.execAvsCompletion die s
  | .avsTimeout die => Sys2Proof.Machine.execAvsTimeout die s
  | .thermalFence die => Sys2Proof.Machine.execThermalFence die s
  | .thermtrip die => Sys2Proof.Machine.execThermtrip die s
  | .brownOut die => Sys2Proof.Machine.execBrownOut die s
  | .sysrefLoss => Sys2Proof.Machine.execSysrefLoss s
  | .serrefLoss port present => Sys2Proof.Machine.execSerrefLoss port present s
  | .optrefLoss port present => Sys2Proof.Machine.execOptrefLoss port present s
  | .xt32kLoss => Sys2Proof.Machine.execXt32kLoss s
  | .signalDetectWake port lane => Sys2Proof.Machine.execSignalDetectWake port lane s
  | .sleepTick pins => Sys2Proof.Machine.execSleepTick pins s
  | .wakeRelock => Sys2Proof.Machine.execWakeRelock s
  | .taskDispatch model => Sys2Proof.Machine.execTaskDispatch model s
  | .endTask site => Sys2Proof.Machine.execEnd site s
  | .taskEndComplete site slot => Sys2Proof.Machine.execTaskEndComplete site slot s
  | .mma site => Sys2Proof.Machine.execMma site s
  | .vop site => Sys2Proof.Machine.execVop site s
  | .hankwait site => Sys2Proof.Machine.execHankwait site s
  | .hankwaitStart site slot => Sys2Proof.Machine.execHankwaitStart site slot s
  | .depmark site => Sys2Proof.Machine.execDepmark site s
  | .lbar site => Sys2Proof.Machine.execLbar site s
  | .dma site => Sys2Proof.Machine.execDma site s
  | .pat site => Sys2Proof.Machine.execPat site s
  | .patternStart site slot => Sys2Proof.Machine.execPatternStart site slot s
  | .setFull site => Sys2Proof.Machine.execSetFull site s
  | .setEmpty site => Sys2Proof.Machine.execSetEmpty site s
  | .waitFull site => Sys2Proof.Machine.execWaitFull site s
  | .waitEmpty site => Sys2Proof.Machine.execWaitEmpty site s
  | .tagopReset site => Sys2Proof.Machine.execTagopReset site s
  | .ctxload site => Sys2Proof.Machine.execCtxload site s
  | .ctxstore site => Sys2Proof.Machine.execCtxstore site s
  | .emit site => Sys2Proof.Machine.execEmit site s
  | .yield site => Sys2Proof.Machine.execYield site s
  | .unitCommandComplete site unit => Sys2Proof.Machine.execUnitCommandComplete site unit s
  | .taskAbort site slot => Sys2Proof.Machine.execTaskAbort site slot s
  | .deadlineExpiry handle => Sys2Proof.Machine.execDeadlineExpiry handle s
  | .bankCycle site bank fresh word upset => Sys2Proof.Machine.execBankCycle site bank fresh word upset s
  | .scrubRead site => Sys2Proof.Machine.execScrubRead site s
  | .remoteTimeout site unit ctx target => Sys2Proof.Machine.execRemoteTimeout site unit ctx target s
  | .spareRefillComplete site good => Sys2Proof.Machine.execSpareRefillComplete site good s
  | .spareTest site pass => Sys2Proof.Machine.execSpareTest site pass s
  | .skeinTimeout site waiter => Sys2Proof.Machine.execSkeinTimeout site waiter s
  | .hankDelivery site => Sys2Proof.Machine.execHankDelivery site s
  | .seta site engine ctx => Sys2Proof.Machine.execSeta site engine ctx s
  | .sets site engine ctx => Sys2Proof.Machine.execSets site engine ctx s
  | .setc site engine ctx => Sys2Proof.Machine.execSetc site engine ctx s
  | .mova site engine ctx => Sys2Proof.Machine.execMova site engine ctx s
  | .adda site engine ctx => Sys2Proof.Machine.execAdda site engine ctx s
  | .loop site engine ctx => Sys2Proof.Machine.execLoop site engine ctx s
  | .word site engine ctx => Sys2Proof.Machine.execWord site engine ctx s
  | .run site engine ctx => Sys2Proof.Machine.execRun site engine ctx s
  | .step site engine ctx => Sys2Proof.Machine.execStep site engine ctx s
  | .pad site engine ctx => Sys2Proof.Machine.execPad site engine ctx s
  | .patternEnd site engine ctx => Sys2Proof.Machine.execPatternEnd site engine ctx s
  | .slotStepComplete site engine ctx => Sys2Proof.Machine.execSlotStepComplete site engine ctx s
  | .dmaDescriptorStart site => Sys2Proof.Machine.execDmaDescriptorStart site s
  | .dmaDescriptorComplete site => Sys2Proof.Machine.execDmaDescriptorComplete site s
  | .externalToScratchpad site => Sys2Proof.Machine.execExternalToScratchpad site s
  | .scratchpadToExternal site => Sys2Proof.Machine.execScratchpadToExternal site s
  | .scratchpadToScratchpad site => Sys2Proof.Machine.execScratchpadToScratchpad site s
  | .externalToSkein site => Sys2Proof.Machine.execExternalToSkein site s
  | .skeinToExternal site => Sys2Proof.Machine.execSkeinToExternal site s
  | .scratchpadToSkein site => Sys2Proof.Machine.execScratchpadToSkein site s
  | .skeinToScratchpad site => Sys2Proof.Machine.execSkeinToScratchpad site s
  | .codewordLock port lane => Sys2Proof.Machine.execCodewordLock port lane s
  | .lossOfLock port lane signal => Sys2Proof.Machine.execLossOfLock port lane signal s
  | .laneDegradeCheck port corr uncorr => Sys2Proof.Machine.execLaneDegradeCheck port corr uncorr s
  | .trainingStart port => Sys2Proof.Machine.execTrainingStart port s
  | .tsTrainStart port => Sys2Proof.Machine.execTsTrainStart port s
  | .tsTrain port lane ts skew => Sys2Proof.Machine.execTsTrain port lane ts skew s
  | .tsStart port lane ts skew => Sys2Proof.Machine.execTsStart port lane ts skew s
  | .rxLocked port => Sys2Proof.Machine.execRxLocked port s
  | .trainingTimeout port => Sys2Proof.Machine.execTrainingTimeout port s
  | .flitTransmit port => Sys2Proof.Machine.execFlitTransmit port s
  | .flitReceive port flit => Sys2Proof.Machine.execFlitReceive port flit s
  | .idle port => Sys2Proof.Machine.execIdle port s
  | .nak port => Sys2Proof.Machine.execNak port s
  | .widthReq port => Sys2Proof.Machine.execWidthReq port s
  | .width port => Sys2Proof.Machine.execWidth port s
  | .down port => Sys2Proof.Machine.execDown port s
  | .hank port overflow => Sys2Proof.Machine.execHank port overflow s
  | .barrier port => Sys2Proof.Machine.execBarrier port s
  | .ringMsg port => Sys2Proof.Machine.execRingMsg port s
  | .twin port => Sys2Proof.Machine.execTwin port s
  | .ident port => Sys2Proof.Machine.execIdent port s
  | .nakRepeat port => Sys2Proof.Machine.execNakRepeat port s
  | .replayTimeout port => Sys2Proof.Machine.execReplayTimeout port s
  | .widthReqRepeat port => Sys2Proof.Machine.execWidthReqRepeat port s
  | .spareQualified port pass => Sys2Proof.Machine.execSpareQualified port pass s
  | .signalLoss port => Sys2Proof.Machine.execSignalLoss port s
  | .identTimer port => Sys2Proof.Machine.execIdentTimer port s
  | .formBarrierStart => Sys2Proof.Machine.execFormBarrierStart s
  | .barrierForm => Sys2Proof.Machine.execBarrierForm s
  | .barrierActivate => Sys2Proof.Machine.execBarrierActivate s
  | .barrierRollback => Sys2Proof.Machine.execBarrierRollback s
  | .barrierRemove => Sys2Proof.Machine.execBarrierRemove s
  | .barrierJoin => Sys2Proof.Machine.execBarrierJoin s
  | .barrierReform => Sys2Proof.Machine.execBarrierReform s
  | .barrierTwinSync => Sys2Proof.Machine.execBarrierTwinSync s
  | .barrierSleep => Sys2Proof.Machine.execBarrierSleep s
  | .barrierTimeout => Sys2Proof.Machine.execBarrierTimeout s
  | .barrierDiscard => Sys2Proof.Machine.execBarrierDiscard s
  | .reissue => Sys2Proof.Machine.execReissue s
  | .mirrorReq => Sys2Proof.Machine.execMirrorReq s
  | .foldNotice => Sys2Proof.Machine.execFoldNotice s
  | .barrierReq => Sys2Proof.Machine.execBarrierReq s
  | .foldNoticeTimeout => Sys2Proof.Machine.execFoldNoticeTimeout s
  | .lapLaunch pinned west count => Sys2Proof.Machine.execLapLaunch pinned west count s
  | .activateRequestTimer => Sys2Proof.Machine.execActivateRequestTimer s
  | .autoReform port => Sys2Proof.Machine.execAutoReform port s
  | .reformTimer => Sys2Proof.Machine.execReformTimer s
  | .modelCleanup model => Sys2Proof.Machine.execModelCleanup model s
  | .channelUnitStart ctrl chan ready start => Sys2Proof.Machine.execChannelUnitStart ctrl chan ready start s
  | .channelError ctrl chan addr report => Sys2Proof.Machine.execChannelError ctrl chan addr report s
  | .channelMapOut ctrl chan => Sys2Proof.Machine.execChannelMapOut ctrl chan s
  | .rebuildComplete model gen kind => Sys2Proof.Machine.execRebuildComplete model gen kind s
  | .refresh ctrl chan temp waiting => Sys2Proof.Machine.execRefresh ctrl chan temp waiting s
  | .tgStart ctrl chan => Sys2Proof.Machine.execTgStart ctrl chan s
  | .tgStop ctrl chan done => Sys2Proof.Machine.execTgStop ctrl chan done s
  | .tgRunComplete ctrl chan => Sys2Proof.Machine.execTgRunComplete ctrl chan s
  | .linkRetry port sub locks => Sys2Proof.Machine.execLinkRetry port sub locks s
  | .autonegComplete port sub partner trained => Sys2Proof.Machine.execAutonegComplete port sub partner trained s
  | .frameReceive port sub frame => Sys2Proof.Machine.execFrameReceive port sub frame s
  | .pfcRepeat port sub => Sys2Proof.Machine.execPfcRepeat port sub s
  | .pfcPauseExpiry port sub prio => Sys2Proof.Machine.execPfcPauseExpiry port sub prio s
  | .arpRequest port sub => Sys2Proof.Machine.execArpRequest port sub s
  | .neighborSolicitation port sub => Sys2Proof.Machine.execNeighborSolicitation port sub s
  | .announce port => Sys2Proof.Machine.execAnnounce port s
  | .sync port => Sys2Proof.Machine.execSync port s
  | .followUp port => Sys2Proof.Machine.execFollowUp port s
  | .delayResp port => Sys2Proof.Machine.execDelayResp port s
  | .delayReq port => Sys2Proof.Machine.execDelayReq port s
  | .txSaWaitExpiry port sub => Sys2Proof.Machine.execTxSaWaitExpiry port sub s
  | .sessionOpen => Sys2Proof.Machine.execSessionOpen s
  | .sessionClose => Sys2Proof.Machine.execSessionClose s
  | .credit => Sys2Proof.Machine.execCredit s
  | .request => Sys2Proof.Machine.execRequest s
  | .requestCont => Sys2Proof.Machine.execRequestCont s
  | .rvpFrameReceive => Sys2Proof.Machine.execRvpFrameReceive s
  | .sessionIdleTimeout session => Sys2Proof.Machine.execSessionIdleTimeout session s
  | .reasmTimeout handle => Sys2Proof.Machine.execReasmTimeout handle s
  | .creditUpdateTimer session => Sys2Proof.Machine.execCreditUpdateTimer session s
  | .conditioningStart model => Sys2Proof.Machine.execConditioningStart model s
  | .chunk => Sys2Proof.Machine.execChunk s
  | .abort => Sys2Proof.Machine.execAbort s
  | .remove => Sys2Proof.Machine.execRemove s
  | .rollback => Sys2Proof.Machine.execRollback s
  | .query => Sys2Proof.Machine.execQuery s
  | .loadVerify block => Sys2Proof.Machine.execLoadVerify block s
  | .loadStoreComplete block => Sys2Proof.Machine.execLoadStoreComplete block s
  | .releaseBeat => Sys2Proof.Machine.execReleaseBeat s
  | .claimGrant entry => Sys2Proof.Machine.execClaimGrant entry s
  | .leaving core => Sys2Proof.Machine.execLeaving core s
  | .notice core => Sys2Proof.Machine.execNotice core s
  | .snoop core => Sys2Proof.Machine.execSnoop core s
  | .retry core => Sys2Proof.Machine.execRetry core s
  | .drop core => Sys2Proof.Machine.execDrop core s
  | .evictionWritebackComplete core entry => Sys2Proof.Machine.execEvictionWritebackComplete core entry s
  | .flowExpiry entry => Sys2Proof.Machine.execFlowExpiry entry s
  | .timerCompareMatch timer cmp => Sys2Proof.Machine.execTimerCompareMatch timer cmp s
  | .timerOverflow timer => Sys2Proof.Machine.execTimerOverflow timer s
  | .timerCapture timer capture => Sys2Proof.Machine.execTimerCapture timer capture s
  | .globalStart => Sys2Proof.Machine.execGlobalStart s
  | .pulseWidthExpiry pin => Sys2Proof.Machine.execPulseWidthExpiry pin s
  | .ppsEdge => Sys2Proof.Machine.execPpsEdge s
  | .referenceLoss => Sys2Proof.Machine.execReferenceLoss s
  | .referenceCommit off => Sys2Proof.Machine.execReferenceCommit off s
  | .referenceCancel off => Sys2Proof.Machine.execReferenceCancel off s
  | .requalCommit off => Sys2Proof.Machine.execRequalCommit off s
  | .slewLocked off => Sys2Proof.Machine.execSlewLocked off s
  | .ptpSyncLoss port => Sys2Proof.Machine.execPtpSyncLoss port s
  | .ppsTimeout => Sys2Proof.Machine.execPpsTimeout s
  | .twinWaitExpiry => Sys2Proof.Machine.execTwinWaitExpiry s
  | .disagree report => Sys2Proof.Machine.execDisagree report s
  | .gateWatchdog wait => Sys2Proof.Machine.execGateWatchdog wait s
  | .wardenDecision gate pass => Sys2Proof.Machine.execWardenDecision gate pass s
  | .heartbeat received => Sys2Proof.Machine.execHeartbeat received s
  | .takeover why => Sys2Proof.Machine.execTakeover why s
  | .standbyAckTimeout => Sys2Proof.Machine.execStandbyAckTimeout s
  | .setEndpointId => Sys2Proof.Machine.execSetEndpointId s
  | .getEndpointId => Sys2Proof.Machine.execGetEndpointId s
  | .getEndpointUuid => Sys2Proof.Machine.execGetEndpointUuid s
  | .getMctpVersionSupport => Sys2Proof.Machine.execGetMctpVersionSupport s
  | .getMessageTypeSupport => Sys2Proof.Machine.execGetMessageTypeSupport s
  | .getVendorDefinedMessageSupport => Sys2Proof.Machine.execGetVendorDefinedMessageSupport s
  | .vendorMessage => Sys2Proof.Machine.execVendorMessage s
  | .read => Sys2Proof.Machine.execRead s
  | .write => Sys2Proof.Machine.execWrite s
  | .registerWrite addr val => Sys2Proof.Machine.execRegisterWrite addr val s
  | .counterLoRead addr => Sys2Proof.Machine.execCounterLoRead addr s
  | .fence => Sys2Proof.Machine.execFence s
  | .stateGet => Sys2Proof.Machine.execStateGet s
  | .telemetry => Sys2Proof.Machine.execTelemetry s
  | .getAlerts => Sys2Proof.Machine.execGetAlerts s
  | .logRead => Sys2Proof.Machine.execLogRead s
  | .sleep => Sys2Proof.Machine.execSleep s
  | .wake => Sys2Proof.Machine.execWake s
  | .reset => Sys2Proof.Machine.execReset s
  | .saInstall => Sys2Proof.Machine.execSaInstall s
  | .saDelete => Sys2Proof.Machine.execSaDelete s
  | .zeroise => Sys2Proof.Machine.execZeroise s
  | .keySlotProgram => Sys2Proof.Machine.execKeySlotProgram s
  | .keySlotRevoke => Sys2Proof.Machine.execKeySlotRevoke s
  | .kwkSet => Sys2Proof.Machine.execKwkSet s
  | .minSvn => Sys2Proof.Machine.execMinSvn s
  | .debugUnlock => Sys2Proof.Machine.execDebugUnlock s
  | .flashErase => Sys2Proof.Machine.execFlashErase s
  | .flashWrite => Sys2Proof.Machine.execFlashWrite s
  | .alertResponse wins => Sys2Proof.Machine.execAlertResponse wins s
  | .idcode => Sys2Proof.Machine.execIdcode s
  | .samplePreload vals => Sys2Proof.Machine.execSamplePreload vals s
  | .extest => Sys2Proof.Machine.execExtest s
  | .clamp => Sys2Proof.Machine.execClamp s
  | .highz => Sys2Proof.Machine.execHighz s
  | .bypass => Sys2Proof.Machine.execBypass s
  | .debugHalt mask => Sys2Proof.Machine.execDebugHalt mask s
  | .debugResume mask => Sys2Proof.Machine.execDebugResume mask s
  | .memAccessRead addr => Sys2Proof.Machine.execMemAccessRead addr s
  | .memAccessWrite addr val => Sys2Proof.Machine.execMemAccessWrite addr val s
  | .clrAbort site => Sys2Proof.Machine.execClrAbort site s
  | .clrSwitch site => Sys2Proof.Machine.execClrSwitch site s
  | .clrStall site => Sys2Proof.Machine.execClrStall site s
  | .clrWrFirst site => Sys2Proof.Machine.execClrWrFirst site s
  | .clrInfo site => Sys2Proof.Machine.execClrInfo site s
  | .clrCount site => Sys2Proof.Machine.execClrCount site s
  | .seClrFault site => Sys2Proof.Machine.execSeClrFault site s
  | .clrWords site => Sys2Proof.Machine.execClrWords site s
  | .dmaClrFault site => Sys2Proof.Machine.execDmaClrFault site s
  | .clrBytes site => Sys2Proof.Machine.execClrBytes site s
  | .lnkClrCnt port => Sys2Proof.Machine.execLnkClrCnt port s
  | .retrain port => Sys2Proof.Machine.execRetrain port s
  | .lapClrCnt => Sys2Proof.Machine.execLapClrCnt s
  | .reformReq => Sys2Proof.Machine.execReformReq s
  | .xmemClrCnt ctrl => Sys2Proof.Machine.execXmemClrCnt ctrl s
  | .rvpClrCnt => Sys2Proof.Machine.execRvpClrCnt s
  | .fcsClrCnt => Sys2Proof.Machine.execFcsClrCnt s
  | .gstartGo immediate reset => Sys2Proof.Machine.execGstartGo immediate reset s
  | .timerStart timer => Sys2Proof.Machine.execTimerStart timer s
  | .timerStop timer => Sys2Proof.Machine.execTimerStop timer s
  | .timerReset timer => Sys2Proof.Machine.execTimerReset timer s
  | .swcap0 timer => Sys2Proof.Machine.execSwcap0 timer s
  | .swcap1 timer => Sys2Proof.Machine.execSwcap1 timer s
  | .timerConfigWrite timer reg val => Sys2Proof.Machine.execTimerConfigWrite timer reg val s
  | .detClrCnt => Sys2Proof.Machine.execDetClrCnt s
  | .fastGWrite model val => Sys2Proof.Machine.execFastGWrite model val s
  | .wdnClrCnt => Sys2Proof.Machine.execWdnClrCnt s
  | .elogClrCnt => Sys2Proof.Machine.execElogClrCnt s
  | .elogSel seq => Sys2Proof.Machine.execElogSel seq s
  | .fcsEntrySel entry => Sys2Proof.Machine.execFcsEntrySel entry s
  | .weightWrite ctrl chan high val => Sys2Proof.Machine.execWeightWrite ctrl chan high val s
  | .linkDown port sub => Sys2Proof.Machine.execLinkDown port sub s
  | .laserBiasFault port lane => Sys2Proof.Machine.execLaserBiasFault port lane s
  | .mctpPacket bytes => Sys2Proof.Machine.execMctpPacket bytes s
  | .dsp0237Timeout msg => Sys2Proof.Machine.execDsp0237Timeout msg s

end Sys2Proof.Machine
end

