-- ==== Sys2Proof/Safety.lean ====
section
/-! DEFINITION. The terms in which statements are made: a state with another package, the command word at an issue pointer, the forms that memory, fuses and flash keep, and what a run may never undo. -/

namespace Sys2Proof.Machine

/-- A state with another package; the queue, the fuses and the flash are the same. -/
abbrev State.put (s : State) (d : Dev) : State := { s with dev := d }

/-- The package acts on commands and its blocks run: it is out of RESET, not held by EXTEST (18 R497, 19 R548), and not in SLEEP (03 Table SPEED-5). -/
def awake (d : Dev) : Bool := live d && decide (d.code ≠ stSleep)

/-- The running task `n` of the core at site `i` has the command word `w` at its issue pointer: the site is not halted, the task's own units do not hold the pointer (07 R192), the word is fetched without
an error, and it passes the checks of 04 R112. -/
def AtWord (d : Dev) (i n w : Nat) : Prop :=
  siteHalted d i = false ∧ (coreAt d i).run = some n ∧ (taskAt (coreAt d i) n).st = .running ∧ unitWait (coreAt d i) n = none ∧ fetchWord d i n = (.ok w, d) ∧ checkWord w = none

/-- A context whose turn it is on its engine (08 R209) has the instruction word `w`, which is not reserved, and no access of it is unanswered (08 R214 to R220). -/
def AtInstr (d : Dev) (i e x w : Nat) : Prop :=
  nextCtx (coreAt d i) e = some x ∧ stuckAt d i (2 + e) x = false ∧ patWord (coreAt d i) (ctxAt (coreAt d i) e x).pc = w ∧ patReserved w = false

/-- The canonical form of the flash: addresses rise, no byte is listed at its erased value, and every address lies in the two slots (18 R501). -/
def flashWf (m : List Host.Cell) : Bool := smWf 0xFF m && m.all (fun x => decide (x.1 < 0x800000))

/-- A key slot holds a 48-byte hash once it is programmed (18 R509). -/
def keySlotWf (k : KeySlot) : Bool := if k.provisioned then decide (k.hash.length = 48) else decide (k.hash = [])

/-- The fuses: four key slots, a MIN_SVN from 0 to 63 and a key-wrap key of 32 bytes (18 R509, R510; 19 R545). -/
def fusesWf (f : Fuses) : Bool :=
  decide (f.keys.length = 4) && f.keys.all keySlotWf && decide (f.minSvn ≤ 63) && f.kwk.all (fun k => decide (k.length = 32))

/-- What lasts through every reset and every loss of power keeps its form. -/
def PersistWf (s : State) : Prop := flashWf s.flash = true ∧ fusesWf s.fuse = true

/-- Fuses only ever blow: a programmed slot keeps its hash, a revoked one stays revoked, MIN_SVN never falls, a key-wrap key stays (18 R509, R510; 19 R545). -/
def FusesLe (a b : Fuses) : Prop :=
  (∀ k, (a.keys.getD k {}).provisioned = true → (b.keys.getD k {}).provisioned = true ∧ (b.keys.getD k {}).hash = (a.keys.getD k {}).hash) ∧
  (∀ k, (a.keys.getD k {}).revoked = true → (b.keys.getD k {}).revoked = true) ∧
  a.minSvn ≤ b.minSvn ∧ (∀ k, a.kwk = some k → b.kwk = some k)

end Sys2Proof.Machine
end

