-- ==== Sys2Proof/Certificates/Slice0/Obligations.lean ====
section
/-! DEFINITION. The statements for the provers: what each command does, what it leaves alone, and what holds of every step. -/

set_option autoImplicit false

open Sys2Proof Sys2Proof.Machine

/-- The command at the front of the queue is what a step runs. -/
def Obligations.StepRunsFront : Prop :=
  ∀ (s : State) (c : Instr) (rest : List Instr), s.pending = c :: rest → step s = exec c { s with pending := rest }

/-- The idle step (DESIGN CHOICE, log entry 15). -/
def Obligations.IdleStep : Prop :=
  ∀ s : State, s.pending = [] →
    step s = .next (s.put (idleTick s.dev)) ∧ ((live s.dev = false ∨ s.dev.code = stSleep) → step s = .next s)

/-- No command stops the machine, and none touches the queue. -/
def Obligations.NoCommandStops : Prop :=
  ∀ (c : Instr) (s : State), ∃ t, exec c s = .next t ∧ t.pending = s.pending

/-- The persistent state keeps its form, whatever the command and whatever the state of the rest of the package. -/
def Obligations.PersistWfKept : Prop :=
  ∀ s t : State, PersistWf s → step s = .next t → PersistWf t

/-- The invariant of PersistWfKept holds after reset. -/
def Obligations.PersistWfReset : Prop := PersistWf State.reset

/-- Fuses are one way over every step of every run, through every reset. -/
def Obligations.FusesOneWay : Prop :=
  ∀ s t : State, step s = .next t → FusesLe s.fuse t.fuse

/-- The copy in use is out of reach of every command. -/
def Obligations.SelectedSlotKept : Prop :=
  ∀ (s t : State) (k a : Nat), k < 2 → slotInUse s.dev k = true → slotBase k ≤ a → a < slotBase k + 0x400000 →
    step s = .next t → smGet flashDefault t.flash a = smGet flashDefault s.flash a

/-- The frame of fuses and flash over all commands. -/
def Obligations.PersistFrame : Prop :=
  ∀ (c : Instr) (s t : State), exec c s = .next t →
    ((c ≠ .keySlotProgram ∧ c ≠ .keySlotRevoke ∧ c ≠ .kwkSet ∧ c ≠ .minSvn) → t.fuse = s.fuse) ∧
    ((c ≠ .flashErase ∧ c ≠ .flashWrite ∧ c ≠ .pwrgdFall ∧ (∀ n, c ≠ .pinReset n) ∧ (∀ v, c ≠ .por v)) → t.flash = s.flash)

/-- Which commands reach a package that is not live. -/
def Obligations.QuietFabric : Prop :=
  ∀ (c : Instr) (s : State), live s.dev = false →
    (∀ v, c ≠ .por v) → (∀ n, c ≠ .pinReset n) → c ≠ .pwrgdFall → (∀ x, c ≠ .resetRelease x) → c ≠ .tapReset → c ≠ .idcode →
    (∀ v, c ≠ .samplePreload v) → c ≠ .extest → c ≠ .clamp → c ≠ .highz → c ≠ .bypass → (∀ k, c ≠ .thermtrip k) →
    c ≠ .sysrefLoss → (∀ n p, c ≠ .serrefLoss n p) → (∀ n p, c ≠ .optrefLoss n p) → c ≠ .xt32kLoss →
    exec c s = .next s

/-- Issue to the units (04 R104): MMA, VOP, DMA, CTXLOAD, CTXSTORE, EMIT. -/
def Obligations.CommandsQueued : Prop :=
  (∀ (s : State) (i : Fin 288) (n w : Nat), awake s.dev = true → AtWord s.dev i.val n w → isFamily .mma w = true →
    mmaCause (coreAt s.dev i.val) (taskAt (coreAt s.dev i.val) n) w = none → mmaRows w ≠ 0 → mmaTiles w ≠ 0 → (coreAt s.dev i.val).mu.length < 8 →
    exec (.mma i) s = .next (s.put (pump (enqueue s.dev i.val n 0 w false)))) ∧
  (∀ (s : State) (i : Fin 288) (n w : Nat), awake s.dev = true → AtWord s.dev i.val n w → isFamily .vop w = true →
    vopCause s.dev i.val (taskAt (coreAt s.dev i.val) n) w = none → vCount w ≠ 0 → (coreAt s.dev i.val).vu.length < 8 →
    exec (.vop i) s = .next (s.put (pump (enqueue s.dev i.val n 1 w false)))) ∧
  (∀ (s : State) (i : Fin 288) (n w : Nat), awake s.dev = true → AtWord s.dev i.val n w → isFamily .dma w = true →
    isLocal s.dev i.val (dmaBase w) = true → dmaN w ≠ 0 → (coreAt s.dev i.val).dma.length < 8 →
    exec (.dma i) s = .next (s.put (pump (enqueue s.dev i.val n 5 w false)))) ∧
  (∀ (s : State) (i : Fin 288) (n w : Nat), awake s.dev = true → AtWord s.dev i.val n w → isFamily .ctxload w = true →
    ctxCause s.dev i.val (taskAt (coreAt s.dev i.val) n) w = none → (coreAt s.dev i.val).ctx.length < 8 →
    exec (.ctxload i) s = .next (s.put (ctxGo i.val (pump (enqueue s.dev i.val n 6 w false))))) ∧
  (∀ (s : State) (i : Fin 288) (n w : Nat), awake s.dev = true → AtWord s.dev i.val n w → isFamily .ctxstore w = true →
    ctxCause s.dev i.val (taskAt (coreAt s.dev i.val) n) w = none → (coreAt s.dev i.val).ctx.length < 8 →
    exec (.ctxstore i) s = .next (s.put (ctxGo i.val (pump (enqueue s.dev i.val n 6 w false))))) ∧
  (∀ (s : State) (i : Fin 288) (n w : Nat) (data : List Byte) (d : Dev), awake s.dev = true → AtWord s.dev i.val n w → isFamily .emit w = true →
    emitCause s.dev (taskAt (coreAt s.dev i.val) n) i.val w = none → (coreAt s.dev i.val).egr.length < 4 →
    unitReadN s.dev i.val n (bits w 119 96) cReach portSeA (bits w 95 88) = (.ok data, d) →
    exec (.emit i) s = .next (s.put (egressTake (enqueue (modTask d i.val n (fun t => { t with emitted := true })) i.val n 7 w true)
      (taskAt (coreAt s.dev i.val) n).req ((Fmt.ofCode (bits w 123 120)).getD .fp32) data)))

/-- The empty forms of MMA, VOP and DMA. -/
def Obligations.EmptyCommands : Prop :=
  (∀ (s : State) (i : Fin 288) (n w : Nat), awake s.dev = true → AtWord s.dev i.val n w → isFamily .mma w = true →
    mmaCause (coreAt s.dev i.val) (taskAt (coreAt s.dev i.val) n) w = none → (mmaRows w = 0 ∨ mmaTiles w = 0) →
    exec (.mma i) s = .next (s.put (advance s.dev i.val n))) ∧
  (∀ (s : State) (i : Fin 288) (n w : Nat), awake s.dev = true → AtWord s.dev i.val n w → isFamily .vop w = true → vCount w = 0 →
    exec (.vop i) s = .next (s.put (advance s.dev i.val n))) ∧
  (∀ (s : State) (i : Fin 288) (n w : Nat), awake s.dev = true → AtWord s.dev i.val n w → isFamily .dma w = true →
    isLocal s.dev i.val (dmaBase w) = true → dmaN w = 0 →
    exec (.dma i) s = .next (s.put (advance s.dev i.val n)))

/-- The two other ways in which issue to a unit ends. -/
def Obligations.IssueRefused : Prop :=
  (∀ (s : State) (i : Fin 288) (n w e : Nat), awake s.dev = true → AtWord s.dev i.val n w → isFamily .mma w = true →
    mmaCause (coreAt s.dev i.val) (taskAt (coreAt s.dev i.val) n) w = some e →
    exec (.mma i) s = .next (s.put (faultTask s.dev i.val n e (taskAt (coreAt s.dev i.val) n).issue))) ∧
  (∀ (s : State) (i : Fin 288) (n w e : Nat), awake s.dev = true → AtWord s.dev i.val n w → isFamily .vop w = true →
    vopCause s.dev i.val (taskAt (coreAt s.dev i.val) n) w = some e →
    exec (.vop i) s = .next (s.put (faultTask s.dev i.val n e (taskAt (coreAt s.dev i.val) n).issue))) ∧
  (∀ (s : State) (i : Fin 288) (n w : Nat), awake s.dev = true → AtWord s.dev i.val n w → isFamily .dma w = true →
    isLocal s.dev i.val (dmaBase w) = false →
    exec (.dma i) s = .next (s.put (faultTask s.dev i.val n cReach (taskAt (coreAt s.dev i.val) n).issue))) ∧
  (∀ (s : State) (i : Fin 288) (n w : Nat), awake s.dev = true → AtWord s.dev i.val n w → isFamily .mma w = true →
    mmaCause (coreAt s.dev i.val) (taskAt (coreAt s.dev i.val) n) w = none → mmaRows w ≠ 0 → mmaTiles w ≠ 0 → 8 ≤ (coreAt s.dev i.val).mu.length →
    exec (.mma i) s = .next (s.put (blockTask s.dev i.val n (queueCause s.dev i.val 0)))) ∧
  (∀ (s : State) (i : Fin 288) (n w : Nat), awake s.dev = true → AtWord s.dev i.val n w → isFamily .vop w = true →
    vopCause s.dev i.val (taskAt (coreAt s.dev i.val) n) w = none → vCount w ≠ 0 → 8 ≤ (coreAt s.dev i.val).vu.length →
    exec (.vop i) s = .next (s.put (blockTask s.dev i.val n (queueCause s.dev i.val 1)))) ∧
  (∀ (s : State) (i : Fin 288) (n w : Nat), awake s.dev = true → AtWord s.dev i.val n w → isFamily .dma w = true →
    isLocal s.dev i.val (dmaBase w) = true → dmaN w ≠ 0 → 8 ≤ (coreAt s.dev i.val).dma.length →
    exec (.dma i) s = .next (s.put (blockTask s.dev i.val n (queueCause s.dev i.val 5))))

/-- The five TAGOPs (04 R121), with what the tags become. -/
def Obligations.TagOps : Prop :=
  (∀ (s : State) (i : Fin 288) (n w : Nat), awake s.dev = true → AtWord s.dev i.val n w → isFamily .tagop w = true → tagopCause (coreAt s.dev i.val) w = none →
    blockCause s.dev i.val n = none →
    (bits w 123 120 = 0 → exec (.setFull i) s = .next (s.put (pump (advance (setSkein s.dev i.val (bits w 119 114)
      ((tagopSlots (skeinAt (coreAt s.dev i.val) (bits w 119 114)) w).foldl (fun k j => k.setTag j true) (skeinAt (coreAt s.dev i.val) (bits w 119 114)))) i.val n)))) ∧
    (bits w 123 120 = 1 → exec (.setEmpty i) s = .next (s.put (pump (advance (setSkein s.dev i.val (bits w 119 114)
      ((tagopSlots (skeinAt (coreAt s.dev i.val) (bits w 119 114)) w).foldl (fun k j => k.setTag j false) (skeinAt (coreAt s.dev i.val) (bits w 119 114)))) i.val n)))) ∧
    (bits w 123 120 = 2 → exec (.waitFull i) s = .next (s.put (pump (advance (setSkein s.dev i.val (bits w 119 114)
      (skeinAt (coreAt s.dev i.val) (bits w 119 114))) i.val n)))) ∧
    (bits w 123 120 = 3 → exec (.waitEmpty i) s = .next (s.put (pump (advance (setSkein s.dev i.val (bits w 119 114)
      (skeinAt (coreAt s.dev i.val) (bits w 119 114))) i.val n)))) ∧
    (bits w 123 120 = 4 → exec (.tagopReset i) s = .next (s.put (pump (advance (setSkein s.dev i.val (bits w 119 114)
      { skeinAt (coreAt s.dev i.val) (bits w 119 114) with head := 0, tail := 0, tags := 0 }) i.val n))))) ∧
  (∀ (k : Skein) (w j : Nat),
    (((tagopSlots k w).foldl (fun k j => k.setTag j true) k).full j = (k.full j || (tagopSlots k w).contains j)) ∧
    (((tagopSlots k w).foldl (fun k j => k.setTag j false) k).full j = (k.full j && !(tagopSlots k w).contains j)))

/-- END, YIELD, DEPMARK, LBAR, HANKWAIT and PAT at the issue pointer. -/
def Obligations.SequencerCommands : Prop :=
  ∀ (s : State) (i : Fin 288) (n w : Nat), awake s.dev = true → AtWord s.dev i.val n w →
    (isFamily .end_ w = true → (dRank (taskAt (coreAt s.dev i.val) n).desc ≠ 0 ∨ (taskAt (coreAt s.dev i.val) n).emitted = true) →
      exec (.endTask i) s = .next (s.put (chooseTask (twinCore i.val (modCore (modTask (advance s.dev i.val n) i.val n (fun t => { t with st := .ending }))
        i.val (fun c => { c with run := none }))) i.val))) ∧
    (isFamily .yield w = true → bestReady (coreAt (advance s.dev i.val n) i.val) (some n) = none →
      exec (.yield i) s = .next (s.put (advance s.dev i.val n))) ∧
    (∀ k, isFamily .yield w = true → bestReady (coreAt (advance s.dev i.val n) i.val) (some n) = some k →
      exec (.yield i) s = .next (s.put (countSwitch (modCore (modTask (advance s.dev i.val n) i.val n (fun t => { t with st := .ready })) i.val
        (fun c => { c with run := some k, last := k, tasks := modAt c.tasks k (fun t => { t with st := .running }) })) i.val))) ∧
    (isFamily .depmark w = true → blockCause s.dev i.val n = none → exec (.depmark i) s = .next (s.put (pump (advance s.dev i.val n)))) ∧
    (isFamily .lbar w = true → blockCause s.dev i.val n = none → exec (.lbar i) s = .next (s.put (pump (advance s.dev i.val n)))) ∧
    (∀ k, isFamily .depmark w = true → blockCause s.dev i.val n = some k → exec (.depmark i) s = .next (s.put (blockTask s.dev i.val n k))) ∧
    (∀ k, isFamily .lbar w = true → blockCause s.dev i.val n = some k → exec (.lbar i) s = .next (s.put (blockTask s.dev i.val n k))) ∧
    (isFamily .hankwait w = true → (taskAt (coreAt s.dev i.val) n).waited.contains (taskAt (coreAt s.dev i.val) n).issue = true →
      exec (.hankwait i) s = .next (s.put (removedSweep (twinCore i.val (passHankwait s.dev i.val n w))))) ∧
    (isFamily .pat w = true → (taskAt (coreAt s.dev i.val) n).started.contains (taskAt (coreAt s.dev i.val) n).issue = true →
      exec (.pat i) s = .next (s.put (pump (advance s.dev i.val n)))) ∧
    (∀ d, isFamily .pat w = true → (taskAt (coreAt s.dev i.val) n).started.contains (taskAt (coreAt s.dev i.val) n).issue = false →
      startPat s.dev i.val n (taskAt (coreAt s.dev i.val) n).issue w = .started d →
      exec (.pat i) s = .next (s.put (pump (advance d i.val n))))

/-- HANKWAIT_START and PATTERN_START, and what a started pattern's context holds. -/
def Obligations.RunAheadStarts : Prop :=
  (∀ (s : State) (i : Fin 288) (n : Fin 8) (pos w : Nat) (d : Dev), awake s.dev = true → runsAhead s.dev i.val n.val = true → aheadOf s.dev i.val n.val = some (pos, w) →
    wFamily w = some .hankwait → hankwaitCause s.dev (taskAt (coreAt s.dev i.val) n.val) w = none → startHankwait s.dev i.val n.val pos w = some d →
    exec (.hankwaitStart i n) s = .next (s.put (removedSweep (pump d)))) ∧
  (∀ (s : State) (i : Fin 288) (n : Fin 8) (pos w : Nat) (d : Dev), awake s.dev = true → runsAhead s.dev i.val n.val = true → aheadOf s.dev i.val n.val = some (pos, w) →
    wFamily w = some .pat → startPat s.dev i.val n.val pos w = .started d →
    exec (.patternStart i n) s = .next (s.put (pump d))) ∧
  (∀ (d d' : Dev) (i n pos w : Nat), startPat d i n pos w = .started d' → w.testBit 107 = false →
    ∃ x < 8, (ctxAt (coreAt d i) (bits w 123 122) x).st = 0 ∧
      ctxAt (coreAt d' i) (bits w 123 122) x = { st := 1, task := n, pos := pos, skein := bits w 113 108, entry := bits w 121 114, pc := bits w 121 114, base := bits w 104 81, arg := bits w 80 49, hb := bits w 106 105, pairPos := (pairOf d i n pos w).getD 0 })

/-- UNIT_COMMAND_COMPLETE, PATTERN_END, SLOT_STEP_COMPLETE and TASK_END_COMPLETE. -/
def Obligations.Completions : Prop :=
  (∀ (s : State) (i : Fin 288) (u : Fin 8) (q : QCmd) (r : List QCmd), awake s.dev = true → unitQ (coreAt s.dev i.val) u.val = q :: r → q.done = true →
    exec (.unitCommandComplete i u) s = .next (s.put (ctxGo i.val (pump (twinCore i.val (setCore s.dev i.val (setUnitQ (coreAt s.dev i.val) u.val r))))))) ∧
  (∀ (s : State) (i : Fin 288) (e : Fin 3) (x : Fin 8), awake s.dev = true → AtInstr s.dev i.val e.val x.val 0 →
    exec (.patternEnd i e x) s = .next (s.put (twinCore i.val (pump (setCtx (dropRoles (served s.dev i.val e.val x.val) (fun r => decide (r = { site := i.val, slot := (ctxAt (coreAt s.dev i.val) e.val x.val).task, unit := 2 + e.val, pos := (ctxAt (coreAt s.dev i.val) e.val x.val).pos })))
      i.val e.val x.val {}))))) ∧
  (∀ (s : State) (i : Fin 288) (e : Fin 3) (x : Fin 8) (p : PatCtx), awake s.dev = true → ctxAt (coreAt s.dev i.val) e.val x.val = p → p.st ≠ 0 → p.stepPending = true →
    (taskAt (coreAt s.dev i.val) p.task).fault = none →
    exec (.slotStepComplete i e x) s = .next (s.put (pump (setCtx (setSkein s.dev i.val p.skein
      (if e.val = 2 then (skeinAt (coreAt s.dev i.val) p.skein).consStep else (skeinAt (coreAt s.dev i.val) p.skein).prodStep))
      i.val e.val x.val { p with stepPending := false })))) ∧
  (∀ (s : State) (i : Fin 288) (n : Fin 8), awake s.dev = true → (taskAt (coreAt s.dev i.val) n.val).st = .ending → anyBusy (coreAt s.dev i.val) n.val = false →
    dRank (taskAt (coreAt s.dev i.val) n.val).desc ≠ 0 →
    exec (.taskEndComplete i n) s = .next (s.put (ctxAll (pump (freeSlot (twinCore i.val s.dev) i.val n.val))))) ∧
  (∀ (s : State) (i : Fin 288) (n : Fin 8), awake s.dev = true → (taskAt (coreAt s.dev i.val) n.val).st = .ending → anyBusy (coreAt s.dev i.val) n.val = false →
    dRank (taskAt (coreAt s.dev i.val) n.val).desc = 0 →
    (coreAt s.dev i.val).held.find? (fun h => h.claimed && h.dirty && decide (h.slot = n.val) && h.leaving.isNone) = none →
    exec (.taskEndComplete i n) s = .next (s.put (ctxAll (pump (freeSlot (endClaim (twinCore i.val s.dev) (taskAt (coreAt s.dev i.val) n.val).req) i.val n.val)))))

/-- TASK_ABORT, DEADLINE_EXPIRY, SKEIN_TIMEOUT and REMOTE_TIMEOUT. -/
def Obligations.TaskFaults : Prop :=
  (∀ (s : State) (i : Fin 288) (n : Fin 8) (cause word : Nat) (t : Task), awake s.dev = true → taskAt (coreAt s.dev i.val) n.val = t → t.fault = some (cause, word) →
    exec (.taskAbort i n) s = .next (s.put (ctxAll (pump (freeSlot (recordAbort (groupDecide (takeOff s.dev i.val n.val) t.req i.val cause) i.val n.val t cause word) i.val n.val))))) ∧
  (∀ (d : Dev) (i n cause word : Nat) (t : Task), i < 288 →
    rd (recordAbort d i n t cause word) (Reg.CORE_ABORT_PC i) = BitVec.ofNat 32 (word % 2 ^ 24) ∧ rd (recordAbort d i n t cause word) (Reg.CORE_ABORT_COUNT i) = rd d (Reg.CORE_ABORT_COUNT i) + 1 ∧
      (recordAbort d i n t cause word).core = d.core ∧ (recordAbort d i n t cause word).rvp = d.rvp ∧ (recordAbort d i n t cause word).mem = d.mem) ∧
  (∀ (s : State) (h : Nat) (r : Req), live s.dev = true → reqAt s.dev h = some r → r.deadline ≤ s.dev.now → s.dev.code ≠ stHalted →
    ((r.st = .dispatched ∨ r.st = .held) → r.emitted = false →
      exec (.deadlineExpiry h) s = .next (s.put (r.tasks.foldl (fun d t => faultTask d t.2.1 t.2.2 cDeadline (taskAt (coreAt d t.2.1) t.2.2).issue) (fallReqAt s.dev h 1 r.deadline)))) ∧
    ((r.st = .queued ∨ r.st = .ready) → r.released = false → r.retried = false → exec (.deadlineExpiry h) s = .next (s.put (fallReqAt s.dev h 3 r.deadline)))) ∧
  (∀ (s : State) (h : Nat) (r : Req), live s.dev = true → reqAt s.dev h = some r → s.dev.now < r.deadline → exec (.deadlineExpiry h) s = .next s) ∧
  (∀ (s : State) (i : Fin 288) (u : TagWaiter) (n pos since c k : Nat), awake s.dev = true → siteHalted s.dev i.val = false → waitsOn s.dev i.val u = some ⟨n, pos, since, [(c, k)]⟩ →
    k ≠ 63 → (skeinAt (coreAt s.dev c) k).timeout ≠ 0 →
    (s.dev.now ≤ since + 1000 * (skeinAt (coreAt s.dev c) k).timeout → exec (.skeinTimeout i u) s = .next s) ∧
    (since + 1000 * (skeinAt (coreAt s.dev c) k).timeout < s.dev.now → u ≠ .dma →
      exec (.skeinTimeout i u) s = .next (s.put (faultTask (setSkein s.dev c k { skeinAt (coreAt s.dev c) k with evt := true }) i.val n cSkeinTimeout pos))) ∧
    (∀ q ring, since + 1000 * (skeinAt (coreAt s.dev c) k).timeout < s.dev.now → u = .dma →
      (coreAt (setSkein s.dev c k { skeinAt (coreAt s.dev c) k with evt := true }) i.val).dma.head? = some q → q.desc.bind (fun y => y.ring) = some ring →
      exec (.skeinTimeout i u) s = .next (s.put (dmaFault (setSkein s.dev c k { skeinAt (coreAt s.dev c) k with evt := true }) i.val q 10 cSkeinTimeout ring.1)))) ∧
  (∀ (s : State) (i target : Fin 288) (u x : Fin 8) (n pos : Nat), awake s.dev = true → executing (coreAt s.dev i.val) u.val x.val = some (n, pos) → target ≠ i →
    inService s.dev target.val = true → dGlobal (taskAt (coreAt s.dev i.val) n).desc = true → (∀ a, stuckFor s.dev i.val u.val x.val = some a → a.since + 10000 ≤ s.dev.now) →
    exec (.remoteTimeout i u x target) s = .next (s.put (disagree (faultTask (clearStuck s.dev (fun a => decide (a.site = i.val) && decide (a.unit = u.val) && decide (a.ctx = x.val))) i.val n cRemote pos) target.val 2)))

/-- BANK_CYCLE and SCRUB_READ. -/
def Obligations.ScratchpadCycles : Prop :=
  (∀ (s : State) (i : Fin 288) (x : BankReq), awake s.dev = true → (coreAt s.dev i.val).bank = [] → (coreAt s.dev i.val).locked = [] → (coreAt s.dev i.val).held = [] → (coreAt s.dev i.val).scrubWait = none →
    bankReqOk x = true → x.rmw = false →
    (x.write = true → x.data.length = 64 → (rd s.dev (Reg.CORE_SPAD_INJECT i.val)).getLsbD 31 = false →
      ∃ t, exec (.bankCycle i ⟨x.word.val % 64, Nat.mod_lt _ (by decide)⟩ [x] 0 none) s = .next t ∧ rawWord t.dev i.val x.word.val = x.data ∧
        isWeight t.dev i.val x.word.val = (x.weight || decide (x.port = 7)) ∧ wordErr t.dev i.val x.word.val = {} ∧
        (∀ j v, (j, v) ≠ (i.val, x.word.val) → v < 32768 → rawWord t.dev j v = rawWord s.dev j v)) ∧
    (x.write = false → wordErr s.dev i.val x.word.val = {} →
      ∃ t, exec (.bankCycle i ⟨x.word.val % 64, Nat.mod_lt _ (by decide)⟩ [x] 0 none) s = .next t ∧ (x.port.val, rawWord s.dev i.val x.word.val) ∈ (coreAt t.dev i.val).bankOut ∧ t.dev.mem = s.dev.mem ∧ t.dev.regs = s.dev.regs)) ∧
  (∀ (s : State) (i : Fin 288) (w : Nat), awake s.dev = true → fld s.dev (Reg.CORE_SPAD_SCRUB i.val) 14 0 = w →
    (∀ x ∈ (coreAt s.dev i.val).bank ++ (coreAt s.dev i.val).locked, bankOf x.word.val ≠ bankOf w) → (coreAt s.dev i.val).scrubWait = none → wordErr s.dev i.val w = {} →
    (w < 32767 → exec (.scrubRead i) s = .next (s.put (setFld s.dev (Reg.CORE_SPAD_SCRUB i.val) 14 0 (w + 1)))) ∧
    (w = 32767 → exec (.scrubRead i) s = .next (s.put (setFld (setFld s.dev (Reg.CORE_SPAD_SCRUB i.val) 31 16 (fld s.dev (Reg.CORE_SPAD_SCRUB i.val) 31 16 + 1))
      (Reg.CORE_SPAD_SCRUB i.val) 14 0 0)))) ∧
  (∀ (s : State) (i : Fin 288) (x : BankReq), awake s.dev = true → x ∈ (coreAt s.dev i.val).bank → bankOf x.word.val = bankOf (fld s.dev (Reg.CORE_SPAD_SCRUB i.val) 14 0) → (coreAt s.dev i.val).scrubWait = none →
    exec (.scrubRead i) s = .next (s.put (setCore s.dev i.val { coreAt s.dev i.val with scrubWait := some s.dev.now })))

/-- TASK_DISPATCH, HANK_DELIVERY, SPARE_REFILL_COMPLETE and SPARE_TEST. -/
def Obligations.DispatchAndSpares : Prop :=
  (∀ (s : State) (m : Fin 16) (h : Nat) (r : Req) (im : Image), awake s.dev = true → headReady s.dev (m.val + 1) = some (h, r) → (modelAt s.dev (m.val + 1)).active = some im →
    (misses s.dev r im s.dev.now = true → exec (.taskDispatch m) s = .next (s.put (tooLate s.dev h im))) ∧
    (misses s.dev r im s.dev.now = false → im.cohort ≤ cohortNow s.dev (m.val + 1) → exec (.taskDispatch m) s = .next s) ∧
    (∀ ms d, misses s.dev r im s.dev.now = false → cohortNow s.dev (m.val + 1) < im.cohort → (if im.fast then fastGroup s.dev r im else exactGroup s.dev im) = some ms →
      modReq ((ms.map (fun x => (x, descFor s.dev h r im ms.length x))).foldl (fun d x => placeTask d h x.1 x.2) s.dev) h
        (fun r => { r with st := .dispatched, group := ms.length, tasks := ms.map (fun x => (x.rank, x.site, x.slot)) }) = d →
      (im.fast = false → exec (.taskDispatch m) s = .next (s.put d)) ∧
      (∀ e, im.fast = true → setFld (setModel d (m.val + 1) { modelAt d (m.val + 1) with lastRank0 := (ms.head?.map (fun y => y.canon + 1)).getD (modelAt d (m.val + 1)).lastRank0 }) (Reg.DET_MODEL_FAST_G m.val) 24 16 ms.length = e →
        (ms.length = fastTarget e im → exec (.taskDispatch m) s = .next (s.put e)) ∧
        (ms.length ≠ fastTarget e im → exec (.taskDispatch m) s = .next (s.put (evt (cntInc (cntInc e Reg.DET_CHOICE_LO) (Reg.DET_MODEL_CHOICE_LO m.val)) Reg.DET_EVT 0)))))) ∧
  (∀ (s : State) (i : Fin 288) (x : Delivery) (r : List Delivery), awake s.dev = true → s.dev.ring.deliver = x :: r → x.sites = [i.val] → x ∉ r →
    exec (.hankDelivery i) s = .next (s.put (pump (removedSweep (x.hanks.foldl (fun d h => deliverTo d i.val x.model x.lap h)
      { s.dev with ring := { s.dev.ring with deliver := r } }))))) ∧
  (∀ (s : State) (i : Fin 288) (c : Nat) (x : SiteInfo) (e f : Dev) (whole : Bool), live s.dev = true → siteInfo s.dev i.val = x → x.st = .promoting → x.canon = some c → x.mgmtFence = false →
    setCore (setSite s.dev i.val { x with st := .live, promoted := true }) i.val { skeins := [(63, hankSkeinDef s.dev c)] } = e → refillFrom c (installed e) e = (whole, f) →
    (whole = true → exec (.spareRefillComplete i true) s = .next (s.put (restate (rewriteStore (elog 3 1 0x0104 i.val c
      (cntInc { f with wdn := { f.wdn with canonSite := smPut c (some i.val) f.wdn.canonSite } } (Reg.WDN_CNT_LO 3))) c)))) ∧
    (whole = false → exec (.spareRefillComplete i true) s = .next (s.put (setCore (setSite f i.val x) i.val {}))) ∧
    exec (.spareRefillComplete i false) s = .next (s.put (fenceSite s.dev i.val 6 false))) ∧
  (∀ (s : State) (i : Fin 288), exec (.spareTest i true) s = .next s) ∧
  (∀ (s : State) (i : Fin 288), live s.dev = true →
    ((siteInfo s.dev i.val).st = .spare → exec (.spareTest i false) s = .next (s.put (elog 1 1 0x0105 i.val 0 (setSite s.dev i.val { siteInfo s.dev i.val with st := .spareFailed })))) ∧
    (∀ c, (siteInfo s.dev i.val).st = .promoting → (siteInfo s.dev i.val).canon = some c → exec (.spareTest i false) s = .next (s.put
      (promote (elog 1 1 0x0105 i.val 0 (setSite s.dev i.val { siteInfo s.dev i.val with st := .spareFailed, canon := none })) c
        ((siteOfCanon (elog 1 1 0x0105 i.val 0 (setSite s.dev i.val { siteInfo s.dev i.val with st := .spareFailed, canon := none })).part c).getD i.val)))))

/-- SETA, SETS, SETC, MOVA, ADDA. -/
def Obligations.PatternRegisters : Prop :=
  (∀ (s : State) (i : Fin 288) (e : Fin 3) (x : Fin 8) (w : Nat) (p : PatCtx) (v : Int), awake s.dev = true → AtInstr s.dev i.val e.val x.val w →
    ctxAt (coreAt s.dev i.val) e.val x.val = p → patX p (taskAt (coreAt s.dev i.val) p.task).desc (bits w 24 22) = some v →
    (bits w 31 27 = 1 → exec (.seta i e x) s = .next (s.put (patNext (served s.dev i.val e.val x.val) i.val e.val x.val
      { p with a := setAt p.a (bits w 26 25) ((v + patImm w) % 2 ^ 24).toNat } (p.pc + 1)))) ∧
    (bits w 31 27 = 2 → exec (.sets i e x) s = .next (s.put (patNext (served s.dev i.val e.val x.val) i.val e.val x.val
      { p with s := setAt p.s (bits w 26 25) ((v + patImm w) % 2 ^ 24).toNat } (p.pc + 1)))) ∧
    (bits w 31 27 = 3 → 0 ≤ v + patImm w → v + patImm w ≤ 1048575 → exec (.setc i e x) s = .next (s.put (patNext (served s.dev i.val e.val x.val) i.val e.val x.val
      { p with c := setAt p.c (bits w 26 25) (v + patImm w).toNat } (p.pc + 1)))) ∧
    (bits w 31 27 = 3 → (v + patImm w < 0 ∨ 1048575 < v + patImm w) →
      exec (.setc i e x) s = .next (s.put (patFault (served s.dev i.val e.val x.val) i.val e.val x.val p 7 cPatternReserved 0)))) ∧
  (∀ (s : State) (i : Fin 288) (e : Fin 3) (x : Fin 8) (w : Nat) (p : PatCtx), awake s.dev = true → AtInstr s.dev i.val e.val x.val w →
    ctxAt (coreAt s.dev i.val) e.val x.val = p →
    (bits w 31 27 = 4 → exec (.mova i e x) s = .next (s.put (patNext (served s.dev i.val e.val x.val) i.val e.val x.val
      { p with a := setAt p.a (bits w 26 25) (((p.a.getD (bits w 24 23) 0 : Nat) + patImm w) % 2 ^ 24).toNat } (p.pc + 1)))) ∧
    (bits w 31 27 = 5 → exec (.adda i e x) s = .next (s.put (patNext (served s.dev i.val e.val x.val) i.val e.val x.val
      { p with a := setAt p.a (bits w 26 25) ((p.a.getD (bits w 26 25) 0 + p.s.getD (bits w 24 23) 0) % 2 ^ 24) } (p.pc + 1))))) ∧
  (∀ (d : Dev) (i e x : Nat) (p : PatCtx), p.loops = [] → p.pc < 255 → patNext d i e x p (p.pc + 1) = setCtx d i e x { p with pc := p.pc + 1, st := 1, part := 0 })

/-- The loop and emission instructions of stream patterns. A RUN or PAD moves one word at a time, so that contexts may alternate word by word. -/
def Obligations.PatternEmission : Prop :=
  (∀ (s : State) (i : Fin 288) (e : Fin 3) (x : Fin 8) (w : Nat) (p : PatCtx) (d : Dev), awake s.dev = true → AtInstr s.dev i.val e.val x.val w →
    ctxAt (coreAt s.dev i.val) e.val x.val = p → served s.dev i.val e.val x.val = d →
    (bits w 31 27 = 6 → p.pc + 1 + bits w 7 0 ≤ 256 → (∀ l ∈ p.loops, l.ctr ≠ bits w 26 25) → (∀ l ∈ p.loops, p.pc + 1 + bits w 7 0 ≤ l.stop) →
      exec (.loop i e x) s = .next (s.put (if p.c.getD (bits w 26 25) 0 = 0 then patNext d i.val e.val x.val p (p.pc + 1 + bits w 7 0)
        else setCtx d i.val e.val x.val { p with loops := { ctr := bits w 26 25, start := p.pc + 1, stop := p.pc + 1 + bits w 7 0, left := p.c.getD (bits w 26 25) 0 } :: p.loops, pc := p.pc + 1 }))) ∧
    (∀ f q, bits w 31 27 = 7 → w.testBit 22 = false → w.testBit 21 = false → emitOne d i.val e.val p (some (p.a.getD (bits w 26 25) 0)) = .ok f q →
      exec (.word i e x) s = .next (s.put (patNext f i.val e.val x.val q (q.pc + 1)))) ∧
    (∀ f q, bits w 31 27 = 7 → w.testBit 22 = true → w.testBit 21 = false → emitOne d i.val e.val p (some (p.a.getD (bits w 26 25) 0)) = .ok f q →
      exec (.word i e x) s = .next (s.put (patNext f i.val e.val x.val
        { q with a := setAt q.a (bits w 26 25) ((q.a.getD (bits w 26 25) 0 + q.s.getD (bits w 24 23) 0) % 2 ^ 24) } (q.pc + 1)))) ∧
    (bits w 31 27 = 7 → p.f = 0 → ringReady (skeinAt (coreAt d i.val) p.skein) e.val = false →
      exec (.word i e x) s = .next (s.put (setCtx d i.val e.val x.val { p with st := 3, since := waitStart d i.val }))) ∧
    (∀ f q, bits w 31 27 = 8 → p.part + 1 < bits w 12 0 → emitOne d i.val e.val p (some ((p.a.getD (bits w 26 25) 0 + p.part * p.s.getD (bits w 24 23) 0) % 2 ^ 24)) = .ok f q →
      exec (.run i e x) s = .next (s.put (setCtx f i.val e.val x.val { q with part := p.part + 1 }))) ∧
    (∀ f q, bits w 31 27 = 8 → w.testBit 21 = false → p.part + 1 = bits w 12 0 → emitOne d i.val e.val p (some ((p.a.getD (bits w 26 25) 0 + p.part * p.s.getD (bits w 24 23) 0) % 2 ^ 24)) = .ok f q →
      exec (.run i e x) s = .next (s.put (patNext f i.val e.val x.val
        { q with a := setAt q.a (bits w 26 25) ((p.a.getD (bits w 26 25) 0 + bits w 12 0 * p.s.getD (bits w 24 23) 0) % 2 ^ 24) } (q.pc + 1)))) ∧
    (bits w 31 27 = 9 → (p.f ≠ 0 ∨ ringReady (skeinAt (coreAt d i.val) p.skein) e.val = true) →
      exec (.step i e x) s = .next (s.put (patNext d i.val e.val x.val { p with f := 0, stepPending := true } (p.pc + 1)))) ∧
    (∀ f q, bits w 31 27 = 10 → p.part < bits w 12 0 → emitOne d i.val e.val p none = .ok f q →
      (p.part + 1 < bits w 12 0 → exec (.pad i e x) s = .next (s.put (setCtx f i.val e.val x.val { q with part := p.part + 1 }))) ∧
      (p.part + 1 = bits w 12 0 → exec (.pad i e x) s = .next (s.put (patNext f i.val e.val x.val q (q.pc + 1))))) ∧
    (bits w 31 27 = 10 → bits w 12 0 = 0 → exec (.pad i e x) s = .next (s.put (patNext d i.val e.val x.val p (p.pc + 1)))) ∧
    (bits w 31 27 = 10 → p.part < bits w 12 0 → p.f ≠ 0 → (skeinAt (coreAt d i.val) p.skein).size ≤ p.f →
      exec (.pad i e x) s = .next (s.put (patFault d i.val e.val x.val p 4 cPatternAddr 0)))) ∧
  (∀ (d d' : Dev) (i e : Nat) (p q : PatCtx) (a : Option Nat), emitOne d i e p a = .ok d' q → q = { p with f := p.f + 1 }) ∧
  (∀ (d : Dev) (i e : Nat) (p : PatCtx), (p.f ≠ 0 ∨ ringReady (skeinAt (coreAt d i) p.skein) e = true) → p.f < (skeinAt (coreAt d i) p.skein).size → emitOne d i e p none = .ok d { p with f := p.f + 1 })

/-- DMA_DESCRIPTOR_START, the seven kinds, DMA_DESCRIPTOR_COMPLETE. -/
def Obligations.DmaChain : Prop :=
  (∀ (s : State) (i : Fin 288) (q : QCmd) (b : List Byte) (d : Dev) (src dst : End), awake s.dev = true → dmaHead s.dev i.val = some q → q.desc = none →
    isLocal s.dev i.val (dmaBase q.word.toNat + q.k) = true → spadBytesIn s.dev i.val q.slot ((dmaBase q.word.toNat + q.k) * 64) 64 = (.ok b, d) →
    dmaCrcOk b = true → dmaReserved b = false → kindEnds (dmaDesc b).kind = some (src, dst) →
    (xferRange d i.val q (dmaDesc b) src dst).or (xferRing d (dmaDesc b)) = none →
    exec (.dmaDescriptorStart i) s = .next (s.put (setHead (takeRing d i.val q (dmaDesc b)) i.val 5
      { q with desc := some { dmaDesc b with finished := decide ((dmaDesc b).total = 0) }, wait := 7 }))) ∧
  (∀ (s : State) (i : Fin 288) (q : QCmd) (x y : DmaDesc) (d : Dev) (k : Nat) (src dst : End), awake s.dev = true → dmaHead s.dev i.val = some q → q.desc = some x →
    x.kind = k → x.finished = false → stuckAt s.dev i.val 5 0 = false → kindEnds k = some (src, dst) → xferRun i.val q src dst (x.total + 1) s.dev x = .moved d y →
    (k = 0 → exec (.externalToScratchpad i) s = .next (s.put (pump (setHead d i.val 5 { q with desc := some { y with finished := true }, wait := 7 })))) ∧
    (k = 1 → exec (.scratchpadToExternal i) s = .next (s.put (pump (setHead d i.val 5 { q with desc := some { y with finished := true }, wait := 7 })))) ∧
    (k = 2 → exec (.scratchpadToScratchpad i) s = .next (s.put (pump (setHead d i.val 5 { q with desc := some { y with finished := true }, wait := 7 })))) ∧
    (k = 3 → exec (.externalToSkein i) s = .next (s.put (pump (setHead d i.val 5 { q with desc := some { y with finished := true }, wait := 7 })))) ∧
    (k = 4 → exec (.skeinToExternal i) s = .next (s.put (pump (setHead d i.val 5 { q with desc := some { y with finished := true }, wait := 7 })))) ∧
    (k = 5 → exec (.scratchpadToSkein i) s = .next (s.put (pump (setHead d i.val 5 { q with desc := some { y with finished := true }, wait := 7 })))) ∧
    (k = 6 → exec (.skeinToScratchpad i) s = .next (s.put (pump (setHead d i.val 5 { q with desc := some { y with finished := true }, wait := 7 }))))) ∧
  (∀ (s : State) (i : Fin 288) (q : QCmd) (x : DmaDesc), awake s.dev = true → dmaHead s.dev i.val = some q → q.desc = some x → x.finished = true →
    exec (.dmaDescriptorComplete i) s = .next (s.put (pump (setHead (dropRoles s.dev (fun r => decide (r = dmaRole i.val q))) i.val 5
      { q with desc := none, k := q.k + 1, done := decide (dmaN q.word.toNat ≤ q.k + 1) })))) ∧
  (∀ (s : State) (i : Fin 288) (q : QCmd) (x : DmaDesc), awake s.dev = true → dmaHead s.dev i.val = some q → q.desc = some x → x.kind ≠ 0 →
    exec (.externalToScratchpad i) s = .next s)

/-- CODEWORD_LOCK, TRAINING_START, TS_TRAIN_START, TS_TRAIN, TS_START, RX_LOCKED, TRAINING_TIMEOUT. -/
def Obligations.LinkTraining : Prop :=
  ∀ (s : State) (p : Fin 2), live s.dev = true →
    (∀ k : Fin 17, s.dev.code ≠ stSleep → (portAt s.dev p.val).st ≠ 0 →
      exec (.codewordLock p k) s = .next (s.put (modLane s.dev p.val k.val (fun l => { l with signal := true, lock := true })))) ∧
    (s.dev.code ≠ stSleep → (portAt s.dev p.val).st = 1 → exec (.trainingStart p) s = .next (s.put (setPort s.dev p.val { portAt s.dev p.val with sending := 1 }))) ∧
    ((portAt s.dev p.val).st = 1 → (portAt s.dev p.val).sending = 1 →
      exec (.tsTrainStart p) s = .next (s.put (setPort s.dev p.val { portAt s.dev p.val with st := 2, sending := 2 }))) ∧
    (∀ (k : Fin 17) (ts : List Byte) (skew : Nat), tsGood s.dev p.val k.val ts = false →
      exec (.tsTrain p k ts skew) s = .next (s.put (modLane s.dev p.val k.val (fun l => { l with ts := if 4 ≤ l.ts then l.ts else 0 })))) ∧
    (∀ (k : Fin 17) (ts : List Byte) (skew : Nat), tsGood s.dev p.val k.val ts = true → beAt ts 2 1 = 1 →
      exec (.tsTrain p k ts skew) s = .next (s.put (peerFlags (acceptTs s.dev p.val k.val ts skew) p.val ts))) ∧
    (∀ (k : Fin 17) (ts : List Byte) (skew m : Nat) (x : Port), tsGood s.dev p.val k.val ts = true → beAt ts 2 1 = 2 →
      portAt (peerFlags (acceptTs s.dev p.val k.val ts skew) p.val ts) p.val = x → beAt ts 16 4 % 2 ^ 17 = m →
      x.st = 2 → x.rxLocked = true → x.rxMask = 0 → 4 ≤ popMask m → (∀ l < 17, m.testBit l = true → x.held.testBit l = true) →
      exec (.tsStart p k ts skew) s = .next (s.put (setPort (peerFlags (acceptTs s.dev p.val k.val ts skew) p.val ts) p.val
        { x with rxMask := m, startRx := beAt ts 12 4 }))) ∧
    ((portAt s.dev p.val).st = 2 → 4 ≤ popMask (portAt s.dev p.val).held →
      exec (.rxLocked p) s = .next (s.put (setPort s.dev p.val { portAt s.dev p.val with rxLocked := true }))) ∧
    ((portAt s.dev p.val).st = 2 → (portAt s.dev p.val).attempt < 3 →
      exec (.trainingTimeout p) s = .next (s.put (startTraining s.dev p.val ((portAt s.dev p.val).attempt + 1)))) ∧
    ((portAt s.dev p.val).st = 2 → 3 ≤ (portAt s.dev p.val).attempt → exec (.trainingTimeout p) s = .next (s.put (linkDown s.dev p.val 7 0)))

/-- LOSS_OF_LOCK, LANE_DEGRADE_CHECK, LASER_BIAS_FAULT, SIGNAL_LOSS, SPARE_QUALIFIED, WIDTH_REQ_REPEAT. -/
def Obligations.LinkLanes : Prop :=
  (∀ (s : State) (p : Fin 2) (k : Fin 17) (signal : Bool) (n : Nat), live s.dev = true → (portAt s.dev p.val).st ≠ 0 →
    (laneAt (portAt s.dev p.val) k.val).lock = true → (laneAt (portAt s.dev p.val) k.val).logical = some n →
    exec (.lossOfLock p k signal) s = .next (s.put (retireLane (modLane (satAdd s.dev (Reg.LNK_LANE_LOL p.val n) 1) p.val k.val
      (fun l => { l with signal := signal, lock := false, ts := if 4 ≤ l.ts then l.ts else 0 })) p.val k.val 1))) ∧
  (∀ (s : State) (p : Fin 2) (corr uncorr : List Nat), live s.dev = true → (portAt s.dev p.val).st ≠ 0 →
    ((∀ k < 17, (laneAt (portAt s.dev p.val) k).logical = none) → exec (.laneDegradeCheck p corr uncorr) s = .next s) ∧
    (∀ k n r x, k < 17 → (laneAt (portAt s.dev p.val) k).logical = some n → (∀ j < 17, j ≠ k → (laneAt (portAt s.dev p.val) j).logical = none) →
      r = (if fld s.dev (Reg.LNK_CFG p.val) 7 0 * 1024 < corr.getD n 0 then (laneAt (portAt s.dev p.val) k).degraded + 1 else 0) →
      x = modLane (satAdd (satAdd s.dev (Reg.LNK_LANE_CORR p.val n) (corr.getD n 0)) (Reg.LNK_LANE_UNCORR p.val n) (uncorr.getD n 0)) p.val k (fun l => { l with degraded := r }) →
      (r < 3 → exec (.laneDegradeCheck p corr uncorr) s = .next (s.put x)) ∧
      (3 ≤ r → (∀ j < 17, k < j → (laneAt (portAt (retireLane x p.val k 2) p.val) j).logical = none) → exec (.laneDegradeCheck p corr uncorr) s = .next (s.put (retireLane x p.val k 2))))) ∧
  (∀ (s : State) (p : Fin 2) (n : Fin 17), live s.dev = true → (portAt s.dev p.val).st ≠ 0 →
    exec (.laserBiasFault p n) s = .next (s.put (elog 1 4 0x0405 (256 * p.val + n.val) 0 s.dev))) ∧
  (∀ (s : State) (p : Fin 2), live s.dev = true → (portAt s.dev p.val).st = 3 → p.val < s.dev.ports.length →
    exec (.signalLoss p) s = .next (s.put (linkDown (modPort s.dev p.val (fun x => { x with lanes := x.lanes.map (fun l => { l with signal := false, lock := false }) })) p.val 4 0))) ∧
  (∀ (s : State) (p : Fin 2), live s.dev = true → ((portAt s.dev p.val).st = 1 ∨ (portAt s.dev p.val).st = 2) →
    exec (.signalLoss p) s = .next (s.put ((List.finRange 17).foldl (fun d k => devLossOfLock p k false d) s.dev))) ∧
  (∀ (s : State) (p : Fin 2) (k : Nat) (x : Port), live s.dev = true → portAt s.dev p.val = x → x.qualify = true →
    (List.range 17).find? (fun k => decide ((laneAt x k).logical = some 16)) = some k →
    ((laneAt x k).retired = false → (laneAt x k).lock = true →
      ((if x.reqOpen then x.reqMask else x.rxMask).testBit 16 = false →
        exec (.spareQualified p true) s = .next (s.put (requestMask (setPort s.dev p.val { x with qualify := false }) p.val ((if x.reqOpen then x.reqMask else x.rxMask) + 2 ^ 16) false))) ∧
      exec (.spareQualified p false) s = .next (s.put (retireLane (setPort s.dev p.val { x with qualify := false }) p.val k 2))) ∧
    (∀ pass, ((laneAt x k).retired = true ∨ (laneAt x k).lock = false) → exec (.spareQualified p pass) s = .next (s.put (setPort s.dev p.val { x with qualify := false })))) ∧
  (∀ (s : State) (p : Fin 2), live s.dev = true → (portAt s.dev p.val).reqOpen = true →
    exec (.widthReqRepeat p) s = .next (s.put (setPort s.dev p.val { portAt s.dev p.val with reqDue := true })))

/-- FLIT_TRANSMIT, FLIT_RECEIVE, IDLE, NAK, WIDTH_REQ, WIDTH, DOWN, NAK_REPEAT, REPLAY_TIMEOUT. -/
def Obligations.LinkFlits : Prop :=
  (∀ (s : State) (p : Fin 2) (x : Port), live s.dev = true → portAt s.dev p.val = x → p.val < s.dev.ports.length → x.st = 3 → x.sending = 4 → x.txMask ≠ 0 → x.replayAt = none → x.replay.length < 2048 →
    (1023 ≤ x.idleGap → exec (.flitTransmit p) s = .next (s.put (putFlit s.dev p.val 0 0 0 [] []))) ∧
    (x.idleGap < 1023 → x.widthDue = none → x.reqDue = false → x.nakDue = false →
      ∀ hanks, (portClosed s.dev p.val && !(if p.val = 0 then s.dev.ring.loopW else s.dev.ring.loopE)) = hanks →
      (nextNew (portClosed s.dev p.val) hanks x = none → exec (.flitTransmit p) s = .next (s.put (putFlit s.dev p.val 0 0 0 [] []))) ∧
      (∀ f y, nextNew (portClosed s.dev p.val) hanks x = some (f, y) → f.typ ≠ 0 →
        exec (.flitTransmit p) s = .next (s.put (putFlit (setPort s.dev p.val { y with replay := y.replay ++ [f] }) p.val f.typ f.model x.nextSeq f.info f.data))) ∧
      (∀ b r, portClosed s.dev p.val = true → x.bar = b :: r → exec (.flitTransmit p) s = .next (s.put (putFlit (setPort s.dev p.val
        { x with bar := r, replay := x.replay ++ [⟨0x11, 0, [], b⟩] }) p.val 0x11 0 x.nextSeq [] b))))) ∧
  (∀ (s : State) (p : Fin 2) (x : Port), live s.dev = true → portAt s.dev p.val = x → x.st = 4 → x.downDue ≠ 0 →
    (1023 ≤ x.idleGap → exec (.flitTransmit p) s = .next (s.put (putFlit s.dev p.val 0 0 0 [] []))) ∧
    (x.idleGap < 1023 → exec (.flitTransmit p) s = .next (s.put (putFlit (setPort s.dev p.val { x with downDue := x.downDue - 1, sending := if x.downDue = 1 then 2 else x.sending })
      p.val 4 0 0 [byteOf x.reason] [])))) ∧
  (∀ (s : State) (p : Fin 2) (f : List Byte) (x : Port), live s.dev = true → portAt s.dev p.val = x → x.st = 3 → x.rxMask ≠ 0 → x.discarding = false →
    ((f.length ≠ 272 ∨ beAt f 268 4 ≠ crc32c (f.take 268)) → exec (.flitReceive p f) s = .next (s.put (wantNak (lcnt (lcnt s.dev p.val 1) p.val 2) p.val))) ∧
    (f.length = 272 → beAt f 268 4 = crc32c (f.take 268) → (beAt f 266 1).testBit 7 = false → beAt f 0 1 < 0x10 →
      flitReserved { x with rxUp := true } f = false → p.val < s.dev.ports.length →
      exec (.flitReceive p f) s = .next (s.put (modPort (modPort (lcnt s.dev p.val 1) p.val (fun x => { x with rxUp := true })) p.val
        (fun x => { x with ctl := x.ctl ++ [(beAt f 0 1, beAt f 2 2, slice f 4 4)] }))))) ∧
  (∀ (s : State) (p : Fin 2) (q : Nat) (info : List Byte) (d : Dev), live s.dev = true →
    (takeCtl s.dev p.val 0 = some (q, info, d) → exec (.idle p) s = .next (s.put d)) ∧
    (takeCtl s.dev p.val 1 = some (q, info, d) → exec (.nak p) s = .next (s.put (takeNak (lcnt d p.val 7) p.val q))) ∧
    (takeCtl s.dev p.val 2 = some (q, info, d) → ((beAt info 3 1 + 256 - (portAt d p.val).served) % 256 = 0 ∨ 128 ≤ (beAt info 3 1 + 256 - (portAt d p.val).served) % 256) → exec (.widthReq p) s = .next (s.put (takeNak d p.val q))) ∧
    (∀ x e, takeCtl s.dev p.val 2 = some (q, info, d) → 0 < (beAt info 3 1 + 256 - (portAt d p.val).served) % 256 → (beAt info 3 1 + 256 - (portAt d p.val).served) % 256 < 128 →
      (if 1023 ≤ (portAt d p.val).idleGap then putFlit d p.val 0 0 0 [] [] else d) = e → portAt e p.val = x →
      exec (.widthReq p) s = .next (s.put (restate (takeNak (lcnt (maskEvents (setPort e p.val { x with served := beAt info 3 1, txMask := beAt info 0 3, txRetired := x.txRetired ||| maskOf ((List.range 17).filter (fun l => x.txMask.testBit l && !(beAt info 0 3).testBit l)), widthDue := some (beAt info 0 3, beAt info 3 1), epoch := nextEpoch x.epoch (popMask x.txMask) x.number, number := 0 }) p.val x.txMask (beAt info 0 3)) p.val 11) p.val q)))) ∧
    (∀ x, takeCtl s.dev p.val 3 = some (q, info, d) → portAt d p.val = x → x.reqOpen = true → beAt info 3 1 = x.reqId → beAt info 0 3 = x.reqMask →
      exec (.width p) s = .next (s.put (restate (lcnt (maskEvents (setPort d p.val { x with rxMask := x.reqMask, reqOpen := false, reqDue := false, discarding := false })
        p.val x.rxMask x.reqMask) p.val 11)))) ∧
    (takeCtl s.dev p.val 4 = some (q, info, d) → (portAt d p.val).st ≠ 4 → exec (.down p) s = .next (s.put (linkDown d p.val 2 (beAt info 0 1)))) ∧
    (takeCtl s.dev p.val 4 = some (q, info, d) → (portAt d p.val).st = 4 → exec (.down p) s = .next (s.put (modPort d p.val (fun x => { x with peerCode := beAt info 0 1 }))))) ∧
  (∀ (s : State) (p : Fin 2), live s.dev = true → ((portAt s.dev p.val).st = 2 ∨ (portAt s.dev p.val).st = 3) →
    ((portAt s.dev p.val).nakSent = true → exec (.nakRepeat p) s = .next (s.put (setPort s.dev p.val { portAt s.dev p.val with nakDue := true }))) ∧
    exec (.replayTimeout p) s = .next (s.put (startReplay s.dev p.val)))

/-- The window of the link (09 R256, R257). -/
def Obligations.LinkWindow : Prop :=
  (∀ (d : Dev) (p a k : Nat) (x : Port), portAt d p = x → p < d.ports.length → x.oldest < 65536 → a < 65536 → k = (a + 65536 - x.oldest) % 65536 →
    (k < x.replay.length → x.replay.length ≤ 2048 →
      (portAt (takeAck d p a) p).oldest = (a + 1) % 65536 ∧ (portAt (takeAck d p a) p).replay = x.replay.drop (k + 1) ∧ (portAt (takeAck d p a) p).nextSeq = x.nextSeq) ∧
    (x.replay.length ≤ k → takeAck d p a = lcnt d p 5)) ∧
  (∀ (d : Dev) (p : Nat) (f : List Byte) (x : Port), portAt d p = x → p < d.ports.length → x.expected < 65536 → x.nakSent = false →
    (beAt f 2 2 = x.expected → (portAt (windowCheck d p f) p).expected = (x.expected + 1) % 65536 ∧ (portAt (windowCheck d p f) p).nakDue = false) ∧
    (0 < (beAt f 2 2 + 65536 - x.expected) % 65536 → (beAt f 2 2 + 65536 - x.expected) % 65536 < 2048 →
      (portAt (windowCheck d p f) p).expected = x.expected ∧ (portAt (windowCheck d p f) p).nakDue = true ∧ (portAt (windowCheck d p f) p).rx = x.rx))

/-- HANK, BARRIER, RING_MSG, TWIN, IDENT, IDENT_TIMER, REISSUE, MIRROR_REQ, FOLD_NOTICE, BARRIER_REQ. -/
def Obligations.RingArrivals : Prop :=
  (∀ (s : State) (p : Fin 2) (overflow : Bool) (ps : List HankPart) (r : List (List HankPart)), live s.dev = true → (portAt s.dev p.val).hanks = ps :: r → s.dev.ring.mode = 0 →
    exec (.hank p overflow) s = .next (s.put (protoErr (modPort s.dev p.val (fun x => { x with hanks := r })) p.val 0x10))) ∧
  (∀ (s : State) (p : Fin 2) (overflow : Bool) (ps : List HankPart) (r : List (List HankPart)) (d d1 : Dev) (h body : List Byte) (m index lap o : Nat) (im which : Image), live s.dev = true →
    (portAt s.dev p.val).hanks = ps :: r → s.dev.ring.mode = 1 → cntInc (modPort s.dev p.val (fun x => { x with hanks := r })) (Reg.LAP_CNT_LO 0) = d →
    headerOfParts ps = h → (ps.map (fun q => q.data)).flatten = body → headerGood ps h = true → (beAt h 1 1).testBit 1 = false → m = beAt h 0 1 → index = beAt h 12 4 → lap = beAt h 16 4 →
    hankImage d m (beAt h 4 4) lap = some im → bodyCrc im.gen { layer := beAt h 8 2, hank := beAt h 10 2, crc := 0 } index body = beAt h 20 4 → ((modelAt d m).imageOf lap).orElse (fun _ => (modelAt d m).active) = some which →
    index % 2 = p.val → passHank (mirrorTake d which index body) true lap m index (some body) = d1 →
    o = (if index < which.hanks.length then launcherOf d1 (originOf (max 1 (ringSize d1)) (index % 2) (blockNo (positions which) (max 1 (ringSize d1)) (index / 2))) else 256) →
    exec (.hank p overflow) s = .next (s.put (relayHank d1 p.val overflow o (index % 2) m index ps (fun d => passHank d true lap m index (some body))))) ∧
  (∀ (s : State) (p : Fin 2) (overflow : Bool) (ps : List HankPart) (r : List (List HankPart)) (d : Dev) (h : List Byte), live s.dev = true → (portAt s.dev p.val).hanks = ps :: r → s.dev.ring.mode = 1 →
    headerOfParts ps = h → headerGood ps h = false → evt (cntInc (cntInc (modPort s.dev p.val (fun x => { x with hanks := r })) (Reg.LAP_CNT_LO 0)) (Reg.LAP_CNT_LO 1)) Reg.LAP_EVT 1 = d →
    identify d p.val false h = none → exec (.hank p overflow) s = .next (s.put (relayHank d p.val overflow 256 p.val (beAt h 0 1) (beAt h 12 4) ps id))) ∧
  (∀ (s : State) (p : Fin 2) (b : List Byte) (d : Dev) (t : Token), live s.dev = true → takeSeq s.dev p.val 0x11 = some (b, d) →
    (tokenOf b = some t → exec (.barrier p) s = .next (s.put (tokenAt d (passFrom p.val) t))) ∧
    (tokenOf b = none → exec (.barrier p) s = .next (s.put (protoErr d p.val 0x11)))) ∧
  (∀ (s : State) (p : Fin 2) (b : List Byte) (d : Dev), live s.dev = true → takeSeq s.dev p.val 0x12 = some (b, d) → msgReserved b = false → beAt b 2 1 = stationNo d → beAt b 2 1 ≠ 0xFF →
    exec (.ringMsg p) s = .next (s.put { d with ring := { d.ring with msgs := d.ring.msgs ++ [{ kind := beAt b 0 1, src := beAt b 1 1, dst := beAt b 2 1, ttl := beAt b 3 1, body := slice b 8 8, port := p.val }] } })) ∧
  (∀ (s : State) (p : Fin 2) (b : List Byte) (d : Dev), live s.dev = true → takeRx s.dev p.val 0x13 = some (b, d) → 
    (twinMode d p.val = false → exec (.twin p) s = .next (s.put (protoErr d p.val 0x13))) ∧
    (∀ e, twinMode d p.val = true → beAt b 0 2 = 1 → e = { twinEntryOf (slice b 8 22) with time := d.now } →
      (twinWanted (twinCnt d 1 1) p.val e = true → exec (.twin p) s = .next (s.put (compareEntry (twinCnt d 1 1) e))) ∧
      (twinWanted (twinCnt d 1 1) p.val e = false → exec (.twin p) s = .next (s.put (twinCnt (twinCnt d 1 1) 5 1))))) ∧
  (∀ (s : State) (p : Fin 2), live s.dev = true → (portAt s.dev p.val).st = 3 →
    exec (.identTimer p) s = .next (s.put (modPort s.dev p.val (fun x => { x with ident := x.ident ++ [identBytes s.dev p.val] })))) ∧
  (∀ (s : State) (p : Fin 2) (b : List Byte) (d : Dev), live s.dev = true → takeSeq s.dev p.val 0x14 = some (b, d) → identCheck d p.val b = 0 → twinPartner d = none →
    portClosed d p.val = false → d.ring.loopW = false → d.ring.loopE = false →
    exec (.ident p) s = .next (s.put { d with ring := { d.ring with nbr := setAt d.ring.nbr p.val { seen := true, ok := true, peerOk := (beAt b 8 1).testBit 0, ringId := beAt b 4 1 % 128, station := beAt b 5 1, reason := 0, state := beAt b 36 1, twin := if (beAt b 8 1).testBit 1 then some (beAt b 9 1) else none } } })) ∧
  (∀ (s : State) (m : RingMsg) (d : Dev), live s.dev = true → popMsg s.dev 1 = some (m, d) → (modelAt d (beAt m.body 0 1)).active = none →
    exec .reissue s = .next (s.put (protoErr d m.port 0x12))) ∧
  (∀ (s : State) (m : RingMsg) (d d1 : Dev) (im : Image) (o : Nat), live s.dev = true → popMsg s.dev 1 = some (m, d) → (modelAt d (beAt m.body 0 1)).active = some im →
    im.ringed = true → beAt m.body 1 4 < im.hanks.length →
    originOf (max 1 (ringSize d)) (beAt m.body 1 4 % 2) (blockNo (positions im) (max 1 (ringSize d)) (beAt m.body 1 4 / 2)) = o → launcherOf d o = stationNo d →
    cntInc d (Reg.LAP_CNT_LO 4) = d1 →
    (d1.ring.checked.contains (beAt m.body 0 1, beAt m.body 1 4, beAt m.body 5 3) = true → exec .reissue s = .next (s.put d1)) ∧
    (d1.ring.checked.contains (beAt m.body 0 1, beAt m.body 1 4, beAt m.body 5 3) = false → o ≠ stationNo d1 →
      exec .reissue s = .next (s.put { d1 with ring := { d1.ring with checked := d1.ring.checked ++ [(beAt m.body 0 1, beAt m.body 1 4, beAt m.body 5 3)] } })) ∧
    (∀ (d2 d3 d4 : Dev) (e : StoreEnt) (b : Option (List Byte)) (g : List Byte), d1.ring.checked.contains (beAt m.body 0 1, beAt m.body 1 4, beAt m.body 5 3) = false → o = stationNo d1 →
      { d1 with ring := { d1.ring with checked := d1.ring.checked ++ [(beAt m.body 0 1, beAt m.body 1 4, beAt m.body 5 3)] } } = d2 →
      storeAt d2 (beAt m.body 0 1) im.gen (beAt m.body 1 4) = some e → readPlace d2 e.canon e.place = (b, d3) → b.any (fun b => bodyGood im (beAt m.body 1 4) b) = false →
      goldenHank d3 im (beAt m.body 1 4) = (some g, d4) →
      exec .reissue s = .next (s.put (storeHank (cntInc d4 (Reg.LAP_CNT_LO 5)) im (blockNo (positions im) (max 1 (ringSize d)) (beAt m.body 1 4 / 2)) (beAt m.body 1 4) g)))) ∧
  (∀ (s : State) (m : RingMsg) (d d' : Dev) (im : Image) (b : List Byte), live s.dev = true → popMsg s.dev 2 = some (m, d) → portClosed d 0 = true → d.ring.loopW = false → (modelAt d (beAt m.body 0 1)).imageOf d.ring.rlap = some im →
    mirrorHank d im (beAt m.body 1 4) = (some b, d') →
    exec .mirrorReq s = .next (s.put (modPort d' 0 (fun x => { x with hankQ := x.hankQ ++ [hankParts (beAt m.body 0 1) (hankHeader im (beAt m.body 1 4) d'.ring.rlap (some m.src)) b] })))) ∧
  (∀ (s : State) (m : RingMsg) (d : Dev), live s.dev = true → popMsg s.dev 3 = some (m, d) → d.ring.mode ≠ 0 → beAt m.body 0 1 = 0 →
    ((d.ring.mode = 1 ∨ d.ring.noticeW ≠ some m.src) →
      exec .foldNotice s = .next (s.put (pumpBarriers (removedSweep (endLap (splitSweep (foldDecide { foldBegin true d with ring := { (foldBegin true d).ring with noticeW := some m.src } })) true))))) ∧
    (d.ring.mode ≠ 1 → d.ring.noticeW = some m.src → exec .foldNotice s = .next (s.put (pumpBarriers (foldBegin false d))))) ∧
  (∀ (s : State) (m : RingMsg) (d : Dev), live s.dev = true → popMsg s.dev 3 = some (m, d) → d.ring.mode ≠ 0 → beAt m.body 0 1 ≠ 0 → (d.ring.mode = 1 ∨ d.ring.noticeE ≠ some m.src) →
    exec .foldNotice s = .next (s.put (pumpBarriers (removedSweep (endLap (splitSweep (foldDecide { foldBegin true d with ring := { (foldBegin true d).ring with noticeE := some m.src } })) true))))) ∧
  (∀ (s : State) (m : RingMsg) (d : Dev), live s.dev = true → popMsg s.dev 4 = some (m, d) → isLeader d = true → beAt m.body 0 1 ≠ 1 →
    exec .barrierReq s = .next (s.put (enqueueBarrier d m.src (beAt m.body 0 1) (beAt m.body 1 1) (beAt m.body 2 4))))

/-- BARRIER_FORM, BARRIER_ACTIVATE, BARRIER_ROLLBACK, BARRIER_REMOVE, BARRIER_JOIN, BARRIER_REFORM, BARRIER_TWIN_SYNC, BARRIER_SLEEP. -/
def Obligations.BarrierCommits : Prop :=
  ∀ (s : State) (t : Token) (d : Dev), live s.dev = true →
    (popCommit s.dev 1 = some (t, d) → d.code = stForming →
      exec .barrierForm s = .next (s.put (restate (setCode { d with ring := { d.ring with mode := 1, nLive := ringSize d, leader := t.leader, rlap := 0, prog := [{}, {}], rRun := false, held := false, interrupted := false } } stReady)))) ∧
    (∀ im, popCommit s.dev 2 = some (t, d) → (modelAt d t.model).staged = some im → im.gen = t.gen →
      exec .barrierActivate s = .next (s.put (askTwin (setModel d t.model { modelAt d t.model with pend := 1, effLap := some (if im.ringed then t.leff else (d.ring.plap + 1) % 2 ^ 32), refused := (0, 0) })
        t.model (some im)))) ∧
    (∀ im, popCommit s.dev 3 = some (t, d) → (modelAt d t.model).prev = some im → im.gen = t.gen → placement d im = none →
      exec .barrierRollback s = .next (s.put (askTwin (answerOps (setModel d t.model { modelAt d t.model with pend := 2, effLap := some (effectLap d t im.ringed) }) 4 t.model
        { op := 4, model := t.model, status := 9, gen := im.gen }) t.model (some im)))) ∧
    (∀ im vm its, popCommit s.dev 3 = some (t, d) → (modelAt d t.model).prev = some im → im.gen = t.gen → placement d im = some vm → itemsAll d im vm = some its →
      exec .barrierRollback s = .next (s.put (askTwin (answerOps (setModel { installItems its d with det := { (installItems its d).det with vmap := vm } } t.model
        { modelAt d t.model with pend := 2, effLap := some (effectLap { installItems its d with det := { (installItems its d).det with vmap := vm } } t im.ringed) }) 4 t.model
        { op := 4, model := t.model, status := 9, gen := im.gen }) t.model (some im)))) ∧
    (∀ im x, popCommit s.dev 4 = some (t, d) → (modelAt d t.model).active = some im →
      answerOps (setModel d t.model { modelAt d t.model with pend := 3, effLap := some (effectLap d t im.ringed) }) 3 t.model { op := 3, model := t.model, status := 8, gen := im.gen } = x →
      exec .barrierRemove s = .next (s.put (removedSweep (if schedRun x im.ringed then x else applySwitch x t.model)))) ∧
    (popCommit s.dev 5 = some (t, d) → d.code = stForming → anyActive d = false →
      exec .barrierJoin s = .next (s.put (restate (setCode { d with ring := { d.ring with mode := 1, nLive := ringSize d, leader := t.leader, joined := true } } stReady)))) ∧
    (popCommit s.dev 6 = some (t, d) → d.ring.rRun = true → d.ring.joined = false →
      exec .barrierReform s = .next (s.put ((evt d Reg.LAP_EVT 3).model.foldl (fun d x => askTwin d x.1 (if x.2.pend = 1 then x.2.staged else x.2.active))
        { evt d Reg.LAP_EVT 3 with ring := { d.ring with joinSeen := false, reformAt := some t.leff } }))) ∧
    (popCommit s.dev 7 = some (t, d) → ((t.arg.getD 0 0).toNat = stationNo d ∨ (t.arg.getD 1 0).toNat = stationNo d) →
      exec .barrierTwinSync s = .next (s.put (evt (setModel d (t.arg.getD 2 0).toNat { modelAt d (t.arg.getD 2 0).toNat with twinOn := true }) Reg.DET_EVT 4))) ∧
    (popCommit s.dev 8 = some (t, d) → exec .barrierSleep s = .next (s.put
      (if d.pwr.wakeDue then wakeUp (enterSleep (answerSleep { d with pwr := { d.pwr with wakeDue := false } } msSuccess))
       else enterSleep (answerSleep { d with pwr := { d.pwr with wakeDue := false } } msSuccess))))

/-- FORM_BARRIER_START, BARRIER_TIMEOUT, BARRIER_DISCARD, FOLD_NOTICE_TIMEOUT, LAP_LAUNCH, ACTIVATE_REQUEST_TIMER, AUTO_REFORM, REFORM_TIMER, MODEL_CLEANUP. -/
def Obligations.RingTimers : Prop :=
  (∀ s : State, live s.dev = true → s.dev.code = stForming → isLeader s.dev = true → stationNo s.dev = 0 → bothClosed s.dev = true → ringIsUp s.dev = false → ringSize s.dev ≤ 64 →
    exec .formBarrierStart s = .next (s.put (enqueueBarrier s.dev 0 1 0 0)) ∧
    (∀ p, s.dev.ring.flight = none → s.dev.ring.queue = [] → exitOf s.dev .east = some p →
      exec .formBarrierStart s = .next (s.put (startToken s.dev { kind := 1 })))) ∧
  (∀ (s : State) (t : Token), live s.dev = true → s.dev.ring.flight = some t → t.phase = 1 → isLeader s.dev = true →
    exec .barrierTimeout s = .next (s.put (pumpBarriers (releaseToken s.dev t false)))) ∧
  (∀ (s : State) (t : Token), live s.dev = true → s.dev.ring.voted = some t → t.leader ≠ stationNo s.dev → t.kind ≠ 8 →
    exec .barrierDiscard s = .next (s.put { s.dev with ring := { s.dev.ring with voted := none } })) ∧
  (∀ s : State, live s.dev = true → s.dev.ring.mode = 2 → s.dev.ring.noticeW.isSome ≠ s.dev.ring.noticeE.isSome →
    exec .foldNoticeTimeout s = .next (s.put (splitSweep (restate (elog 5 5 0x0505 0 0xFF (evt { s.dev with ring := { s.dev.ring with mode := 3, adopted := none, rRun := false } } Reg.LAP_EVT 6)))))) ∧
  (∀ (s : State) (pinned west : Bool) (n : Nat), live s.dev = true → (pinned = true ∨ ringOpen s.dev = true) → 5 ≤ s.dev.code → s.dev.code ≠ stLost → s.dev.code ≠ stSleep →
    exec (.lapLaunch pinned west n) s = .next (s.put ((launchNext (!pinned) (if west then 1 else 0))^[n] (if pinned then s.dev else removedSweep (endLap s.dev true))))) ∧
  (∀ (s : State) (k : Nat) (x : ModelSt) (im : Image), live s.dev = true → s.dev.ring.mode ≠ 0 → s.dev.ring.joined = false → s.dev.model = [(k, x)] → x.staged = some im → x.pend ≠ 1 →
    s.dev.ring.lastKind ≠ 7 → (askBarrier s.dev 2 k im.gen).ring.lastKind ≠ 7 →
    exec .activateRequestTimer s = .next (s.put (askBarrier s.dev 2 k im.gen))) ∧
  (∀ (s : State) (p : Fin 2), awake s.dev = true → (portAt s.dev p.val).st = 4 → (rd s.dev Reg.LAP_CFG).getLsbD 31 = true →
    4 ≤ ((portAt s.dev p.val).lanes.filter (fun l => l.signal)).length →
    exec (.autoReform p) s = .next (s.put (restate (startTraining s.dev p.val 1)))) ∧
  (∀ s : State, live s.dev = true → isLeader s.dev = true → s.dev.ring.joinSeen = true →
    exec .reformTimer s = .next (s.put (enqueueBarrier (enqueueBarrier s.dev (stationNo s.dev) 5 0 0) (stationNo s.dev) 6 0 0))) ∧
  (∀ (s : State) (m : Fin 16), live s.dev = true → ((modelAt s.dev (m.val + 1)).going).filter (fun im => !imageBusy s.dev im) = [] → exec (.modelCleanup m) s = .next s) ∧
  (∀ (s : State) (m : Fin 16) (im : Image) (d : Dev), live s.dev = true → (modelAt s.dev (m.val + 1)).going = [im] → imageBusy s.dev im = false → (modelAt s.dev (m.val + 1)).active.isSome = true →
    setModel s.dev (m.val + 1) { modelAt s.dev (m.val + 1) with going := [] } = d →
    ∃ e, exec (.modelCleanup m) s = .next (s.put e) ∧ (modelAt d (m.val + 1)).going = [] ∧ e.fcs = (prunePlacement (uninstall d im (installed d)) (installed d)).fcs ∧
      (∀ c ∈ e.xmem.copies, c.model = m.val + 1 → c.gen ∈ [(modelAt e (m.val + 1)).active, (modelAt e (m.val + 1)).staged, (modelAt e (m.val + 1)).prev].filterMap (fun y => y.map (fun im => im.gen))))

/-- CHANNEL_UNIT_START, CHANNEL_ERROR, CHANNEL_MAP_OUT, REBUILD_COMPLETE, REFRESH, TG_START, TG_STOP, TG_RUN_COMPLETE. -/
def Obligations.MemoryControllers : Prop :=
  (∀ (s : State) (u : Fin 12) (c : Fin 32), awake s.dev = true → hasCh u.val c.val = true → chGone s.dev u.val c.val = false →
    (∀ (ready : List (Fin 8)) (final : Bool) (n : Fin 17) (going : Nat) (best : Option Nat) (cr : List Int), smGet 0 s.dev.xmem.inReq (chKey u.val c.val) = going →
      chooseClass (chWeights s.dev u.val c.val) (chCredits s.dev u.val c.val) (smGet 7 s.dev.xmem.last (chKey u.val c.val)) ready (if going = 0 then none else some (going - 1)) = (best, cr) →
      ∃ t, exec (.channelUnitStart u c ready ⟨final, n⟩) s = .next t ∧ chCredits t.dev u.val c.val = cr ∧
        smGet 0 t.dev.xmem.inReq (chKey u.val c.val) = (match best with | some b => if final then 0 else b + 1 | none => going) ∧
        t.dev.xmem.weights = s.dev.xmem.weights ∧ t.dev.mem = s.dev.mem ∧ t.dev.regs.val = s.dev.regs.val) ∧
    (∀ (temp : BitVec 8) (n : Nat), 85 < temp.toInt →
      exec (.refresh u c temp n) s = .next (s.put (xcnt (setFld (setFld s.dev (xreg u.val 0) 31 24 temp.toNat) (xreg u.val 0) 23 23 1) u.val 6 n))) ∧
    (∀ (temp : BitVec 8) (n : Nat), temp.toInt < 80 →
      exec (.refresh u c temp n) s = .next (s.put (xcnt (setFld (setFld s.dev (xreg u.val 0) 31 24 temp.toNat) (xreg u.val 0) 23 23 0) u.val 6 n))) ∧
    (∀ (temp : BitVec 8) (n : Nat), 80 ≤ temp.toInt → temp.toInt ≤ 85 →
      exec (.refresh u c temp n) s = .next (s.put (xcnt (setFld s.dev (xreg u.val 0) 31 24 temp.toNat) u.val 6 n)))) ∧
  (∀ (s : State) (u : Fin 12) (c : Fin 32) (a : Fin (2 ^ 40)) (st covered : Nat), awake s.dev = true → hasCh u.val c.val = true → chState s.dev u.val c.val = 0 → ctlOf s.dev a.val = some u.val → chOf u.val a.val = c.val →
    st = xreg u.val (0x200 + 4 * c.val) →
    exec (.channelError u c a ⟨.corrected, covered⟩) s = .next (s.put (xcnt s.dev u.val 4 1)) ∧
    (u.val < 4 → exec (.channelError u c a ⟨.uncorrectable, covered⟩) s = .next (s.put { s.dev with mem := { s.dev.mem with extErr := smSet 0 s.dev.mem.extErr (a.val / 64) 1 } })) ∧
    (∀ (code : Fin 3) (n : Fin 5) (good : Bool) (k : Nat) (d e : Dev), k = (if good then max 1 n.val else 4) → evt (xcnt s.dev u.val 2 k) (xreg u.val 0x00C) 2 = d →
      { setFld (setFld d st 27 24 (code.val + 1)) st 15 0 (min (fld d st 15 0 + k) 0xffff) with
          xmem := { s.dev.xmem with retryWin := smSet 0 s.dev.xmem.retryWin (chKey u.val c.val) (smGet 0 s.dev.xmem.retryWin (chKey u.val c.val) + k) } } = e →
      (good = false → exec (.channelError u c a ⟨.retried code n good, covered⟩) s = .next (s.put (becomeFailing (xcnt e u.val 3 1) u.val c.val 1 a.val covered))) ∧
      (good = true → fld e (xreg u.val 0x014) 31 16 < smGet 0 s.dev.xmem.retryWin (chKey u.val c.val) + k →
        exec (.channelError u c a ⟨.retried code n good, covered⟩) s = .next (s.put (becomeFailing e u.val c.val 2 a.val covered))) ∧
      (good = true → smGet 0 s.dev.xmem.retryWin (chKey u.val c.val) + k ≤ fld e (xreg u.val 0x014) 31 16 → exec (.channelError u c a ⟨.retried code n good, covered⟩) s = .next (s.put e)))) ∧
  (∀ (s : State) (u : Fin 12) (c : Fin 32), live s.dev = true → hasCh u.val c.val = true →
    (chState s.dev u.val c.val = 1 → exec (.channelMapOut u c) s = .next (s.put (mapOut s.dev u.val c.val (smGet 0 s.dev.xmem.why (chKey u.val c.val))))) ∧
    (chState s.dev u.val c.val ≠ 1 → exec (.channelMapOut u c) s = .next s)) ∧
  (∀ (s : State) (m : Fin 16) (g : BitVec 32) (k : Fin 8) (c : ImgCopy) (im : Image) (gs : List Nat), awake s.dev = true → copyAt s.dev (m.val + 1) g.toNat k.val = some c → imageByGen s.dev (m.val + 1) g.toNat = some im →
    (freeGranules s.dev c.stack).take c.granules.length = gs →
    (c.damaged = false → exec (.rebuildComplete m g k) s = .next s) ∧
    (c.damaged = true → (k.val < 2 ∨ 6 ≤ k.val) →
      ((freeGranules s.dev c.stack).length < c.granules.length → exec (.rebuildComplete m g k) s = .next (s.put (elog 4 6 0x0605 (256 * c.stack + 0xFF) c.model s.dev))) ∧
      (∀ o, c.granules.length ≤ (freeGranules s.dev c.stack).length → copyAt s.dev (m.val + 1) im.gen (if k.val < 2 then 1 - k.val else 13 - k.val) = some o →
        (o.damaged = true → exec (.rebuildComplete m g k) s = .next (s.put (elog 4 6 0x0605 (256 * c.stack + 0xFF) c.model s.dev))) ∧
        (∀ hs ns d, o.damaged = false → k.val < 2 → rebuildPinned im (1 - k.val) c.stack c.hanks gs s.dev = (hs, ns, true, d) →
          exec (.rebuildComplete m g k) s = .next (s.put (replaceCopy d c { c with hanks := hs, granules := ns }))) ∧
        (∀ hs ns d, o.damaged = false → k.val < 2 → rebuildPinned im (1 - k.val) c.stack c.hanks gs s.dev = (hs, ns, false, d) →
          exec (.rebuildComplete m g k) s = .next (s.put (rebuildFailed (replaceCopy d c { c with hanks := hs, granules := ns }) c))) ∧
        (∀ b d e, o.damaged = false → 6 ≤ k.val → readGranules o.stack 0 o.granules s.dev = (some b, d) → writeGranules c.stack gs b d = some e →
          exec (.rebuildComplete m g k) s = .next (s.put (replaceCopy (xcnt e c.stack 9 (2048 * gs.length)) c { c with granules := gs }))))) ∧
    (∀ d b, c.damaged = true → 2 ≤ k.val → k.val ≤ 5 → 32 * (c.hanks.countP (fun i => !(((copyAt s.dev (m.val + 1) im.gen (k.val + 10)).map (fun b => b.hanks)).getD []).contains i)) ≤ (freeGranules s.dev c.stack).length →
      (if k.val < 4 then rebuildShard s.dev im c else s.dev) = d → copyAt d (m.val + 1) im.gen (k.val + 10) = some b →
      ((∀ i ∈ c.hanks, i ∈ b.hanks) → exec (.rebuildComplete m g k) s = .next (s.put (replaceCopy d c b))) ∧
      ((∃ i ∈ c.hanks, i ∉ b.hanks) → exec (.rebuildComplete m g k) s = .next (s.put d)))) ∧
  (∀ (s : State) (u : Fin 12) (c : Fin 32), awake s.dev = true → hasCh u.val c.val = true →
    (mgmtOpen s.dev = true → chGone s.dev u.val c.val = false → fld s.dev (tgReg u.val c.val 0x18) 31 30 ≠ 1 → rdn s.dev (tgReg u.val c.val 0x14) ≠ 0 →
      ∃ t, exec (.tgStart u c) s = .next t ∧ rd t.dev (tgReg u.val c.val 0x18) = 0x40000000#32 ∧ rd t.dev (tgReg u.val c.val 0x1C) = 0 ∧ cnt t.dev (tgReg u.val c.val 0x20) = 0) ∧
    (fld s.dev (tgReg u.val c.val 0x18) 31 30 = 1 →
      exec (.tgRunComplete u c) s = .next (s.put (setFld (tgRun s.dev u.val c.val (rdn s.dev (tgReg u.val c.val 0x14))) (tgReg u.val c.val 0x18) 31 30 2)) ∧
      (∀ n, mgmtOpen s.dev = true → exec (.tgStop u c n) s = .next (s.put (setFld (tgRun s.dev u.val c.val (min n (rdn s.dev (tgReg u.val c.val 0x14)))) (tgReg u.val c.val 0x18) 31 30 3)))))

/-- LINK_RETRY, AUTONEG_COMPLETE, LINK_DOWN, FRAME_RECEIVE. -/
def Obligations.EthLinksAndFrames : Prop :=
  (∀ (s : State) (n : Fin 2) (p : Fin 8), live s.dev = true → ethAllowed s.dev n.val = true → p.val < subPorts s.dev n.val → (spAt s.dev n.val p.val).up = false →
    (∀ locks, (rd s.dev (Reg.ETH_CFG n.val)).getLsbD 4 = false → exec (.linkRetry n p locks) s = .next (s.put (setLink s.dev n.val p.val locks false))) ∧
    ((rd s.dev (Reg.ETH_CFG n.val)).getLsbD 4 = true →
      (∀ locks d, setLink s.dev n.val p.val false false = d →
        exec (.linkRetry n p locks) s = .next (s.put (setSp d n.val p.val { spAt d n.val p.val with page := some (1#4 <<< fld d (Reg.ETH_CFG n.val) 1 0, 0) }))) ∧
      (∀ partner trained, (1#4 <<< fld s.dev (Reg.ETH_CFG n.val) 1 0) &&& partner ≠ 0 →
        exec (.autonegComplete n p partner trained) s = .next (s.put (setLink s.dev n.val p.val trained true))) ∧
      (∀ partner trained, (1#4 <<< fld s.dev (Reg.ETH_CFG n.val) 1 0) &&& partner = 0 →
        exec (.autonegComplete n p partner trained) s = .next (s.put (evt (setLink s.dev n.val p.val false false) (Reg.ETH_EVT n.val) 1))))) ∧
  (∀ (s : State) (n : Fin 2) (p : Fin 8), live s.dev = true → exec (.linkDown n p) s = .next (s.put (setLink s.dev n.val p.val false false))) ∧
  (∀ (d : Dev) (n p : Nat) (up an : Bool),
    spAt (setLink d n p up an) n p = { spAt d n p with up := up, an := an } ∧ ((spAt d n p).up ≠ up → (rd (setLink d n p up an) (Reg.ETH_EVT n)).getLsbD 0 = true) ∧
      (setLink d n p up an).core = d.core ∧ (setLink d n p up an).mem = d.mem ∧ (setLink d n p up an).rvp = d.rvp) ∧
  (∀ (s : State) (n : Fin 2) (p : Fin 8) (fr : List Byte) (fec : List (Fin 8 × BitVec 16 × BitVec 16)), live s.dev = true →
    ((spAt s.dev n.val p.val).up = false → exec (.frameReceive n p ⟨fr, fec⟩) s = .next s) ∧
    (∀ d, (spAt s.dev n.val p.val).up = true → p.val < subPorts s.dev n.val → ecnt (ecnt (fecCount s.dev n.val p.val fec) n.val p.val 0 1) n.val p.val 1 fr.length = d →
      (4 ≤ fr.length → leAt fr (fr.length - 4) 4 ≠ crc32 (fr.take (fr.length - 4)) → exec (.frameReceive n p ⟨fr, fec⟩) s = .next (s.put (ecnt d n.val p.val 2 1))) ∧
      (4 ≤ fr.length → leAt fr (fr.length - 4) 4 = crc32 (fr.take (fr.length - 4)) → fr.length < 64 → exec (.frameReceive n p ⟨fr, fec⟩) s = .next (s.put (ecnt d n.val p.val 3 1))) ∧
      (leAt fr (fr.length - 4) 4 = crc32 (fr.take (fr.length - 4)) → 9216 < fr.length → exec (.frameReceive n p ⟨fr, fec⟩) s = .next (s.put (ecnt d n.val p.val 4 1))) ∧
      (∀ who prio ip udp data e x, rxCheck d n.val p.val fr = (.give who prio ip udp data, e) →
        x = { port := n.val, sp := p.val, mac := slice fr 6 6, ip := ip, udp := udp, time := frameTime s.dev n.val, flen := fr.length, prio := prio, data := data } →
        (who = 0 → exec (.frameReceive n p ⟨fr, fec⟩) s = .next (s.put (pfcCheck { e with rvp := { e.rvp with rx := e.rvp.rx ++ [x] } } n.val p.val))) ∧
        (who = 1 → ptpTaken e n.val data = true → exec (.frameReceive n p ⟨fr, fec⟩) s = .next (s.put (pfcCheck { e with eth := { e.eth with ptp := e.eth.ptp ++ [x] } } n.val p.val))) ∧
        (who = 1 → ptpTaken e n.val data = false → exec (.frameReceive n p ⟨fr, fec⟩) s = .next (s.put (ecnt e n.val p.val 12 1))) ∧
        (who = 2 → exec (.frameReceive n p ⟨fr, fec⟩) s = .next (s.put (pfcCheck { e with eth := { e.eth with arp := e.eth.arp ++ [x] } } n.val p.val))) ∧
        (who = 3 → exec (.frameReceive n p ⟨fr, fec⟩) s = .next (s.put (pfcCheck { e with eth := { e.eth with nd := e.eth.nd ++ [x] } } n.val p.val)))))) ∧
  (∀ (d : Dev) (n p : Nat) (l : Fin 8) (c u : BitVec 16),
    (l.val / (8 / subPorts d n) = p → fecCount d n p [(l, c, u)] = satAdd (satAdd d (Reg.ETH_LANE_FEC n l.val 0) c.toNat) (Reg.ETH_LANE_FEC n l.val 1) u.toNat) ∧
    (l.val / (8 / subPorts d n) ≠ p → fecCount d n p [(l, c, u)] = d))

/-- PFC_REPEAT, PFC_PAUSE_EXPIRY, ARP_REQUEST, NEIGHBOR_SOLICITATION, TX_SA_WAIT_EXPIRY. -/
def Obligations.EthAnswers : Prop :=
  ∀ (s : State) (n : Fin 2) (p : Fin 8), live s.dev = true →
    ((∀ k, (spAt s.dev n.val p.val).up = true → (spAt s.dev n.val p.val).xoff.filter (aboveXoff s.dev n.val p.val) = [k] → exec (.pfcRepeat n p) s = .next (s.put (sendPfc s.dev n.val p.val k 0xffff))) ∧
     (((spAt s.dev n.val p.val).up = false ∨ (spAt s.dev n.val p.val).xoff.filter (aboveXoff s.dev n.val p.val) = []) → exec (.pfcRepeat n p) s = .next s)) ∧
    (∀ k : Fin 8, (spAt s.dev n.val p.val).queue = [] →
      exec (.pfcPauseExpiry n p k) s = .next (s.put (setSp s.dev n.val p.val { spAt s.dev n.val p.val with paused := (spAt s.dev n.val p.val).paused.filter (fun x => x != k.val) }))) ∧
    (∀ x rest d, takeFirst (fun x : RxDgram => decide (x.port = n.val) && decide (x.sp = p.val)) s.dev.eth.arp = some (x, rest) → pfcCheck { s.dev with eth := { s.dev.eth with arp := rest } } n.val p.val = d →
      (x.data.take 8 = [0, 1, 8, 0, 6, 4, 0, 1] → slice x.data 24 4 = spIp4 d n.val p.val → ipSet (spIp4 d n.val p.val) = true →
        exec (.arpRequest n p) s = .next (s.put (txFrame d n.val p.val (slice x.data 8 6) ([0x08, 0x06, 0, 1, 8, 0, 6, 4, 0, 2] ++ spMac d n.val p.val ++ spIp4 d n.val p.val ++ slice x.data 8 10) false))) ∧
      (slice x.data 24 4 ≠ spIp4 d n.val p.val → exec (.arpRequest n p) s = .next (s.put d))) ∧
    (∀ x rest d, takeFirst (fun x : RxDgram => decide (x.port = n.val) && decide (x.sp = p.val)) s.dev.eth.nd = some (x, rest) → pfcCheck { s.dev with eth := { s.dev.eth with nd := rest } } n.val p.val = d →
      (slice x.data 8 16 = spIp6 d n.val p.val → ipSet x.ip = true → ∃ body, exec (.neighborSolicitation n p) s = .next (s.put (txFrame d n.val p.val x.mac (ipPacket d n.val p.val (spIp6 d n.val p.val) x.ip 58 255 body) false)) ∧
        body.take 2 = [136, 0] ∧ slice body 4 4 = [0x60, 0, 0, 0] ∧ slice body 8 16 = spIp6 d n.val p.val ∧ slice body 24 8 = [2, 1] ++ spMac d n.val p.val) ∧
      (slice x.data 8 16 ≠ spIp6 d n.val p.val → exec (.neighborSolicitation n p) s = .next (s.put d))) ∧
    (∀ a left, txSa (spAt s.dev n.val p.val) = some a → macsecOn s.dev n.val p.val = true → 2 ^ 64 - 1 ≤ a.pn →
      left = (spAt s.dev n.val p.val).queue.filter (fun f => decide (s.dev.now < f.time + 1000000)) →
      exec (.txSaWaitExpiry n p) s = .next (s.put (ecnt (setSp s.dev n.val p.val { spAt s.dev n.val p.val with queue := left }) n.val p.val 19 ((spAt s.dev n.val p.val).queue.length - left.length)))) ∧
    (macsecOn s.dev n.val p.val = false → exec (.txSaWaitExpiry n p) s = .next s)

/-- ANNOUNCE, SYNC, FOLLOW_UP, DELAY_RESP, DELAY_REQ (message layouts and the qualification of masters: log entry 13). -/
def Obligations.PtpMessages : Prop :=
  (∀ (s : State) (n : Fin 2), live s.dev = true →
    (∀ x d a c, takePtp s.dev n.val 11 = some (x, d) → ptpAt d n.val = c →
      a = ({ port := slice x.data 20 10, prio1 := beAt x.data 47 1, clsAcc := beAt x.data 48 2, variance := beAt x.data 50 2, prio2 := beAt x.data 52 1, gm := slice x.data 53 8, steps := beAt x.data 61 2 } : PtpMaster) →
      exec (.announce n) s = .next (s.put (ptpSelect n.val (setPtp d n.val { c with foreign := c.foreign.filter (fun f => decide (f.data.port ≠ a.port)) ++
        [{ data := a, logInt := beAt x.data 33 1, last := x.time, prev := (c.foreign.find? (fun f => decide (f.data.port = a.port))).map (fun o => o.last) }] })))) ∧
    (∀ x d c, takePtp (ptpSelect n.val s.dev) n.val 0 = some (x, d) → c = { ptpAt d n.val with syncSeq := beAt x.data 30 2, syncRx := x.time } →
      (fromMaster (ptpAt d n.val) x.data = false → exec (.sync n) s = .next (s.put d)) ∧
      (fromMaster (ptpAt d n.val) x.data = true → (beAt x.data 6 1).testBit 1 = true → exec (.sync n) s = .next (s.put (setPtp d n.val { c with twoStep := true, corr := ptpCorr x.data }))) ∧
      (fromMaster (ptpAt d n.val) x.data = true → (beAt x.data 6 1).testBit 1 = false → exec (.sync n) s = .next (s.put (ptpSample d n.val c (ptpStamp x.data 34 + ptpCorr x.data))))) ∧
    (∀ x d c, takePtp (ptpSelect n.val s.dev) n.val 8 = some (x, d) → ptpAt d n.val = c → fromMaster c x.data = true → c.twoStep = true →
      (c.syncSeq = beAt x.data 30 2 → exec (.followUp n) s = .next (s.put (ptpSample d n.val c (ptpStamp x.data 34 + ptpCorr x.data + c.corr)))) ∧
      (c.syncSeq ≠ beAt x.data 30 2 → exec (.followUp n) s = .next (s.put d))) ∧
    (∀ x d c, takePtp (ptpSelect n.val s.dev) n.val 9 = some (x, d) → ptpAt d n.val = c → fromMaster c x.data = true → c.reqOut = true → slice x.data 44 10 = clockId d n.val → beAt x.data 30 2 = c.reqSeq →
      exec (.delayResp n) s = .next (s.put (setPtp d n.val { c with reqOut := false, interval := some (beAt x.data 33 1), delay := ((c.t2 - c.t1) + (ptpStamp x.data 34 - ptpCorr x.data - c.reqAt)) / 2 }))) ∧
    (∀ d c, ptpSelect n.val s.dev = d → ptpAt d n.val = c →
      (c.master = none → exec (.delayReq n) s = .next (s.put d)) ∧
      (∀ t b, c.reqLast = some t → c.interval = some b → d.now < t + logInterval b → exec (.delayReq n) s = .next (s.put d)) ∧
      (∀ e m, c.master.isSome = true → (spAt d n.val (ptpSp d n.val)).up = true → (∀ t b, c.reqLast = some t → c.interval = some b → t + logInterval b ≤ d.now) →
        setPtp d n.val { c with reqSeq := (c.reqSeq + 1) % 65536, reqLast := some d.now, reqOut := true } = e →
        m = ([1, 2, 0, 44, byteOf (fld d (Reg.ETH_CFG n.val) 31 24), 0, 0, 0] ++ List.replicate 12 0 ++ clockId d n.val ++ beBytes 2 ((c.reqSeq + 1) % 65536) ++ [1, 0x7f] ++ List.replicate 10 0 : List Byte) →
        (ptpTrans d n.val = 0 → exec (.delayReq n) s = .next (s.put (txFrameAs true e n.val (ptpSp d n.val) [0x01, 0x1b, 0x19, 0, 0, 0] ([0x88, 0xf7] ++ m) false))) ∧
        (ptpTrans d n.val = 1 → exec (.delayReq n) s = .next (s.put (udpSendAs true e n.val (ptpSp d n.val) [0x01, 0x00, 0x5e, 0, 0x01, 0x81] [224, 0, 1, 129] 319 319 m false))) ∧
        (2 ≤ ptpTrans d n.val → exec (.delayReq n) s = .next (s.put (udpSendAs true e n.val (ptpSp d n.val) [0x33, 0x33, 0, 0, 0x01, 0x81]
          [0xff, 0x0e, 0, 0, 0, 0, 0, 0, 0, 0, 0, 0, 0, 0, 0x01, 0x81] 319 319 m false)))))) ∧
  (∀ (d : Dev) (n : Nat) (f : TxFrame), n < d.tim.ptp.length → f.event = true → (ptpAt (noteSent d n f) n).reqAt = frameTime d n) ∧
  (∀ (d : Dev) (n : Nat) (l : List PtpForeign), n < d.tim.ptp.length → (ptpAt d n).foreign.filter (fun f => f.heard d.now && f.qualified) = l →
    (l = [] → (ptpAt (ptpSelect n d) n).master = none ∧ (ptpSelect n d).tim.valid.getD n false = false) ∧
    (∀ f, l = [f] → (ptpAt (ptpSelect n d) n).master = some f.data) ∧
    (∀ f g, l = [f, g] → (ptpAt (ptpSelect n d) n).master = some (if lexLt (masterKey g.data) (masterKey f.data) then g.data else f.data)))

/-- RVP_FRAME_RECEIVE, SESSION_OPEN, SESSION_CLOSE, SESSION_IDLE_TIMEOUT. -/
def Obligations.RvpSessions : Prop :=
  (∀ (s : State) (x : RxDgram) (rest : List RxDgram) (d : Dev), live s.dev = true → s.dev.rvp.rx = x :: rest → rcnt (pfcCheck { s.dev with rvp := { s.dev.rvp with rx := rest } } x.port x.sp) 0 1 = d →
    (u7Only (beAt x.data 1 1) = true → exec .rvpFrameReceive s = .next (s.put (rcnt d 14 1))) ∧
    (u7Only (beAt x.data 1 1) = false → 4 ≤ d.code → d.code ≠ stLost → d.code ≠ stHalted → d.code ≠ stSleep →
      (beAt x.data 0 1 ≠ 1 → exec .rvpFrameReceive s = .next (s.put (errNone d x eVersion (beAt x.data 1 1) 0))) ∧
      (rvpStep1 x.data = none → d.code ≠ stForming → beAt x.data 1 1 = 1 → exec .rvpFrameReceive s = .next (s.put { d with rvp := { d.rvp with body := d.rvp.body ++ [x] } })) ∧
      (rvpStep1 x.data = none → d.code ≠ stForming → beAt x.data 1 1 ≠ 1 → sessAt d (beAt x.data 2 2) = none → exec .rvpFrameReceive s = .next (s.put (rcnt d 9 1))) ∧
      (∀ y, rvpStep1 x.data = none → d.code ≠ stForming → beAt x.data 1 1 ≠ 1 → sessAt d (beAt x.data 2 2) = some y → y.token = beAt x.data 4 4 → y.port = x.port → y.sp = x.sp → y.ip = x.ip → y.udp = x.udp →
        ∃ t, exec .rvpFrameReceive s = .next t ∧ sessAt t.dev (beAt x.data 2 2) = some { y with idleFrom := d.now } ∧ t.dev.rvp.body = d.rvp.body ++ [x]))) ∧
  (∀ (s : State) (x : RxDgram) (d : Dev), live s.dev = true → takeBody s.dev 1 = some (x, d) → x.data.length = 32 → beAt x.data 2 2 = 0 → beAt x.data 4 4 = 0 → 1 ≤ beAt x.data 29 1 → beAt x.data 29 1 ≤ 3 → beAt x.data 30 2 = 0 →
    (beAt x.data 28 1 = 2 → loadAllowed d x.port x.sp = false → exec .sessionOpen s = .next (s.put (errNone d x eRole 1 0))) ∧
    (∀ n y, beAt x.data 28 1 = 1 → d.rvp.sess = [(n, y)] → y.port = x.port → y.sp = x.sp → y.ip = x.ip → y.udp = x.udp → y.partner = beAt x.data 16 8 → y.nonce = beAt x.data 24 4 →
      exec .sessionOpen s = .next (s.put (sendOpen d n y))) ∧
    (∀ g tok e, beAt x.data 28 1 = 1 → d.rvp.sess = [] → g = min (fld d Reg.RVP_CREDIT_CFG 31 16) (retUsable d x.port) → 64 ≤ g → newToken d 1 = (tok, e) → e.rvp.sess = [] →
      exec .sessionOpen s = .next (s.put (sendOpen (putSess e 1 (some { st := 1, partner := beAt x.data 16 8, nonce := beAt x.data 24 4, role := 1, fallback := beAt x.data 29 1, port := x.port, sp := x.sp, mac := x.mac, ip := x.ip, udp := x.udp, token := tok, grant := g, idleFrom := e.now, limitSent := g, rise := e.now }))
        1 { st := 1, partner := beAt x.data 16 8, nonce := beAt x.data 24 4, role := 1, fallback := beAt x.data 29 1, port := x.port, sp := x.sp, mac := x.mac, ip := x.ip, udp := x.udp, token := tok, grant := g, idleFrom := e.now, limitSent := g, rise := e.now }))) ∧
    (∀ g, beAt x.data 28 1 = 1 → d.rvp.sess = [] → g = min (fld d Reg.RVP_CREDIT_CFG 31 16) (retUsable d x.port) → g < 64 → exec .sessionOpen s = .next (s.put (errNone d x eNoCredit 1 0)))) ∧
  (∀ (s : State) (x : RxDgram) (d : Dev) (y : Session), live s.dev = true → takeBody s.dev 2 = some (x, d) → x.data.length = 24 → beAt x.data 16 1 = 1 → beAt x.data 18 6 = 0 → sessAt d (beAt x.data 2 2) = some y →
    (y.st = 2 → beAt x.data 17 1 ≤ 1 → exec .sessionClose s = .next (s.put d)) ∧
    (y.st ≠ 2 → beAt x.data 17 1 = 1 → exec .sessionClose s = .next (s.put (endSession d (beAt x.data 2 2) 1))) ∧
    (y.st ≠ 2 → beAt x.data 17 1 = 0 → exec .sessionClose s = .next (s.put (drainDone (putSess d (beAt x.data 2 2) (some { y with st := 2 })) (beAt x.data 2 2))))) ∧
  (∀ (s : State) (n : Nat) (y : Session), live s.dev = true → sessAt s.dev n = some y →
    (y.idleFrom + fld s.dev Reg.RVP_CFG 31 16 * 1000000000 ≤ s.dev.now → s.dev.code ≠ stHalted → exec (.sessionIdleTimeout n) s = .next (s.put (endSession s.dev n 3))) ∧
    (s.dev.now < y.idleFrom + fld s.dev Reg.RVP_CFG 31 16 * 1000000000 → exec (.sessionIdleTimeout n) s = .next s))

/-- CREDIT, CREDIT_UPDATE_TIMER, REQUEST, REQUEST_CONT, REASM_TIMEOUT. -/
def Obligations.RvpRequests : Prop :=
  (∀ (s : State) (x : RxDgram) (d : Dev) (y : Session), live s.dev = true → takeBody s.dev 3 = some (x, d) → x.data.length = 32 → (∀ k, k < 16 → beAt x.data (16 + k) 1 = 0) → sessAt d (beAt x.data 2 2) = some y →
    exec .credit s = .next (s.put (sendCredit d (beAt x.data 2 2) y))) ∧
  (∀ (s : State) (n : Nat) (y : Session), live s.dev = true → sessAt s.dev n = some y →
    (y.limit ≠ y.limitSent → y.rise + 50000 ≤ s.dev.now → exec (.creditUpdateTimer n) s = .next (s.put (putSess (sendCredit s.dev n y) n (some { y with limitSent := y.limit })))) ∧
    ((y.limit = y.limitSent ∨ s.dev.now < y.rise + 50000) → exec (.creditUpdateTimer n) s = .next s)) ∧
  (∀ (s : State) (x : RxDgram) (d : Dev) (y : Session), live s.dev = true → takeBody s.dev 4 = some (x, d) → sessAt d (beAt x.data 2 2) = some y →
    (y.role ≠ 1 → exec .request s = .next (s.put (errSess d (beAt x.data 2 2) eRole 4 0 (beAt x.data 16 8)))) ∧
    (y.role = 1 → y.st ≠ 1 → exec .request s = .next (s.put (errSess d (beAt x.data 2 2) eSessionClosing 4 0 (beAt x.data 16 8)))) ∧
    (∀ im blocks r e, y.role = 1 → y.st = 1 → requestFormat x.data = none → requestModel d (beAt x.data 2 2) x.data = .ok im →
      (y.limit + 2 ^ 33 - y.used - costOf (beAt x.data 32 4)) % 2 ^ 32 < 2 ^ 31 → takeBlocks d y.port (costOf (beAt x.data 32 4)) = some blocks →
      r = ({ st := .reasm, sess := beAt x.data 2 2, reqId := beAt x.data 16 8, model := beAt x.data 24 1, flow := (beAt x.data 25 1).testBit 0, flowEnd := decide (beAt x.data 25 1 = 3), fallback := beAt x.data 26 1,
             sessFb := y.fallback, frames := beAt x.data 28 2, metaLen := beAt x.data 30 2, payLen := beAt x.data 32 4, deadlineUs := beAt x.data 36 4, flowKey := slice x.data 40 16, port := y.port, sp := y.sp,
             cost := costOf (beAt x.data 32 4), blocks := blocks, budget := im.budget, defDl := im.defDeadline, got := [(0, 0, x.data.length - 64)], opened := x.time } : Req) →
      { putSess d (beAt x.data 2 2) (some { y with used := (y.used + costOf (beAt x.data 32 4)) % 2 ^ 32 }) with
          rvp := { (putSess d (beAt x.data 2 2) (some { y with used := (y.used + costOf (beAt x.data 32 4)) % 2 ^ 32 })).rvp with reqs := smPut d.rvp.nextReq (some r) d.rvp.reqs, nextReq := d.rvp.nextReq + 1 },
          det := { d.det with diverged := d.det.diverged.filter (fun q => decide (q ≠ beAt x.data 16 8)) } } = e →
      (beAt x.data 28 2 ≠ 1 → exec .request s = .next (s.put (retWrite y.port blocks 65 0 (x.data.drop 64) (rcnt e 1 1)))) ∧
      (beAt x.data 28 2 = 1 → exec .request s = .next (s.put (completeReq (retWrite y.port blocks 65 0 (x.data.drop 64) (rcnt e 1 1)) d.rvp.nextReq x.time (x.data.drop 64)))))) ∧
  (∀ (s : State) (x : RxDgram) (d : Dev) (y : Session), live s.dev = true → takeBody s.dev 5 = some (x, d) → sessAt d (beAt x.data 2 2) = some y → y.role = 1 → 32 < x.data.length → beAt x.data 26 2 = 0 →
    (inReasm d (beAt x.data 2 2) (beAt x.data 16 8) = none → exec .requestCont s = .next (s.put (rcnt d 10 1))) ∧
    (∀ h r, inReasm d (beAt x.data 2 2) (beAt x.data 16 8) = some (h, r) →
      (beAt x.data 24 2 ≠ 0 → (beAt x.data 24 2, beAt x.data 28 4, x.data.length - 32) ∈ r.got → exec .requestCont s = .next (s.put (rcnt d 11 1))) ∧
      ((∀ g ∈ r.got, g.1 ≠ beAt x.data 24 2) → beAt x.data 24 2 < r.frames → r.payLen < beAt x.data 28 4 + (x.data.length - 32) →
        exec .requestCont s = .next (s.put (drainDone (discardReq (errSess d (beAt x.data 2 2) eFormat 5 28 (beAt x.data 16 8)) h) (beAt x.data 2 2)))) ∧
      ((∀ g ∈ r.got, g.1 ≠ beAt x.data 24 2) → beAt x.data 24 2 < r.frames → beAt x.data 28 4 + (x.data.length - 32) ≤ r.payLen →
        (∀ g ∈ r.got, g.2.1 + g.2.2 ≤ beAt x.data 28 4 ∨ beAt x.data 28 4 + (x.data.length - 32) ≤ g.2.1) → r.got.length + 1 ≠ r.frames →
        exec .requestCont s = .next (s.put (retWrite r.port r.blocks 65 (beAt x.data 28 4) (x.data.drop 32) (modReq d h (fun r => { r with got := r.got ++ [(beAt x.data 24 2, beAt x.data 28 4, x.data.length - 32)] }))))))) ∧
  (∀ (s : State) (h : Nat) (r : Req), live s.dev = true → reqAt s.dev h = some r →
    (r.st = .reasm → r.released = false → r.opened + 10000 * fld s.dev Reg.RVP_CFG 15 0 ≤ s.dev.now →
      exec (.reasmTimeout h) s = .next (s.put (drainDone (discardReq (errSess (evt (rcnt s.dev 12 1) Reg.RVP_EVT 3) r.sess eIncomplete 4 0 r.reqId) h) r.sess))) ∧
    (s.dev.now < r.opened + 10000 * fld s.dev Reg.RVP_CFG 15 0 → exec (.reasmTimeout h) s = .next s))

/-- CHUNK, LOAD_VERIFY, LOAD_STORE_COMPLETE, ABORT, REMOVE, ROLLBACK, QUERY. -/
def Obligations.ModelLoads : Prop :=
  (∀ (s : State) (x : RxDgram) (d : Dev) (y : Session) (n m : Nat), live s.dev = true → takeBody s.dev 7 = some (x, d) → n = beAt x.data 2 2 → m = beAt x.data 17 1 → sessAt d n = some y → y.role = 2 → loadFormat x.data = none →
    (beAt x.data 16 1 = 1 → loadOf d m = none → beAt x.data 32 8 = 0 → (modelAt d m).staged = none → d.rvp.loads = [none, none] → beAt x.data 40 8 ≤ stageLimit d →
      exec .chunk s = .next (s.put (chunkAt (evt (putLoad d 0 { model := m, sess := n, gen := beAt x.data 24 4, size := beAt x.data 40 8 }) Reg.RVP_EVT 4) 0 { model := m, sess := n, gen := beAt x.data 24 4, size := beAt x.data 40 8 } x.data))) ∧
    (∀ k l, beAt x.data 16 1 = 1 → loadOf d m = some (k, l) → l.owned = true → l.sess = n → beAt x.data 24 4 = l.gen → beAt x.data 40 8 = l.size → beAt x.data 32 8 ≠ l.next → l.lastAck ≠ 0 → d.now < l.lastAck + 100000 →
      exec .chunk s = .next (s.put d)) ∧
    (∀ k l, beAt x.data 16 1 = 2 → loadOf d m = some (k, l) → l.owned = true → l.sess = n → l.status ≠ 3 →
      exec .abort s = .next (s.put (loadAck (evt (putLoad d k { l with status := 7, busy := false, bytes := [] }) Reg.RVP_EVT 4) n { op := 2, model := m, status := 7, gen := l.gen, next := l.next }))) ∧
    (beAt x.data 16 1 = 2 → loadOf d m = none → (modelAt d m).staged = none → exec .abort s = .next (s.put (loadAck d n { op := 2, model := m, status := 6, reason := eLoadState }))) ∧
    (∀ im, beAt x.data 16 1 = 3 → loadOf d m = none → (modelAt d m).active = some im → (3, m, n) ∉ d.rvp.reqOps →
      exec .remove s = .next (s.put (askBarrier { d with rvp := { d.rvp with reqOps := d.rvp.reqOps ++ [(3, m, n)] } } 4 m 0))) ∧
    (beAt x.data 16 1 = 3 → loadOf d m = none → (modelAt d m).active = none → exec .remove s = .next (s.put (loadAck d n { op := 3, model := m, status := 6, reason := eLoadState }))) ∧
    (∀ im, beAt x.data 16 1 = 4 → loadOf d m = none → (modelAt d m).prev = some im → (4, m, n) ∉ d.rvp.reqOps →
      exec .rollback s = .next (s.put (askBarrier { d with rvp := { d.rvp with reqOps := d.rvp.reqOps ++ [(4, m, n)] } } 3 m im.gen))) ∧
    (beAt x.data 16 1 = 4 → loadOf d m = none → (modelAt d m).prev = none → exec .rollback s = .next (s.put (loadAck d n { op := 4, model := m, status := 6, reason := eLoadState }))) ∧
    (∀ im, beAt x.data 16 1 = 5 → loadOf d m = none → (modelAt d m).staged = none → (modelAt d m).active = some im →
      exec .query s = .next (s.put (loadAck d n { op := 5, model := m, status := 5, gen := im.gen }))) ∧
    (beAt x.data 16 1 = 5 → loadOf d m = none → (modelAt d m).staged = none → (modelAt d m).active = none →
      exec .query s = .next (s.put (loadAck d n { op := 5, model := m, status := 0xA })))) ∧
  (∀ (s : State) (k : Fin 2) (l : Load), live s.dev = true → s.dev.rvp.loads.getD k.val none = some l → l.busy = true →
    (l.status = 2 →
      exec (.loadVerify k) s = .next (s.put (match verifyImage s.dev l.model l.size l.bytes with
        | .error e => loadStatus s.dev k.val l 6 e
        | .ok (im, _, _, _) => if im.gen = l.gen then loadStatus s.dev k.val l 3 0 else loadStatus s.dev k.val l 6 eLoadImage))) ∧
    (l.status = 3 →
      (parseImage l.bytes = none → exec (.loadStoreComplete k) s = .next (s.put (loadStatus s.dev k.val l 6 eLoadImage))) ∧
      (∀ im off vm its, parseImage l.bytes = some (im, off) → placement s.dev im = some vm → itemsAll s.dev im vm = some its →
        exec (.loadStoreComplete k) s = .next (s.put (if capacityOk s.dev im vm its off = false then loadStatus s.dev k.val l 6 eLoadCapacity
          else match storeCopies im l.bytes off s.dev with
            | none => loadStatus (dropImgCopies s.dev im.id im.gen) k.val l 6 eLoadCapacity
            | some d => loadStatus (seedStaged (restate (setModel { installItems its d with det := { (installItems its d).det with vmap := vm } } im.id
                { modelAt { installItems its d with det := { (installItems its d).det with vmap := vm } } im.id with
                  staged := some im, owner := (if l.owned then (sessAt (installItems its d) l.sess).map (fun y => (l.sess, y.token)) else none), refused := (0, 0) })) im) k.val l 4 0)))))

/-- CONDITIONING_START, RELEASE_BEAT. -/
def Obligations.ConditionAndRelease : Prop :=
  (∀ (s : State) (m : Fin 16) (h : Nat) (r : Req) (im : Image), live s.dev = true → headQueued s.dev (m.val + 1) = some (h, r) → (modelAt s.dev (m.val + 1)).active = some im → misses s.dev r im s.dev.now = false → r.flow = false →
    (r.payLen = 0 → exec (.conditioningStart m) s = .next (s.put (modReq s.dev h (fun r => { r with st := .ready, inBase := 0, inWords := 0, slotGen := im.gen })))) ∧
    (∀ k, r.payLen ≠ 0 → r.slot = none → k < inputSlots im → k ∉ slotsUsed s.dev (m.val + 1) im.gen → (∀ j, j < k → j ∈ slotsUsed s.dev (m.val + 1) im.gen) →
      exec (.conditioningStart m) s = .next (s.put (conditionReq s.dev h r im k))) ∧
    (r.payLen ≠ 0 → r.slot = none → (∀ k, k < inputSlots im → k ∈ slotsUsed s.dev (m.val + 1) im.gen) →
      (r.waited = true → exec (.conditioningStart m) s = .next s) ∧
      (r.waited = false → exec (.conditioningStart m) s = .next (s.put (rcnt (modReq s.dev h (fun r => { r with waited := true })) 16 1))))) ∧
  (∀ s : State, live s.dev = true →
    (s.dev.tim.beat = false → exec .releaseBeat s = .next s) ∧
    (s.dev.tim.beat = true → beatsIgnored s.dev = true → exec .releaseBeat s = .next (s.put (missBeat { s.dev with tim := { s.dev.tim with beat := false } }))) ∧
    (s.dev.tim.beat = true → beatsIgnored s.dev = false →
      exec .releaseBeat s = .next (s.put (releaseAll (dueReqs s.dev) { s.dev with tim := { s.dev.tim with beat := false } }))))

/-- CLAIM_GRANT, LEAVING, NOTICE, SNOOP, RETRY, DROP, EVICTION_WRITEBACK_COMPLETE, FLOW_EXPIRY. -/
def Obligations.FlowStore : Prop :=
  (∀ (s : State) (e : Fin 65536), live s.dev = true →
    ((entAt s.dev e.val).granted = true → exec (.claimGrant e) s = .next s) ∧
    (∀ h r l, (entAt s.dev e.val).granted = false → (entAt s.dev e.val).claims = h :: l → reqAt s.dev h = some r →
      exec (.claimGrant e) s = .next (s.put (ctxAll (fcnt (setEnt s.dev e.val { entAt s.dev e.val with granted := true }) 13 (s.dev.now - r.claimFrom)))))) ∧
  (∀ (s : State) (c : Fin 256) (m : FlowMsg) (rest : List FlowMsg) (d : Dev), awake s.dev = true → s.dev.fcs.msgs = m :: rest → d = { s.dev with fcs := { s.dev.fcs with msgs := rest } } →
    (∀ e t, m = .leaving c.val e t →
      ((entAt d e).st = .held c.val → exec (.leaving c) s = .next (s.put (setEnt d e { entAt d e with st := .evicting c.val t }))) ∧
      ((entAt d e).st ≠ .held c.val → exec (.leaving c) s = .next (s.put d))) ∧
    (∀ e t, m = .notice c.val e t → (entAt d e).st = .evicting c.val t → (entAt d e).dropMark = false →
      ((entAt d e).failMark = false → exec (.notice c) s = .next (s.put (releaseWaits (setEnt d e { entAt d e with st := .inMemory, etag := t }) e))) ∧
      ((entAt d e).failMark = true →
        exec (.notice c) s = .next (s.put (releaseWaits (evt (fcnt (setEnt (setEnt d e { entAt d e with st := .inMemory, etag := t }) e
          { entAt (setEnt d e { entAt d e with st := .inMemory, etag := t }) e with lost := true, failMark := false }) 7 1) Reg.FCS_EVT 0) e)))) ∧
    (∀ e r spad slot, m = .snoop c.val e r spad slot none →
      (heldOf d (siteFor d c.val) e = none → exec (.snoop c) s = .next (s.put (fcnt (flowSend d (.retry r e (leavingTag d c.val e) spad slot)) 6 1))) ∧
      (∀ h, heldOf d (siteFor d c.val) e = some h →
        (h.leaving.isSome = true → exec (.snoop c) s = .next (s.put (fcnt (flowSend d (.retry r e (leavingTag d c.val e) spad slot)) 6 1))) ∧
        (h.leaving = none → awaits d (siteFor d r) slot e = false → exec (.snoop c) s = .next (s.put d)) ∧
        (∀ ws b, h.leaving = none → awaits d (siteFor d r) slot e = true → copyWords (siteFor d c.val) h.spad h.words d = (ws, b) →
          exec (.snoop c) s = .next (s.put (snoopDone b (siteFor d c.val) (siteFor d r) slot e spad ws))))) ∧
    (∀ e r spad slot bs, m = .snoop c.val e r spad slot (some bs) →
      (awaits d (siteFor d r) slot e = true → exec (.snoop c) s = .next (s.put (snoopDone d (siteFor d c.val) (siteFor d r) slot e spad (if bs.isEmpty then none else some bs)))) ∧
      (awaits d (siteFor d r) slot e = false → exec (.snoop c) s = .next (s.put (setEnt d e { entAt d e with st := .inMemory })))) ∧
    (∀ e t spad slot, m = .retry c.val e t spad slot →
      (awaits d (siteFor d c.val) slot e = false → exec (.retry c) s = .next (s.put d)) ∧
      (awaits d (siteFor d c.val) slot e = true → (entAt d e).st = .inMemory → tagReached (entAt d e).etag t = true → exec (.retry c) s = .next (s.put (ctxGo (siteFor d c.val) d))) ∧
      (awaits d (siteFor d c.val) slot e = true → tagReached (entAt d e).etag t = false →
        exec (.retry c) s = .next (s.put { d with fcs := { d.fcs with waits := d.fcs.waits ++ [{ core := c.val, slot := slot, entry := e, t := t }] } }))) ∧
    (∀ e h, m = .drop c.val e → heldOf d (siteFor d c.val) e = some h → (entAt d e).dropMark = false →
      exec (.drop c) s = .next (s.put (startEvict d (siteFor d c.val) h))) ∧
    (∀ e, m = .drop c.val e → heldOf d (siteFor d c.val) e = none → exec (.drop c) s = .next (s.put d))) ∧
  (∀ (d q : Dev) (i j slot e spad : Nat) (bs : List Byte) (z : QCmd),
    fcnt (place (fillCopy j spad (clsWords (entAt d e).cls) bs (countNet (dropCopies d e) i j true true (clsWords (entAt d e).cls))) j slot e spad (clsWords (entAt d e).cls) (attrOf (entAt d e))) 3 1 = q →
    (coreAt q j).ctx.head? = some z → snoopDone d i j slot e spad (some bs) = ctxGo j (pump (setHead q j 6 { z with done := true, wait := 7 }))) ∧
  (∀ (s : State) (c : Fin 256) (e : Fin 65536) (h : HeldCtx) (t : Nat), awake s.dev = true → heldOf s.dev (siteFor s.dev c.val) e.val = some h →
    (h.leaving = none → exec (.evictionWritebackComplete c e) s = .next s) ∧
    (∀ d, h.leaving = some t → storeHome s.dev (siteFor s.dev c.val) e.val h = (.ok (), d) → (entAt s.dev e.val).dropMark = false →
      exec (.evictionWritebackComplete c e) s = .next (s.put (ctxGo (siteFor s.dev c.val) (flowSend (modCore d (siteFor s.dev c.val) (fun co => { co with held := co.held.filter (fun x => decide (x.entry ≠ e.val)) })) (.notice c.val e.val t)))))) ∧
  (∀ (s : State) (e : Fin 65536), live s.dev = true →
    ((entAt s.dev e.val).st = .inMemory → (entAt s.dev e.val).claims = [] → unclaimed (entAt s.dev e.val) = true → (entAt s.dev e.val).dropMark = false → (entAt s.dev e.val).lastEnd + fld s.dev Reg.FCS_CFG 31 16 * 10 ^ 9 < s.dev.now →
      exec (.flowExpiry e) s = .next (s.put (setEnt (fcnt s.dev 10 1) e.val {}))) ∧
    ((unclaimed (entAt s.dev e.val) = false ∨ s.dev.now ≤ (entAt s.dev e.val).lastEnd + fld s.dev Reg.FCS_CFG 31 16 * 10 ^ 9) → exec (.flowExpiry e) s = .next s))

/-- TIMER_COMPARE_MATCH, TIMER_OVERFLOW, TIMER_CAPTURE, SWCAP_0, SWCAP_1, TIMER_START, TIMER_STOP, TIMER_RESET, GSTART_GO, GLOBAL_START, PULSE_WIDTH_EXPIRY. An odd AT: log entry 106. -/
def Obligations.TimerCommands : Prop :=
  (∀ (s : State) (n : Fin 32) (y : Fin 4), live s.dev = true →
    (((timerAt s.dev n.val).running = false ∨ tmFrozen s.dev n.val = true ∨ s.dev.code = stSleep) → exec (.timerCompareMatch n y) s = .next s ∧ exec (.timerOverflow n) s = .next s) ∧
    (pinTimed s.dev n.val = false → s.dev.code ≠ stSleep →
      (y.val ∈ nextEvents s.dev n.val → exec (.timerCompareMatch n y) s = .next (s.put (timeTick s.dev))) ∧
      (y.val ∉ nextEvents s.dev n.val → exec (.timerCompareMatch n y) s = .next s) ∧
      (4 ∈ nextEvents s.dev n.val → exec (.timerOverflow n) s = .next (s.put (timeTick s.dev))) ∧
      (4 ∉ nextEvents s.dev n.val → exec (.timerOverflow n) s = .next s)) ∧
    (∀ t evs, pinTimed s.dev n.val = true → s.dev.code ≠ stSleep → (timerAt s.dev n.val).running = true → tmFrozen s.dev n.val = false → countEvent s.dev n.val (timerAt s.dev n.val) = (t, evs) →
      (y.val ∈ evs → exec (.timerCompareMatch n y) s = .next (s.put (outwards true (setTimer s.dev n.val (selfActions s.dev n.val evs { t with ovf := t.ovf || evs.contains 4 })) n.val evs))) ∧
      (4 ∈ evs → exec (.timerOverflow n) s = .next (s.put (outwards true (setTimer s.dev n.val (selfActions s.dev n.val evs { t with ovf := t.ovf || evs.contains 4 })) n.val evs)))) ∧
    (∀ t evs k, pinTimed s.dev n.val = true → s.dev.code ≠ stSleep → (timerAt s.dev n.val).running = true → tmFrozen s.dev n.val = false → (timerAt s.dev n.val).selfReset = false →
      (timerAt s.dev n.val).cmp.getD y.val 0 = k + 1 → k + 1 < 2 ^ tmWidth s.dev n.val → (timerAt s.dev n.val).count ≤ k →
      (∀ x, x < 4 → (timerAt s.dev n.val).cmp.getD x 0 ≤ (timerAt s.dev n.val).count ∨ k < (timerAt s.dev n.val).cmp.getD x 0) →
      countEvent s.dev n.val { timerAt s.dev n.val with count := k } = (t, evs) →
      exec (.timerCompareMatch n y) s = .next (s.put (outwards true (setTimer s.dev n.val (selfActions s.dev n.val evs { t with ovf := t.ovf || evs.contains 4 })) n.val evs)))) ∧
  (∀ (s : State) (n : Fin 32) (k : Fin 2) (c : Instr), live s.dev = true →
    ((k.val = 0 ∧ c = .swcap0 n ∧ mgmtOpen s.dev = true) ∨ (k.val = 1 ∧ c = .swcap1 n ∧ mgmtOpen s.dev = true) ∨
      (c = .timerCapture n k ∧ 1 ≤ fld s.dev (Reg.TIM_CAP_CFG n.val) (4 * k.val + 3) (4 * k.val) ∧ fld s.dev (Reg.TIM_CAP_CFG n.val) (4 * k.val + 3) (4 * k.val) ≤ 9)) →
    exec c s = .next (s.put (capture n.val k.val s.dev))) ∧
  (∀ (d : Dev) (n k : Nat), k < 2 →
    timerAt (capture n k d) n = { timerAt d n with cap := setAt (timerAt d n).cap k (timerAt d n).count } ∧ (rd (capture n k d) (Reg.TIM_STATUS n)).getLsbD (8 + k) = true ∧
      ((rd d (Reg.TIM_STATUS n)).getLsbD (8 + k) = true → (rd (capture n k d) (Reg.TIM_STATUS n)).getLsbD (10 + k) = true) ∧
      (∀ m, m ≠ n → timerAt (capture n k d) m = timerAt d m) ∧ (capture n k d).now = d.now ∧ (capture n k d).core = d.core) ∧
  (∀ (s : State) (n : Fin 32), live s.dev = true →
    (mgmtOpen s.dev = true → tmLocked s.dev n.val = false →
      exec (.timerStart n) s = .next (s.put (setTimer s.dev n.val { timerAt s.dev n.val with running := true })) ∧
      exec (.timerStop n) s = .next (s.put (setTimer s.dev n.val { timerAt s.dev n.val with running := false })) ∧
      exec (.timerReset n) s = .next (s.put (setTimer s.dev n.val (loadZero s.dev n.val (timerAt s.dev n.val))))) ∧
    (tmLocked s.dev n.val = true → exec (.timerStart n) s = .next s ∧ exec (.timerStop n) s = .next s ∧ exec (.timerReset n) s = .next s)) ∧
  (∀ (d : Dev) (n : Nat) (t : Timer), (loadZero d n t).count = 0 ∧ (loadZero d n t).acc = 0 ∧ (loadZero d n t).running = t.running ∧
    (∀ x, x < 4 → (loadZero d n t).cmp.getD x 0 = if tmPreload d n x then t.pre.getD x 0 else t.cmp.getD x 0)) ∧
  (∀ s : State, live s.dev = true →
    (∀ (imm res : Bool) (a : Nat), a = rdn s.dev Reg.TIM_GSTART_AT_LO + 2 ^ 32 * rdn s.dev Reg.TIM_GSTART_AT_HI →
      (mgmtOpen s.dev = true → (imm = true ∨ a % 2 = 0) → exec (.gstartGo imm res) s = .next (s.put { s.dev with tim := { s.dev.tim with gstart := some { at_ := a, immediate := imm, reset := res } } })) ∧
      (imm = false → a % 2 = 1 → exec (.gstartGo imm res) s = .next s)) ∧
    (∀ g, s.dev.tim.gstart = some g → s.dev.code ≠ stSleep →
      ((g.immediate = true ∨ g.at_ ≤ s.dev.now + 2) → exec .globalStart s = .next (s.put (timeTick s.dev))) ∧
      (g.immediate = false → s.dev.now + 2 < g.at_ → exec .globalStart s = .next s)) ∧
    (∀ p : Fin 4, exec (.pulseWidthExpiry p) s = .next (s.put { s.dev with tim := { s.dev.tim with left := setAt s.dev.tim.left p.val 0 } })))

/-- PPS_EDGE, PPS_TIMEOUT, PTP_SYNC_LOSS, REFERENCE_LOSS, REFERENCE_COMMIT, REFERENCE_CANCEL, REQUAL_COMMIT, SLEW_LOCKED. That the first acquisition needs no window: log entry 122; that HOLDOVER reports LOCKED
with its steering as it was: log entry 129. -/
def Obligations.TimeReferences : Prop :=
  (∀ s : State, live s.dev = true →
    (∀ d, d = { cntSet s.dev Reg.TBS_PPS_CAP_LO (BitVec.ofNat 64 s.dev.now) with tim := { s.dev.tim with ppsLast := some s.dev.now } } →
      (∀ t, s.dev.tim.ppsLast = some t → t + 1000000000 ≤ s.dev.now + ppsTol s.dev → s.dev.now ≤ t + 1000000000 + ppsTol s.dev →
        exec .ppsEdge s = .next (s.put (noteOffset (refUp d 2) 3 (ppsOffset s.dev.now)))) ∧
      ((∀ t, s.dev.tim.ppsLast = some t → s.dev.now + ppsTol s.dev < t + 1000000000 ∨ t + 1000000000 + ppsTol s.dev < s.dev.now) →
        exec .ppsEdge s = .next (s.put (refDown d 2)))) ∧
    (exec .ppsTimeout s = .next (s.put (refDown { s.dev with tim := { s.dev.tim with ppsLast := none } } 2))) ∧
    (∀ n : Fin 2, exec (.ptpSyncLoss n) s = .next (s.put (refDown s.dev n.val))) ∧
    (s.dev.tim.current ≠ 0 → s.dev.tim.current ≠ 4 →
      (codeValid s.dev s.dev.tim.current = true → exec .referenceLoss s = .next s) ∧
      (codeValid s.dev s.dev.tim.current = false →
        exec .referenceLoss s = .next (s.put (elog 1 12 0x0C01 0 s.dev.tim.current (steer (cntInc (evt
          { s.dev with tim := { s.dev.tim with current := 0, lost := some s.dev.tim.current, lostFrom := s.dev.now, phase := 3, requal := none } } Reg.TBS_EVT 2) (Reg.TBS_CNT_LO 2))))))) ∧
    (∀ off d, { s.dev with tim := { s.dev.tim with current := commitRef s.dev, lost := none, first := false } } = d →
      (s.dev.code ≠ stSleep → commitDue s.dev = true → commitRef s.dev ≠ 0 → exec (.referenceCommit off) s = .next (s.put (refCheck (removeOffset (cntInc (evt d Reg.TBS_EVT 0) (Reg.TBS_CNT_LO 0)) off)))) ∧
      (s.dev.code ≠ stSleep → commitDue s.dev = true → commitRef s.dev = 0 → exec (.referenceCommit off) s = .next (s.put (refCheck (removeOffset (evt (cntInc (evt d Reg.TBS_EVT 0) (Reg.TBS_CNT_LO 0)) Reg.TBS_EVT 3) off)))) ∧
      ((s.dev.code = stSleep ∨ commitDue s.dev = false) → exec (.referenceCommit off) s = .next s)) ∧
    (∀ off c, s.dev.tim.lost = some c → s.dev.tim.phase = 3 → commitDue s.dev = false →
      (codeValid s.dev c = true → exec (.referenceCancel off) s = .next (s.put (refCheck (removeOffset (cntInc (evt { s.dev with tim := { s.dev.tim with current := c, lost := none } } Reg.TBS_EVT 1) (Reg.TBS_CNT_LO 1)) off)))) ∧
      (codeValid s.dev c = false → exec (.referenceCancel off) s = .next s)) ∧
    (∀ off c, s.dev.tim.lost = some c → commitDue s.dev = true → exec (.referenceCancel off) s = .next s) ∧
    (∀ off r, s.dev.tim.requal = some r →
      (s.dev.tim.requalFrom + requalTime s.dev ≤ s.dev.now →
        exec (.requalCommit off) s = .next (s.put (refCheck (removeOffset (cntInc (evt { s.dev with tim := { s.dev.tim with current := r, requal := none } } Reg.TBS_EVT 6) (Reg.TBS_CNT_LO 4)) off)))) ∧
      (s.dev.now < s.dev.tim.requalFrom + requalTime s.dev → exec (.requalCommit off) s = .next s)) ∧
    (∀ off, s.dev.tim.requal = none → exec (.requalCommit off) s = .next s) ∧
    (∀ off : Fin 39, (s.dev.tim.phase = 2 → s.dev.tim.current ≠ 0 → exec (.slewLocked off) s = .next (s.put (steer { s.dev with tim := { s.dev.tim with phase := 1, offset := (off.val : Int) - 19 } }))) ∧
      (s.dev.tim.phase = 2 → s.dev.tim.current = 0 → exec (.slewLocked off) s = .next (s.put { s.dev with tim := { s.dev.tim with phase := 1 } })) ∧
      (s.dev.tim.phase ≠ 2 → exec (.slewLocked off) s = .next s))) ∧
  (∀ (d : Dev) (r : Nat), (refDown d r).tim.valid.getD r false = false ∧ (refDown d r).regs = d.regs ∧ (refDown d r).core = d.core ∧ (refDown d r).tim.timers = d.tim.timers) ∧
  (∀ (d : Dev) (off : Int), (refCheck (removeOffset d off)).tim.current = d.tim.current ∧ (refCheck (removeOffset d off)).tim.lost = d.tim.lost ∧ (refCheck (removeOffset d off)).tim.first = d.tim.first ∧
    (refCheck (removeOffset d off)).core = d.core ∧ (refCheck (removeOffset d off)).mem = d.mem) ∧
  (∀ d : Dev, codeValid d (commitRef d) = true ∧ (d.tim.phase ≠ 3 → commitRef d = bestRef d) ∧ (d.tim.phase = 3 → commitRef d = 0 ∨ d.tim.lost ≠ some (commitRef d)))

/-- DISAGREE, GATE_WATCHDOG, WARDEN_DECISION, HEARTBEAT, TAKEOVER, STANDBY_ACK_TIMEOUT, TWIN_WAIT_EXPIRY. -/
def Obligations.WardenCommands : Prop :=
  (∀ (s : State) (i : Fin 288) (who : Option GateReq) (cured : Bool), live s.dev = true →
    ((siteInfo s.dev i.val).st ≠ .fenced → exec (.disagree ⟨.site i, who, cured⟩) s = .next (s.put (disagree s.dev i.val 2))) ∧
    ((siteInfo s.dev i.val).st = .fenced → exec (.disagree ⟨.site i, who, cured⟩) s = .next (s.put (elog 1 1 0x0107 i.val 0 (evt (cntInc s.dev (Reg.WDN_CNT_LO 4)) Reg.WDN_EVT 2)))) ∧
    (inService s.dev i.val = true → exec (.gateWatchdog ⟨.site i, who⟩) s = .next (s.put (disagree (noteStuck s.dev i.val who (s.dev.now - 1000 * fld s.dev Reg.WDN_CFG 31 16)) i.val 1))) ∧
    (inService s.dev i.val = false → exec (.gateWatchdog ⟨.site i, who⟩) s = .next s)) ∧
  (∀ (d : Dev) (i detail : Nat), ((siteInfo d i).st = .live ∨ (siteInfo d i).st = .suspect) →
    (siteInfo (disagree d i detail) i).st = .suspect ∧ (siteInfo (disagree d i detail) i).deciding = true ∧ (siteInfo (disagree d i detail) i).disagrees = min 255 ((siteInfo d i).disagrees + 1) ∧
      cnt (disagree d i detail) (Reg.WDN_CNT_LO 0) = cnt d (Reg.WDN_CNT_LO 0) + 1 ∧ (disagree d i detail).core = d.core ∧ (disagree d i detail).mem = d.mem ∧
      (∀ j, j ≠ i → siteInfo (disagree d i detail) j = siteInfo d j)) ∧
  (∀ (s : State) (k : Fin 4) (who : Option GateReq), live s.dev = true →
    ((seamAt s.dev k.val).st ≠ .lost →
      exec (.disagree ⟨.seam k, who, true⟩) s = .next (s.put (cntInc s.dev (Reg.ELOG_CNT_LO 0))) ∧
      exec (.disagree ⟨.seam k, who, false⟩) s = .next (s.put (disagreeSeam (noteStuck s.dev (288 + k.val) who s.dev.now) k.val)) ∧
      exec (.gateWatchdog ⟨.seam k, who⟩) s = .next (s.put (disagreeSeam (noteStuck s.dev (288 + k.val) who (s.dev.now - 1000 * fld s.dev Reg.WDN_CFG 31 16)) k.val))) ∧
    ((seamAt s.dev k.val).st = .lost → ∀ cured, exec (.disagree ⟨.seam k, who, cured⟩) s = .next (s.put (evt (cntInc s.dev (Reg.WDN_CNT_LO 4)) Reg.WDN_EVT 2)))) ∧
  (∀ (d : Dev) (k : Nat), k < d.wdn.seams.length → ((seamAt d k).st = .up ∨ (seamAt d k).st = .suspect) →
    (seamAt (disagreeSeam d k) k).st = .suspect ∧ (seamAt (disagreeSeam d k) k).deciding = true ∧ (disagreeSeam d k).core = d.core ∧ (disagreeSeam d k).mem = d.mem) ∧
  (∀ (s : State) (i : Fin 288) (x : SiteInfo), live s.dev = true → siteInfo s.dev i.val = x → (x.st = .suspect ∨ x.st = .promoting) → x.deciding = true →
    (x.mgmtFence = true → ∀ pass, (x.cause = 5 → exec (.wardenDecision (.site i) pass) s = .next (s.put (answerFence (fenceSite s.dev i.val 5 true) 1 i.val))) ∧
      (x.cause ≠ 5 → exec (.wardenDecision (.site i) pass) s = .next (s.put (fenceSite s.dev i.val x.cause false)))) ∧
    (x.mgmtFence = false →
      (overLimit s.dev x.suspects = true → ∀ pass, exec (.wardenDecision (.site i) pass) s = .next (s.put (fenceSite s.dev i.val 2 false))) ∧
      (overLimit s.dev x.suspects = false →
        exec (.wardenDecision (.site i) false) s = .next (s.put (fenceSite s.dev i.val 1 false)) ∧
        exec (.wardenDecision (.site i) true) s = .next (s.put (pump (elog 1 1 0x0102 i.val 0 (cntInc (setSite (clearStuck s.dev (fun a => decide (a.gate = i.val))) i.val { x with st := .live, deciding := false }) (Reg.WDN_CNT_LO 1)))))))) ∧
  (∀ (s : State) (k : Fin 4) (x : SeamInfo), live s.dev = true → seamAt s.dev k.val = x → x.st = .suspect → x.deciding = true →
    (x.mgmtFence = true → ∀ pass, exec (.wardenDecision (.seam k) pass) s = .next (s.put (answerFence (loseSeam s.dev k.val true) 2 k.val))) ∧
    (x.mgmtFence = false →
      exec (.wardenDecision (.seam k) false) s = .next (s.put (loseSeam s.dev k.val false)) ∧
      (overLimit s.dev x.suspects = true → exec (.wardenDecision (.seam k) true) s = .next (s.put (loseSeam s.dev k.val false))) ∧
      (overLimit s.dev x.suspects = false →
        exec (.wardenDecision (.seam k) true) s = .next (s.put (pump (cntInc (cntInc (setSeam (clearStuck s.dev (fun a => decide (a.gate = 288 + k.val))) k.val { x with st := .up, deciding := false }) (Reg.WDN_CNT_LO 1)) (Reg.ELOG_CNT_LO 0))))))) ∧
  (∀ s : State, live s.dev = true →
    (∀ u pass, (match u with | .site i => (siteInfo s.dev i.val).deciding | .seam k => (seamAt s.dev k.val).deciding) = false → exec (.wardenDecision u pass) s = .next s) ∧
    (s.dev.wdn.standby = 0 →
      exec (.heartbeat true) s = .next (s.put { s.dev with wdn := { s.dev.wdn with missed := 0 } }) ∧
      (s.dev.wdn.missed < 2 → exec (.heartbeat false) s = .next (s.put { s.dev with wdn := { s.dev.wdn with missed := s.dev.wdn.missed + 1 } })) ∧
      (2 ≤ s.dev.wdn.missed → exec (.heartbeat false) s = .next (s.put (takeOver s.dev 1))) ∧
      (∀ why : Fin 3, exec (.takeover why) s = .next (s.put (restate (elog 3 8 0x0801 1 (why.val + 1) (evt (cntInc { s.dev with wdn := { s.dev.wdn with active := 1, standby := 1, missed := 0 } } (Reg.WDN_CNT_LO 6)) Reg.WDN_EVT 3))))) ∧
      exec .standbyAckTimeout s = .next (s.put (restate (elog 3 8 0x0802 1 0 (evt { s.dev with wdn := { s.dev.wdn with standby := 2 } } Reg.WDN_EVT 4))))) ∧
    (s.dev.wdn.standby ≠ 0 → (∀ b, exec (.heartbeat b) s = .next s) ∧ exec .standbyAckTimeout s = .next s ∧ (∀ why : Fin 3, exec (.takeover why) s = .next (s.put (enterLost s.dev.wdn.active 2 false s.dev)))) ∧
    (∃ t, exec .twinWaitExpiry s = .next t ∧ t.dev.det.store = s.dev.det.store.filter (fun e => !decide (e.time + 1000 * fld s.dev Reg.DET_TWIN_CFG 15 0 < s.dev.now)) ∧
      cnt t.dev (Reg.DET_TWIN_CNT_LO 5) = cnt s.dev (Reg.DET_TWIN_CNT_LO 5) + BitVec.ofNat 64 (s.dev.det.store.length - t.dev.det.store.length) ∧ t.dev.rvp = s.dev.rvp))

/-- MCTP_PACKET, SET_ENDPOINT_ID, GET_ENDPOINT_ID, GET_ENDPOINT_UUID, GET_MCTP_VERSION_SUPPORT, GET_MESSAGE_TYPE_SUPPORT, GET_VENDOR_DEFINED_MESSAGE_SUPPORT, DSP0237_TIMEOUT. The packet and control layouts are the family's (log entry 9). -/
def Obligations.MctpTransport : Prop :=
  (∀ (s : State) (b : List Byte), live s.dev = true → s.dev.wdn.dead = false → 9 ≤ b.length → b.length ≤ 73 → leAt b 0 1 = 2 * smbAddr s.dev → leAt b 1 1 = 0x0F →
    (crc8 (b.take (b.length - 1)) ≠ leAt b (b.length - 1) 1 → exec (.mctpPacket b) s = .next (s.put (cntInc s.dev (Reg.MGT_MSG_CNT_LO 2)))) ∧
    (leAt b 2 1 + 4 = b.length → crc8 (b.take (b.length - 1)) = leAt b (b.length - 1) 1 → leAt b 4 1 % 16 = 1 → destOk s.dev (leAt b 5 1) = true →
      (leAt b 7 1).testBit 3 = true → (leAt b 7 1).testBit 6 = true → (leAt b 7 1).testBit 7 = true → (∀ p ∈ s.dev.mgmt.parts, p.eid ≠ leAt b 6 1) →
      exec (.mctpPacket b) s = .next (s.put (takeMessage s.dev (leAt b 5 1) (leAt b 6 1) (leAt b 7 1 % 8) (slice b 8 (b.length - 9)))))) ∧
  (∀ (d : Dev) (dst eid tag : Nat) (m : List Byte), leAt m 0 1 = 0x7F → d.mgmt.eid = some dst → 13 ≤ m.length → m.length ≤ 1037 → slice m 1 4 = [0x00, 0x00, 0xD7, 0xA2] → (m.getD 7 0).getLsbD 7 = false →
    ∀ q : VReq, q = { eid := eid, tag := tag, version := leAt m 5 1, cmd := leAt m 6 1, flags := leAt m 7 1, rsvd := leAt m 8 1, seq := leAt m 9 2, status := leAt m 11 2, body := m.drop 13 } →
    (d.mgmt.cur = none → d.mgmt.queue.length < 8 → takeMessage d dst eid tag m = { cntInc d (Reg.MGT_MSG_CNT_LO 0) with mgmt := { d.mgmt with queue := d.mgmt.queue ++ [q] } }) ∧
    (8 ≤ d.mgmt.queue.length → takeMessage d dst eid tag m = answer (cntInc (cntInc d (Reg.MGT_MSG_CNT_LO 0)) (Reg.MGT_MSG_CNT_LO 3)) q msUnitBusy [])) ∧
  (∀ (s : State) (q : CtlReq) (rest : List CtlReq) (d : Dev), live s.dev = true → s.dev.mgmt.ctl = q :: rest → d = { s.dev with mgmt := { s.dev.mgmt with ctl := rest } } →
    (q.cmd = 1 → q.data.length = 2 → leAt q.data 0 1 % 4 < 2 →
      (leAt q.data 1 1 ≠ 0 → leAt q.data 1 1 ≠ 0xFF → exec .setEndpointId s = .next (s.put (ctlAnswer { d with mgmt := { d.mgmt with eid := some (leAt q.data 1 1) } } q 0 [0, byteOf (leAt q.data 1 1), 0]))) ∧
      ((leAt q.data 1 1 = 0 ∨ leAt q.data 1 1 = 0xFF) → exec .setEndpointId s = .next (s.put (ctlAnswer d q 2 [])))) ∧
    (q.cmd = 2 → q.data = [] → exec .getEndpointId s = .next (s.put (ctlAnswer d q 0 [byteOf (d.mgmt.eid.getD 0), 0, 0]))) ∧
    (q.cmd = 3 → q.data = [] → exec .getEndpointUuid s = .next (s.put (ctlAnswer d q 0 (List.replicate 8 0 ++ beBytes 8 d.part.serial)))) ∧
    (q.cmd = 4 → q.data = [0x00] → exec .getMctpVersionSupport s = .next (s.put (ctlAnswer d q 0 [1, 0xF1, 0xF3, 0xF0, 0x00]))) ∧
    (q.cmd = 5 → q.data = [] → exec .getMessageTypeSupport s = .next (s.put (ctlAnswer d q 0 [1, 0x7F]))) ∧
    (q.cmd = 6 → q.data = [0x00] → exec .getVendorDefinedMessageSupport s = .next (s.put (ctlAnswer d q 0 [0xFF, 1, 0x00, 0x00, 0xD7, 0xA2, 0, 0])))) ∧
  (∀ s : State, live s.dev = true →
    (∀ (e : BitVec 8) (t : Fin 8), exec (.dsp0237Timeout (some (e, t))) s = .next (s.put { s.dev with mgmt := { s.dev.mgmt with parts := s.dev.mgmt.parts.filter (fun p => !(decide (p.eid = e.toNat) && decide (p.tag = t.val))) } })) ∧
    (exec (.dsp0237Timeout none) s = .next (s.put { s.dev with mgmt := { s.dev.mgmt with out := s.dev.mgmt.out.dropLast } })))

/-- VENDOR_MESSAGE, STATE_GET, TELEMETRY, GET_ALERTS, LOG_READ, SLEEP, WAKE, RESET. -/
def Obligations.VendorRequests : Prop :=
  (∀ (s : State) (q : VReq) (rest : List VReq) (d : Dev), live s.dev = true → s.dev.wdn.dead = false → s.dev.mgmt.cur = none → s.dev.mgmt.queue = q :: rest → d = { s.dev with mgmt := { s.dev.mgmt with queue := rest } } →
    (q.version ≠ 1 → exec .vendorMessage s = .next (s.put (answer d q msBadCommand []))) ∧
    (q.version = 1 → cmdKnown q.cmd = true → lengthOk q.cmd q.body = false → exec .vendorMessage s = .next (s.put (answer d q msBadLength []))) ∧
    (q.version = 1 → cmdKnown q.cmd = true → lengthOk q.cmd q.body = true → bootLocked s.dev = false → s.dev.code ≠ stBootFailed → q.cmd ≠ 0x11 → q.cmd ≠ 0x12 → exec .vendorMessage s = .next (s.put (answer d q msUnitBusy []))) ∧
    (q.version = 1 → cmdKnown q.cmd = true → lengthOk q.cmd q.body = true → (bootLocked s.dev = true ∨ q.cmd = 0x11 ∨ q.cmd = 0x12) → stateAllows d q.cmd q.body = true → q.flags = 0 → q.rsvd = 0 → q.status = 0 →
      exec .vendorMessage s = .next (s.put { d with mgmt := { d.mgmt with cur := some q } }))) ∧
  (∀ (s : State) (q : VReq), live s.dev = true → s.dev.mgmt.cur = some q →
    (q.cmd = 0x11 → exec .stateGet s = .next (s.put (finish s.dev q 0 ([byteOf s.dev.code, byteOf s.dev.ring.mode, byteOf s.dev.ring.nLive, 0] ++ leBytes 4 (shown s.dev .BOOT_STATUS [] Reg.BOOT_STATUS))))) ∧
    (q.cmd = 0x12 → exec .telemetry s = .next (s.put (finish s.dev q 0 (telemetry s.dev)))) ∧
    (q.cmd = 0x13 → exec .getAlerts s = .next (s.put (finish (wr s.dev Reg.MGT_ALERT 0) q 0 (leBytes 4 (rdn s.dev Reg.MGT_ALERT))))) ∧
    (q.cmd = 0x20 → leAt q.body 2 2 = 0 →
      (leAt q.body 0 1 = 0 → leAt q.body 1 1 ≤ 30 → leAt q.body 10 2 = 0 → exec .logRead s = .next (s.put (finish s.dev q 0 (readElog s.dev (leAt q.body 1 1) (slice q.body 4 8))))) ∧
      (leAt q.body 0 1 = 1 → leAt q.body 1 1 ≤ 7 → exec .logRead s = .next (s.put (finish s.dev q 0 (readAudit s.dev (leAt q.body 1 1) (slice q.body 4 8))))) ∧
      (1 < leAt q.body 0 1 → exec .logRead s = .next (s.put (finish s.dev q msReservedEncoding [])))) ∧
    (q.cmd = 0x30 → exec .sleep s = .next (s.put (askBarrier s.dev 8 0 0))) ∧
    (q.cmd = 0x31 → (sleepInFlight s.dev = false → exec .wake s = .next (s.put (finish (wakeUp s.dev) q 0 []))) ∧
      (sleepInFlight s.dev = true → exec .wake s = .next (s.put (finish { s.dev with pwr := { s.dev.pwr with wakeDue := true } } q 0 [])))) ∧
    (q.cmd = 0x32 → q.jtag = false → s.dev.wdn.dead = false → ∃ t, exec .reset s = .next t ∧ t.dev.code = stReset ∧ t.fuse = s.fuse ∧ t.flash = s.flash ∧ t.dev.mgmt.out = s.dev.mgmt.out ++ [(q.eid, q.tag, responseBytes q 0 [])] ∧
      t.dev.now = 0 ∧ t.dev.core = [] ∧ t.dev.rvp.reqs = []))

/-- READ, WRITE, REGISTER_WRITE, COUNTER_LO_READ, TIMER_CONFIG_WRITE, FAST_G_WRITE. -/
def Obligations.RegisterAccess : Prop :=
  (∀ (s : State) (q : VReq), live s.dev = true → s.dev.mgmt.cur = some q → leAt q.body 6 2 = 0 →
    (q.cmd = 0x01 →
      (∀ vs d, leAt q.body 4 2 ≤ 240 → rangeOk (leAt q.body 0 4) (leAt q.body 4 2) = true → readRegs s.fuse (leAt q.body 0 4) (leAt q.body 4 2) s.dev = (vs, d) →
        exec .read s = .next (s.put (finish d q 0 (leBytes 2 (leAt q.body 4 2) ++ [0, 0] ++ (vs.map (fun v => leBytes 4 v.toNat)).flatten)))) ∧
      (0 < leAt q.body 4 2 → leAt q.body 4 2 ≤ 240 → rangeOk (leAt q.body 0 4) (leAt q.body 4 2) = false → exec .read s = .next (s.put (finish s.dev q msBadAddress []))) ∧
      (leAt q.body 4 2 = 0 → exec .read s = .next (s.put (finish s.dev q 0 [0, 0, 0, 0])))) ∧
    (q.cmd = 0x02 →
      (∀ st done fail d, leAt q.body 4 2 ≤ 253 → rangeOk (leAt q.body 0 4) (leAt q.body 4 2) = true → writeRegs (leAt q.body 0 4) (writeValues q.body) 0 s.dev = ((st, done, fail), d) →
        exec .write s = .next (s.put (finish d q st (leBytes 2 done ++ [0, 0] ++ leBytes 4 fail)))) ∧
      (0 < leAt q.body 4 2 → leAt q.body 4 2 ≤ 253 → rangeOk (leAt q.body 0 4) (leAt q.body 4 2) = false → exec .write s = .next (s.put (finish s.dev q msBadAddress (List.replicate 8 0)))))) ∧
  (∀ (s : State) (c : Instr) (g : RegGroup) (l : List Nat) (a : Nat) (v : W32), live s.dev = true → mgmtOpen s.dev = true →
    ((∃ ad : BitVec 32, c = .registerWrite ad v ∧ ad.toNat = a ∧ rangeOk a 1 = true ∧ frameAbsent s.dev a = false ∧ a < shadowBase ∧ regAt a = some (g, l) ∧ ¬ ((frameSite a).isSome = true ∧ 0x800 ≤ a % 0x1000 ∧ a % 0x1000 < 0xC00)) ∨
      (∃ (n : Fin 32) (r : TimerReg), c = .timerConfigWrite n r v ∧ r.at n.val = (g.id, l, a) ∧ rowOf g.id = g) ∨
      (∃ m : Fin 16, c = .fastGWrite m v ∧ g = rowOf .DET_MODEL_FAST_G ∧ l = [m.val] ∧ a = Reg.DET_MODEL_FAST_G m.val)) →
    (v &&& ~~~(fieldMask g) ≠ 0 → exec c s = .next (s.put (elog 1 8 0x0804 0 a s.dev))) ∧
    (v &&& ~~~(fieldMask g) = 0 →
      (encodingBad s.dev g l a v = true → exec c s = .next s) ∧
      (encodingBad s.dev g l a v = false →
        (lockHit s.dev g l a v = true → exec c s = .next (s.put (elog 1 8 0x0804 0 a s.dev))) ∧
        (lockHit s.dev g l a v = false →
          (blockStatus s.dev g l v = 0 → exec c s = .next (s.put (woAction g.id l v (setFields s.dev g l a v)))) ∧
          (blockStatus s.dev g l v = msUnitBusy → exec c s = .next s))))) ∧
  (∀ (s : State) (a : BitVec 32) (g : RegGroup) (l : List Nat), live s.dev = true → mgmtOpen s.dev = true → rangeOk a.toNat 1 = true → a.toNat < shadowBase → frameAbsent s.dev a.toNat = false → frameSite a.toNat = none →
    regAt a.toNat = some (g, l) → g.kind = .lo → plainPair g.id = false →
    ∃ t, exec (.counterLoRead a) s = .next t ∧ smGet 0 t.dev.regs.latch a.toNat = BitVec.ofNat 32 (pairValue s.dev g.id l a.toNat / 2 ^ 32) ∧
      (∀ b, b ≠ a.toNat → smGet 0 t.dev.regs.latch b = smGet 0 s.dev.regs.latch b) ∧ t.dev.regs.val = s.dev.regs.val ∧ t.dev.regs.cnt = s.dev.regs.cnt ∧ t.dev.core = s.dev.core ∧ t.fuse = s.fuse ∧ t.flash = s.flash)

/-- The frame of a fused-out site. -/
def Obligations.FusedFrame : Prop :=
  ∀ (fz : Fuses) (d : Dev) (i : Fin 288) (off : Nat) (v : W32), off < 0x1000 → isFused d.part i.val = true →
    readReg fz d (0x100000 + 0x1000 * i.val + off) = (0, d) ∧ writeReg d (0x100000 + 0x1000 * i.val + off) v = (msUnitAbsent, d)

/-- FENCE. On a unit with a decision pending it waits for that decision (log entry 61). -/
def Obligations.FenceCommand : Prop :=
  ∀ (s : State) (q : VReq) (k : Nat), live s.dev = true → s.dev.mgmt.cur = some q → q.cmd = 0x10 → leAt q.body 1 1 = 0 → leAt q.body 2 2 = k →
    (leAt q.body 0 1 = 1 →
      (288 ≤ k → exec .fence s = .next (s.put (finish s.dev q msReservedEncoding []))) ∧
      (k < 288 → isFused s.dev.part k = true → exec .fence s = .next (s.put (finish s.dev q msUnitAbsent []))) ∧
      (k < 288 → isFused s.dev.part k = false → (siteInfo s.dev k).st = .fenced → exec .fence s = .next (s.put (finish s.dev q 0 []))) ∧
      (k < 288 → isFused s.dev.part k = false → ((siteInfo s.dev k).st = .live ∨ (siteInfo s.dev k).st = .spare ∨ (siteInfo s.dev k).st = .promoting ∨ ((siteInfo s.dev k).st = .suspect ∧ (siteInfo s.dev k).deciding = false)) →
        exec .fence s = .next (s.put (finish (fenceSite (countFence s.dev) k 5 true) q 0 []))) ∧
      (k < 288 → isFused s.dev.part k = false → (siteInfo s.dev k).st = .suspect → (siteInfo s.dev k).deciding = true → (siteInfo s.dev k).mgmtFence = false →
        exec .fence s = .next (s.put (countFence (setSite s.dev k { siteInfo s.dev k with mgmtFence := true, cause := 5 }))))) ∧
    (leAt q.body 0 1 = 2 → k < 4 →
      ((seamAt s.dev k).st = .lost → exec .fence s = .next (s.put (finish s.dev q 0 []))) ∧
      ((seamAt s.dev k).st ≠ .lost → ((seamAt s.dev k).st = .suspect → (seamAt s.dev k).deciding = false) → exec .fence s = .next (s.put (finish (loseSeam (countFence s.dev) k true) q 0 []))) ∧
      ((seamAt s.dev k).st = .suspect → (seamAt s.dev k).deciding = true → (seamAt s.dev k).mgmtFence = false → exec .fence s = .next (s.put (countFence (setSeam s.dev k { seamAt s.dev k with mgmtFence := true }))))) ∧
    (leAt q.body 0 1 = 3 → k < 128 →
      (chState s.dev (k / 32) (k % 32) ≠ 0 → exec .fence s = .next (s.put (finish s.dev q 0 []))) ∧
      (chState s.dev (k / 32) (k % 32) = 0 → tgRunning s.dev (k / 32) (k % 32) = false →
        exec .fence s = .next (s.put (finish (countFence (becomeFailing s.dev (k / 32) (k % 32) (2 ^ 31) (addrOfLocal (k / 32) (k % 32) (64 * rdn s.dev (tgReg (k / 32) (k % 32) 0x10))) 0)) q 0 [])))) ∧
    (leAt q.body 0 1 = 4 → k < 32 →
      (chState s.dev (4 + k / 4) (k % 4) ≠ 0 → exec .fence s = .next (s.put (finish s.dev q 0 []))) ∧
      (chState s.dev (4 + k / 4) (k % 4) = 0 → tgRunning s.dev (4 + k / 4) (k % 4) = false →
        exec .fence s = .next (s.put (finish (countFence (becomeFailing s.dev (4 + k / 4) (k % 4) (2 ^ 31) (addrOfLocal (4 + k / 4) (k % 4) (64 * rdn s.dev (tgReg (4 + k / 4) (k % 4) 0x10))) 0)) q 0 [])))) ∧
    (leAt q.body 0 1 = 5 → k < 2 → (portAt s.dev k).st = 3 → exec .fence s = .next (s.put (finish (linkDownAs (2 ^ 31 + 6) (countFence s.dev) k 6 0) q 0 []))) ∧
    (leAt q.body 0 1 = 6 → k = 0 → s.dev.code ≠ stLost → exec .fence s = .next (s.put (finish (enterLost s.dev.wdn.active 7 true (countFence s.dev)) q 0 []))) ∧
    ((leAt q.body 0 1 = 0 ∨ 6 < leAt q.body 0 1) → exec .fence s = .next (s.put (finish s.dev q msReservedEncoding [])))

/-- SA_INSTALL, SA_DELETE, ZEROISE. -/
def Obligations.MacsecKeys : Prop :=
  ∀ (s : State) (q : VReq) (b : List Byte) (p : SubPort), live s.dev = true → s.dev.mgmt.cur = some q → q.body = b → spAt s.dev (leAt b 0 1) (leAt b 1 1) = p →
    (q.cmd = 0x50 → leAt b 5 1 < 2 → leAt b 6 2 = 0 →
      (saSelOk s.dev b = false → exec .saInstall s = .next (s.put (finish s.dev q msReservedEncoding []))) ∧
      (saSelOk s.dev b = true → leAt b 2 1 = 0 →
        (s.fuse.kwk = none → exec .saInstall s = .next (s.put (finish s.dev q msState []))) ∧
        (∀ k, s.fuse.kwk = some k → saInUse p b = true → exec .saInstall s = .next (s.put (finish s.dev q
          (if (keyUnwrap k (slice b 28 56)).any (fun pl => allZero (pl.drop 44)) then msUnitBusy else msAuthFail) []))) ∧
        (∀ k, s.fuse.kwk = some k → saInUse p b = false → (p.tx.filter (fun a => decide (a.an ≠ leAt b 4 1))).length < 2 →
          (leAt b 5 1 = 0 → exec .saInstall s = .next (s.put (match keyUnwrap k (slice b 28 56) with
            | none => finish s.dev q msAuthFail []
            | some pl => if allZero (pl.drop 44) = false then finish s.dev q msAuthFail []
              else finish (txGo (setSp s.dev (leAt b 0 1) (leAt b 1 1) { p with tx := p.tx.filter (fun a => decide (a.an ≠ leAt b 4 1)) ++
                [{ an := leAt b 4 1, sci := slice b 8 8, ssci := slice b 16 4, key := pl.take 32, salt := slice pl 32 12, pn := leAt b 20 8, low := leAt b 20 8 }] }) (leAt b 0 1) (leAt b 1 1)) q 0 []))) ∧
          (leAt b 5 1 = 1 → exec .saInstall s = .next (s.put (match keyUnwrap k (slice b 28 56) with
            | none => finish s.dev q msAuthFail []
            | some pl => if allZero (pl.drop 44) = false then finish s.dev q msAuthFail []
              else finish (txGo (pnNear (setSp s.dev (leAt b 0 1) (leAt b 1 1) { p with txAn := some (leAt b 4 1), tx := p.tx.filter (fun a => decide (a.an ≠ leAt b 4 1)) ++
                [{ an := leAt b 4 1, sci := slice b 8 8, ssci := slice b 16 4, key := pl.take 32, salt := slice pl 32 12, pn := leAt b 20 8, low := leAt b 20 8 }] })
                (leAt b 0 1) (decide (pnNearFrom ≤ leAt b 20 8))) (leAt b 0 1) (leAt b 1 1)) q 0 [])))))) ∧
    (q.cmd = 0x51 → allZero (slice b 5 3) = true → saSelOk s.dev b = true →
      (saInUse p b = true → exec .saDelete s = .next (s.put (finish s.dev q msUnitBusy []))) ∧
      (saInUse p b = false → exec .saDelete s = .next (s.put (finish (setSp s.dev (leAt b 0 1) (leAt b 1 1) (saPut p b ((saList p b).filter (fun a => decide (a.an ≠ leAt b 4 1))))) q 0 [])))) ∧
    (q.cmd = 0x52 → ∃ t, exec .zeroise s = .next t ∧ (∀ n k, (spAt t.dev n k).tx = [] ∧ (spAt t.dev n k).txAn = none ∧ (spAt t.dev n k).rxSc.flatten = []) ∧ t.dev.core = s.dev.core ∧ t.dev.mem = s.dev.mem)

/-- KEY_SLOT_PROGRAM, KEY_SLOT_REVOKE, KWK_SET, MIN_SVN, DEBUG_UNLOCK, FLASH_ERASE, FLASH_WRITE. That programming clears bits and sets none is the model's (log entry 7). -/
def Obligations.FusesAndFlash : Prop :=
  ∀ (s : State) (q : VReq) (b : List Byte), live s.dev = true → s.dev.mgmt.cur = some q → q.body = b →
    (q.cmd = 0x60 → leAt b 2 2 = 0 → leAt b 1 1 < 4 →
      (leAt b 0 1 = 1 →
        ((s.fuse.keys.getD (leAt b 1 1) {}).provisioned = true → exec .keySlotProgram s = .next (s.put (finish s.dev q msRefused []))) ∧
        ((s.fuse.keys.getD (leAt b 1 1) {}).provisioned = false → exec .keySlotProgram s = .next { s with dev := finish s.dev q 0 [], fuse := { s.fuse with keys := s.fuse.keys.set (leAt b 1 1) { s.fuse.keys.getD (leAt b 1 1) {} with hash := padTo 48 (slice b 4 48), provisioned := true } } })) ∧
      (leAt b 0 1 = 2 → allZero (slice b 4 48) = true → (s.fuse.keys.getD (leAt b 1 1) {}).provisioned = true →
        ((s.fuse.keys.getD (leAt b 1 1) {}).revoked = true → exec .keySlotRevoke s = .next (s.put (finish s.dev q 0 []))) ∧
        ((s.fuse.keys.getD (leAt b 1 1) {}).revoked = false →
          ((s.fuse.keys.filter (fun x => x.provisioned && !x.revoked)).length ≤ 1 → exec .keySlotRevoke s = .next (s.put (finish s.dev q msRefused []))) ∧
          (1 < (s.fuse.keys.filter (fun x => x.provisioned && !x.revoked)).length → exec .keySlotRevoke s = .next { s with dev := finish s.dev q 0 [], fuse := { s.fuse with keys := s.fuse.keys.set (leAt b 1 1) { s.fuse.keys.getD (leAt b 1 1) {} with revoked := true } } })))) ∧
    (q.cmd = 0x61 →
      (s.fuse.kwk = none → b.length = 32 → exec .kwkSet s = .next { s with dev := finish s.dev q 0 [], fuse := { s.fuse with kwk := some b } }) ∧
      (s.fuse.kwk.isSome = true → exec .kwkSet s = .next (s.put (finish s.dev q msRefused [])))) ∧
    (q.cmd = 0x62 → allZero (slice b 1 3) = true →
      (leAt b 0 1 = s.fuse.minSvn → exec .minSvn s = .next (s.put (finish s.dev q 0 []))) ∧
      (s.fuse.minSvn < leAt b 0 1 → leAt b 0 1 ≤ 63 → leAt b 0 1 ≤ selectedSvn s.dev → exec .minSvn s = .next { s with dev := finish s.dev q 0 [], fuse := { s.fuse with minSvn := leAt b 0 1 } }) ∧
      ((leAt b 0 1 < s.fuse.minSvn ∨ (s.fuse.minSvn < leAt b 0 1 ∧ (63 < leAt b 0 1 ∨ selectedSvn s.dev < leAt b 0 1))) → exec .minSvn s = .next (s.put (finish s.dev q msRefused [])))) ∧
    (q.cmd = 0x63 →
      (fld s.dev Reg.BOOT_STATUS 29 28 = 0 → exec .debugUnlock s = .next (s.put (finish s.dev q msState []))) ∧
      (fld s.dev Reg.BOOT_STATUS 29 28 = 1 → rdn s.dev Reg.BOOT_DEBUG < 3 →
        exec .debugUnlock s = .next (s.put (if sigOk (slice (cfgSection s.dev.boot.image 6) 8 96) (tokenMessage s.dev) b = true then finish (setFld s.dev Reg.BOOT_STATUS 30 30 1) q 0 []
          else finish (newChallenge (setFld s.dev Reg.BOOT_DEBUG 1 0 (rdn s.dev Reg.BOOT_DEBUG + 1))) q msAuthFail [])))) ∧
    (q.cmd = 0x70 → allZero (slice b 1 3) = true → leAt b 0 1 ≤ 1 →
      (slotInUse s.dev (leAt b 0 1) = true → exec .flashErase s = .next (s.put (finish s.dev q msUnitBusy []))) ∧
      (slotInUse s.dev (leAt b 0 1) = false → ∃ t, exec .flashErase s = .next t ∧ t.dev = finish s.dev q 0 [] ∧ t.fuse = s.fuse ∧
        (∀ a, slotBase (leAt b 0 1) ≤ a → a < slotBase (leAt b 0 1) + 0x400000 → smGet flashDefault t.flash a = 0xFF) ∧
        (∀ a, (a < slotBase (leAt b 0 1) ∨ slotBase (leAt b 0 1) + 0x400000 ≤ a) → smGet flashDefault t.flash a = smGet flashDefault s.flash a))) ∧
    (q.cmd = 0x71 → allZero (slice b 1 3) = true → leAt b 10 2 = 0 → leAt b 0 1 ≤ 1 → b.length = 12 + leAt b 8 2 → leAt b 8 2 ≤ 512 → leAt b 4 4 + leAt b 8 2 ≤ 0x400000 →
      (slotInUse s.dev (leAt b 0 1) = true → exec .flashWrite s = .next (s.put (finish s.dev q msUnitBusy []))) ∧
      (slotInUse s.dev (leAt b 0 1) = false → ∃ t, exec .flashWrite s = .next t ∧ t.dev = finish s.dev q 0 [] ∧ t.fuse = s.fuse ∧
        (∀ i, i < leAt b 8 2 → smGet flashDefault t.flash (slotBase (leAt b 0 1) + leAt b 4 4 + i) = smGet flashDefault s.flash (slotBase (leAt b 0 1) + leAt b 4 4 + i) &&& b.getD (12 + i) 0) ∧
        (∀ a, (a < slotBase (leAt b 0 1) + leAt b 4 4 ∨ slotBase (leAt b 0 1) + leAt b 4 4 + leAt b 8 2 ≤ a) → smGet flashDefault t.flash a = smGet flashDefault s.flash a)))

/-- TAP_RESET, IDCODE, SAMPLE_PRELOAD, EXTEST, CLAMP, HIGHZ, BYPASS, DEBUG_HALT, DEBUG_RESUME, MEM_ACCESS_READ, MEM_ACCESS_WRITE, ALERT_RESPONSE. -/
def Obligations.TapAndDebug : Prop :=
  ∀ s : State,
    (∃ t u, exec .tapReset s = .next t ∧ t.dev.mgmt.tap = { s.dev.mgmt.tap with instr := 0x01, dr := 0xB007A1D5 } ∧ exec .idcode s = .next u ∧ u.dev.mgmt.tap = t.dev.mgmt.tap ∧ t.dev.regs = s.dev.regs ∧ u.dev.regs = s.dev.regs ∧ t.fuse = s.fuse ∧ u.fuse = s.fuse) ∧
    (exec .bypass s = .next (s.put { s.dev with mgmt := { s.dev.mgmt with tap := { s.dev.mgmt.tap with instr := 0xFF, dr := 0 } } })) ∧
    (∀ vals, ∃ t, exec (.samplePreload vals) s = .next t ∧ t.dev.mgmt.tap.preload = vals ∧ t.dev.mgmt.tap.instr = 0x02 ∧ t.dev.regs = s.dev.regs ∧ t.dev.core = s.dev.core) ∧
    (∀ d, { s.dev with mgmt := { s.dev.mgmt with tap := { s.dev.mgmt.tap with instr := 0xFF, dr := 0 } } } = d → debugOpen s.dev = false →
      exec .extest s = .next (s.put d) ∧ exec .clamp s = .next (s.put d) ∧ exec .highz s = .next (s.put d) ∧
      (live s.dev = true → ∀ (m : BitVec 8) (a v : BitVec 32), exec (.debugHalt m) s = .next (s.put d) ∧ exec (.debugResume m) s = .next (s.put d) ∧ exec (.memAccessRead a) s = .next (s.put d) ∧ exec (.memAccessWrite a v) s = .next (s.put d))) ∧
    (debugOpen s.dev = true →
      (∃ t, exec .extest s = .next t ∧ t.dev.mgmt.tap = { s.dev.mgmt.tap with instr := 0x03, dr := 0, extest := true } ∧ live t.dev = false) ∧
      (∃ t, exec .clamp s = .next t ∧ t.dev.mgmt.tap = { s.dev.mgmt.tap with instr := 0x04, dr := 0 }) ∧
      (∃ t, exec .highz s = .next t ∧ t.dev.mgmt.tap = { s.dev.mgmt.tap with instr := 0x05, dr := 0 }) ∧
      (live s.dev = true →
        (∀ (m : BitVec 8) (d : Dev), flipGroups (tapSelect 0x40 (256 * maskOf s.dev.halted) s.dev) ((groupsOf m).filter (fun k => !s.dev.halted.contains k)) = d →
          ∃ t, exec (.debugHalt m) s = .next t ∧ (∀ k, k < 8 → (k ∈ t.dev.halted ↔ k ∈ d.halted ∨ m.getLsbD k = true)) ∧ t.dev.core = d.core ∧ t.dev.mem = d.mem ∧ t.dev.rvp = d.rvp) ∧
        (∀ (m : BitVec 8) (d : Dev), flipGroups (tapSelect 0x40 (256 * maskOf s.dev.halted) s.dev) ((groupsOf m).filter (fun k => s.dev.halted.contains k)) = d →
          (d.code ≠ stHalted → exec (.debugResume m) s = .next (s.put (pump { d with halted := d.halted.filter (fun k => !(groupsOf m).contains k) }))) ∧
          (∀ e, d.code = stHalted → (∀ k ∈ d.halted, k < 4 → m.getLsbD k = true) →
            setCode { d with halted := d.halted.filter (fun k => !(groupsOf m).contains k) } (servingCode { d with halted := d.halted.filter (fun k => !(groupsOf m).contains k) }) = e →
            exec (.debugResume m) s = .next (s.put (pump (resumeReleases ((e.rvp.reqs.map (fun x => x.1)).foldl (fun d h => devDeadlineExpiry h d) e)))))) ∧
        (s.dev.mgmt.cur = none → s.dev.mgmt.queue.length < 8 →
          (∀ a : BitVec 32, ∃ t, exec (.memAccessRead a) s = .next t ∧ t.dev.mgmt.queue = s.dev.mgmt.queue ++ [{ cmd := 1, body := leBytes 4 a.toNat ++ [1, 0, 0, 0], jtag := true }] ∧ t.dev.mgmt.tap.memStatus = 1 ∧ t.dev.mgmt.tap.instr = 0x41) ∧
          (∀ a v : BitVec 32, ∃ t, exec (.memAccessWrite a v) s = .next t ∧ t.dev.mgmt.queue = s.dev.mgmt.queue ++ [{ cmd := 2, body := leBytes 4 a.toNat ++ [1, 0, 0, 0] ++ leBytes 4 v.toNat, jtag := true }] ∧ t.dev.mgmt.tap.memStatus = 1)))) ∧
    (live s.dev = true →
      (s.dev.alertN = true → ∀ w, exec (.alertResponse w) s = .next s) ∧
      (s.dev.alertN = false → ∀ w, exec (.alertResponse w) s = .next (s.put { s.dev with mgmt := { s.dev.mgmt with ara := s.dev.mgmt.ara ++ [smbAddr s.dev] }, alertN := w }))) ∧
    (∀ (d : Dev) (gs : List Nat), (flipGroups d gs).halted = d.halted ∧ (flipGroups d gs).code = d.code ∧ (flipGroups d gs).mem = d.mem ∧ (flipGroups d gs).rvp = d.rvp ∧ (flipGroups d gs).regs = d.regs) ∧
    (∀ (d : Dev) (i n : Nat), taskAt (coreAt (flipWaits d i) i) n = (if (taskAt (coreAt d i) n).st = .blocked then { taskAt (coreAt d i) n with since := d.now - (taskAt (coreAt d i) n).since } else taskAt (coreAt d i) n))

/-- CLR_SWITCH, CLR_STALL, CLR_WR_FIRST, CLR_WORDS, CLR_BYTES, LAP_CLR_CNT, XMEM_CLR_CNT, RVP_CLR_CNT, FCS_CLR_CNT, WDN_CLR_CNT, ELOG_CLR_CNT, CLR_ABORT, CLR_INFO, CLR_COUNT, SE_CLR_FAULT, DMA_CLR_FAULT, LNK_CLR_CNT, DET_CLR_CNT. -/
def Obligations.ClearActions : Prop :=
  ∀ s : State, live s.dev = true → mgmtOpen s.dev = true →
    (∀ (c : Instr) (a n : Nat), ((∃ i : Fin 288, isFused s.dev.part i.val = false ∧ ((c = .clrSwitch i ∧ a = Reg.CORE_SWITCH_LO i.val ∧ n = 1) ∨ (c = .clrStall i ∧ a = Reg.CORE_STALL_LO i.val 0 ∧ n = 6) ∨
          (c = .clrWrFirst i ∧ a = Reg.CORE_SPAD_WR_FIRST_LO i.val ∧ n = 1) ∨ (c = .clrWords i ∧ a = Reg.CORE_SE_WORDS_LO i.val 0 ∧ n = 3) ∨ (c = .clrBytes i ∧ a = Reg.CORE_DMA_BYTES_LO i.val ∧ n = 1))) ∨
        (c = .lapClrCnt ∧ a = Reg.LAP_CNT_LO 0 ∧ n = 13) ∨ (∃ u : Fin 12, c = .xmemClrCnt u ∧ a = xreg u.val 0x080 ∧ n = 10) ∨ (c = .rvpClrCnt ∧ a = Reg.RVP_CNT_LO 0 ∧ n = 17) ∨
        (c = .fcsClrCnt ∧ a = Reg.FCS_CNT_LO 0 ∧ n = 15) ∨ (c = .wdnClrCnt ∧ a = Reg.WDN_CNT_LO 0 ∧ n = 8) ∨ (c = .elogClrCnt ∧ a = Reg.ELOG_CNT_LO 0 ∧ n = 7)) →
      ∃ t, exec c s = .next t ∧ (∀ k, k < n → cnt t.dev (a + 8 * k) = 0 ∧ smGet 0 t.dev.regs.latch (a + 8 * k) = 0) ∧ (∀ b, (∀ k, k < n → b ≠ a + 8 * k) → cnt t.dev b = cnt s.dev b) ∧
        t.dev.regs.val = s.dev.regs.val ∧ t.dev.core = s.dev.core ∧ t.dev.mem = s.dev.mem) ∧
    (∀ (c : Instr) (a b : Nat), (∃ i : Fin 288, isFused s.dev.part i.val = false ∧ ((c = .clrAbort i ∧ a = Reg.CORE_ABORT_LAST i.val ∧ b = Reg.CORE_ABORT_COUNT i.val) ∨ (c = .clrInfo i ∧ a = Reg.CORE_SPAD_ERR_INFO i.val ∧ b = Reg.CORE_SPAD_ERR_SYN i.val) ∨
          (c = .clrCount i ∧ a = Reg.CORE_SPAD_CE_COUNT i.val ∧ b = Reg.CORE_SPAD_UE_COUNT i.val) ∨ (c = .seClrFault i ∧ a = Reg.CORE_SE_FAULT i.val ∧ b = Reg.CORE_SE_FAULT_ADDR i.val))) →
      ∃ t, exec c s = .next t ∧ rd t.dev a = 0 ∧ rd t.dev b = 0 ∧ (∀ x, x ≠ a → x ≠ b → rd t.dev x = rd s.dev x) ∧ t.dev.regs.cnt = s.dev.regs.cnt ∧ t.dev.core = s.dev.core ∧ t.dev.mem = s.dev.mem) ∧
    (∀ i : Fin 288, isFused s.dev.part i.val = false → ∃ t, exec (.dmaClrFault i) s = .next t ∧ rd t.dev (Reg.CORE_DMA_FAULT i.val) = 0 ∧ cnt t.dev (Reg.CORE_DMA_FAULT_ADDR_LO i.val) = 0 ∧
      (∀ x, x ≠ Reg.CORE_DMA_FAULT i.val → rd t.dev x = rd s.dev x) ∧ (∀ x, x ≠ Reg.CORE_DMA_FAULT_ADDR_LO i.val → cnt t.dev x = cnt s.dev x)) ∧
    (∀ i : Fin 288, isFused s.dev.part i.val = true → ∀ c ∈ ([.clrAbort i, .clrSwitch i, .clrStall i, .clrWrFirst i, .clrInfo i, .clrCount i, .seClrFault i, .clrWords i, .dmaClrFault i, .clrBytes i] : List Instr), exec c s = .next s) ∧
    (∀ p : Fin 2, ∃ t, exec (.lnkClrCnt p) s = .next t ∧ (∀ k, k < 13 → cnt t.dev (Reg.LNK_CNT_LO p.val k) = 0) ∧
      (∀ n, n < 17 → rd t.dev (Reg.LNK_LANE_CORR p.val n) = 0 ∧ rd t.dev (Reg.LNK_LANE_UNCORR p.val n) = 0 ∧ rd t.dev (Reg.LNK_LANE_LOL p.val n) = 0) ∧ t.dev.ports = s.dev.ports) ∧
    (∃ t, exec .detClrCnt s = .next t ∧ cnt t.dev Reg.DET_CHOICE_LO = 0 ∧ (∀ k, k < 5 → cnt t.dev (Reg.DET_TIMING_LO k) = 0) ∧ (∀ k, k < 6 → cnt t.dev (Reg.DET_TWIN_CNT_LO k) = 0) ∧ rd t.dev Reg.DET_AUDIT_DROP = 0 ∧
      (∀ m, m < 16 → cnt t.dev (Reg.DET_MODEL_LATE_LO m) = 0 ∧ cnt t.dev (Reg.DET_MODEL_CHOICE_LO m) = 0) ∧ t.dev.det = s.dev.det)

/-- RETRAIN, REFORM_REQ, ELOG_SEL, FCS_ENTRY_SEL, WEIGHT_WRITE. -/
def Obligations.RegisterActions : Prop :=
  (∀ s : State, live s.dev = true → mgmtOpen s.dev = true →
    (∀ p : Fin 2, (s.dev.code ≠ stSleep → ((portAt s.dev p.val).st = 0 ∨ (portAt s.dev p.val).st = 4) → exec (.retrain p) s = .next (s.put (restate (startTraining s.dev p.val 1)))) ∧
      (s.dev.code = stSleep → exec (.retrain p) s = .next s) ∧
      ((portAt s.dev p.val).st ≠ 0 → (portAt s.dev p.val).st ≠ 4 → exec (.retrain p) s = .next s)) ∧
    (s.dev.ring.mode ≠ 0 → exec .reformReq s = .next (s.put (askBarrier s.dev 6 0 0))) ∧
    (s.dev.ring.mode = 0 → exec .reformReq s = .next s) ∧
    (∀ q : BitVec 32, exec (.elogSel q) s = .next (s.put (setFld (wr { s.dev with wdn := { s.dev.wdn with shown := (elogFind s.dev q.toNat).2 } } Reg.ELOG_SEL q) Reg.ELOG_SEL_STATUS 8 8 1))) ∧
    (∀ e : Fin 65536, exec (.fcsEntrySel e) s = .next (s.put { wr s.dev Reg.FCS_ENTRY_SEL (BitVec.ofNat 32 e.val) with fcs := { s.dev.fcs with shown := entryRegs s.dev e.val } })) ∧
    (∀ (u : Fin 12) (c : Fin 32) (high : Bool) (v : BitVec 32), hasCh u.val c.val = true →
      ∃ t, exec (.weightWrite u (some c) high v) s = .next t ∧
        chWeights t.dev u.val c.val = (if high then (chWeights s.dev u.val c.val).take 4 ++ (List.range 4).map (fun i => bits v.toNat (8 * i + 7) (8 * i)) else (List.range 4).map (fun i => bits v.toNat (8 * i + 7) (8 * i)) ++ (chWeights s.dev u.val c.val).drop 4) ∧
        (∀ u' c', chKey u' c' ≠ chKey u.val c.val → chWeights t.dev u' c' = chWeights s.dev u' c') ∧ t.dev.regs = s.dev.regs ∧ t.dev.mem = s.dev.mem)) ∧
  (∀ (s : State) (c : Instr), live s.dev = true → mgmtOpen s.dev = false →
    ((∃ p, c = .retrain p) ∨ c = .reformReq ∨ (∃ q, c = .elogSel q) ∨ (∃ e, c = .fcsEntrySel e) ∨ (∃ u k h v, c = .weightWrite u k h v) ∨ (∃ a v, c = .registerWrite a v) ∨ (∃ n r v, c = .timerConfigWrite n r v) ∨ (∃ m v, c = .fastGWrite m v) ∨
      (∃ n, c = .timerStart n ∨ c = .timerStop n ∨ c = .timerReset n) ∨ c = .wdnClrCnt ∨ c = .elogClrCnt ∨ c = .rvpClrCnt ∨ c = .fcsClrCnt ∨ c = .detClrCnt ∨ c = .lapClrCnt) → exec c s = .next s)

/-- POR, PIN_RESET, PWRGD_FALL, RESET_RELEASE, and State.reset. That a pulse below 500 ns is ignored, and which registers the spec gives no reset value, is said in log entries 4 and 5. -/
def Obligations.Resets : Prop :=
  (State.reset.pending = [] ∧ State.reset.dev.code = stReset ∧ State.reset.dev.now = 0 ∧ State.reset.dev.core = [] ∧ State.reset.dev.mem.spad = [] ∧ State.reset.dev.mem.ext = [] ∧
    rd State.reset.dev Reg.MGT_ALERT_EN = 0xff ∧ rd State.reset.dev Reg.ELOG_ALERT_MASK = 0x1c ∧ fld State.reset.dev Reg.BOOT_STATUS 5 4 = 1 ∧ bootLocked State.reset.dev = false) ∧
  (∀ (s : State) (c : Instr), ((∃ v, c = .por v) ∨ (∃ n, c = .pinReset n ∧ 500 ≤ n) ∨ c = .pwrgdFall) →
    ∃ t, exec c s = .next t ∧ t.dev.code = stReset ∧ t.dev.now = 0 ∧ t.dev.core = [] ∧ t.dev.rvp.reqs = [] ∧ t.dev.model = [] ∧ t.dev.mem.spad = [] ∧ t.pending = s.pending ∧ t.fuse = s.fuse ∧ t.dev.part = s.dev.part ∧
      ((∀ q, s.dev.mgmt.cur = some q → q.cmd ≠ 0x70 ∧ q.cmd ≠ 0x71) → t.flash = s.flash) ∧
      (∀ a, a < 0x4000000000 → memByte t.dev.mem.ext a = memDefault) ∧
      ((∃ n, c = .pinReset n) → (∀ a, 0x4000000000 ≤ a → memByte t.dev.mem.ext a = memByte s.dev.mem.ext a) ∧ fld t.dev Reg.BOOT_STATUS 5 4 = 2 ∧ t.dev.pwr.thermtrip = s.dev.pwr.thermtrip) ∧
      ((∀ n, c ≠ .pinReset n) → t.dev.mem.ext = [] ∧ fld t.dev Reg.BOOT_STATUS 5 4 = 1)) ∧
  (∀ (s : State) (n : Nat), n < 500 → exec (.pinReset n) s = .next s) ∧
  (∀ (s t : State) (c : Instr), s.dev.code = stReset → (∀ k, c ≠ .resetRelease k) → exec c s = .next t → t.dev.code = stReset) ∧
  (∀ (s : State) (k : Fin 32), s.dev.code = stReset → ∃ t, exec (.resetRelease k) s = .next t ∧ t.dev.code = stBoot ∧ fld t.dev Reg.BOOT_STATUS 20 16 = k.val ∧ t.dev.core = s.dev.core ∧ t.fuse = s.fuse ∧ t.flash = s.flash) ∧
  (∀ (s : State) (k : Fin 32), s.dev.code ≠ stReset → exec (.resetRelease k) s = .next s)

/-- BOOT_PHASE_COMPLETE, FORMING_RETRAIN. -/
def Obligations.BootPhases : Prop :=
  (∀ s : State, s.dev.code = stBoot → live s.dev = true →
    (∀ o : BootOutcome, fld s.dev Reg.BOOT_STATUS 3 0 ≠ (match o with | .rom _ _ _ _ => 0 | .flash _ => 1 | .verify _ _ => 2 | .settings => 3 | .clear => 4 | .selftest _ _ => 5 | _ => 16) → exec (.bootPhaseComplete o) s = .next s) ∧
    (fld s.dev Reg.BOOT_STATUS 3 0 = 0 →
      exec (.bootPhaseComplete (.rom true true true true)) s = .next (s.put (phase { s.dev with pwr := { s.dev.pwr with sysref := true, xt32k := true } } 1)) ∧
      (∀ x, exec (.bootPhaseComplete (.rom true true false x)) s = .next (s.put (enterLost s.dev.wdn.active 6 false { s.dev with pwr := { s.dev.pwr with sysref := false, xt32k := x } }))) ∧
      (∀ y x, exec (.bootPhaseComplete (.rom false false y x)) s = .next (s.put (enterLost 0 2 false { s.dev with pwr := { s.dev.pwr with sysref := y, xt32k := x }, wdn := { s.dev.wdn with standby := 2 } })))) ∧
    (fld s.dev Reg.BOOT_STATUS 3 0 = 1 →
      ((fld s.dev Reg.BOOT_STATUS 20 16).testBit 4 = true → ∀ ok, exec (.bootPhaseComplete (.flash ok)) s = .next (s.put (bootFailed s.dev))) ∧
      ((fld s.dev Reg.BOOT_STATUS 20 16).testBit 4 = false → fld s.dev Reg.BOOT_STATUS 20 16 % 4 ≠ 3 → exec (.bootPhaseComplete (.flash true)) s = .next (s.put (phase s.dev 2))) ∧
      ((fld s.dev Reg.BOOT_STATUS 20 16).testBit 4 = false → exec (.bootPhaseComplete (.flash false)) s = .next (s.put (bootFailed (rejectCopy (rejectCopy s.dev 0 2) 1 2))))) ∧
    (fld s.dev Reg.BOOT_STATUS 3 0 = 2 →
      (∀ a b, exec (.bootPhaseComplete (.verify a b)) s = .next (s.put (bootVerify s.fuse s.flash a b s.dev))) ∧
      (fld s.dev Reg.BOOT_STATUS 27 26 = 0 → ∃ t, exec (.bootPhaseComplete (.verify false false)) s = .next t ∧ t.dev.code = stBootFailed ∧ fld t.dev (Reg.BOOT_COPY 0) 31 24 = 2 ∧ fld t.dev (Reg.BOOT_COPY 1) 31 24 = 2)) ∧
    (fld s.dev Reg.BOOT_STATUS 3 0 = 3 → exec (.bootPhaseComplete .settings) s = .next (s.put (phase (serrefAbsent (loadSettings s.dev s.dev.boot.image)) 4))) ∧
    (fld s.dev Reg.BOOT_STATUS 3 0 = 4 → ∃ t, exec (.bootPhaseComplete .clear) s = .next t ∧ t.dev.mem.spad = [] ∧ t.dev.mem.cls = [] ∧ t.dev.mem.err = [] ∧ fld t.dev Reg.BOOT_STATUS 3 0 = 5 ∧ t.dev.mem.ext = s.dev.mem.ext) ∧
    (fld s.dev Reg.BOOT_STATUS 3 0 = 5 → exec (.bootPhaseComplete (.selftest [] [])) s = .next (s.put (endBoot ((List.finRange 4).foldl (fun d k => setSeam d k.val { seamAt d k.val with st := .up }) s.dev))))) ∧
  (∀ s : State, s.dev.code = stTrain → live s.dev = true →
    (∀ f, fld s.dev Reg.BOOT_STATUS 3 0 = 6 → s.dev.boot.memDone = false → exec (.bootPhaseComplete (.memtrain f)) s = .next (s.put (bootMemtrain f s.dev))) ∧
    (s.dev.boot.memDone = true → (∀ p ∈ s.dev.ports, p.st = 3 ∨ p.st = 4) → ∃ t, exec (.bootPhaseComplete .ringtrain) s = .next t ∧ t.dev.code = stForming ∧ fld t.dev Reg.BOOT_STATUS 3 0 = 8 ∧ t.dev.core = s.dev.core ∧ t.dev.mem = s.dev.mem) ∧
    (s.dev.boot.memDone = false → exec (.bootPhaseComplete .ringtrain) s = .next s)) ∧
  (∀ s : State, live s.dev = true → s.dev.code = stForming → (portAt s.dev 0).st = 4 → s.dev.pwr.optref.getD 0 true = true → (portAt s.dev 1).st ≠ 4 →
    ∃ d, retrain s.dev 0 = d ∧ ((portAt d 1).st ≠ 4 → exec .formingRetrain s = .next (s.put d))) ∧
  (∀ s : State, live s.dev = true → s.dev.code ≠ stForming → exec .formingRetrain s = .next s)

/-- SPEED_MONITOR_UPDATE, THROTTLE_EVALUATION, AVS_COMPLETION, AVS_TIMEOUT, BROWN_OUT, THERMAL_FENCE, THERMTRIP. Choices of the model: log entries 116, 121. -/
def Obligations.SpeedAndPower : Prop :=
  (∀ (s : State) (k : Fin 4) (rates : List (BitVec 12)), live s.dev = true → s.dev.code ≠ stSleep → rates.length = 8 →
    ∃ t, exec (.speedMonitorUpdate k rates) s = .next t ∧ (∀ m, m < 8 → rdn t.dev (Reg.MGT_SPEED k.val m) = (rates.getD m 0).toNat) ∧ fld t.dev (Reg.MGT_SPEED_MIN k.val) 11 0 = (rates.map (fun r => r.toNat)).foldl min 4095 ∧
      t.dev.code = s.dev.code ∧ t.dev.core = s.dev.core ∧ t.dev.wdn.sites = s.dev.wdn.sites ∧
      (k.val < s.dev.pwr.low.length → 0 < (rates.map (fun r => r.toNat)).foldl min 4095 →
        ((rates.map (fun r => r.toNat)).foldl min 4095 < speedFloor (commanded s.dev k.val) → t.dev.pwr.low.getD k.val 0 = s.dev.pwr.low.getD k.val 0 + 1 ∧ (s.dev.pwr.low.getD k.val 0 = 2 → (rd t.dev Reg.MGT_PWR_STATUS).getLsbD 11 = true)) ∧
        (speedFloor (commanded s.dev k.val) ≤ (rates.map (fun r => r.toNat)).foldl min 4095 → t.dev.pwr.low.getD k.val 0 = 0))) ∧
  (∀ (s : State) (rs : List DieReading), live s.dev = true → s.dev.wdn.dead = false → s.dev.code = stServing → rs.length = 4 → (∀ k, k < 4 → s.dev.pwr.avs.getD k 0 = 0) → s.dev.pwr.avs.length = 4 →
    (fld s.dev Reg.MGT_THROTTLE_CFG 7 0 ≠ 0 → (∃ r ∈ rs, ∃ x ∈ dieTemps r.temps, (fld s.dev Reg.MGT_THROTTLE_CFG 7 0 : Int) ≤ x) → (∀ k, k < 4 → commanded s.dev k ≤ fld s.dev (Reg.MGT_VCORE_CFG k) 23 16) →
      ∃ t, exec (.throttleEvaluation rs) s = .next t ∧ (∀ k, k < 4 → commanded t.dev k = commanded s.dev k) ∧ (rd t.dev Reg.MGT_PWR_STATUS).getLsbD 8 = true ∧ t.dev.pwr.atFloor = true ∧ t.dev.code = s.dev.code ∧ t.dev.core = s.dev.core) ∧
    (fld s.dev Reg.MGT_THROTTLE_CFG 7 0 ≠ 0 → (∃ r ∈ rs, ∃ x ∈ dieTemps r.temps, (fld s.dev Reg.MGT_THROTTLE_CFG 7 0 : Int) ≤ x) → (∀ k, k < 4 → fld s.dev (Reg.MGT_VCORE_CFG k) 23 16 < commanded s.dev k) →
      ∃ t, exec (.throttleEvaluation rs) s = .next t ∧ (∀ k, k < 4 → commanded t.dev k = commanded s.dev k - 1 ∧ t.dev.pwr.avs.getD k 0 = 1) ∧ (rd t.dev Reg.MGT_PWR_STATUS).getLsbD 9 = true ∧ t.dev.code = s.dev.code ∧ t.dev.core = s.dev.core) ∧
    ((∀ r ∈ rs, ∀ x ∈ dieTemps r.temps, x < (fld s.dev Reg.MGT_THROTTLE_CFG 7 0 : Int) - 5) → (rs.map (fun r => r.watts.toNat)).sum + 20 ≤ fld s.dev Reg.MGT_THROTTLE_CFG 25 16 → (∀ k, k < 4 → commanded s.dev k < fld s.dev (Reg.MGT_VCORE_CFG k) 7 0) →
      ∃ t, exec (.throttleEvaluation rs) s = .next t ∧ (∀ k, k < 4 → commanded t.dev k = commanded s.dev k + 1 ∧ t.dev.pwr.avs.getD k 0 = 1) ∧ t.dev.code = s.dev.code ∧ t.dev.core = s.dev.core)) ∧
  (∀ (s : State) (k : Fin 4), live s.dev = true →
    (s.dev.pwr.avs.getD k.val 0 = 0 → exec (.avsCompletion k) s = .next s) ∧
    (s.dev.pwr.avs.getD k.val 0 ≠ 0 → exec (.avsCompletion k) s = .next (s.put (stepVcore { s.dev with pwr := { s.dev.pwr with avs := setAt s.dev.pwr.avs k.val 0 } } k.val))) ∧
    (s.dev.pwr.avs.getD k.val 0 = 0 → exec (.avsTimeout k) s = .next s) ∧
    (s.dev.pwr.avs.getD k.val 0 = 1 → exec (.avsTimeout k) s = .next (s.put { s.dev with pwr := { s.dev.pwr with avs := s.dev.pwr.avs.set k.val 2 } })) ∧
    (s.dev.pwr.avs.getD k.val 0 = 2 → exec (.avsTimeout k) s = .next (s.put (enterLost k.val 5 false (loseDie { s.dev with pwr := { s.dev.pwr with avs := s.dev.pwr.avs.set k.val 0 } } k.val)))) ∧
    (exec (.brownOut k) s = .next (s.put (enterLost k.val 5 false (loseDie s.dev k.val)))) ∧
    (fld s.dev (Reg.MGT_VCORE_CFG k.val) 23 16 ≠ 0 → commanded s.dev k.val ≤ fld s.dev (Reg.MGT_VCORE_CFG k.val) 23 16 → exec (.thermalFence k) s = .next (s.put (enterLost k.val 4 false s.dev))) ∧
    ((fld s.dev (Reg.MGT_VCORE_CFG k.val) 23 16 = 0 ∨ fld s.dev (Reg.MGT_VCORE_CFG k.val) 23 16 < commanded s.dev k.val) → exec (.thermalFence k) s = .next s)) ∧
  (∀ (d : Dev) (k : Nat), (d.pwr.goal.getD k 0 = 0 → stepVcore d k = d) ∧
    (commanded d k < d.pwr.goal.getD k 0 → stepVcore d k = commandVcore d k (commanded d k + 1)) ∧
    (d.pwr.goal.getD k 0 ≠ 0 → d.pwr.goal.getD k 0 < commanded d k → stepVcore d k = commandVcore d k (commanded d k - 1))) ∧
  (∀ (d : Dev) (k code : Nat), code < 256 → k < d.pwr.avs.length → commanded (commandVcore d k code) k = code ∧ (commandVcore d k code).pwr.avs.getD k 0 = 1) ∧
  (∀ (s : State) (k : Fin 4),
    (s.dev.code = stReset → exec (.thermtrip k) s = .next (s.put { s.dev with pwr := { s.dev.pwr with thermtrip := true } })) ∧
    (s.dev.code ≠ stReset → exec (.thermtrip k) s = .next (s.put (enterLost k.val 4 false { s.dev with pwr := { s.dev.pwr with thermtrip := true } }))))

/-- SYSREF_LOSS, SERREF_LOSS, OPTREF_LOSS, XT_32K_LOSS, SLEEP_TICK, WAKE_RELOCK, SIGNAL_DETECT_WAKE. -/
def Obligations.ClocksAndSleep : Prop :=
  (∀ s : State, s.dev.code ≠ stReset →
    exec .sysrefLoss s = .next (s.put (enterLost s.dev.wdn.active 6 false { s.dev with pwr := { s.dev.pwr with sysref := false }, tim := { s.dev.tim with stopped := true } })) ∧
    (∀ n : Fin 2,
      (s.dev.pwr.serref.getD n.val true = true → ethDisabled s.dev n.val = false → ¬(s.dev.code = stBoot ∧ fld s.dev Reg.BOOT_STATUS 3 0 < 4) → exec (.serrefLoss n false) s = .next (s.put (elog 3 9 0x0903 n.val 1 (ethDown { s.dev with pwr := { s.dev.pwr with serref := s.dev.pwr.serref.set n.val false } } n.val)))) ∧
      ((s.dev.code = stBoot ∧ fld s.dev Reg.BOOT_STATUS 3 0 < 4) → exec (.serrefLoss n false) s = .next (s.put { s.dev with pwr := { s.dev.pwr with serref := s.dev.pwr.serref.set n.val false } })) ∧
      exec (.serrefLoss n true) s = .next (s.put { s.dev with pwr := { s.dev.pwr with serref := s.dev.pwr.serref.set n.val true } }) ∧
      (s.dev.pwr.optref.getD n.val true = true → exec (.optrefLoss n false) s = .next (s.put (linkDown (elog 3 9 0x0903 (2 + n.val) 2 { s.dev with pwr := { s.dev.pwr with optref := s.dev.pwr.optref.set n.val false } }) n.val 5 0))) ∧
      (∀ d, { s.dev with pwr := { s.dev.pwr with optref := s.dev.pwr.optref.set n.val true } } = d → s.dev.pwr.optref.getD n.val true = false →
        ((portAt d n.val).st = 4 → s.dev.code ≠ stLost → exec (.optrefLoss n true) s = .next (s.put (retrain d n.val))) ∧
        ((portAt d n.val).st ≠ 4 → exec (.optrefLoss n true) s = .next (s.put d)))) ∧
    (s.dev.pwr.xt32k = true → ∀ d, { s.dev with pwr := { s.dev.pwr with xt32k := false } } = d →
      (s.dev.code = stSleep → exec .xt32kLoss s = .next (s.put (wakeUp (elog 1 9 0x0904 0 2 d)))) ∧
      (s.dev.code ≠ stSleep → exec .xt32kLoss s = .next (s.put (elog 1 9 0x0904 0 1 d)))) ∧
    (s.dev.pwr.xt32k = false → exec .xt32kLoss s = .next s)) ∧
  (∀ s : State, live s.dev = true →
    (s.dev.tim.current ≠ 4 → ∀ pins, exec (.sleepTick pins) s = .next s) ∧
    (∀ pins d, s.dev.tim.current = 4 → s.dev.tim.gstart = none → d = { s.dev with now := (s.dev.now + (s.dev.tim.frac + 3906250) / 128) % 2 ^ 64, tim := { s.dev.tim with frac := (s.dev.tim.frac + 3906250) % 128 } } →
      ∀ e, e = sleepTimers pins.val 0 false (wr d Reg.TIM_MEVT 0) →
        (rd e Reg.TIM_MEVT = 0 → exec (.sleepTick pins) s = .next (s.put (wr e Reg.TIM_MEVT (rd d Reg.TIM_MEVT)))) ∧
        (rd e Reg.TIM_MEVT ≠ 0 → exec (.sleepTick pins) s = .next (s.put (wakeUp (wr e Reg.TIM_MEVT (rd e Reg.TIM_MEVT ||| rd d Reg.TIM_MEVT)))))) ∧
    (s.dev.tim.current = 4 → s.dev.code ≠ stSleep → ∃ t, exec .wakeRelock s = .next t ∧ t.dev.tim.current = 0 ∧ t.dev.now = s.dev.now / 2 * 2 ∧ t.dev.tim.first = true ∧ t.dev.core = s.dev.core ∧ t.dev.regs = s.dev.regs) ∧
    ((s.dev.tim.current ≠ 4 ∨ s.dev.code = stSleep) → exec .wakeRelock s = .next s) ∧
    (∀ (p : Fin 2) (k : Fin 17), (s.dev.code = stSleep → exec (.signalDetectWake p k) s = .next (s.put (wakeUp (modLane s.dev p.val k.val (fun l => { l with signal := true }))))) ∧
      (s.dev.code ≠ stSleep → sleepInFlight s.dev = true → exec (.signalDetectWake p k) s = .next (s.put { s.dev with pwr := { s.dev.pwr with wakeDue := true } })) ∧
      (s.dev.code ≠ stSleep → sleepInFlight s.dev = false → exec (.signalDetectWake p k) s = .next s)))

/-- The fused minimum security version. -/
def Obligations.MinSvnRises : Prop :=
  ∀ s t : State, step s = .next t → s.fuse.minSvn ≤ 63 →
    t.fuse.minSvn ≤ 63 ∧ s.fuse.minSvn ≤ t.fuse.minSvn ∧ (t.fuse.minSvn ≠ s.fuse.minSvn → s.pending.head? = some .minSvn)

/-- Merging in the error log. -/
def Obligations.ElogMerges : Prop :=
  ∀ (d : Dev) (cls block code unit detail : Nat), 1 ≤ cls → cls ≤ 5 →
    (∀ pre e post, d.wdn.elog = pre ++ e :: post → elogSame d block code unit e = true → (∀ x ∈ post, elogSame d block code unit x = false) →
      (elog cls block code unit detail d).wdn.elog = pre ++ { e with rep := min (e.rep + 1) 0xffff } :: post ∧
      (elog cls block code unit detail d).wdn.elogSeq = d.wdn.elogSeq ∧
      cnt (elog cls block code unit detail d) (Reg.ELOG_CNT_LO 5) = cnt d (Reg.ELOG_CNT_LO 5) + 1 ∧
      cnt (elog cls block code unit detail d) (Reg.ELOG_CNT_LO (cls - 1)) = cnt d (Reg.ELOG_CNT_LO (cls - 1)) + 1 ∧
      (∀ sp y sq, d.wdn.spill = sp ++ y :: sq → elogSame d block code unit y = true → (∀ x ∈ sq, elogSame d block code unit x = false) →
        (elog cls block code unit detail d).wdn.spill = sp ++ { y with rep := min (y.rep + 1) 0xffff } :: sq)) ∧
    ((∀ x ∈ d.wdn.elog, elogSame d block code unit x = false) → d.wdn.elog.length < 1024 →
      ∃ e, (elog cls block code unit detail d).wdn.elog = d.wdn.elog ++ [e] ∧ e.block = block ∧ e.code = code ∧ e.unit = unit ∧ e.detail = detail ∧ e.cls = cls ∧ e.time = d.now ∧
        cnt (elog cls block code unit detail d) (Reg.ELOG_CNT_LO (cls - 1)) = cnt d (Reg.ELOG_CNT_LO (cls - 1)) + 1)

/-- Reserved bits of registers. -/
def Obligations.ReservedBits : Prop :=
  ∀ (fz : Fuses) (d : Dev) (a : Nat) (g : RegGroup) (l : List Nat), a < shadowBase → frameAbsent d a = false → regAt a = some (g, l) → ¬ ((frameSite a).isSome = true ∧ 0x800 ≤ a % 0x1000 ∧ a % 0x1000 < 0xC00) →
    (readReg fz d a).1 &&& ~~~(readMask g) = 0 ∧ (∀ v : W32, v &&& ~~~(fieldMask g) ≠ 0 → writeReg d a v = (msReservedField, d))

/-- Geometry. -/
def Obligations.PackageAnatomy : Prop :=
  (∀ k r col : Nat, k < 4 → r < 8 → col < 9 →
    (isSpareSite (72 * k + 9 * r + col) = true ↔ 9 * r + col ∈ [4, 13, 22, 31, 40, 49, 58, 67]) ∧ (isSpareSite (72 * k + 9 * r + col) = true ↔ col = 4) ∧
    (col < 4 → positionOf (72 * k + 9 * r + col) = 8 * r + col) ∧ (4 < col → positionOf (72 * k + 9 * r + col) = 8 * r + col - 1) ∧
    (col ≠ 4 → positionOf (72 * k + 9 * r + col) < 64 ∧ siteAtPosition (positionOf (72 * k + 9 * r + col)) = 9 * r + col)) ∧
  (∀ k : Nat, k < 4 → ctlBase k = k * 0x900000000) ∧ (∀ j : Nat, j < 8 → ctlBase (4 + j) = 0x4000000000 + j * 0x800000000)
end

