-- ==== Sys2Proof/Laws/Dispatch.lean ====
section
/-! SUPPORT. What `exec` does with each command: one equation a constructor, so that no proof unfolds the whole match. -/

namespace Sys2Proof.Machine

@[simp] theorem exec_por (vaon : Bool) (s : State) : exec (.por vaon) s = .next (stPor vaon s) := rfl
@[simp] theorem exec_pinReset (lowNs : Nat) (s : State) : exec (.pinReset lowNs) s = .next (stPinReset lowNs s) := rfl
@[simp] theorem exec_tapReset (s : State) : exec .tapReset s = onAny devTapReset s := rfl
@[simp] theorem exec_pwrgdFall (s : State) : exec .pwrgdFall s = .next (stPwrgdFall s) := rfl
@[simp] theorem exec_resetRelease (straps : Fin 32) (s : State) : exec (.resetRelease straps) s = onAny (devResetRelease straps) s := rfl
@[simp] theorem exec_bootPhaseComplete (outcome : BootOutcome) (s : State) : exec (.bootPhaseComplete outcome) s = onDev (devBootPhaseComplete outcome s.fuse s.flash) s := rfl
@[simp] theorem exec_formingRetrain (s : State) : exec .formingRetrain s = onDev devFormingRetrain s := rfl
@[simp] theorem exec_speedMonitorUpdate (die : Fin 4) (rates : List (BitVec 12)) (s : State) : exec (.speedMonitorUpdate die rates) s = onDev (devSpeedMonitorUpdate die rates) s := rfl
@[simp] theorem exec_throttleEvaluation (readings : List DieReading) (s : State) : exec (.throttleEvaluation readings) s = onDev (devThrottleEvaluation readings) s := rfl
@[simp] theorem exec_avsCompletion (die : Fin 4) (s : State) : exec (.avsCompletion die) s = onDev (devAvsCompletion die) s := rfl
@[simp] theorem exec_avsTimeout (die : Fin 4) (s : State) : exec (.avsTimeout die) s = onDev (devAvsTimeout die) s := rfl
@[simp] theorem exec_thermalFence (die : Fin 4) (s : State) : exec (.thermalFence die) s = onDev (devThermalFence die) s := rfl
@[simp] theorem exec_thermtrip (die : Fin 4) (s : State) : exec (.thermtrip die) s = onAny (devThermtrip die) s := rfl
@[simp] theorem exec_brownOut (die : Fin 4) (s : State) : exec (.brownOut die) s = onDev (devBrownOut die) s := rfl
@[simp] theorem exec_sysrefLoss (s : State) : exec .sysrefLoss s = onAny devSysrefLoss s := rfl
@[simp] theorem exec_serrefLoss (port : Fin 2) (present : Bool) (s : State) : exec (.serrefLoss port present) s = onAny (devSerrefLoss port present) s := rfl
@[simp] theorem exec_optrefLoss (port : Fin 2) (present : Bool) (s : State) : exec (.optrefLoss port present) s = onAny (devOptrefLoss port present) s := rfl
@[simp] theorem exec_xt32kLoss (s : State) : exec .xt32kLoss s = onAny devXt32kLoss s := rfl
@[simp] theorem exec_signalDetectWake (port : Fin 2) (lane : Fin 17) (s : State) : exec (.signalDetectWake port lane) s = onDev (devSignalDetectWake port lane) s := rfl
@[simp] theorem exec_sleepTick (pins : Fin 16) (s : State) : exec (.sleepTick pins) s = onDev (devSleepTick pins) s := rfl
@[simp] theorem exec_wakeRelock (s : State) : exec .wakeRelock s = onDev devWakeRelock s := rfl
@[simp] theorem exec_taskDispatch (model : Fin 16) (s : State) : exec (.taskDispatch model) s = onAwake (devTaskDispatch model) s := rfl
@[simp] theorem exec_endTask (site : Fin 288) (s : State) : exec (.endTask site) s = onAwake (devEnd site) s := rfl
@[simp] theorem exec_taskEndComplete (site : Fin 288) (slot : Fin 8) (s : State) : exec (.taskEndComplete site slot) s = onAwake (devTaskEndComplete site slot) s := rfl
@[simp] theorem exec_mma (site : Fin 288) (s : State) : exec (.mma site) s = onAwake (devMma site) s := rfl
@[simp] theorem exec_vop (site : Fin 288) (s : State) : exec (.vop site) s = onAwake (devVop site) s := rfl
@[simp] theorem exec_hankwait (site : Fin 288) (s : State) : exec (.hankwait site) s = onAwake (devHankwaitTwin site) s := rfl
@[simp] theorem exec_hankwaitStart (site : Fin 288) (slot : Fin 8) (s : State) : exec (.hankwaitStart site slot) s = onAwake (devHankwaitStartRow site slot) s := rfl
@[simp] theorem exec_depmark (site : Fin 288) (s : State) : exec (.depmark site) s = onAwake (devDepmark site) s := rfl
@[simp] theorem exec_lbar (site : Fin 288) (s : State) : exec (.lbar site) s = onAwake (devLbar site) s := rfl
@[simp] theorem exec_dma (site : Fin 288) (s : State) : exec (.dma site) s = onAwake (devDma site) s := rfl
@[simp] theorem exec_pat (site : Fin 288) (s : State) : exec (.pat site) s = onAwake (devPat site) s := rfl
@[simp] theorem exec_patternStart (site : Fin 288) (slot : Fin 8) (s : State) : exec (.patternStart site slot) s = onAwake (devPatternStart site slot) s := rfl
@[simp] theorem exec_setFull (site : Fin 288) (s : State) : exec (.setFull site) s = onAwake (devSetFull site) s := rfl
@[simp] theorem exec_setEmpty (site : Fin 288) (s : State) : exec (.setEmpty site) s = onAwake (devSetEmpty site) s := rfl
@[simp] theorem exec_waitFull (site : Fin 288) (s : State) : exec (.waitFull site) s = onAwake (devWaitFull site) s := rfl
@[simp] theorem exec_waitEmpty (site : Fin 288) (s : State) : exec (.waitEmpty site) s = onAwake (devWaitEmpty site) s := rfl
@[simp] theorem exec_tagopReset (site : Fin 288) (s : State) : exec (.tagopReset site) s = onAwake (devTagopReset site) s := rfl
@[simp] theorem exec_ctxload (site : Fin 288) (s : State) : exec (.ctxload site) s = onAwake (devCtxload site) s := rfl
@[simp] theorem exec_ctxstore (site : Fin 288) (s : State) : exec (.ctxstore site) s = onAwake (devCtxstore site) s := rfl
@[simp] theorem exec_emit (site : Fin 288) (s : State) : exec (.emit site) s = onAwake (devEmit site) s := rfl
@[simp] theorem exec_yield (site : Fin 288) (s : State) : exec (.yield site) s = onAwake (devYield site) s := rfl
@[simp] theorem exec_unitCommandComplete (site : Fin 288) (unit : Fin 8) (s : State) : exec (.unitCommandComplete site unit) s = onAwake (devUnitCommandComplete site unit) s := rfl
@[simp] theorem exec_taskAbort (site : Fin 288) (slot : Fin 8) (s : State) : exec (.taskAbort site slot) s = onAwake (devTaskAbort site slot) s := rfl
@[simp] theorem exec_deadlineExpiry (handle : Nat) (s : State) : exec (.deadlineExpiry handle) s = onDev (devDeadlineExpiry handle) s := rfl
@[simp] theorem exec_bankCycle (site : Fin 288) (bank : Fin 64) (fresh : List BankReq) (word : Fin 32768) (upset : Option WordErr) (s : State) : exec (.bankCycle site bank fresh word upset) s = onAwake (devBankCycle site bank fresh (upset.map (fun e => (word, e)))) s := rfl
@[simp] theorem exec_scrubRead (site : Fin 288) (s : State) : exec (.scrubRead site) s = onAwake (devScrubRead site) s := rfl
@[simp] theorem exec_remoteTimeout (site : Fin 288) (unit : Fin 8) (ctx : Fin 8) (target : Fin 288) (s : State) : exec (.remoteTimeout site unit ctx target) s = onAwake (devRemoteTimeout site unit ctx target) s := rfl
@[simp] theorem exec_spareRefillComplete (site : Fin 288) (good : Bool) (s : State) : exec (.spareRefillComplete site good) s = onDev (devSpareRefillComplete site good) s := rfl
@[simp] theorem exec_spareTest (site : Fin 288) (pass : Bool) (s : State) : exec (.spareTest site pass) s = onDev (devSpareTest site pass) s := rfl
@[simp] theorem exec_skeinTimeout (site : Fin 288) (waiter : TagWaiter) (s : State) : exec (.skeinTimeout site waiter) s = onAwake (devSkeinTimeout site waiter) s := rfl
@[simp] theorem exec_hankDelivery (site : Fin 288) (s : State) : exec (.hankDelivery site) s = onAwake (devHankDelivery site) s := rfl
@[simp] theorem exec_seta (site : Fin 288) (engine : Fin 3) (ctx : Fin 8) (s : State) : exec (.seta site engine ctx) s = onAwake (devSeta site engine ctx) s := rfl
@[simp] theorem exec_sets (site : Fin 288) (engine : Fin 3) (ctx : Fin 8) (s : State) : exec (.sets site engine ctx) s = onAwake (devSets site engine ctx) s := rfl
@[simp] theorem exec_setc (site : Fin 288) (engine : Fin 3) (ctx : Fin 8) (s : State) : exec (.setc site engine ctx) s = onAwake (devSetc site engine ctx) s := rfl
@[simp] theorem exec_mova (site : Fin 288) (engine : Fin 3) (ctx : Fin 8) (s : State) : exec (.mova site engine ctx) s = onAwake (devMova site engine ctx) s := rfl
@[simp] theorem exec_adda (site : Fin 288) (engine : Fin 3) (ctx : Fin 8) (s : State) : exec (.adda site engine ctx) s = onAwake (devAdda site engine ctx) s := rfl
@[simp] theorem exec_loop (site : Fin 288) (engine : Fin 3) (ctx : Fin 8) (s : State) : exec (.loop site engine ctx) s = onAwake (devLoop site engine ctx) s := rfl
@[simp] theorem exec_word (site : Fin 288) (engine : Fin 3) (ctx : Fin 8) (s : State) : exec (.word site engine ctx) s = onAwake (devWord site engine ctx) s := rfl
@[simp] theorem exec_run (site : Fin 288) (engine : Fin 3) (ctx : Fin 8) (s : State) : exec (.run site engine ctx) s = onAwake (devRun site engine ctx) s := rfl
@[simp] theorem exec_step (site : Fin 288) (engine : Fin 3) (ctx : Fin 8) (s : State) : exec (.step site engine ctx) s = onAwake (devStep site engine ctx) s := rfl
@[simp] theorem exec_pad (site : Fin 288) (engine : Fin 3) (ctx : Fin 8) (s : State) : exec (.pad site engine ctx) s = onAwake (devPad site engine ctx) s := rfl
@[simp] theorem exec_patternEnd (site : Fin 288) (engine : Fin 3) (ctx : Fin 8) (s : State) : exec (.patternEnd site engine ctx) s = onAwake (devPatternEndTwin site engine ctx) s := rfl
@[simp] theorem exec_slotStepComplete (site : Fin 288) (engine : Fin 3) (ctx : Fin 8) (s : State) : exec (.slotStepComplete site engine ctx) s = onAwake (devSlotStepComplete site engine ctx) s := rfl
@[simp] theorem exec_dmaDescriptorStart (site : Fin 288) (s : State) : exec (.dmaDescriptorStart site) s = onAwake (devDmaDescriptorStart site) s := rfl
@[simp] theorem exec_dmaDescriptorComplete (site : Fin 288) (s : State) : exec (.dmaDescriptorComplete site) s = onAwake (devDmaDescriptorComplete site) s := rfl
@[simp] theorem exec_externalToScratchpad (site : Fin 288) (s : State) : exec (.externalToScratchpad site) s = onAwake (devExternalToScratchpad site) s := rfl
@[simp] theorem exec_scratchpadToExternal (site : Fin 288) (s : State) : exec (.scratchpadToExternal site) s = onAwake (devScratchpadToExternal site) s := rfl
@[simp] theorem exec_scratchpadToScratchpad (site : Fin 288) (s : State) : exec (.scratchpadToScratchpad site) s = onAwake (devScratchpadToScratchpad site) s := rfl
@[simp] theorem exec_externalToSkein (site : Fin 288) (s : State) : exec (.externalToSkein site) s = onAwake (devExternalToSkein site) s := rfl
@[simp] theorem exec_skeinToExternal (site : Fin 288) (s : State) : exec (.skeinToExternal site) s = onAwake (devSkeinToExternal site) s := rfl
@[simp] theorem exec_scratchpadToSkein (site : Fin 288) (s : State) : exec (.scratchpadToSkein site) s = onAwake (devScratchpadToSkein site) s := rfl
@[simp] theorem exec_skeinToScratchpad (site : Fin 288) (s : State) : exec (.skeinToScratchpad site) s = onAwake (devSkeinToScratchpad site) s := rfl
@[simp] theorem exec_codewordLock (port : Fin 2) (lane : Fin 17) (s : State) : exec (.codewordLock port lane) s = onAwake (devCodewordLock port lane) s := rfl
@[simp] theorem exec_lossOfLock (port : Fin 2) (lane : Fin 17) (signal : Bool) (s : State) : exec (.lossOfLock port lane signal) s = onDev (devLossOfLock port lane signal) s := rfl
@[simp] theorem exec_laneDegradeCheck (port : Fin 2) (corr : List Nat) (uncorr : List Nat) (s : State) : exec (.laneDegradeCheck port corr uncorr) s = onDev (devLaneDegradeCheck port corr uncorr) s := rfl
@[simp] theorem exec_trainingStart (port : Fin 2) (s : State) : exec (.trainingStart port) s = onAwake (devTrainingStart port) s := rfl
@[simp] theorem exec_tsTrainStart (port : Fin 2) (s : State) : exec (.tsTrainStart port) s = onDev (devTsTrainStart port) s := rfl
@[simp] theorem exec_tsTrain (port : Fin 2) (lane : Fin 17) (ts : List Byte) (skew : Nat) (s : State) : exec (.tsTrain port lane ts skew) s = onDev (devTsTrain port lane ts skew) s := rfl
@[simp] theorem exec_tsStart (port : Fin 2) (lane : Fin 17) (ts : List Byte) (skew : Nat) (s : State) : exec (.tsStart port lane ts skew) s = onDev (devTsStart port lane ts skew) s := rfl
@[simp] theorem exec_rxLocked (port : Fin 2) (s : State) : exec (.rxLocked port) s = onDev (devRxLocked port) s := rfl
@[simp] theorem exec_trainingTimeout (port : Fin 2) (s : State) : exec (.trainingTimeout port) s = onDev (devTrainingTimeout port) s := rfl
@[simp] theorem exec_flitTransmit (port : Fin 2) (s : State) : exec (.flitTransmit port) s = onDev (devFlitTransmit port) s := rfl
@[simp] theorem exec_flitReceive (port : Fin 2) (flit : List Byte) (s : State) : exec (.flitReceive port flit) s = onDev (devFlitReceive port flit) s := rfl
@[simp] theorem exec_idle (port : Fin 2) (s : State) : exec (.idle port) s = onDev (devIdle port) s := rfl
@[simp] theorem exec_nak (port : Fin 2) (s : State) : exec (.nak port) s = onDev (devNak port) s := rfl
@[simp] theorem exec_widthReq (port : Fin 2) (s : State) : exec (.widthReq port) s = onDev (devWidthReq port) s := rfl
@[simp] theorem exec_width (port : Fin 2) (s : State) : exec (.width port) s = onDev (devWidth port) s := rfl
@[simp] theorem exec_down (port : Fin 2) (s : State) : exec (.down port) s = onDev (devDown port) s := rfl
@[simp] theorem exec_hank (port : Fin 2) (overflow : Bool) (s : State) : exec (.hank port overflow) s = onDev (devHank port overflow) s := rfl
@[simp] theorem exec_barrier (port : Fin 2) (s : State) : exec (.barrier port) s = onDev (devBarrier port) s := rfl
@[simp] theorem exec_ringMsg (port : Fin 2) (s : State) : exec (.ringMsg port) s = onDev (devRingMsg port) s := rfl
@[simp] theorem exec_twin (port : Fin 2) (s : State) : exec (.twin port) s = onDev (devTwin port) s := rfl
@[simp] theorem exec_ident (port : Fin 2) (s : State) : exec (.ident port) s = onDev (devIdent port) s := rfl
@[simp] theorem exec_nakRepeat (port : Fin 2) (s : State) : exec (.nakRepeat port) s = onDev (devNakRepeat port) s := rfl
@[simp] theorem exec_replayTimeout (port : Fin 2) (s : State) : exec (.replayTimeout port) s = onDev (devReplayTimeout port) s := rfl
@[simp] theorem exec_widthReqRepeat (port : Fin 2) (s : State) : exec (.widthReqRepeat port) s = onDev (devWidthReqRepeat port) s := rfl
@[simp] theorem exec_spareQualified (port : Fin 2) (pass : Bool) (s : State) : exec (.spareQualified port pass) s = onDev (devSpareQualified port pass) s := rfl
@[simp] theorem exec_signalLoss (port : Fin 2) (s : State) : exec (.signalLoss port) s = onDev (devSignalLoss port) s := rfl
@[simp] theorem exec_identTimer (port : Fin 2) (s : State) : exec (.identTimer port) s = onDev (devIdentTimer port) s := rfl
@[simp] theorem exec_formBarrierStart (s : State) : exec .formBarrierStart s = onDev devFormBarrierStart s := rfl
@[simp] theorem exec_barrierForm (s : State) : exec .barrierForm s = onDev devBarrierForm s := rfl
@[simp] theorem exec_barrierActivate (s : State) : exec .barrierActivate s = onDev devBarrierActivate s := rfl
@[simp] theorem exec_barrierRollback (s : State) : exec .barrierRollback s = onDev devBarrierRollback s := rfl
@[simp] theorem exec_barrierRemove (s : State) : exec .barrierRemove s = onDev devBarrierRemove s := rfl
@[simp] theorem exec_barrierJoin (s : State) : exec .barrierJoin s = onDev devBarrierJoin s := rfl
@[simp] theorem exec_barrierReform (s : State) : exec .barrierReform s = onDev devBarrierReform s := rfl
@[simp] theorem exec_barrierTwinSync (s : State) : exec .barrierTwinSync s = onDev devBarrierTwinSync s := rfl
@[simp] theorem exec_barrierSleep (s : State) : exec .barrierSleep s = onDev devBarrierSleep s := rfl
@[simp] theorem exec_barrierTimeout (s : State) : exec .barrierTimeout s = onDev devBarrierTimeout s := rfl
@[simp] theorem exec_barrierDiscard (s : State) : exec .barrierDiscard s = onDev devBarrierDiscard s := rfl
@[simp] theorem exec_reissue (s : State) : exec .reissue s = onDev devReissue s := rfl
@[simp] theorem exec_mirrorReq (s : State) : exec .mirrorReq s = onDev devMirrorReq s := rfl
@[simp] theorem exec_foldNotice (s : State) : exec .foldNotice s = onDev devFoldNotice s := rfl
@[simp] theorem exec_barrierReq (s : State) : exec .barrierReq s = onDev devBarrierReq s := rfl
@[simp] theorem exec_foldNoticeTimeout (s : State) : exec .foldNoticeTimeout s = onDev devFoldNoticeTimeout s := rfl
@[simp] theorem exec_lapLaunch (pinned : Bool) (west : Bool) (count : Nat) (s : State) : exec (.lapLaunch pinned west count) s = onDev (devLapLaunch pinned west count) s := rfl
@[simp] theorem exec_activateRequestTimer (s : State) : exec .activateRequestTimer s = onDev devActivateRequestTimer s := rfl
@[simp] theorem exec_autoReform (port : Fin 2) (s : State) : exec (.autoReform port) s = onDev (devAutoReform port) s := rfl
@[simp] theorem exec_reformTimer (s : State) : exec .reformTimer s = onDev devReformTimer s := rfl
@[simp] theorem exec_modelCleanup (model : Fin 16) (s : State) : exec (.modelCleanup model) s = onDev (devModelCleanup model) s := rfl
@[simp] theorem exec_channelUnitStart (ctrl : Fin 12) (chan : Fin 32) (ready : List (Fin 8)) (start : UnitStart) (s : State) : exec (.channelUnitStart ctrl chan ready start) s = onAwake (devChannelUnitStart ctrl chan ready start.final start.reorders) s := rfl
@[simp] theorem exec_channelError (ctrl : Fin 12) (chan : Fin 32) (addr : Fin (2 ^ 40)) (report : ChanReport) (s : State) : exec (.channelError ctrl chan addr report) s = onAwake (devChannelError ctrl chan addr report.err report.covered) s := rfl
@[simp] theorem exec_channelMapOut (ctrl : Fin 12) (chan : Fin 32) (s : State) : exec (.channelMapOut ctrl chan) s = onDev (devChannelMapOut ctrl chan) s := rfl
@[simp] theorem exec_rebuildComplete (model : Fin 16) (gen : BitVec 32) (kind : Fin 8) (s : State) : exec (.rebuildComplete model gen kind) s = onAwake (devRebuildComplete model gen kind) s := rfl
@[simp] theorem exec_refresh (ctrl : Fin 12) (chan : Fin 32) (temp : BitVec 8) (waiting : Nat) (s : State) : exec (.refresh ctrl chan temp waiting) s = onAwake (devRefresh ctrl chan temp waiting) s := rfl
@[simp] theorem exec_tgStart (ctrl : Fin 12) (chan : Fin 32) (s : State) : exec (.tgStart ctrl chan) s = onDev (byWrite (devTgStart ctrl chan)) s := rfl
@[simp] theorem exec_tgStop (ctrl : Fin 12) (chan : Fin 32) (done : Nat) (s : State) : exec (.tgStop ctrl chan done) s = onDev (byWrite (devTgStop ctrl chan done)) s := rfl
@[simp] theorem exec_tgRunComplete (ctrl : Fin 12) (chan : Fin 32) (s : State) : exec (.tgRunComplete ctrl chan) s = onAwake (devTgRunComplete ctrl chan) s := rfl
@[simp] theorem exec_linkRetry (port : Fin 2) (sub : Fin 8) (locks : Bool) (s : State) : exec (.linkRetry port sub locks) s = onDev (devLinkRetry port sub locks) s := rfl
@[simp] theorem exec_autonegComplete (port : Fin 2) (sub : Fin 8) (partner : BitVec 4) (trained : Bool) (s : State) : exec (.autonegComplete port sub partner trained) s = onDev (devAutonegComplete port sub partner trained) s := rfl
@[simp] theorem exec_frameReceive (port : Fin 2) (sub : Fin 8) (frame : RxFrame) (s : State) : exec (.frameReceive port sub frame) s = onDev (devFrameReceive port sub frame.bytes frame.fec) s := rfl
@[simp] theorem exec_pfcRepeat (port : Fin 2) (sub : Fin 8) (s : State) : exec (.pfcRepeat port sub) s = onDev (devPfcRepeat port sub) s := rfl
@[simp] theorem exec_pfcPauseExpiry (port : Fin 2) (sub : Fin 8) (prio : Fin 8) (s : State) : exec (.pfcPauseExpiry port sub prio) s = onDev (devPfcPauseExpiry port sub prio) s := rfl
@[simp] theorem exec_arpRequest (port : Fin 2) (sub : Fin 8) (s : State) : exec (.arpRequest port sub) s = onDev (devArpRequest port sub) s := rfl
@[simp] theorem exec_neighborSolicitation (port : Fin 2) (sub : Fin 8) (s : State) : exec (.neighborSolicitation port sub) s = onDev (devNeighborSolicitation port sub) s := rfl
@[simp] theorem exec_announce (port : Fin 2) (s : State) : exec (.announce port) s = onDev (devAnnounce port) s := rfl
@[simp] theorem exec_sync (port : Fin 2) (s : State) : exec (.sync port) s = onDev (devSync port) s := rfl
@[simp] theorem exec_followUp (port : Fin 2) (s : State) : exec (.followUp port) s = onDev (devFollowUp port) s := rfl
@[simp] theorem exec_delayResp (port : Fin 2) (s : State) : exec (.delayResp port) s = onDev (devDelayResp port) s := rfl
@[simp] theorem exec_delayReq (port : Fin 2) (s : State) : exec (.delayReq port) s = onDev (devDelayReq port) s := rfl
@[simp] theorem exec_txSaWaitExpiry (port : Fin 2) (sub : Fin 8) (s : State) : exec (.txSaWaitExpiry port sub) s = onDev (devTxSaWaitExpiry port sub) s := rfl
@[simp] theorem exec_sessionOpen (s : State) : exec .sessionOpen s = onDev devSessionOpen s := rfl
@[simp] theorem exec_sessionClose (s : State) : exec .sessionClose s = onDev devSessionClose s := rfl
@[simp] theorem exec_credit (s : State) : exec .credit s = onDev devCredit s := rfl
@[simp] theorem exec_request (s : State) : exec .request s = onDev devRequest s := rfl
@[simp] theorem exec_requestCont (s : State) : exec .requestCont s = onDev devRequestCont s := rfl
@[simp] theorem exec_rvpFrameReceive (s : State) : exec .rvpFrameReceive s = onDev devRvpFrameReceive s := rfl
@[simp] theorem exec_sessionIdleTimeout (session : Nat) (s : State) : exec (.sessionIdleTimeout session) s = onDev (devSessionIdleTimeout session) s := rfl
@[simp] theorem exec_reasmTimeout (handle : Nat) (s : State) : exec (.reasmTimeout handle) s = onDev (devReasmTimeout handle) s := rfl
@[simp] theorem exec_creditUpdateTimer (session : Nat) (s : State) : exec (.creditUpdateTimer session) s = onDev (devCreditUpdateTimer session) s := rfl
@[simp] theorem exec_conditioningStart (model : Fin 16) (s : State) : exec (.conditioningStart model) s = onDev (devConditioningStart model) s := rfl
@[simp] theorem exec_chunk (s : State) : exec .chunk s = onDev devChunk s := rfl
@[simp] theorem exec_abort (s : State) : exec .abort s = onDev devAbort s := rfl
@[simp] theorem exec_remove (s : State) : exec .remove s = onDev devRemove s := rfl
@[simp] theorem exec_rollback (s : State) : exec .rollback s = onDev devRollback s := rfl
@[simp] theorem exec_query (s : State) : exec .query s = onDev devQuery s := rfl
@[simp] theorem exec_loadVerify (block : Fin 2) (s : State) : exec (.loadVerify block) s = onDev (devLoadVerify block) s := rfl
@[simp] theorem exec_loadStoreComplete (block : Fin 2) (s : State) : exec (.loadStoreComplete block) s = onDev (devLoadStoreComplete block) s := rfl
@[simp] theorem exec_releaseBeat (s : State) : exec .releaseBeat s = onDev devReleaseBeat s := rfl
@[simp] theorem exec_claimGrant (entry : Fin 65536) (s : State) : exec (.claimGrant entry) s = onDev (devClaimGrant entry) s := rfl
@[simp] theorem exec_leaving (core : Fin 256) (s : State) : exec (.leaving core) s = onAwake (devLeaving core) s := rfl
@[simp] theorem exec_notice (core : Fin 256) (s : State) : exec (.notice core) s = onAwake (devNotice core) s := rfl
@[simp] theorem exec_snoop (core : Fin 256) (s : State) : exec (.snoop core) s = onAwake (devSnoop core) s := rfl
@[simp] theorem exec_retry (core : Fin 256) (s : State) : exec (.retry core) s = onAwake (devRetry core) s := rfl
@[simp] theorem exec_drop (core : Fin 256) (s : State) : exec (.drop core) s = onAwake (devDrop core) s := rfl
@[simp] theorem exec_evictionWritebackComplete (core : Fin 256) (entry : Fin 65536) (s : State) : exec (.evictionWritebackComplete core entry) s = onAwake (devEvictionWritebackComplete core entry) s := rfl
@[simp] theorem exec_flowExpiry (entry : Fin 65536) (s : State) : exec (.flowExpiry entry) s = onDev (devFlowExpiry entry) s := rfl
@[simp] theorem exec_timerCompareMatch (timer : Fin 32) (cmp : Fin 4) (s : State) : exec (.timerCompareMatch timer cmp) s = onDev (devTimerCompareMatch timer cmp) s := rfl
@[simp] theorem exec_timerOverflow (timer : Fin 32) (s : State) : exec (.timerOverflow timer) s = onDev (devTimerOverflow timer) s := rfl
@[simp] theorem exec_timerCapture (timer : Fin 32) (capture : Fin 2) (s : State) : exec (.timerCapture timer capture) s = onDev (devTimerCapture timer capture) s := rfl
@[simp] theorem exec_globalStart (s : State) : exec .globalStart s = onDev devGlobalStart s := rfl
@[simp] theorem exec_pulseWidthExpiry (pin : Fin 4) (s : State) : exec (.pulseWidthExpiry pin) s = onDev (devPulseWidthExpiry pin) s := rfl
@[simp] theorem exec_ppsEdge (s : State) : exec .ppsEdge s = onDev devPpsEdge s := rfl
@[simp] theorem exec_referenceLoss (s : State) : exec .referenceLoss s = onDev devReferenceLoss s := rfl
@[simp] theorem exec_referenceCommit (off : Int) (s : State) : exec (.referenceCommit off) s = onDev (devReferenceCommit off) s := rfl
@[simp] theorem exec_referenceCancel (off : Int) (s : State) : exec (.referenceCancel off) s = onDev (devReferenceCancel off) s := rfl
@[simp] theorem exec_requalCommit (off : Int) (s : State) : exec (.requalCommit off) s = onDev (devRequalCommit off) s := rfl
@[simp] theorem exec_slewLocked (off : Fin 39) (s : State) : exec (.slewLocked off) s = onDev (devSlewLocked off) s := rfl
@[simp] theorem exec_ptpSyncLoss (port : Fin 2) (s : State) : exec (.ptpSyncLoss port) s = onDev (devPtpSyncLoss port) s := rfl
@[simp] theorem exec_ppsTimeout (s : State) : exec .ppsTimeout s = onDev devPpsTimeout s := rfl
@[simp] theorem exec_twinWaitExpiry (s : State) : exec .twinWaitExpiry s = onDev devTwinWaitExpiry s := rfl
@[simp] theorem exec_disagree (report : GateReport) (s : State) : exec (.disagree report) s = onDev (devDisagree report.gate report.who report.cured) s := rfl
@[simp] theorem exec_gateWatchdog (wait : GateWait) (s : State) : exec (.gateWatchdog wait) s = onDev (devGateWatchdog wait.gate wait.who) s := rfl
@[simp] theorem exec_wardenDecision (gate : GateUnit) (pass : Bool) (s : State) : exec (.wardenDecision gate pass) s = onDev (devWardenDecision gate pass) s := rfl
@[simp] theorem exec_heartbeat (received : Bool) (s : State) : exec (.heartbeat received) s = onDev (devHeartbeat received) s := rfl
@[simp] theorem exec_takeover (why : Fin 3) (s : State) : exec (.takeover why) s = onDev (devTakeover why) s := rfl
@[simp] theorem exec_standbyAckTimeout (s : State) : exec .standbyAckTimeout s = onDev devStandbyAckTimeout s := rfl
@[simp] theorem exec_setEndpointId (s : State) : exec .setEndpointId s = onDev devSetEndpointId s := rfl
@[simp] theorem exec_getEndpointId (s : State) : exec .getEndpointId s = onDev devGetEndpointId s := rfl
@[simp] theorem exec_getEndpointUuid (s : State) : exec .getEndpointUuid s = onDev devGetEndpointUuid s := rfl
@[simp] theorem exec_getMctpVersionSupport (s : State) : exec .getMctpVersionSupport s = onDev devGetMctpVersionSupport s := rfl
@[simp] theorem exec_getMessageTypeSupport (s : State) : exec .getMessageTypeSupport s = onDev devGetMessageTypeSupport s := rfl
@[simp] theorem exec_getVendorDefinedMessageSupport (s : State) : exec .getVendorDefinedMessageSupport s = onDev devGetVendorDefinedMessageSupport s := rfl
@[simp] theorem exec_vendorMessage (s : State) : exec .vendorMessage s = onDev devVendorMessage s := rfl
@[simp] theorem exec_read (s : State) : exec .read s = onDev (devRead s.fuse) s := rfl
@[simp] theorem exec_write (s : State) : exec .write s = onDev devWrite s := rfl
@[simp] theorem exec_registerWrite (addr : BitVec 32) (val : W32) (s : State) : exec (.registerWrite addr val) s = onDev (devRegisterWrite addr val) s := rfl
@[simp] theorem exec_counterLoRead (addr : BitVec 32) (s : State) : exec (.counterLoRead addr) s = onDev (devCounterLoRead s.fuse addr) s := rfl
@[simp] theorem exec_fence (s : State) : exec .fence s = onDev devFence s := rfl
@[simp] theorem exec_stateGet (s : State) : exec .stateGet s = onDev devStateGet s := rfl
@[simp] theorem exec_telemetry (s : State) : exec .telemetry s = onDev devTelemetry s := rfl
@[simp] theorem exec_getAlerts (s : State) : exec .getAlerts s = onDev devGetAlerts s := rfl
@[simp] theorem exec_logRead (s : State) : exec .logRead s = onDev devLogRead s := rfl
@[simp] theorem exec_sleep (s : State) : exec .sleep s = onDev devSleep s := rfl
@[simp] theorem exec_wake (s : State) : exec .wake s = onDev devWake s := rfl
@[simp] theorem exec_reset (s : State) : exec .reset s = onDev devReset s := rfl
@[simp] theorem exec_saInstall (s : State) : exec .saInstall s = onDev (devSaInstall s.fuse) s := rfl
@[simp] theorem exec_saDelete (s : State) : exec .saDelete s = onDev devSaDelete s := rfl
@[simp] theorem exec_zeroise (s : State) : exec .zeroise s = onDev devZeroise s := rfl
@[simp] theorem exec_keySlotProgram (s : State) : exec .keySlotProgram s = onState stKeySlotProgram s := rfl
@[simp] theorem exec_keySlotRevoke (s : State) : exec .keySlotRevoke s = onState stKeySlotRevoke s := rfl
@[simp] theorem exec_kwkSet (s : State) : exec .kwkSet s = onState stKwkSet s := rfl
@[simp] theorem exec_minSvn (s : State) : exec .minSvn s = onState stMinSvn s := rfl
@[simp] theorem exec_debugUnlock (s : State) : exec .debugUnlock s = onDev devDebugUnlock s := rfl
@[simp] theorem exec_flashErase (s : State) : exec .flashErase s = onState stFlashErase s := rfl
@[simp] theorem exec_flashWrite (s : State) : exec .flashWrite s = onState stFlashWrite s := rfl
@[simp] theorem exec_alertResponse (wins : Bool) (s : State) : exec (.alertResponse wins) s = onDev (devAlertResponse wins) s := rfl
@[simp] theorem exec_idcode (s : State) : exec .idcode s = onAny devIdcode s := rfl
@[simp] theorem exec_samplePreload (vals : List Byte) (s : State) : exec (.samplePreload vals) s = onAny (devSamplePreload vals) s := rfl
@[simp] theorem exec_extest (s : State) : exec .extest s = onAny devExtest s := rfl
@[simp] theorem exec_clamp (s : State) : exec .clamp s = onAny devClamp s := rfl
@[simp] theorem exec_highz (s : State) : exec .highz s = onAny devHighz s := rfl
@[simp] theorem exec_bypass (s : State) : exec .bypass s = onAny devBypass s := rfl
@[simp] theorem exec_debugHalt (mask : BitVec 8) (s : State) : exec (.debugHalt mask) s = onDev (devDebugHalt mask) s := rfl
@[simp] theorem exec_debugResume (mask : BitVec 8) (s : State) : exec (.debugResume mask) s = onDev (devDebugResume mask) s := rfl
@[simp] theorem exec_memAccessRead (addr : BitVec 32) (s : State) : exec (.memAccessRead addr) s = onDev (devMemAccessRead addr) s := rfl
@[simp] theorem exec_memAccessWrite (addr : BitVec 32) (val : BitVec 32) (s : State) : exec (.memAccessWrite addr val) s = onDev (devMemAccessWrite addr val) s := rfl
@[simp] theorem exec_clrAbort (site : Fin 288) (s : State) : exec (.clrAbort site) s = onDev (siteWrite site (clrAbort site.val)) s := rfl
@[simp] theorem exec_clrSwitch (site : Fin 288) (s : State) : exec (.clrSwitch site) s = onDev (siteWrite site (clrSwitch site.val)) s := rfl
@[simp] theorem exec_clrStall (site : Fin 288) (s : State) : exec (.clrStall site) s = onDev (siteWrite site (clrStall site.val)) s := rfl
@[simp] theorem exec_clrWrFirst (site : Fin 288) (s : State) : exec (.clrWrFirst site) s = onDev (siteWrite site (clrWrFirst site.val)) s := rfl
@[simp] theorem exec_clrInfo (site : Fin 288) (s : State) : exec (.clrInfo site) s = onDev (siteWrite site (clrInfo site.val)) s := rfl
@[simp] theorem exec_clrCount (site : Fin 288) (s : State) : exec (.clrCount site) s = onDev (siteWrite site (clrCount site.val)) s := rfl
@[simp] theorem exec_seClrFault (site : Fin 288) (s : State) : exec (.seClrFault site) s = onDev (siteWrite site (seClrFault site.val)) s := rfl
@[simp] theorem exec_clrWords (site : Fin 288) (s : State) : exec (.clrWords site) s = onDev (siteWrite site (clrWords site.val)) s := rfl
@[simp] theorem exec_dmaClrFault (site : Fin 288) (s : State) : exec (.dmaClrFault site) s = onDev (siteWrite site (dmaClrFault site.val)) s := rfl
@[simp] theorem exec_clrBytes (site : Fin 288) (s : State) : exec (.clrBytes site) s = onDev (siteWrite site (clrBytes site.val)) s := rfl
@[simp] theorem exec_lnkClrCnt (port : Fin 2) (s : State) : exec (.lnkClrCnt port) s = onDev (byWrite (lnkClrCnt port.val)) s := rfl
@[simp] theorem exec_retrain (port : Fin 2) (s : State) : exec (.retrain port) s = onDev (devRetrain port) s := rfl
@[simp] theorem exec_lapClrCnt (s : State) : exec .lapClrCnt s = onDev (byWrite devLapClrCnt) s := rfl
@[simp] theorem exec_reformReq (s : State) : exec .reformReq s = onDev (byWrite devReformReq) s := rfl
@[simp] theorem exec_xmemClrCnt (ctrl : Fin 12) (s : State) : exec (.xmemClrCnt ctrl) s = onDev (byWrite (devXmemClrCnt ctrl)) s := rfl
@[simp] theorem exec_rvpClrCnt (s : State) : exec .rvpClrCnt s = onDev (byWrite rvpClrCnt) s := rfl
@[simp] theorem exec_fcsClrCnt (s : State) : exec .fcsClrCnt s = onDev (byWrite fcsClrCnt) s := rfl
@[simp] theorem exec_gstartGo (immediate : Bool) (reset : Bool) (s : State) : exec (.gstartGo immediate reset) s = onDev (byWrite (devGstartGo immediate reset)) s := rfl
@[simp] theorem exec_timerStart (timer : Fin 32) (s : State) : exec (.timerStart timer) s = onDev (byWrite (devTimerStart timer)) s := rfl
@[simp] theorem exec_timerStop (timer : Fin 32) (s : State) : exec (.timerStop timer) s = onDev (byWrite (devTimerStop timer)) s := rfl
@[simp] theorem exec_timerReset (timer : Fin 32) (s : State) : exec (.timerReset timer) s = onDev (byWrite (devTimerReset timer)) s := rfl
@[simp] theorem exec_swcap0 (timer : Fin 32) (s : State) : exec (.swcap0 timer) s = onDev (byWrite (devSwcap0 timer)) s := rfl
@[simp] theorem exec_swcap1 (timer : Fin 32) (s : State) : exec (.swcap1 timer) s = onDev (byWrite (devSwcap1 timer)) s := rfl
@[simp] theorem exec_timerConfigWrite (timer : Fin 32) (reg : TimerReg) (val : W32) (s : State) : exec (.timerConfigWrite timer reg val) s = onDev (devTimerConfigWrite timer reg val) s := rfl
@[simp] theorem exec_detClrCnt (s : State) : exec .detClrCnt s = onDev (byWrite detClrCnt) s := rfl
@[simp] theorem exec_fastGWrite (model : Fin 16) (val : W32) (s : State) : exec (.fastGWrite model val) s = onDev (devFastGWrite model val) s := rfl
@[simp] theorem exec_wdnClrCnt (s : State) : exec .wdnClrCnt s = onDev (byWrite devWdnClrCnt) s := rfl
@[simp] theorem exec_elogClrCnt (s : State) : exec .elogClrCnt s = onDev (byWrite devElogClrCnt) s := rfl
@[simp] theorem exec_elogSel (seq : BitVec 32) (s : State) : exec (.elogSel seq) s = onDev (byWrite (devElogSel seq)) s := rfl
@[simp] theorem exec_fcsEntrySel (entry : Fin 65536) (s : State) : exec (.fcsEntrySel entry) s = onDev (devFcsEntrySel entry) s := rfl
@[simp] theorem exec_weightWrite (ctrl : Fin 12) (chan : Option (Fin 32)) (high : Bool) (val : BitVec 32) (s : State) : exec (.weightWrite ctrl chan high val) s = onDev (byWrite (devWeightWrite ctrl chan high val)) s := rfl
@[simp] theorem exec_linkDown (port : Fin 2) (sub : Fin 8) (s : State) : exec (.linkDown port sub) s = onDev (devLinkDown port sub) s := rfl
@[simp] theorem exec_laserBiasFault (port : Fin 2) (lane : Fin 17) (s : State) : exec (.laserBiasFault port lane) s = onDev (devLaserBiasFault port lane) s := rfl
@[simp] theorem exec_mctpPacket (bytes : List Byte) (s : State) : exec (.mctpPacket bytes) s = onDev (devMctpPacket bytes) s := rfl
@[simp] theorem exec_dsp0237Timeout (msg : Option (BitVec 8 × Fin 8)) (s : State) : exec (.dsp0237Timeout msg) s = onDev (devDsp0237Timeout msg) s := rfl

end Sys2Proof.Machine
end

