-- ==== Sys2Proof/Laws/Maps.lean ====
section
/-! SUPPORT. Laws of the sparse maps and of memory: reads after writes on every map, and the canonical form kept by every operation. -/

namespace Sys2Proof.Machine

variable {α : Type}

/-! ### Reads after writes -/

theorem smFind_smInsert_same (k : Nat) (v : α) (m : SMap α) : smFind k (smInsert k v m) = some v := by
  induction m with
  | nil => simp [smInsert, smFind]
  | cons x r ih =>
    obtain ⟨a, w⟩ := x
    simp only [smInsert]
    split
    · simp only [smFind, ih, ite_eq_right_iff]; omega
    · split <;> simp [smFind]

theorem smFind_smInsert_ne {k j : Nat} (v : α) (m : SMap α) (h : j ≠ k) : smFind j (smInsert k v m) = smFind j m := by
  induction m with
  | nil => simp [smInsert, smFind, h.symm]
  | cons x r ih =>
    obtain ⟨a, w⟩ := x
    simp only [smInsert]
    split
    · simp only [smFind, ih]
    · split
      · subst_vars; simp [smFind, h.symm]
      · simp [smFind, h.symm]

theorem smFind_erase_same (k : Nat) (m : SMap α) : smFind k (m.filter (fun x => decide (x.1 ≠ k))) = none := by
  induction m with
  | nil => rfl
  | cons x r ih =>
    obtain ⟨a, w⟩ := x
    by_cases h : a = k
    · simp [h, ← ih]
    · simp [h, smFind, ← ih]

theorem smFind_erase_ne {k j : Nat} (m : SMap α) (h : j ≠ k) : smFind j (m.filter (fun x => decide (x.1 ≠ k))) = smFind j m := by
  induction m with
  | nil => rfl
  | cons x r ih =>
    obtain ⟨a, w⟩ := x
    by_cases h' : a = k
    · simp [h', smFind, h.symm, ← ih]
    · simp [h', smFind, ← ih]

@[simp] theorem smFind_smPut_same (k : Nat) (o : Option α) (m : SMap α) : smFind k (smPut k o m) = o := by
  cases o with
  | none => exact smFind_erase_same k m
  | some v => exact smFind_smInsert_same k v m

@[simp] theorem smFind_smPut_ne {k j : Nat} (o : Option α) (m : SMap α) (h : j ≠ k) : smFind j (smPut k o m) = smFind j m := by
  cases o with
  | none => exact smFind_erase_ne m h
  | some v => exact smFind_smInsert_ne v m h

@[simp] theorem smGet_smSet_same [DecidableEq α] (d : α) (m : SMap α) (k : Nat) (v : α) : smGet d (smSet d m k v) k = v := by
  simp only [smGet, smSet, smFind_smPut_same]
  split <;> simp_all

@[simp] theorem smGet_smSet_ne [DecidableEq α] (d : α) (m : SMap α) {k j : Nat} (v : α) (h : j ≠ k) : smGet d (smSet d m k v) j = smGet d m j := by
  simp [smGet, smSet, h]

/-- A write read at any key. -/
theorem smGet_smSet [DecidableEq α] (d : α) (m : SMap α) (k j : Nat) (v : α) : smGet d (smSet d m k v) j = if j = k then v else smGet d m j := by
  split
  · subst_vars; simp
  · simp [*]

/-! ### The canonical form -/

/-- The canonical form as keys strictly rising and no default stored. -/
theorem smWf_iff [DecidableEq α] (d : α) (m : SMap α) : smWf d m = true ↔ m.Pairwise (fun x y => x.1 < y.1) ∧ ∀ x ∈ m, x.2 ≠ d := by
  induction m with
  | nil => simp [smWf]
  | cons x r ih =>
    cases r with
    | nil => simp [smWf]
    | cons y r =>
      obtain ⟨a, v⟩ := x
      obtain ⟨b, w⟩ := y
      simp only [smWf, Bool.and_eq_true, decide_eq_true_eq, ih]
      constructor
      · rintro ⟨⟨hv, hab⟩, hp, hall⟩
        refine ⟨List.pairwise_cons.2 ⟨?_, hp⟩, ?_⟩
        · intro z hz
          rcases List.mem_cons.1 hz with rfl | hz
          · exact hab
          · exact lt_trans hab ((List.pairwise_cons.1 hp).1 z hz)
        · intro z hz
          rcases List.mem_cons.1 hz with rfl | hz
          · exact hv
          · exact hall z hz
      · rintro ⟨hp, hall⟩
        obtain ⟨h1, h2⟩ := List.pairwise_cons.1 hp
        exact ⟨⟨hall (a, v) (by simp), h1 (b, w) (by simp)⟩, h2, fun z hz => hall z (List.mem_cons_of_mem _ hz)⟩

theorem mem_smInsert {k : Nat} {v : α} {m : SMap α} {x : Nat × α} (h : x ∈ smInsert k v m) : x = (k, v) ∨ x ∈ m := by
  induction m with
  | nil => simpa [smInsert] using h
  | cons y r ih =>
    obtain ⟨a, w⟩ := y
    simp only [smInsert] at h
    split at h
    · rcases List.mem_cons.1 h with rfl | h
      · simp
      · rcases ih h with h | h <;> simp [h]
    · split at h <;> (simp only [List.mem_cons] at h ⊢; tauto)

theorem pairwise_smInsert {k : Nat} {v : α} {m : SMap α} (h : m.Pairwise (fun x y => x.1 < y.1)) : (smInsert k v m).Pairwise (fun x y => x.1 < y.1) := by
  induction m with
  | nil => simp [smInsert]
  | cons y r ih =>
    obtain ⟨a, w⟩ := y
    obtain ⟨h1, h2⟩ := List.pairwise_cons.1 h
    simp only [smInsert]
    split
    · refine List.pairwise_cons.2 ⟨fun z hz => ?_, ih h2⟩
      rcases mem_smInsert hz with rfl | hz
      · assumption
      · exact h1 z hz
    · split
      · subst_vars; exact List.pairwise_cons.2 ⟨h1, h2⟩
      · refine List.pairwise_cons.2 ⟨fun z hz => ?_, h⟩
        rcases List.mem_cons.1 hz with rfl | hz
        · show k < a; omega
        · have := h1 z hz; show k < z.1; simp only at this; omega

/-- Every write keeps the canonical form. -/
theorem smWf_smSet [DecidableEq α] (d : α) (m : SMap α) (k : Nat) (v : α) (h : smWf d m = true) : smWf d (smSet d m k v) = true := by
  rw [smWf_iff] at h ⊢
  simp only [smSet, smPut]
  split
  · exact ⟨h.1.filter _, fun x hx => h.2 x (List.mem_of_mem_filter hx)⟩
  · rename_i u hu
    split at hu
    · cases hu
    · cases hu
      refine ⟨pairwise_smInsert h.1, fun x hx => ?_⟩
      rcases mem_smInsert hx with rfl | hx
      · assumption
      · exact h.2 x hx

/-- A filter keeps the canonical form. -/
theorem smWf_filter [DecidableEq α] (d : α) (m : SMap α) (p : Nat × α → Bool) (h : smWf d m = true) : smWf d (m.filter p) = true := by
  rw [smWf_iff] at h ⊢
  exact ⟨h.1.filter _, fun x hx => h.2 x (List.mem_of_mem_filter hx)⟩

/-! ### Memory -/

/-- Writing bytes keeps the canonical form of a memory. -/
theorem memWrite_wf (m : List Host.Cell) (a : Nat) (bs : List Byte) (h : Memory.wf m) : Memory.wf (memWrite m a bs) := by
  induction bs generalizing m a with
  | nil => exact h
  | cons b bs ih => exact ih _ _ (smWf_smSet _ _ _ _ h)

/-- A byte outside those written reads as before. -/
theorem memByte_memWrite_out (m : List Host.Cell) (a : Nat) (bs : List Byte) (x : Nat) (h : x < a ∨ a + bs.length ≤ x) : memByte (memWrite m a bs) x = memByte m x := by
  induction bs generalizing m a with
  | nil => rfl
  | cons b bs ih =>
    simp only [memWrite, List.length_cons] at h ⊢
    rw [ih _ _ (by omega)]
    exact smGet_smSet_ne _ _ _ (by omega)

/-- A byte written reads as written. -/
theorem memByte_memWrite_in (m : List Host.Cell) (a : Nat) (bs : List Byte) (i : Nat) (h : i < bs.length) : memByte (memWrite m a bs) (a + i) = bs[i] := by
  induction bs generalizing m a i with
  | nil => simp at h
  | cons b bs ih =>
    cases i with
    | zero =>
      simp only [memWrite]
      rw [memByte_memWrite_out _ _ _ _ (by omega)]
      simp [memByte]
    | succ i =>
      simp only [memWrite, List.length_cons] at h ⊢
      rw [show a + (i + 1) = a + 1 + i by omega]
      simpa using ih _ _ i (by omega)

/-- The memories of the package after reset have the canonical form. -/
theorem reset_memory_wf : Memory.wf State.reset.dev.mem.spad ∧ Memory.wf State.reset.dev.mem.ext := by decide

end Sys2Proof.Machine
end

