-- ==== Sys2Proof/Laws/State.lean ====
section
/-! SUPPORT. What each update of the package leaves alone: one lemma for each field and each update, and what the updated field reads as. -/

namespace Sys2Proof.Machine

variable (d : Dev)

/-! ### wr -/

@[simp] theorem wr_part (a : Nat) (v : W32) : (wr d a v).part = d.part := rfl
@[simp] theorem wr_now (a : Nat) (v : W32) : (wr d a v).now = d.now := rfl
@[simp] theorem wr_code (a : Nat) (v : W32) : (wr d a v).code = d.code := rfl
@[simp] theorem wr_alertN (a : Nat) (v : W32) : (wr d a v).alertN = d.alertN := rfl
@[simp] theorem wr_halted (a : Nat) (v : W32) : (wr d a v).halted = d.halted := rfl
@[simp] theorem wr_core (a : Nat) (v : W32) : (wr d a v).core = d.core := rfl
@[simp] theorem wr_mem (a : Nat) (v : W32) : (wr d a v).mem = d.mem := rfl
@[simp] theorem wr_wdn (a : Nat) (v : W32) : (wr d a v).wdn = d.wdn := rfl
@[simp] theorem wr_fcs (a : Nat) (v : W32) : (wr d a v).fcs = d.fcs := rfl
@[simp] theorem wr_model (a : Nat) (v : W32) : (wr d a v).model = d.model := rfl
@[simp] theorem wr_ports (a : Nat) (v : W32) : (wr d a v).ports = d.ports := rfl
@[simp] theorem wr_ring (a : Nat) (v : W32) : (wr d a v).ring = d.ring := rfl
@[simp] theorem wr_xmem (a : Nat) (v : W32) : (wr d a v).xmem = d.xmem := rfl
@[simp] theorem wr_rvp (a : Nat) (v : W32) : (wr d a v).rvp = d.rvp := rfl
@[simp] theorem wr_eth (a : Nat) (v : W32) : (wr d a v).eth = d.eth := rfl
@[simp] theorem wr_tim (a : Nat) (v : W32) : (wr d a v).tim = d.tim := rfl
@[simp] theorem wr_det (a : Nat) (v : W32) : (wr d a v).det = d.det := rfl
@[simp] theorem wr_pwr (a : Nat) (v : W32) : (wr d a v).pwr = d.pwr := rfl
@[simp] theorem wr_boot (a : Nat) (v : W32) : (wr d a v).boot = d.boot := rfl
@[simp] theorem wr_mgmt (a : Nat) (v : W32) : (wr d a v).mgmt = d.mgmt := rfl
@[simp] theorem wr_free (a : Nat) (v : W32) : (wr d a v).free = d.free := rfl

/-! ### cntSet -/

@[simp] theorem cntSet_part (a : Nat) (v : W64) : (cntSet d a v).part = d.part := rfl
@[simp] theorem cntSet_now (a : Nat) (v : W64) : (cntSet d a v).now = d.now := rfl
@[simp] theorem cntSet_code (a : Nat) (v : W64) : (cntSet d a v).code = d.code := rfl
@[simp] theorem cntSet_alertN (a : Nat) (v : W64) : (cntSet d a v).alertN = d.alertN := rfl
@[simp] theorem cntSet_halted (a : Nat) (v : W64) : (cntSet d a v).halted = d.halted := rfl
@[simp] theorem cntSet_core (a : Nat) (v : W64) : (cntSet d a v).core = d.core := rfl
@[simp] theorem cntSet_mem (a : Nat) (v : W64) : (cntSet d a v).mem = d.mem := rfl
@[simp] theorem cntSet_wdn (a : Nat) (v : W64) : (cntSet d a v).wdn = d.wdn := rfl
@[simp] theorem cntSet_fcs (a : Nat) (v : W64) : (cntSet d a v).fcs = d.fcs := rfl
@[simp] theorem cntSet_model (a : Nat) (v : W64) : (cntSet d a v).model = d.model := rfl
@[simp] theorem cntSet_ports (a : Nat) (v : W64) : (cntSet d a v).ports = d.ports := rfl
@[simp] theorem cntSet_ring (a : Nat) (v : W64) : (cntSet d a v).ring = d.ring := rfl
@[simp] theorem cntSet_xmem (a : Nat) (v : W64) : (cntSet d a v).xmem = d.xmem := rfl
@[simp] theorem cntSet_rvp (a : Nat) (v : W64) : (cntSet d a v).rvp = d.rvp := rfl
@[simp] theorem cntSet_eth (a : Nat) (v : W64) : (cntSet d a v).eth = d.eth := rfl
@[simp] theorem cntSet_tim (a : Nat) (v : W64) : (cntSet d a v).tim = d.tim := rfl
@[simp] theorem cntSet_det (a : Nat) (v : W64) : (cntSet d a v).det = d.det := rfl
@[simp] theorem cntSet_pwr (a : Nat) (v : W64) : (cntSet d a v).pwr = d.pwr := rfl
@[simp] theorem cntSet_boot (a : Nat) (v : W64) : (cntSet d a v).boot = d.boot := rfl
@[simp] theorem cntSet_mgmt (a : Nat) (v : W64) : (cntSet d a v).mgmt = d.mgmt := rfl
@[simp] theorem cntSet_free (a : Nat) (v : W64) : (cntSet d a v).free = d.free := rfl

/-! ### setCore -/

@[simp] theorem setCore_part (i : Nat) (c : Core) : (setCore d i c).part = d.part := rfl
@[simp] theorem setCore_now (i : Nat) (c : Core) : (setCore d i c).now = d.now := rfl
@[simp] theorem setCore_code (i : Nat) (c : Core) : (setCore d i c).code = d.code := rfl
@[simp] theorem setCore_alertN (i : Nat) (c : Core) : (setCore d i c).alertN = d.alertN := rfl
@[simp] theorem setCore_halted (i : Nat) (c : Core) : (setCore d i c).halted = d.halted := rfl
@[simp] theorem setCore_regs (i : Nat) (c : Core) : (setCore d i c).regs = d.regs := rfl
@[simp] theorem setCore_mem (i : Nat) (c : Core) : (setCore d i c).mem = d.mem := rfl
@[simp] theorem setCore_wdn (i : Nat) (c : Core) : (setCore d i c).wdn = d.wdn := rfl
@[simp] theorem setCore_fcs (i : Nat) (c : Core) : (setCore d i c).fcs = d.fcs := rfl
@[simp] theorem setCore_model (i : Nat) (c : Core) : (setCore d i c).model = d.model := rfl
@[simp] theorem setCore_ports (i : Nat) (c : Core) : (setCore d i c).ports = d.ports := rfl
@[simp] theorem setCore_ring (i : Nat) (c : Core) : (setCore d i c).ring = d.ring := rfl
@[simp] theorem setCore_xmem (i : Nat) (c : Core) : (setCore d i c).xmem = d.xmem := rfl
@[simp] theorem setCore_rvp (i : Nat) (c : Core) : (setCore d i c).rvp = d.rvp := rfl
@[simp] theorem setCore_eth (i : Nat) (c : Core) : (setCore d i c).eth = d.eth := rfl
@[simp] theorem setCore_tim (i : Nat) (c : Core) : (setCore d i c).tim = d.tim := rfl
@[simp] theorem setCore_det (i : Nat) (c : Core) : (setCore d i c).det = d.det := rfl
@[simp] theorem setCore_pwr (i : Nat) (c : Core) : (setCore d i c).pwr = d.pwr := rfl
@[simp] theorem setCore_boot (i : Nat) (c : Core) : (setCore d i c).boot = d.boot := rfl
@[simp] theorem setCore_mgmt (i : Nat) (c : Core) : (setCore d i c).mgmt = d.mgmt := rfl
@[simp] theorem setCore_free (i : Nat) (c : Core) : (setCore d i c).free = d.free := rfl

/-! ### setSite -/

@[simp] theorem setSite_part (i : Nat) (x : SiteInfo) : (setSite d i x).part = d.part := rfl
@[simp] theorem setSite_now (i : Nat) (x : SiteInfo) : (setSite d i x).now = d.now := rfl
@[simp] theorem setSite_code (i : Nat) (x : SiteInfo) : (setSite d i x).code = d.code := rfl
@[simp] theorem setSite_alertN (i : Nat) (x : SiteInfo) : (setSite d i x).alertN = d.alertN := rfl
@[simp] theorem setSite_halted (i : Nat) (x : SiteInfo) : (setSite d i x).halted = d.halted := rfl
@[simp] theorem setSite_regs (i : Nat) (x : SiteInfo) : (setSite d i x).regs = d.regs := rfl
@[simp] theorem setSite_core (i : Nat) (x : SiteInfo) : (setSite d i x).core = d.core := rfl
@[simp] theorem setSite_mem (i : Nat) (x : SiteInfo) : (setSite d i x).mem = d.mem := rfl
@[simp] theorem setSite_fcs (i : Nat) (x : SiteInfo) : (setSite d i x).fcs = d.fcs := rfl
@[simp] theorem setSite_model (i : Nat) (x : SiteInfo) : (setSite d i x).model = d.model := rfl
@[simp] theorem setSite_ports (i : Nat) (x : SiteInfo) : (setSite d i x).ports = d.ports := rfl
@[simp] theorem setSite_ring (i : Nat) (x : SiteInfo) : (setSite d i x).ring = d.ring := rfl
@[simp] theorem setSite_xmem (i : Nat) (x : SiteInfo) : (setSite d i x).xmem = d.xmem := rfl
@[simp] theorem setSite_rvp (i : Nat) (x : SiteInfo) : (setSite d i x).rvp = d.rvp := rfl
@[simp] theorem setSite_eth (i : Nat) (x : SiteInfo) : (setSite d i x).eth = d.eth := rfl
@[simp] theorem setSite_tim (i : Nat) (x : SiteInfo) : (setSite d i x).tim = d.tim := rfl
@[simp] theorem setSite_det (i : Nat) (x : SiteInfo) : (setSite d i x).det = d.det := rfl
@[simp] theorem setSite_pwr (i : Nat) (x : SiteInfo) : (setSite d i x).pwr = d.pwr := rfl
@[simp] theorem setSite_boot (i : Nat) (x : SiteInfo) : (setSite d i x).boot = d.boot := rfl
@[simp] theorem setSite_mgmt (i : Nat) (x : SiteInfo) : (setSite d i x).mgmt = d.mgmt := rfl
@[simp] theorem setSite_free (i : Nat) (x : SiteInfo) : (setSite d i x).free = d.free := rfl

/-! ### setSp -/

@[simp] theorem setSp_part (n s : Nat) (p : SubPort) : (setSp d n s p).part = d.part := rfl
@[simp] theorem setSp_now (n s : Nat) (p : SubPort) : (setSp d n s p).now = d.now := rfl
@[simp] theorem setSp_code (n s : Nat) (p : SubPort) : (setSp d n s p).code = d.code := rfl
@[simp] theorem setSp_alertN (n s : Nat) (p : SubPort) : (setSp d n s p).alertN = d.alertN := rfl
@[simp] theorem setSp_halted (n s : Nat) (p : SubPort) : (setSp d n s p).halted = d.halted := rfl
@[simp] theorem setSp_regs (n s : Nat) (p : SubPort) : (setSp d n s p).regs = d.regs := rfl
@[simp] theorem setSp_core (n s : Nat) (p : SubPort) : (setSp d n s p).core = d.core := rfl
@[simp] theorem setSp_mem (n s : Nat) (p : SubPort) : (setSp d n s p).mem = d.mem := rfl
@[simp] theorem setSp_wdn (n s : Nat) (p : SubPort) : (setSp d n s p).wdn = d.wdn := rfl
@[simp] theorem setSp_fcs (n s : Nat) (p : SubPort) : (setSp d n s p).fcs = d.fcs := rfl
@[simp] theorem setSp_model (n s : Nat) (p : SubPort) : (setSp d n s p).model = d.model := rfl
@[simp] theorem setSp_ports (n s : Nat) (p : SubPort) : (setSp d n s p).ports = d.ports := rfl
@[simp] theorem setSp_ring (n s : Nat) (p : SubPort) : (setSp d n s p).ring = d.ring := rfl
@[simp] theorem setSp_xmem (n s : Nat) (p : SubPort) : (setSp d n s p).xmem = d.xmem := rfl
@[simp] theorem setSp_rvp (n s : Nat) (p : SubPort) : (setSp d n s p).rvp = d.rvp := rfl
@[simp] theorem setSp_tim (n s : Nat) (p : SubPort) : (setSp d n s p).tim = d.tim := rfl
@[simp] theorem setSp_det (n s : Nat) (p : SubPort) : (setSp d n s p).det = d.det := rfl
@[simp] theorem setSp_pwr (n s : Nat) (p : SubPort) : (setSp d n s p).pwr = d.pwr := rfl
@[simp] theorem setSp_boot (n s : Nat) (p : SubPort) : (setSp d n s p).boot = d.boot := rfl
@[simp] theorem setSp_mgmt (n s : Nat) (p : SubPort) : (setSp d n s p).mgmt = d.mgmt := rfl
@[simp] theorem setSp_free (n s : Nat) (p : SubPort) : (setSp d n s p).free = d.free := rfl

/-! ### setTimer -/

@[simp] theorem setTimer_part (n : Nat) (t : Timer) : (setTimer d n t).part = d.part := rfl
@[simp] theorem setTimer_now (n : Nat) (t : Timer) : (setTimer d n t).now = d.now := rfl
@[simp] theorem setTimer_code (n : Nat) (t : Timer) : (setTimer d n t).code = d.code := rfl
@[simp] theorem setTimer_alertN (n : Nat) (t : Timer) : (setTimer d n t).alertN = d.alertN := rfl
@[simp] theorem setTimer_halted (n : Nat) (t : Timer) : (setTimer d n t).halted = d.halted := rfl
@[simp] theorem setTimer_regs (n : Nat) (t : Timer) : (setTimer d n t).regs = d.regs := rfl
@[simp] theorem setTimer_core (n : Nat) (t : Timer) : (setTimer d n t).core = d.core := rfl
@[simp] theorem setTimer_mem (n : Nat) (t : Timer) : (setTimer d n t).mem = d.mem := rfl
@[simp] theorem setTimer_wdn (n : Nat) (t : Timer) : (setTimer d n t).wdn = d.wdn := rfl
@[simp] theorem setTimer_fcs (n : Nat) (t : Timer) : (setTimer d n t).fcs = d.fcs := rfl
@[simp] theorem setTimer_model (n : Nat) (t : Timer) : (setTimer d n t).model = d.model := rfl
@[simp] theorem setTimer_ports (n : Nat) (t : Timer) : (setTimer d n t).ports = d.ports := rfl
@[simp] theorem setTimer_ring (n : Nat) (t : Timer) : (setTimer d n t).ring = d.ring := rfl
@[simp] theorem setTimer_xmem (n : Nat) (t : Timer) : (setTimer d n t).xmem = d.xmem := rfl
@[simp] theorem setTimer_rvp (n : Nat) (t : Timer) : (setTimer d n t).rvp = d.rvp := rfl
@[simp] theorem setTimer_eth (n : Nat) (t : Timer) : (setTimer d n t).eth = d.eth := rfl
@[simp] theorem setTimer_det (n : Nat) (t : Timer) : (setTimer d n t).det = d.det := rfl
@[simp] theorem setTimer_pwr (n : Nat) (t : Timer) : (setTimer d n t).pwr = d.pwr := rfl
@[simp] theorem setTimer_boot (n : Nat) (t : Timer) : (setTimer d n t).boot = d.boot := rfl
@[simp] theorem setTimer_mgmt (n : Nat) (t : Timer) : (setTimer d n t).mgmt = d.mgmt := rfl
@[simp] theorem setTimer_free (n : Nat) (t : Timer) : (setTimer d n t).free = d.free := rfl

/-! ### setModel -/

@[simp] theorem setModel_part (m : Nat) (x : ModelSt) : (setModel d m x).part = d.part := rfl
@[simp] theorem setModel_now (m : Nat) (x : ModelSt) : (setModel d m x).now = d.now := rfl
@[simp] theorem setModel_code (m : Nat) (x : ModelSt) : (setModel d m x).code = d.code := rfl
@[simp] theorem setModel_alertN (m : Nat) (x : ModelSt) : (setModel d m x).alertN = d.alertN := rfl
@[simp] theorem setModel_halted (m : Nat) (x : ModelSt) : (setModel d m x).halted = d.halted := rfl
@[simp] theorem setModel_regs (m : Nat) (x : ModelSt) : (setModel d m x).regs = d.regs := rfl
@[simp] theorem setModel_core (m : Nat) (x : ModelSt) : (setModel d m x).core = d.core := rfl
@[simp] theorem setModel_mem (m : Nat) (x : ModelSt) : (setModel d m x).mem = d.mem := rfl
@[simp] theorem setModel_wdn (m : Nat) (x : ModelSt) : (setModel d m x).wdn = d.wdn := rfl
@[simp] theorem setModel_fcs (m : Nat) (x : ModelSt) : (setModel d m x).fcs = d.fcs := rfl
@[simp] theorem setModel_ports (m : Nat) (x : ModelSt) : (setModel d m x).ports = d.ports := rfl
@[simp] theorem setModel_ring (m : Nat) (x : ModelSt) : (setModel d m x).ring = d.ring := rfl
@[simp] theorem setModel_xmem (m : Nat) (x : ModelSt) : (setModel d m x).xmem = d.xmem := rfl
@[simp] theorem setModel_rvp (m : Nat) (x : ModelSt) : (setModel d m x).rvp = d.rvp := rfl
@[simp] theorem setModel_eth (m : Nat) (x : ModelSt) : (setModel d m x).eth = d.eth := rfl
@[simp] theorem setModel_tim (m : Nat) (x : ModelSt) : (setModel d m x).tim = d.tim := rfl
@[simp] theorem setModel_det (m : Nat) (x : ModelSt) : (setModel d m x).det = d.det := rfl
@[simp] theorem setModel_pwr (m : Nat) (x : ModelSt) : (setModel d m x).pwr = d.pwr := rfl
@[simp] theorem setModel_boot (m : Nat) (x : ModelSt) : (setModel d m x).boot = d.boot := rfl
@[simp] theorem setModel_mgmt (m : Nat) (x : ModelSt) : (setModel d m x).mgmt = d.mgmt := rfl
@[simp] theorem setModel_free (m : Nat) (x : ModelSt) : (setModel d m x).free = d.free := rfl

/-! ### setEnt -/

@[simp] theorem setEnt_part (e : Nat) (x : DirEntry) : (setEnt d e x).part = d.part := rfl
@[simp] theorem setEnt_now (e : Nat) (x : DirEntry) : (setEnt d e x).now = d.now := rfl
@[simp] theorem setEnt_code (e : Nat) (x : DirEntry) : (setEnt d e x).code = d.code := rfl
@[simp] theorem setEnt_alertN (e : Nat) (x : DirEntry) : (setEnt d e x).alertN = d.alertN := rfl
@[simp] theorem setEnt_halted (e : Nat) (x : DirEntry) : (setEnt d e x).halted = d.halted := rfl
@[simp] theorem setEnt_regs (e : Nat) (x : DirEntry) : (setEnt d e x).regs = d.regs := rfl
@[simp] theorem setEnt_core (e : Nat) (x : DirEntry) : (setEnt d e x).core = d.core := rfl
@[simp] theorem setEnt_mem (e : Nat) (x : DirEntry) : (setEnt d e x).mem = d.mem := rfl
@[simp] theorem setEnt_wdn (e : Nat) (x : DirEntry) : (setEnt d e x).wdn = d.wdn := rfl
@[simp] theorem setEnt_model (e : Nat) (x : DirEntry) : (setEnt d e x).model = d.model := rfl
@[simp] theorem setEnt_ports (e : Nat) (x : DirEntry) : (setEnt d e x).ports = d.ports := rfl
@[simp] theorem setEnt_ring (e : Nat) (x : DirEntry) : (setEnt d e x).ring = d.ring := rfl
@[simp] theorem setEnt_xmem (e : Nat) (x : DirEntry) : (setEnt d e x).xmem = d.xmem := rfl
@[simp] theorem setEnt_rvp (e : Nat) (x : DirEntry) : (setEnt d e x).rvp = d.rvp := rfl
@[simp] theorem setEnt_eth (e : Nat) (x : DirEntry) : (setEnt d e x).eth = d.eth := rfl
@[simp] theorem setEnt_tim (e : Nat) (x : DirEntry) : (setEnt d e x).tim = d.tim := rfl
@[simp] theorem setEnt_det (e : Nat) (x : DirEntry) : (setEnt d e x).det = d.det := rfl
@[simp] theorem setEnt_pwr (e : Nat) (x : DirEntry) : (setEnt d e x).pwr = d.pwr := rfl
@[simp] theorem setEnt_boot (e : Nat) (x : DirEntry) : (setEnt d e x).boot = d.boot := rfl
@[simp] theorem setEnt_mgmt (e : Nat) (x : DirEntry) : (setEnt d e x).mgmt = d.mgmt := rfl
@[simp] theorem setEnt_free (e : Nat) (x : DirEntry) : (setEnt d e x).free = d.free := rfl

/-! ### putSess -/

@[simp] theorem putSess_part (n : Nat) (y : Option Session) : (putSess d n y).part = d.part := rfl
@[simp] theorem putSess_now (n : Nat) (y : Option Session) : (putSess d n y).now = d.now := rfl
@[simp] theorem putSess_code (n : Nat) (y : Option Session) : (putSess d n y).code = d.code := rfl
@[simp] theorem putSess_alertN (n : Nat) (y : Option Session) : (putSess d n y).alertN = d.alertN := rfl
@[simp] theorem putSess_halted (n : Nat) (y : Option Session) : (putSess d n y).halted = d.halted := rfl
@[simp] theorem putSess_regs (n : Nat) (y : Option Session) : (putSess d n y).regs = d.regs := rfl
@[simp] theorem putSess_core (n : Nat) (y : Option Session) : (putSess d n y).core = d.core := rfl
@[simp] theorem putSess_mem (n : Nat) (y : Option Session) : (putSess d n y).mem = d.mem := rfl
@[simp] theorem putSess_wdn (n : Nat) (y : Option Session) : (putSess d n y).wdn = d.wdn := rfl
@[simp] theorem putSess_fcs (n : Nat) (y : Option Session) : (putSess d n y).fcs = d.fcs := rfl
@[simp] theorem putSess_model (n : Nat) (y : Option Session) : (putSess d n y).model = d.model := rfl
@[simp] theorem putSess_ports (n : Nat) (y : Option Session) : (putSess d n y).ports = d.ports := rfl
@[simp] theorem putSess_ring (n : Nat) (y : Option Session) : (putSess d n y).ring = d.ring := rfl
@[simp] theorem putSess_xmem (n : Nat) (y : Option Session) : (putSess d n y).xmem = d.xmem := rfl
@[simp] theorem putSess_eth (n : Nat) (y : Option Session) : (putSess d n y).eth = d.eth := rfl
@[simp] theorem putSess_tim (n : Nat) (y : Option Session) : (putSess d n y).tim = d.tim := rfl
@[simp] theorem putSess_det (n : Nat) (y : Option Session) : (putSess d n y).det = d.det := rfl
@[simp] theorem putSess_pwr (n : Nat) (y : Option Session) : (putSess d n y).pwr = d.pwr := rfl
@[simp] theorem putSess_boot (n : Nat) (y : Option Session) : (putSess d n y).boot = d.boot := rfl
@[simp] theorem putSess_mgmt (n : Nat) (y : Option Session) : (putSess d n y).mgmt = d.mgmt := rfl
@[simp] theorem putSess_free (n : Nat) (y : Option Session) : (putSess d n y).free = d.free := rfl

/-! ### setPort -/

@[simp] theorem setPort_part (n : Nat) (p : Port) : (setPort d n p).part = d.part := rfl
@[simp] theorem setPort_now (n : Nat) (p : Port) : (setPort d n p).now = d.now := rfl
@[simp] theorem setPort_code (n : Nat) (p : Port) : (setPort d n p).code = d.code := rfl
@[simp] theorem setPort_alertN (n : Nat) (p : Port) : (setPort d n p).alertN = d.alertN := rfl
@[simp] theorem setPort_halted (n : Nat) (p : Port) : (setPort d n p).halted = d.halted := rfl
@[simp] theorem setPort_regs (n : Nat) (p : Port) : (setPort d n p).regs = d.regs := rfl
@[simp] theorem setPort_core (n : Nat) (p : Port) : (setPort d n p).core = d.core := rfl
@[simp] theorem setPort_mem (n : Nat) (p : Port) : (setPort d n p).mem = d.mem := rfl
@[simp] theorem setPort_wdn (n : Nat) (p : Port) : (setPort d n p).wdn = d.wdn := rfl
@[simp] theorem setPort_fcs (n : Nat) (p : Port) : (setPort d n p).fcs = d.fcs := rfl
@[simp] theorem setPort_model (n : Nat) (p : Port) : (setPort d n p).model = d.model := rfl
@[simp] theorem setPort_ring (n : Nat) (p : Port) : (setPort d n p).ring = d.ring := rfl
@[simp] theorem setPort_xmem (n : Nat) (p : Port) : (setPort d n p).xmem = d.xmem := rfl
@[simp] theorem setPort_rvp (n : Nat) (p : Port) : (setPort d n p).rvp = d.rvp := rfl
@[simp] theorem setPort_eth (n : Nat) (p : Port) : (setPort d n p).eth = d.eth := rfl
@[simp] theorem setPort_tim (n : Nat) (p : Port) : (setPort d n p).tim = d.tim := rfl
@[simp] theorem setPort_det (n : Nat) (p : Port) : (setPort d n p).det = d.det := rfl
@[simp] theorem setPort_pwr (n : Nat) (p : Port) : (setPort d n p).pwr = d.pwr := rfl
@[simp] theorem setPort_boot (n : Nat) (p : Port) : (setPort d n p).boot = d.boot := rfl
@[simp] theorem setPort_mgmt (n : Nat) (p : Port) : (setPort d n p).mgmt = d.mgmt := rfl
@[simp] theorem setPort_free (n : Nat) (p : Port) : (setPort d n p).free = d.free := rfl

/-! ### What an updated register, core, site or block reads as -/

@[simp] theorem wr_cnt (a : Nat) (v : W32) : (wr d a v).regs.cnt = d.regs.cnt := rfl
@[simp] theorem wr_latch (a : Nat) (v : W32) : (wr d a v).regs.latch = d.regs.latch := rfl
@[simp] theorem cntSet_val (a : Nat) (v : W64) : (cntSet d a v).regs.val = d.regs.val := rfl
@[simp] theorem cntSet_latch (a : Nat) (v : W64) : (cntSet d a v).regs.latch = d.regs.latch := rfl
@[simp] theorem rd_wr_same (a : Nat) (v : W32) : rd (wr d a v) a = v := smGet_smSet_same _ _ _ _
@[simp] theorem rd_wr_ne {a b : Nat} (v : W32) (h : b ≠ a) : rd (wr d a v) b = rd d b := smGet_smSet_ne _ _ _ h
@[simp] theorem rd_cntSet (a b : Nat) (v : W64) : rd (cntSet d a v) b = rd d b := rfl
@[simp] theorem cnt_wr (a b : Nat) (v : W32) : cnt (wr d a v) b = cnt d b := rfl
@[simp] theorem cnt_cntSet_same (a : Nat) (v : W64) : cnt (cntSet d a v) a = v := smGet_smSet_same _ _ _ _
@[simp] theorem cnt_cntSet_ne {a b : Nat} (v : W64) (h : b ≠ a) : cnt (cntSet d a v) b = cnt d b := smGet_smSet_ne _ _ _ h
@[simp] theorem coreAt_setCore_same (i : Nat) (c : Core) : coreAt (setCore d i c) i = c := smGet_smSet_same _ _ _ _
@[simp] theorem coreAt_setCore_ne {i j : Nat} (c : Core) (h : j ≠ i) : coreAt (setCore d i c) j = coreAt d j := smGet_smSet_ne _ _ _ h
@[simp] theorem timerAt_setTimer_same (n : Nat) (t : Timer) : timerAt (setTimer d n t) n = t := smGet_smSet_same _ _ _ _
@[simp] theorem timerAt_setTimer_ne {n m : Nat} (t : Timer) (h : m ≠ n) : timerAt (setTimer d n t) m = timerAt d m := smGet_smSet_ne _ _ _ h
@[simp] theorem modelAt_setModel_same (m : Nat) (x : ModelSt) : modelAt (setModel d m x) m = x := smGet_smSet_same _ _ _ _
@[simp] theorem entAt_setEnt_same (e : Nat) (x : DirEntry) : entAt (setEnt d e x) e = x := smGet_smSet_same _ _ _ _
@[simp] theorem entAt_setEnt_ne {e f : Nat} (x : DirEntry) (h : f ≠ e) : entAt (setEnt d e x) f = entAt d f := smGet_smSet_ne _ _ _ h
@[simp] theorem spAt_setSp_same (n s : Nat) (p : SubPort) : spAt (setSp d n s p) n s = p := smGet_smSet_same _ _ _ _
@[simp] theorem sessAt_putSess_same (n : Nat) (y : Option Session) : sessAt (putSess d n y) n = y := smFind_smPut_same _ _ _
@[simp] theorem sessAt_putSess_ne {n m : Nat} (y : Option Session) (h : m ≠ n) : sessAt (putSess d n y) m = sessAt d m := smFind_smPut_ne _ _ h

@[simp] theorem siteInfo_setSite_same (i : Nat) (x : SiteInfo) : siteInfo (setSite d i x) i = x := by
  simp only [siteInfo, setSite, smFind_smPut_same]
  split <;> simp_all

@[simp] theorem siteInfo_setSite_ne {i j : Nat} (x : SiteInfo) (h : j ≠ i) : siteInfo (setSite d i x) j = siteInfo d j := by
  simp [siteInfo, setSite, h]

/-- A state with another package, and nothing else. -/
@[simp] theorem put_dev (s : State) (e : Dev) : ({ s with dev := e } : State).dev = e := rfl

end Sys2Proof.Machine
end

