-- ==== Sys2Proof/Laws/Ops.lean ====
section
/-! SUPPORT. What each shared operation can do, once: events, alerts, the error log, counters, fields of registers, the station code, free values, the lifts from the package to the machine, and the step. -/

namespace Sys2Proof.Machine

variable (d : Dev)

/-! ### Registers -/

/-- A field of a register after it is set. -/
theorem fieldSet_toNat (v : W32) (hi lo n : Nat) (h : lo ≤ hi) (h2 : hi < 32) :
    (fieldSet v hi lo n).toNat = v.toNat - bits v.toNat hi lo * 2 ^ lo + n % 2 ^ (hi + 1 - lo) * 2 ^ lo := by
  have e : 2 ^ 32 = 2 ^ (hi + 1 - lo) * 2 ^ lo * 2 ^ (31 - hi) := by rw [← pow_add, ← pow_add]; congr 1; omega
  obtain ⟨x, hx⟩ : ∃ x, v.toNat = x := ⟨_, rfl⟩
  have hv : x < 2 ^ 32 := hx ▸ v.isLt
  simp only [fieldSet, BitVec.toNat_ofNat, hx, bits]
  rw [Nat.mod_eq_of_lt]
  rw [e] at hv ⊢
  generalize 2 ^ (hi + 1 - lo) = m at *
  generalize hl : 2 ^ lo = l at *
  generalize 2 ^ (31 - hi) = k at *
  rcases Nat.eq_zero_or_pos l with rfl | hl0
  · simp at hv
  rcases Nat.eq_zero_or_pos m with rfl | hm0
  · simp at hv
  have hn : n % m < m := Nat.mod_lt _ hm0
  have h1 : x / l / m < k := by
    rw [Nat.div_div_eq_div_mul, Nat.div_lt_iff_lt_mul (by positivity)]
    calc x < m * l * k := hv
      _ = k * (l * m) := by ring
  have h2 := Nat.div_add_mod x l
  have h3 := Nat.div_add_mod (x / l) m
  have h4 := Nat.mod_lt x hl0
  have : x - x / l % m * l = x / l / m * m * l + x % l := by
    have : x = x / l / m * m * l + x / l % m * l + x % l := by
      calc x = l * (x / l) + x % l := h2.symm
        _ = l * (m * (x / l / m) + x / l % m) + x % l := by rw [h3]
        _ = _ := by ring
    omega
  rw [this]
  generalize x / l / m = q at *
  generalize x % l = r at *
  generalize n % m = y at *
  calc q * m * l + r + y * l < q * m * l + l + y * l := by omega
    _ = (q * m + (y + 1)) * l := by ring
    _ ≤ (q * m + m) * l := Nat.mul_le_mul_right _ (by omega)
    _ = (q + 1) * (m * l) := by ring
    _ ≤ k * (m * l) := Nat.mul_le_mul_right _ h1
    _ = m * l * k := by ring

/-- An event bit is set, and no other bit changes. -/
theorem rd_evt (a bit : Nat) : rd (evt d a bit) a = rd d a ||| BitVec.ofNat 32 (2 ^ bit) := by simp [evt]

@[simp] theorem rd_evt_ne {a b : Nat} (bit : Nat) (h : b ≠ a) : rd (evt d a bit) b = rd d b := by simp [evt, h]

@[simp] theorem cnt_evt (a b bit : Nat) : cnt (evt d a bit) b = cnt d b := rfl

theorem evt_getLsbD (a bit : Nat) (h : bit < 32) : (rd (evt d a bit) a).getLsbD bit = true := by
  simp only [rd_evt, BitVec.getLsbD_or, BitVec.getLsbD_ofNat, Nat.testBit_two_pow_self, h]
  simp

theorem evt_getLsbD_ne (a : Nat) {bit k : Nat} (h : k ≠ bit) : (rd (evt d a bit) a).getLsbD k = (rd d a).getLsbD k := by
  simp only [rd_evt, BitVec.getLsbD_or, BitVec.getLsbD_ofNat, Nat.testBit_two_pow_of_ne (Ne.symm h)]
  simp

/-- A counter rises by what is added, and no other changes. -/
@[simp] theorem cnt_cntAdd_same (a n : Nat) : cnt (cntAdd d a n) a = cnt d a + BitVec.ofNat 64 n := by simp [cntAdd]
@[simp] theorem cnt_cntAdd_ne {a b : Nat} (n : Nat) (h : b ≠ a) : cnt (cntAdd d a n) b = cnt d b := by simp [cntAdd, h]
@[simp] theorem cnt_cntInc_same (a : Nat) : cnt (cntInc d a) a = cnt d a + 1 := by simp [cntInc]
@[simp] theorem cnt_cntInc_ne {a b : Nat} (h : b ≠ a) : cnt (cntInc d a) b = cnt d b := by simp [cntInc, h]
@[simp] theorem rd_cntInc (a b : Nat) : rd (cntInc d a) b = rd d b := rfl
@[simp] theorem rd_cntAdd (a b n : Nat) : rd (cntAdd d a n) b = rd d b := rfl
@[simp] theorem cnt_cntClr_same (a : Nat) : cnt (cntClr d a) a = 0 := by simp [cnt, cntClr]
@[simp] theorem cnt_cntClr_ne {a b : Nat} (h : b ≠ a) : cnt (cntClr d a) b = cnt d b := by simp [cnt, cntClr, h]

/-- Clearing counters clears those of the range with their latches and nothing else. -/
theorem cntClrN_spec (a n : Nat) :
    (∀ k, k < n → cnt (cntClrN d a n) (a + 8 * k) = 0 ∧ smGet 0 (cntClrN d a n).regs.latch (a + 8 * k) = 0) ∧
      (∀ b, (∀ k, k < n → b ≠ a + 8 * k) → cnt (cntClrN d a n) b = cnt d b) ∧ (∃ r, cntClrN d a n = { d with regs := r }) ∧ (cntClrN d a n).regs.val = d.regs.val := by
  induction n with
  | zero => exact ⟨fun k hk => absurd hk (by omega), fun _ _ => rfl, ⟨_, rfl⟩, rfl⟩
  | succ n ih =>
    obtain ⟨h1, h2, h3, h4⟩ := ih
    refine ⟨fun k hk => ?_, fun b hb => ?_, ?_, ?_⟩
    · by_cases h : k = n
      · subst h; exact ⟨by simp [cntClrN], by simp [cntClrN, cntClr]⟩
      · have := h1 k (by omega)
        exact ⟨by rw [cntClrN, cnt_cntClr_ne _ (by omega)]; exact this.1, (smGet_smSet_ne (k := a + 8 * n) 0 (cntClrN d a n).regs.latch 0 (by omega)).trans this.2⟩
    · rw [cntClrN, cnt_cntClr_ne _ (hb n (by omega))]; exact h2 b (fun k hk => hb k (by omega))
    · obtain ⟨r, h⟩ := h3; exact ⟨_, by rw [cntClrN, h]; rfl⟩
    · simpa [cntClrN, cntClr] using h4

/-! ### Alerts, the station code, the error log -/

/-- An alert changes registers and ALERT_N, and nothing else. -/
theorem alert_eq (b : Nat) : ∃ r a, alert d b = { d with regs := r, alertN := a } := by
  unfold alert
  split
  · exact ⟨_, _, rfl⟩
  · dsimp only
    split <;> exact ⟨_, _, rfl⟩

/-- An alert sets its bit, and no other register. -/
theorem alert_spec (b : Nat) (h : b < 32) :
    (rd (alert d b) Reg.MGT_ALERT).getLsbD b = true ∧ (∀ a, a ≠ Reg.MGT_ALERT → rd (alert d b) a = rd d a) := by
  unfold alert
  split
  · simp_all
  · dsimp only
    split
    · exact ⟨evt_getLsbD d _ b h, fun a ha => rd_evt_ne d b ha⟩
    · exact ⟨evt_getLsbD d _ b h, fun a ha => rd_evt_ne d b ha⟩

@[simp] theorem alert_cnt (b a : Nat) : cnt (alert d b) a = cnt d a := by
  unfold alert
  split
  · rfl
  · dsimp only
    split <;> rfl

@[simp] theorem alert_part (b : Nat) : (alert d b).part = d.part := by obtain ⟨r, a, h⟩ := alert_eq d b; rw [h]
@[simp] theorem alert_now (b : Nat) : (alert d b).now = d.now := by obtain ⟨r, a, h⟩ := alert_eq d b; rw [h]
@[simp] theorem alert_code (b : Nat) : (alert d b).code = d.code := by obtain ⟨r, a, h⟩ := alert_eq d b; rw [h]
@[simp] theorem alert_halted (b : Nat) : (alert d b).halted = d.halted := by obtain ⟨r, a, h⟩ := alert_eq d b; rw [h]
@[simp] theorem alert_core (b : Nat) : (alert d b).core = d.core := by obtain ⟨r, a, h⟩ := alert_eq d b; rw [h]
@[simp] theorem alert_mem (b : Nat) : (alert d b).mem = d.mem := by obtain ⟨r, a, h⟩ := alert_eq d b; rw [h]
@[simp] theorem alert_fcs (b : Nat) : (alert d b).fcs = d.fcs := by obtain ⟨r, a, h⟩ := alert_eq d b; rw [h]
@[simp] theorem alert_model (b : Nat) : (alert d b).model = d.model := by obtain ⟨r, a, h⟩ := alert_eq d b; rw [h]
@[simp] theorem alert_ports (b : Nat) : (alert d b).ports = d.ports := by obtain ⟨r, a, h⟩ := alert_eq d b; rw [h]
@[simp] theorem alert_ring (b : Nat) : (alert d b).ring = d.ring := by obtain ⟨r, a, h⟩ := alert_eq d b; rw [h]
@[simp] theorem alert_xmem (b : Nat) : (alert d b).xmem = d.xmem := by obtain ⟨r, a, h⟩ := alert_eq d b; rw [h]
@[simp] theorem alert_rvp (b : Nat) : (alert d b).rvp = d.rvp := by obtain ⟨r, a, h⟩ := alert_eq d b; rw [h]
@[simp] theorem alert_eth (b : Nat) : (alert d b).eth = d.eth := by obtain ⟨r, a, h⟩ := alert_eq d b; rw [h]
@[simp] theorem alert_tim (b : Nat) : (alert d b).tim = d.tim := by obtain ⟨r, a, h⟩ := alert_eq d b; rw [h]
@[simp] theorem alert_det (b : Nat) : (alert d b).det = d.det := by obtain ⟨r, a, h⟩ := alert_eq d b; rw [h]
@[simp] theorem alert_pwr (b : Nat) : (alert d b).pwr = d.pwr := by obtain ⟨r, a, h⟩ := alert_eq d b; rw [h]
@[simp] theorem alert_boot (b : Nat) : (alert d b).boot = d.boot := by obtain ⟨r, a, h⟩ := alert_eq d b; rw [h]
@[simp] theorem alert_mgmt (b : Nat) : (alert d b).mgmt = d.mgmt := by obtain ⟨r, a, h⟩ := alert_eq d b; rw [h]
@[simp] theorem alert_free (b : Nat) : (alert d b).free = d.free := by obtain ⟨r, a, h⟩ := alert_eq d b; rw [h]
@[simp] theorem alert_wdn (b : Nat) : (alert d b).wdn = d.wdn := by obtain ⟨r, a, h⟩ := alert_eq d b; rw [h]

/-- Room in the log changes registers only. -/
theorem elogRoom_eq : ∃ r, elogRoom d = { d with regs := r } := by
  unfold elogRoom
  split <;> exact ⟨_, rfl⟩

/-- The events of a new entry change registers and ALERT_N only. -/
theorem elogTell_eq (cls : Nat) : ∃ r a, elogTell cls d = { d with regs := r, alertN := a } := by
  have h : ∃ r, (if 4 ≤ cls then evt (evt d Reg.ELOG_EVT 0) Reg.ELOG_EVT 1 else evt d Reg.ELOG_EVT 0) = { d with regs := r } := by split <;> exact ⟨_, rfl⟩
  obtain ⟨r, h⟩ := h
  simp only [elogTell, h]
  split
  · obtain ⟨r', a, h'⟩ := alert_eq { d with regs := r } 0
    exact ⟨r', a, h'⟩
  · exact ⟨r, d.alertN, rfl⟩

/-- An error log event changes registers, ALERT_N and the two logs, and nothing else. -/
theorem elog_eq (cls block code unit detail : Nat) :
    ∃ r a l s q, elog cls block code unit detail d = { d with regs := r, alertN := a, wdn := { d.wdn with elog := l, spill := s, elogSeq := q } } := by
  simp only [elog]
  split
  · exact ⟨_, _, _, _, _, rfl⟩
  · obtain ⟨r, h⟩ := elogRoom_eq (cntInc d (Reg.ELOG_CNT_LO (cls - 1)))
    rw [h]
    obtain ⟨r', a', h'⟩ := elogTell_eq (elogPush { time := (cntInc d (Reg.ELOG_CNT_LO (cls - 1))).now, seq := (cntInc d (Reg.ELOG_CNT_LO (cls - 1))).wdn.elogSeq, boot := (cntInc d (Reg.ELOG_CNT_LO (cls - 1))).wdn.bootId, cls := cls, block := block, code := code, unit := unit, detail := detail, spilled := spillOn (cntInc d (Reg.ELOG_CNT_LO (cls - 1))) } { cntInc d (Reg.ELOG_CNT_LO (cls - 1)) with regs := r }) cls
    rw [h']
    exact ⟨_, _, _, _, _, rfl⟩

@[simp] theorem elog_part (c b k u x : Nat) : (elog c b k u x d).part = d.part := by obtain ⟨r, a, l, s, q, h⟩ := elog_eq d c b k u x; rw [h]
@[simp] theorem elog_now (c b k u x : Nat) : (elog c b k u x d).now = d.now := by obtain ⟨r, a, l, s, q, h⟩ := elog_eq d c b k u x; rw [h]
@[simp] theorem elog_code (c b k u x : Nat) : (elog c b k u x d).code = d.code := by obtain ⟨r, a, l, s, q, h⟩ := elog_eq d c b k u x; rw [h]
@[simp] theorem elog_halted (c b k u x : Nat) : (elog c b k u x d).halted = d.halted := by obtain ⟨r, a, l, s, q, h⟩ := elog_eq d c b k u x; rw [h]
@[simp] theorem elog_core (c b k u x : Nat) : (elog c b k u x d).core = d.core := by obtain ⟨r, a, l, s, q, h⟩ := elog_eq d c b k u x; rw [h]
@[simp] theorem elog_mem (c b k u x : Nat) : (elog c b k u x d).mem = d.mem := by obtain ⟨r, a, l, s, q, h⟩ := elog_eq d c b k u x; rw [h]
@[simp] theorem elog_fcs (c b k u x : Nat) : (elog c b k u x d).fcs = d.fcs := by obtain ⟨r, a, l, s, q, h⟩ := elog_eq d c b k u x; rw [h]
@[simp] theorem elog_model (c b k u x : Nat) : (elog c b k u x d).model = d.model := by obtain ⟨r, a, l, s, q, h⟩ := elog_eq d c b k u x; rw [h]
@[simp] theorem elog_ports (c b k u x : Nat) : (elog c b k u x d).ports = d.ports := by obtain ⟨r, a, l, s, q, h⟩ := elog_eq d c b k u x; rw [h]
@[simp] theorem elog_ring (c b k u x : Nat) : (elog c b k u x d).ring = d.ring := by obtain ⟨r, a, l, s, q, h⟩ := elog_eq d c b k u x; rw [h]
@[simp] theorem elog_xmem (c b k u x : Nat) : (elog c b k u x d).xmem = d.xmem := by obtain ⟨r, a, l, s, q, h⟩ := elog_eq d c b k u x; rw [h]
@[simp] theorem elog_rvp (c b k u x : Nat) : (elog c b k u x d).rvp = d.rvp := by obtain ⟨r, a, l, s, q, h⟩ := elog_eq d c b k u x; rw [h]
@[simp] theorem elog_eth (c b k u x : Nat) : (elog c b k u x d).eth = d.eth := by obtain ⟨r, a, l, s, q, h⟩ := elog_eq d c b k u x; rw [h]
@[simp] theorem elog_tim (c b k u x : Nat) : (elog c b k u x d).tim = d.tim := by obtain ⟨r, a, l, s, q, h⟩ := elog_eq d c b k u x; rw [h]
@[simp] theorem elog_det (c b k u x : Nat) : (elog c b k u x d).det = d.det := by obtain ⟨r, a, l, s, q, h⟩ := elog_eq d c b k u x; rw [h]
@[simp] theorem elog_pwr (c b k u x : Nat) : (elog c b k u x d).pwr = d.pwr := by obtain ⟨r, a, l, s, q, h⟩ := elog_eq d c b k u x; rw [h]
@[simp] theorem elog_boot (c b k u x : Nat) : (elog c b k u x d).boot = d.boot := by obtain ⟨r, a, l, s, q, h⟩ := elog_eq d c b k u x; rw [h]
@[simp] theorem elog_mgmt (c b k u x : Nat) : (elog c b k u x d).mgmt = d.mgmt := by obtain ⟨r, a, l, s, q, h⟩ := elog_eq d c b k u x; rw [h]
@[simp] theorem elog_free (c b k u x : Nat) : (elog c b k u x d).free = d.free := by obtain ⟨r, a, l, s, q, h⟩ := elog_eq d c b k u x; rw [h]
@[simp] theorem elog_sites (c b k u x : Nat) : (elog c b k u x d).wdn.sites = d.wdn.sites := by obtain ⟨r, a, l, s, q, h⟩ := elog_eq d c b k u x; rw [h]
@[simp] theorem elog_seams (c b k u x : Nat) : (elog c b k u x d).wdn.seams = d.wdn.seams := by obtain ⟨r, a, l, s, q, h⟩ := elog_eq d c b k u x; rw [h]
@[simp] theorem elog_standby (c b k u x : Nat) : (elog c b k u x d).wdn.standby = d.wdn.standby := by obtain ⟨r, a, l, s, q, h⟩ := elog_eq d c b k u x; rw [h]
@[simp] theorem elog_active (c b k u x : Nat) : (elog c b k u x d).wdn.active = d.wdn.active := by obtain ⟨r, a, l, s, q, h⟩ := elog_eq d c b k u x; rw [h]
@[simp] theorem elog_missed (c b k u x : Nat) : (elog c b k u x d).wdn.missed = d.wdn.missed := by obtain ⟨r, a, l, s, q, h⟩ := elog_eq d c b k u x; rw [h]
@[simp] theorem elog_bootId (c b k u x : Nat) : (elog c b k u x d).wdn.bootId = d.wdn.bootId := by obtain ⟨r, a, l, s, q, h⟩ := elog_eq d c b k u x; rw [h]
@[simp] theorem elog_dieLost (c b k u x : Nat) : (elog c b k u x d).wdn.dieLost = d.wdn.dieLost := by obtain ⟨r, a, l, s, q, h⟩ := elog_eq d c b k u x; rw [h]

/-- A free value is drawn: only the number of draws changes. -/
theorem draw_spec : draw d = (Config.freeNat d.free, { d with free := d.free + 1 }) := rfl

/-! ### From the package to the machine -/

theorem onDev_live {f : Dev → Dev} {s : State} (h : live s.dev = true) : onDev f s = .next { s with dev := f s.dev } := by simp [onDev, h]
theorem onDev_quiet {f : Dev → Dev} {s : State} (h : live s.dev = false) : onDev f s = .next s := by simp [onDev, h]
theorem onState_live {f : State → State} {s : State} (h : live s.dev = true) : onState f s = .next (f s) := by simp [onState, h]
theorem byWrite_open {f : Dev → Dev} {d : Dev} (h : mgmtOpen d = true) : byWrite f d = f d := by simp [byWrite, h]
theorem byWrite_shut {f : Dev → Dev} {d : Dev} (h : mgmtOpen d = false) : byWrite f d = d := by simp [byWrite, h]

/-- What a step does with a command at the front of the queue. -/
theorem step_cons (s : State) (c : Instr) (rest : List Instr) (h : s.pending = c :: rest) : step s = exec c { s with pending := rest } := by simp [step, h]

end Sys2Proof.Machine
end

