-- ==== Sys2Proof/Tests/Slice0.lean ====
section
/-! SUPPORT. Tests of the model on small states: the bounds of Instr.wf, one step each of single commands with results taken from the spec, and for every statement with hypotheses a witness that meets them. -/

set_option autoImplicit false
set_option Elab.async false
set_option linter.unusedVariables false
set_option linter.unusedTactic false
set_option linter.unreachableTactic false
set_option linter.unnecessarySeqFocus false

open Sys2Proof Sys2Proof.Machine

namespace Sys2Proof.Tests

/-! ### Small states -/

/-- A state around a package. -/
def st (d : Dev) : State := { dev := d }

/-- A package in SERVING with every register at reset. -/
def dev0 : Dev := { State.reset.dev with code := 6 }

/-- A task descriptor of model 1 with the given flags, rank and group size 1, whose command skein is skein 0. -/
def desc (flags rank : Nat) : List Byte :=
  [1, byteOf flags] ++ List.replicate 42 0 ++ [1, 0, byteOf rank, 0] ++ List.replicate 16 0

/-- A command word with a family in bits 127 to 124 and the rest given. -/
def word (fam rest : Nat) : Nat := fam * 2 ^ 124 + rest

/-- A tagged ring of `count` slots of `size` words. -/
def ring (base size count : Nat) : Skein := { defd := true, base := base, size := size, count := count, tagged := true }

/-- The core of a running task 0 whose command skein starts at word 0. -/
def core0 (flags rank : Nat) : Core :=
  { tasks := { st := .running, desc := desc flags rank, lap := 1, req := 9 } :: List.replicate 7 {}, run := some 0,
    skeins := [(0, { defd := true, base := 0, size := 1, count := 4 }), (1, ring 64 1 4), (2, ring 128 64 4), (3, ring 512 4 4)] }

/-- A package whose core at site 0 has a command word at its issue pointer, and whose core is changed by `f`. -/
def at0 (flags rank w : Nat) (f : Core → Core) : Dev :=
  { dev0 with core := [(0, f (core0 flags rank))], mem := { spad := memWrite [] 0 (leBytes 16 w) } }

/-- A queue of `n` commands of task 0. -/
def full (n : Nat) : List QCmd := List.replicate n { slot := 0, pos := 0, word := 0 }

/-- MMA INT8 x INT8 over skeins 1, 2 and 3 of 2 rows and 1 tile. -/
def wMma (rows tiles : Nat) : Nat := word 1 (1 * 2 ^ 110 + 2 * 2 ^ 104 + 3 * 2 ^ 98 + rows * 2 ^ 91 + tiles * 2 ^ 79)

/-- VOP ADD of FP32 vectors from words 1024 and 2048 to 4096. -/
def wVop (dst count : Nat) : Nat := word 2 (1 * 2 ^ 118 + 4 * 2 ^ 114 + 4 * 2 ^ 110 + 1024 * 2 ^ 86 + 2048 * 2 ^ 62 + dst * 2 ^ 38 + count * 2 ^ 22)

/-- The package a start leaves, for statements that name it. -/
def startedOf : Start → Dev
  | .started d => d
  | _ => {}

/-- The package and the context an emission leaves. -/
def emitDev : Emit → Dev
  | .ok d _ => d
  | _ => {}

def emitCtx : Emit → PatCtx
  | .ok _ p => p
  | _ => {}

/-- The package and the descriptor a transfer leaves. -/
def xferDev : Xfer → Dev
  | .moved d _ => d
  | _ => {}

def xferDesc : Xfer → DmaDesc
  | .moved _ x => x
  | _ => { kind := 0, cls := false, rows := 0, len := 0, src := 0, dst := 0, srcStride := 0, dstStride := 0 }

/-- DMA of one descriptor at word 16. -/
def wDma (base n : Nat) : Nat := word 6 (base * 2 ^ 96 + n * 2 ^ 88)

/-- CTXLOAD and CTXSTORE at word 256, of class 0. -/
def wCtx (fam : Nat) : Nat := word fam (256 * 2 ^ 96)

/-- EMIT of one word from word 1024. -/
def wEmit : Nat := word 11 (4 * 2 ^ 120 + 1024 * 2 ^ 96 + 1 * 2 ^ 88)

/-- TAGOP of an OP on skein 1, two slots from slot 3. -/
def wTag (op first count : Nat) : Nat := word 8 (op * 2 ^ 120 + 1 * 2 ^ 114 + first * 2 ^ 98 + count * 2 ^ 82)

/-- PAT of SE_A, entry 5, skein 1, base 7. -/
def wPat : Nat := word 7 (5 * 2 ^ 114 + 1 * 2 ^ 108 + 7 * 2 ^ 81)

/-- HANKWAIT of layer 0, hank 0, HB 1. -/
def wHank : Nat := word 3 (63 * 2 ^ 114 + 1 * 2 ^ 80)

/-- The core with its running task changed. -/
def tk (f : Task → Task) (c : Core) : Core := { c with tasks := modAt c.tasks 0 f }

/-- A package with a pattern context running on engine `e` at an instruction word. -/
def pat0 (e w : Nat) (f : PatCtx → PatCtx) : Dev :=
  at0 2 1 0 (fun c => { c with pats := [(5, BitVec.ofNat 32 w)], se := [(8 * e, f { st := 1, skein := 1, pc := 5, c := [0, 2, 0, 0], a := [100, 0, 0, 0] })] })

/-- The context of pat0. -/
def pc0 (f : PatCtx → PatCtx) : PatCtx := f { st := 1, skein := 1, pc := 5, c := [0, 2, 0, 0], a := [100, 0, 0, 0] }

/-- A pattern instruction. -/
def pw (op rest : Nat) : Nat := op * 2 ^ 27 + rest

/-- A DMA command at the head of its queue, with a descriptor. -/
def dq (x : Option DmaDesc) : QCmd := { slot := 0, pos := 0, word := BitVec.ofNat 128 (wDma 16 1), desc := x }

/-- A descriptor of a kind of one row of 64 bytes. -/
def dd (k src dst : Nat) : DmaDesc := { kind := k, cls := false, rows := 1, len := 64, src := src, dst := dst, srcStride := 0, dstStride := 0 }

/-- A package with a DMA command at its head; skein 1 has slot 1 full. -/
def dma0 (x : Option DmaDesc) : Dev :=
  at0 2 1 0 (fun c => { c with dma := [dq x], skeins := setAt c.skeins 1 (1, { ring 64 1 4 with tags := 1, tail := 1 }) })

/-- The five lanes 0 to 4 held, the rest dark. -/
def lanes5 : List Lane :=
  (List.range 5).map (fun k => ({ signal := true, lock := true, ts := 4, logical := some k } : Lane)) ++ List.replicate 12 ({} : Lane)

/-- A package whose port W is given. -/
def withPort (x : Port) : Dev := { dev0 with ports := [x, {}] }

/-- A training set of a KIND for lane 0 with TX_MASK `m`. -/
def tset (kind m : Nat) : List Byte :=
  let b := beBytes 2 0x5E5B ++ [byteOf kind, 0] ++ List.replicate 12 0 ++ beBytes 4 m ++ List.replicate 8 0
  b ++ beBytes 4 (crc32c b)

/-- A flit of a TYPE, SEQ and INFO with payload zero. -/
def flit (typ seq : Nat) (info : List Byte) : List Byte :=
  let b := [byteOf typ, 0] ++ beBytes 2 seq ++ info ++ List.replicate 260 0
  b ++ beBytes 4 (crc32c b)

/-- A link-local flit that waits, and the package once it is taken. -/
def ctlDev (typ : Nat) (info : List Byte) (x : Port) : Dev := withPort { x with ctl := [(typ, 0xFFFF, info)] }

/-- A sequenced payload that waits at port W. -/
def rxDev (typ : Nat) (b : List Byte) (d : Dev) : Dev := { d with ports := [{ st := 3, rx := [(typ, b)] }, {}] }

/-- Station `s` of a ring of `n`. -/
def station (n s : Nat) (d : Dev) : Dev := wr (wr d Reg.LAP_STATION (BitVec.ofNat 32 (n * 65536 + s))) Reg.DET_TWIN_STATUS 0xFF000000

/-- The hank of model 1, generation 0, layer 0, hank 0, lap 3, index 0, in parts with no data. -/
def hankHead : List Byte :=
  let b := [1, 0, 0, 0] ++ List.replicate 12 0 ++ beBytes 4 3 ++ beBytes 4 (bodyCrc 0 ⟨0, 0, 0⟩ 0 []) ++ List.replicate 4 0
  b ++ beBytes 4 (crc32c b)

/-- The 256 parts that carry a header and no data. -/
def partsOf (h : List Byte) : List HankPart :=
  (List.range 256).map (fun k => { part := k, model := 1, hmeta := if k < 10 then slice h (3 * k) 3 else if k = 10 then slice h 30 2 ++ [0] else [], data := [] })

/-- An image of one hank, or of eight, ringed. -/
def img1 : Image := { id := 1, ringed := true, hanks := [⟨0, 0, bodyCrc 0 ⟨0, 0, 0⟩ 0 []⟩] }
def img8 : Image := { id := 1, ringed := true, hanks := List.replicate 8 ⟨0, 0, 0⟩ }

/-- A ring message for this station, and a package that has one. -/
def rmsg (kind : Nat) (body : List Byte) : RingMsg := { kind := kind, src := 3, dst := 0, ttl := 1, body := body }
def msgDev (m : RingMsg) (f : Ring → Ring) (d : Dev) : Dev := { d with ring := f { d.ring with mode := 1, msgs := [m] } }

/-- A package with a commit, once popped and before. -/
def comDev (t : Token) (d : Dev) : Dev := { d with ring := { d.ring with commits := [t] } }

/-- A model whose active image is given. -/
def withModel (x : ModelSt) (d : Dev) : Dev := { d with model := [(1, x)] }

/-- A CRC over two strings is the second continued from the first. -/
theorem crcRun_append (poly : Nat) (a b : List Byte) : ∀ c, crcRun poly c (a ++ b) = crcRun poly (crcRun poly c a) b := by
  induction a with
  | nil => intro c; rfl
  | cons x a ih => intro c; exact ih _

/-- A DOWN flit of code 1, as 09 Table LINK-4 writes it, with its CRC. -/
def downHead : List Byte := [4, 0, 0, 0, 1, 0, 0, 0]
def downFlit : List Byte := downHead ++ List.replicate 260 0 ++ beBytes 4 1727513024

theorem downFlit_crc : crc32c (downFlit.take 268) = 1727513024 := by
  have h : downFlit.take 268 = downHead ++ (List.replicate 52 0 ++ (List.replicate 52 0 ++ (List.replicate 52 0 ++ (List.replicate 52 0 ++ List.replicate 52 0)))) := by decide +kernel
  have h0 : crcRun 0x82F63B78 0xFFFFFFFF downHead = 2408539552 := by decide +kernel
  have h1 : crcRun 0x82F63B78 2408539552 (List.replicate 52 0) = 3904684203 := by decide +kernel
  have h2 : crcRun 0x82F63B78 3904684203 (List.replicate 52 0) = 2858215433 := by decide +kernel
  have h3 : crcRun 0x82F63B78 2858215433 (List.replicate 52 0) = 3419059612 := by decide +kernel
  have h4 : crcRun 0x82F63B78 3419059612 (List.replicate 52 0) = 1052414215 := by decide +kernel
  have h5 : crcRun 0x82F63B78 1052414215 (List.replicate 52 0) = 2567454271 := by decide +kernel
  rw [crc32c, h, crcRun_append, crcRun_append, crcRun_append, crcRun_append, crcRun_append, h0, h1, h2, h3, h4, h5]
  decide +kernel

/-- The consumer, priority, address, port and data of a frame that the receive checks pass on. -/
def giveOf : RxRes → Nat × Nat × List Byte × Nat × List Byte
  | .give w p i u b => (w, p, i, u, b)
  | _ => (9, 0, [], 0, [])

/-- A frame with its check sequence. -/
def fcs (b : List Byte) : List Byte := b ++ leBytes 4 (crc32 b)

/-- A package whose sub-port 0 of ETH_0 is up, with IPv4 address 10.0.0.1 and IPv6 address 1. -/
def ethDev : Dev := wr (wr { dev0 with eth := { sp := [(0, { up := true })] } } (Reg.ETH_SP_IPV4 0 0) 0x0A000001) (Reg.ETH_SP_IPV6 0 0 0) 1

/-- Frames to sub-port 0 of ETH_0: an RVP datagram, a PTP message of a version, an ARP request, a neighbour solicitation. -/
def rvpFrame : List Byte := wire (List.replicate 12 0 ++ ipPacket ethDev 0 0 [10, 0, 0, 2] [10, 0, 0, 1] 17 64 (udpDgram [10, 0, 0, 2] [10, 0, 0, 1] 9 0 [1]))
def ptpFrame (v : Byte) : List Byte := wire (List.replicate 12 0 ++ [0x88, 0xf7, 0, v])
def arpFrame : List Byte := wire (List.replicate 12 0 ++ [0x08, 0x06])
def ip6 (k : Byte) : List Byte := List.replicate 15 0 ++ [k]
def ndFrame : List Byte :=
  let u := fun (c : Nat) => [135, 0] ++ beBytes 2 c ++ List.replicate 4 0 ++ ip6 1
  wire (List.replicate 12 0 ++ ipPacket ethDev 0 0 (ip6 2) (ip6 1) 58 255 (u (inetCsum (pseudo (ip6 2) (ip6 1) 58 24 ++ u 0))))

/-- The counters of a frame received on sub-port 0 of ETH_0. -/
def rxCnt (d : Dev) (fr : List Byte) : Dev := ecnt (ecnt d 0 0 0 1) 0 0 1 fr.length

/-- A frame longer than 9,216 bytes whose check sequence is good: the remainder is 0 after the first four bytes. -/
def longBody : List Byte := List.replicate 4 0xff ++ List.replicate 9209 0
def longFrame : List Byte := longBody ++ List.replicate 4 0xff

theorem crcRun_zeros (n : Nat) : crcRun 0xEDB88320 0 (List.replicate n 0) = 0 := by
  induction n with
  | zero => rfl
  | succ n ih => exact ih

theorem longBody_length : longBody.length = 9213 := by rw [longBody, List.length_append, List.length_replicate, List.length_replicate]

theorem longFrame_length : longFrame.length = 9217 := by rw [longFrame, List.length_append, longBody_length, List.length_replicate]

theorem longFrame_crc : leAt longFrame (longFrame.length - 4) 4 = crc32 (longFrame.take (longFrame.length - 4)) := by
  have hl : longFrame.length - 4 = longBody.length := by rw [longFrame_length, longBody_length]
  have ht : longFrame.take longBody.length = longBody := List.take_left
  have hd : longFrame.drop longBody.length = List.replicate 4 0xff := List.drop_left
  have h4 : crcRun 0xEDB88320 0xFFFFFFFF (List.replicate 4 0xff) = 0 := by decide +kernel
  rw [hl, ht, leAt, slice, hd, crc32, longBody, crcRun_append, h4, crcRun_zeros]
  decide +kernel

/-- A datagram that waits on sub-port 0 of ETH_0. -/
def dg (data : List Byte) : RxDgram :=
  { port := 0, sp := 0, mac := [], ip := [10, 0, 0, 2], udp := 9, time := 0, flen := 64, prio := 0, data := data }

/-- Packages with one datagram for RVP's checks, for its body, for ARP, for neighbour discovery, for PTP. -/
def rxd (x : RxDgram) (d : Dev) : Dev := { d with rvp := { d.rvp with rx := [x] } }
def bodyd (x : RxDgram) (d : Dev) : Dev := { d with rvp := { d.rvp with body := [x] } }
def arpd (x : RxDgram) (d : Dev) : Dev := { d with eth := { d.eth with arp := [x] } }
def ndd (x : RxDgram) (d : Dev) : Dev := { d with eth := { d.eth with nd := [x] } }
def ptpd (x : RxDgram) (d : Dev) : Dev := { d with eth := { d.eth with ptp := [x] } }

/-- A session of a role and state with token 5. -/
def ses (role st : Nat) : Session :=
  { st := st, partner := 0, nonce := 0, role := role, fallback := 0, port := 0, sp := 0, mac := [], ip := [10, 0, 0, 2], udp := 9, token := 5, grant := 64 }
def sesd (y : Session) (d : Dev) : Dev := { d with rvp := { d.rvp with sess := [(1, y)] } }

/-- A package with one retention region of 1 MiB for ETH_0. -/
def regiond (d : Dev) : Dev := wr (wr (wr d (xreg 4 0x020) 0x10000000) (xreg 4 0x024) 1) Reg.RVP_CREDIT_CFG 0x00400000

/-- A PTP master. -/
def mst (p : Nat) (b : Byte) : PtpMaster := { port := List.replicate 10 b, prio1 := p, clsAcc := 0, variance := 0, prio2 := 0, gm := List.replicate 8 0, steps := 0 }
def ptpClk (c : PtpClock) (d : Dev) : Dev := { d with tim := { d.tim with ptp := [c, {}] } }

/-- A request. -/
def rq : Req :=
  { st := .ready, sess := 1, reqId := 0, model := 1, flow := false, flowEnd := false, fallback := 0, frames := 1, metaLen := 0, payLen := 0, deadlineUs := 1, flowKey := [], port := 0,
    sp := 0, cost := 1, blocks := [], deadline := 9 }
def reqd (r : Req) (d : Dev) : Dev := { d with rvp := { d.rvp with reqs := [(4, r)] } }

/-- A MODEL_LOAD frame of session 1. -/
def ldf (op m len gen off size : Nat) (data : List Byte) : RxDgram :=
  dg (rvpBytes 7 1 5 ([byteOf op, byteOf m, 0, 0] ++ beBytes 2 len ++ [0, 0] ++ beBytes 4 gen ++ [0, 0, 0, 0] ++ beBytes 8 off ++ beBytes 8 size ++ data))
def loadd (l : Load) (d : Dev) : Dev := { d with rvp := { d.rvp with loads := [some l, none] } }
def mgrd : Dev := sesd (ses 2 1) dev0
def ld0 : Load := { model := 1, sess := 1, gen := 7, size := 8, next := 3 }

/-- A request of model 1 that waits for its input, and one that holds input slot 0; the section CONDITIONING of one or two input slots. -/
def rqq : Req := { rq with st := .queued, payLen := 1 }
def rq0 : Req := { rq with slot := some 0 }
def imSlots (n : Nat) : Image := { id := 1, secs := [(6, List.replicate 18 0 ++ leBytes 2 n)] }
def conDev (n : Nat) (r : Req) (o : List (Nat × Req)) : Dev := { withModel { active := some (imSlots n) } dev0 with rvp := { reqs := (4, r) :: o } }

/-- Directory entry 0 given, messages on their way, a copy of entry 0 held by the core of index 0. -/
def fcsd (x : DirEntry) (ms : List FlowMsg) (d : Dev) : Dev := { d with fcs := { dir := [(0, x)], msgs := ms } }
def held0 (l : Option Nat) : HeldCtx := { entry := 0, spad := 1024, words := 1, slot := 0, claimed := true, dirty := true, order := 1, leaving := l, attr := 0, req := 9 }
def heldd (l : Option Nat) (d : Dev) : Dev := { d with core := [(siteFor d 0, { core0 0 1 with held := [held0 l] }), (siteFor d 1, { core0 0 1 with ctx := [{ slot := 0, pos := 0, word := BitVec.ofNat 128 (wCtx 4) }] })] }
def snoopDev (l : Option Nat) : Dev := fcsd { st := .held 0 } [.snoop 0 0 1 1024 0 none] (heldd l dev0)
def retryDev : Dev := fcsd { st := .inMemory } [.retry 1 0 1 1024 0] (heldd none dev0)
/-- A flow region in package L0. -/
def flowRegion (d : Dev) : Dev := wr (wr d (xreg 4 0x020) 0x30000000) (xreg 4 0x024) 1

/-- Timer 0 of a package given. -/
def tmd (t : Timer) (d : Dev) : Dev := { d with tim := { d.tim with timers := [(0, t)] } }
/-- BOOT_STATUS with boot lock set. -/
def openDev : Dev := wr dev0 Reg.BOOT_STATUS 0x80000000

/-- Site 0 or seam 0 as the warden sees it. -/
def sited (x : SiteInfo) (d : Dev) : Dev := { d with wdn := { d.wdn with sites := [(0, x)] } }
def seamd (x : SeamInfo) (d : Dev) : Dev := { d with wdn := { d.wdn with seams := [x, {}, {}, {}] } }
def susp : SiteInfo := { st := .suspect, deciding := true, canon := some 0 }

/-- A management request in execution. -/
def curd (q : VReq) (d : Dev) : Dev := { d with mgmt := { d.mgmt with cur := some q } }
def vq (c : Nat) (b : List Byte) : VReq := { cmd := c, body := b }
/-- A package and its fuses. -/
def stf (f : Fuses) (d : Dev) : State := { dev := d, fuse := f }
/-- An SMBus write with its PEC. -/
def pec (b : List Byte) : List Byte := b ++ [byteOf (crc8 b)]
/-- One MCTP control message, in one packet. -/
def mctpPkt : List Byte := [0xC8, 0x0F, 7, 0x21, 1, 0, 8, 0xC8, 0x00, 0x80]
/-- A vendor message of version 1 and a command, with a body. -/
def vmsg (c : Nat) (b : List Byte) : List Byte := [0x7F, 0x00, 0x00, 0xD7, 0xA2, 1, byteOf c, 0, 0, 0, 0, 0, 0] ++ b
def vq8 : List VReq := List.replicate 8 {}
def keyf (k : KeySlot) (l : List KeySlot) : Fuses := { keys := k :: l }

/-- Every die with the same VCORE_CFG and COMMANDED. -/
def vcd (cfg stat : Nat) (d : Dev) : Dev :=
  (List.range 4).foldl (fun d k => wr (wr d (Reg.MGT_VCORE_CFG k) (BitVec.ofNat 32 cfg)) (Reg.MGT_VCORE_STAT k) (BitVec.ofNat 32 stat)) d

/-- Four dies with the same reading. -/
def rds (t w : Nat) : List DieReading := List.replicate 4 { temps := BitVec.ofNat 32 (t * 0x01010101), current := 0, measured := 0, watts := BitVec.ofNat 16 w }

/-- A package in a start-up PHASE, with other bits of BOOT_STATUS given. -/
def phase (code ph rest : Nat) : Dev := wr { dev0 with code := code } Reg.BOOT_STATUS (BitVec.ofNat 32 (rest + ph))

/-- The state that an outcome leaves. -/
def nextOf : Host.Outcome State Fault Refusal → State
  | .next t => t
  | _ => State.reset

/-- A MIN_SVN request to 5 under a selected copy of SVN 5. -/
def svnState : State :=
  { st (curd (vq 0x62 [5, 0, 0, 0]) (wr (wr dev0 Reg.BOOT_STATUS 0x84000000) (Reg.BOOT_COPY_SVN 0) 5)) with pending := [.minSvn] }

/-- Error log entries of block 1, code 0x0101, unit 3, and of unit 4. -/
def le3 : ElogEntry := { time := 0, seq := 1, boot := 0xFFFF, cls := 1, block := 1, code := 0x0101, unit := 3, detail := 0 }
def le4 : ElogEntry := { le3 with unit := 4 }

/-- An EXACT model image of one hank, written out from 18 Tables BOOT-11 and BOOT-12: header, section table, HANK_TABLE, CONDITIONING, THRESHOLDS and TEMPLATES, then the hank's 65,536 zero bytes and a signature of zeros.
Its PROGRAM_DIGEST is the SHA-384 of its CONDITIONING and THRESHOLDS sections. -/
def imgHeader : List Byte :=
  [0x55, 0x37, 0x4D, 0x44] ++ leBytes 2 1 ++ leBytes 2 7 ++ leBytes 8 65984 ++ [1, 0, 1, 0] ++ leBytes 4 5 ++ [0, 0, 0xB0, 1] ++ leBytes 4 1000 ++ leBytes 4 1 ++ leBytes 4 0 ++
  leBytes 2 1 ++ leBytes 2 1 ++ leBytes 4 1 ++ leBytes 2 1 ++ leBytes 2 1 ++ leBytes 2 1 ++ leBytes 2 0 ++ [1] ++ List.replicate 15 0 ++
  [203, 13, 196, 236, 13, 254, 130, 232, 149, 149, 167, 192, 95, 135, 185, 76, 202, 51, 209, 27, 205, 149, 8, 188, 182, 148, 196, 43, 81, 137, 119, 172, 27, 82, 175, 218, 160, 187, 61, 164, 107, 146, 38, 139, 230, 29, 191, 239] ++ List.replicate 8 0
def imgTab : List SecEnt := [⟨1, 296, 8⟩, ⟨3, 304, 0⟩, ⟨5, 304, 0⟩, ⟨6, 304, 22⟩, ⟨7, 328, 8⟩, ⟨8, 336, 16⟩, ⟨2, 352, 65536⟩]
def imgFront : List Byte :=
  imgHeader ++ (imgTab.map (fun s => [byteOf s.typ] ++ List.replicate 7 0 ++ leBytes 8 s.off ++ leBytes 8 s.len)).flatten ++ List.replicate 8 0 ++
  ([0, 0] ++ leBytes 2 1 ++ leBytes 2 128 ++ List.replicate 4 0 ++ leBytes 2 1 ++ List.replicate 6 0 ++ leBytes 2 1 ++ List.replicate 4 0) ++ List.replicate 8 0 ++ List.replicate 16 0
def imgBytes : List Byte := imgFront ++ List.replicate 65632 0

theorem imgFront_length : imgFront.length = 352 := by decide +kernel
theorem imgBytes_length : imgBytes.length = 65984 := by rw [imgBytes, List.length_append, List.length_replicate, imgFront_length]

theorem imgBytes_header : headerOk imgBytes = true := by
  unfold headerOk
  rw [imgBytes_length]
  decide +kernel

theorem imgBytes_table : secTable imgBytes (leAt imgBytes 6 2) = some imgTab := by decide +kernel
theorem imgBytes_layout : layoutOk imgBytes (128 + 24 * imgTab.length) (65984 - 96) (imageOrder imgTab) = true := by decide +kernel
theorem imgBytes_sections : sectionsOk (imageOf imgBytes imgTab) (leAt imgBytes 44 4) = true := by decide +kernel
theorem imgBytes_digest : programDigestOf imgBytes imgTab = (imageOf imgBytes imgTab).programDigest := by decide +kernel
theorem imgBytes_rest : (distinct (imgTab.map (fun s => s.typ)) && [1, 2, 3, 5, 6, 7, 8].all (fun t => imgTab.any (fun s => decide (s.typ = t)))) = true ∧
    (imageOrder imgTab).getLast? = some ⟨2, 352, 65536⟩ ∧ 65536 = 65536 * leAt imgBytes 44 4 := by and_intros <;> decide +kernel

/-- The image reads as what its header and sections say. -/
theorem imgBytes_parse : parseImage imgBytes = some (imageOf imgBytes imgTab, 352) := by
  obtain ⟨h1, h2, h3⟩ := imgBytes_rest
  have hl : imgBytes.length - 96 = 65984 - 96 := by rw [imgBytes_length]
  simp only [parseImage, imgBytes_header, imgBytes_table, h2, h1, hl, imgBytes_layout, imgBytes_sections, imgBytes_digest]
  rw [← h3]
  simp

/-! ### The bounds of Instr.wf -/

/-- A read of word 0 by port 0. -/
def bread : BankReq := { port := 0, write := false, word := 0, rmw := false, weight := false, off := 0, data := [], task := none }

theorem wf_bootPhaseComplete : Instr.wf (.bootPhaseComplete (.selftest [0, 0] [])) = false ∧ Instr.wf (.bootPhaseComplete (.selftest [] [3, 3])) = false ∧ Instr.wf (.bootPhaseComplete (.memtrain [(4, 3), (4, 3)])) = false ∧
    Instr.wf (.bootPhaseComplete (.memtrain [(4, 4)])) = false ∧ Instr.wf (.bootPhaseComplete (.memtrain [(3, 31), (4, 3)])) = true := by decide +kernel
theorem wf_speedMonitorUpdate : Instr.wf (.speedMonitorUpdate 0 (List.replicate 7 0)) = false ∧ Instr.wf (.speedMonitorUpdate 0 (List.replicate 8 0)) = true := by decide +kernel
theorem wf_throttleEvaluation : Instr.wf (.throttleEvaluation []) = false ∧ Instr.wf (.throttleEvaluation (List.replicate 4 ⟨0, 0, 0, 0⟩)) = true := by decide +kernel
theorem wf_bankCycle : Instr.wf (.bankCycle 0 0 [{ bread with data := [1] }] 0 none) = false ∧ Instr.wf (.bankCycle 0 0 [{ bread with rmw := true }] 0 none) = false ∧
    Instr.wf (.bankCycle 0 0 [{ bread with write := true }] 0 none) = false ∧ Instr.wf (.bankCycle 0 0 [{ bread with write := true, data := List.replicate 63 0 }] 0 none) = false ∧
    Instr.wf (.bankCycle 0 0 [{ bread with port := 6, write := true, rmw := true, off := 63, data := [1, 2] }] 0 none) = false ∧
    Instr.wf (.bankCycle 0 0 [{ bread with port := 1, write := true, rmw := true, off := 62, data := [1, 2] }] 0 none) = false ∧ Instr.wf (.bankCycle 0 0 [{ bread with port := 9 }] 0 none) = false ∧
    Instr.wf (.bankCycle 0 0 [bread, bread] 0 none) = false ∧ Instr.wf (.bankCycle 0 0 [] 0 (some ⟨[⟨0, 0, 0⟩], 0⟩)) = false ∧
    Instr.wf (.bankCycle 0 0 [bread, { bread with port := 6, write := true, rmw := true, off := 62, data := [1, 2] }] 0 none) = true := by decide +kernel
theorem wf_laneDegradeCheck : Instr.wf (.laneDegradeCheck 0 (List.replicate 16 0) (List.replicate 17 0)) = false ∧ Instr.wf (.laneDegradeCheck 0 (List.replicate 17 0) (List.replicate 18 0)) = false ∧
    Instr.wf (.laneDegradeCheck 0 (List.replicate 17 0) (List.replicate 17 0)) = true := by decide +kernel
theorem wf_trainingSets : Instr.wf (.tsTrain 0 0 (List.replicate 31 0) 0) = false ∧ Instr.wf (.tsTrain 0 0 (List.replicate 32 0) 0) = true ∧ Instr.wf (.tsStart 0 0 (List.replicate 33 0) 0) = false ∧
    Instr.wf (.tsStart 0 0 (List.replicate 32 0) 0) = true := by decide +kernel
theorem wf_flitReceive : Instr.wf (.flitReceive 0 (List.replicate 271 0)) = false ∧ Instr.wf (.flitReceive 0 (List.replicate 272 0)) = true := by decide +kernel
theorem wf_frames : Instr.wf (.frameReceive 0 0 ⟨[], []⟩) = false ∧ Instr.wf (.frameReceive 0 0 ⟨[0], []⟩) = true ∧ Instr.wf (.mctpPacket []) = false ∧ Instr.wf (.mctpPacket [0]) = true := by decide +kernel
theorem wf_channels : Instr.wf (.channelUnitStart 4 4 [] ⟨false, 0⟩) = false ∧ Instr.wf (.channelUnitStart 0 31 [1, 1] ⟨true, 0⟩) = false ∧ Instr.wf (.channelUnitStart 0 31 [1, 2] ⟨false, 0⟩) = true ∧ Instr.wf (.channelError 11 4 0 ⟨.corrected, 0⟩) = false ∧
    Instr.wf (.channelMapOut 11 4) = false ∧ Instr.wf (.refresh 11 4 0 0) = false ∧ Instr.wf (.tgStart 11 4) = false ∧ Instr.wf (.tgStop 11 4 0) = false ∧ Instr.wf (.tgRunComplete 11 4) = false ∧
    Instr.wf (.weightWrite 11 (some 4) false 0) = false ∧ Instr.wf (.weightWrite 11 none false 0) = true ∧ Instr.wf (.tgStart 11 3) = true := by decide +kernel

/-! ### Single commands, with the results of the spec's worked examples and tables -/

/-- 02, worked example: index 161 is site 181, the spare of its row is site 184; after the promotion MGT_CANON_MAP_161 reads 0xC000_00B8. -/
theorem test_promotion_map :
    siteOfCanon {} 161 = some 181 ∧
    (readReg {} (nextOf (exec (.spareRefillComplete 184 true) (st { dev0 with wdn := { sites := [(181, { st := .fenced }), (184, { st := .promoting, canon := some 161 })] } }))).dev 0x684).1 = 0xC00000B8 := by decide +kernel

/-- 02, worked example: a fence of the core at site 181 selects the spare at site 184. -/
theorem test_fence_selects_spare :
    (siteInfo (nextOf (exec .fence (st (curd (vq 0x10 [1, 0, 181, 0]) dev0)))).dev 184).canon = some 161 ∧
    (siteInfo (nextOf (exec .fence (st (curd (vq 0x10 [1, 0, 181, 0]) dev0)))).dev 181).st = .fenced := by decide +kernel

/-- 05, worked example: SCALE by 0.0625 to INT8. -/
theorem test_scale_rounds :
    ([1234, 1240, 1256, 2100, -2060].map (fun z => encodeFmt .int8 (Val.mul (Val.ofInt z) (decodeFmt .fp32 0x3D800000)))) = [0x4D, 0x4E, 0x4E, 0x7F, 0x80] := by decide +kernel

/-- 05, worked example: the tree of R151 gives 1.0 where another order would give 2.0. -/
theorem test_tree_order :
    (let s := fun (x y : Val) => decodeFmt .fp32 (encodeFmt .fp32 (Val.add x y))
     encodeFmt .fp32 (s (s (.ofInt 16777216) (.ofInt 1)) (s (.ofInt 1) (.ofInt (-16777216))))) = 0x3F800000 := by decide +kernel

/-- 14, worked example: the home of flow 0x1A2D of set 0x345 and way 5, with HOME_CLASS 4 and L5's region at 512 MiB. -/
theorem test_flow_home :
    homeAddr (wr (wr dev0 (xreg 9 0x020) 0x30000200) Reg.FCS_CFG 4) 0x1A2D = 0x6820345000 := by decide +kernel

/-- 15, worked example: at AT + 999,999,998 ns the count of TIMER_04 reaches 499,999,999 and CMP_A matches; its SELF RESET loads 0 at the next tick, and CMP_B matches and pulses TIMOUT_0. -/
theorem test_timer_match :
    (countEvent (wr dev0 (Reg.TIM_CFG 4) 1) 4 { running := true, count := 499999998, cmp := [499999999, 0, 7, 7] }).2 = [0] ∧
    (countEvent (wr dev0 (Reg.TIM_CFG 4) 1) 4 { running := true, count := 499999999, cmp := [499999999, 0, 7, 7], selfReset := true }) =
      ({ running := true, count := 0, cmp := [499999999, 0, 7, 7] }, [1]) := by decide +kernel

/-- 03 Table SPEED-12, step 1: a sensor at THROT_T lowers every die from 160 to 159 and sets THROTTLE. -/
theorem test_throttle_lowers :
    (let t := nextOf (exec (.throttleEvaluation (rds 100 100)) (st (vcd 0x009600A0 160 (wr dev0 Reg.MGT_THROTTLE_CFG 0x02620064)))); (List.range 4).map (commanded t.dev) = [159, 159, 159, 159] ∧ (rd t.dev Reg.MGT_PWR_STATUS).getLsbD 9 = true) := by
  decide +kernel

/-- 03 Table SPEED-12, step 6: with every sensor below THROT_T less 5 the dies rise by one code. -/
theorem test_throttle_raises :
    (let t := nextOf (exec (.throttleEvaluation (rds 94 100)) (st (vcd 0x009600A0 150 (wr dev0 Reg.MGT_THROTTLE_CFG 0x02620064)))); (List.range 4).map (commanded t.dev)) = [151, 151, 151, 151] := by decide +kernel

/-- 19, worked example: GET_ALERTS with bits 0 and 6 pending answers 0x0000_0041 and clears them. -/
theorem test_get_alerts :
    (let t := nextOf (exec .getAlerts (st (curd (vq 0x13 []) (wr dev0 Reg.MGT_ALERT 0x41)))); ((t.dev.mgmt.out.map (fun x => x.2.2.drop 13)), rd t.dev Reg.MGT_ALERT)) = ([[0x41, 0, 0, 0]], 0) := by decide +kernel

/-- 19, worked example: the READ of MGT_SEAM_STATUS with S13 lost answers COUNT 1 and 10 00 02 00. -/
theorem test_read_seam_status :
    (let q : VReq := { cmd := 1, seq := 0x31, body := [0x60, 1, 0, 0, 1, 0, 0, 0] }
     let t := nextOf (exec .read (st (curd q (evt { dev0 with wdn := { seams := [{ st := .up }, { st := .lost }, { st := .up }, { st := .up }] } } Reg.MGT_SEAM_STATUS 17))))
     (t.dev.mgmt.out.map (fun x => x.2.2.drop 7))) = [[0x80, 0, 0x31, 0, 0, 0, 1, 0, 0, 0, 0x10, 0, 2, 0]] := by decide +kernel

/-- 09 Table LINK-11, step 3: loss of lock on lane 5 asks for mask 0x0_FFDF. -/
theorem test_loss_of_lock :
    (let t := nextOf (exec (.lossOfLock 0 5 false) (st (withPort { st := 3, rxUp := true, rxMask := 0xFFFF, txMask := 0xFFFF, expected := 0x3A10, lanes := (List.range 17).map (fun k => ({ signal := true, lock := true, ts := 4, logical := some k } : Lane)) })))
     ((portAt t.dev 0).reqOpen, (portAt t.dev 0).reqMask, (portAt t.dev 0).qualify)) = (true, 0x0FFDF, true) := by decide +kernel

/-- 00 R19: H2 and L5 start where the examples say. -/
theorem test_memory_map : ctlBase 2 = 0x1200000000 ∧ ctlBase 9 = 0x6800000000 := by decide +kernel

/-- 18 R497: a power-on reset leaves the package in RESET, with no error log entry. -/
theorem test_reset : (let d := (nextOf (exec (.por false) (st { dev0 with wdn := { elog := [le3] } }))).dev; (d.code, d.wdn.elog)) = (0, []) := by decide +kernel

/-- 15 R425: an idle cycle of TIME_500 advances device time by 2 ns. -/
theorem test_idle_tick : (nextOf (step (st { dev0 with now := 40 }))).dev.now = 42 := by decide +kernel

/-- The published check values of the CRCs over the digits 1 to 9, and SHA-384 of the empty message (FIPS 180-4). -/
theorem test_check_values :
    (let m : List Byte := [0x31, 0x32, 0x33, 0x34, 0x35, 0x36, 0x37, 0x38, 0x39]; (crc32 m, crc32c m, crc8 m)) = (0xCBF43926, 0xE3069283, 0xF4) ∧
    (sha384 []).take 8 = [0x38, 0xb0, 0x60, 0xa7, 0x51, 0xac, 0x96, 0x38] := by decide +kernel

/-- FIPS 197, appendix C.3: AES-256 of the block 00112233… under the key 000102…. -/
theorem test_aes : aesEnc ((List.range 32).map byteOf) ((List.range 16).map (fun k => byteOf (17 * k))) =
    [0x8e, 0xa2, 0xb7, 0xca, 0x51, 0x67, 0x45, 0xbf, 0xea, 0xfc, 0x49, 0x90, 0x4b, 0x49, 0x60, 0x89] := by decide +kernel
/-- What holds of an access that may be unanswered, where the one there is meets it. -/
theorem stuck_le {o : Option Stuck} {n : Nat} (h : o.all (fun a => decide (a.since + 10000 ≤ n)) = true) (a : Stuck) (e : o = some a) : a.since + 10000 ≤ n := by
  subst e; exact of_decide_eq_true h

/-- An image of one template, and a package with a request of it that is ready. -/
def imOne (fast : Bool) : Image :=
  { id := 1, fast := fast, participants := [0], templates := [{ keyA := 0, flags := 0, cmdSkein := 0, keyB := 0, cmdStart := 0, param := [] }] }
def readyDev (im : Image) : Dev := { withModel { active := some im } dev0 with rvp := { reqs := [(4, rq)] }, det := { vmap := [(0, 0, 0)] } }

/-- The package after a dispatch of that request on a group, and after what FAST records of it. -/
def placedDev (im : Image) (ms : List Member) (d : Dev) : Dev :=
  modReq ((ms.map (fun x => (x, descFor d 4 rq im ms.length x))).foldl (fun d x => placeTask d 4 x.1 x.2) d) 4
    (fun r => { r with st := .dispatched, group := ms.length, tasks := ms.map (fun x => (x.rank, x.site, x.slot)) })

/-- A PROMOTING spare at site 4 for index 255. -/
def promo : SiteInfo := { st := .promoting, canon := some 255 }
def promoDev (d : Dev) : Dev := { d with wdn := { sites := [(4, promo)] } }

/-- A package whose matrix unit waits on skein 2 of timeout 1 us since 5 ns, at a time. -/
def muWait (t : Nat) : Dev :=
  { at0 2 1 0 (fun c => { c with mu := [{ slot := 0, pos := 0, word := BitVec.ofNat 128 (wMma 2 1), acc := [0], wait := 1, since := 5 }], skeins := setAt c.skeins 2 (2, { ring 128 64 4 with timeout := 1 }) }) with now := t }
/-- The same of a DMA descriptor into skein 1. -/
def dmaW : QCmd := { dq (some (dd 3 274877906944 1)) with wait := 2, since := 5 }
def dmaWait (t : Nat) : Dev := { at0 2 1 0 (fun c => { c with dma := [dmaW], skeins := setAt c.skeins 1 (1, { ring 64 1 4 with timeout := 1 }) }) with now := t }

/-- A package with a pattern context at an instruction word, served. -/
def patS (w : Nat) (f : PatCtx → PatCtx) : Dev := served (pat0 0 w f) 0 0 0

/-- The spare of promoDev put in service, before its refill. -/
def promoLive (d : Dev) : Dev := setCore (setSite (promoDev d) 4 { promo with st := .live, promoted := true }) 4 { skeins := [(63, hankSkeinDef (promoDev d) 255)] }

/-- The package after a FAST dispatch, with what DET_MODEL_FAST_G and the next rank 0 become. -/
def fastDev (im : Image) : Dev :=
  let ms := (fastGroup (readyDev im) rq im).getD []
  let d := placedDev im ms (readyDev im)
  setFld (setModel d 1 { modelAt d 1 with lastRank0 := (ms.head?.map (fun y => y.canon + 1)).getD (modelAt d 1).lastRank0 }) (Reg.DET_MODEL_FAST_G 0) 24 16 ms.length

/-- A port in flit mode with room, after a number of slots without IDLE; a link that is closed. -/
def flitPort (gap : Nat) : Port := { st := 3, sending := 4, txMask := 15, idleGap := gap }
def closedNbr : Nbr := { seen := true, ok := true, peerOk := true }

/-- A package that has one hank of model 1 complete at Port W, and the same once it is taken and counted. -/
def hankDev (img : Image) (ps : List HankPart) : Dev := { dev0 with ring := { mode := 1 }, ports := [{ hanks := [ps] }, {}], model := [(1, { active := some img })] }
def hankTaken (img : Image) (ps : List HankPart) : Dev := cntInc (modPort (hankDev img ps) 0 (fun x => { x with hanks := [] })) (Reg.LAP_CNT_LO 0)
def badParts : List HankPart := partsOf (List.replicate 32 0)

/-- One TWIN entry of zeros, and station 0 that runs twin mode with station 1 over Port W, with comparison on or off. -/
def twinBody : List Byte := [0, 1] ++ List.replicate 254 0
def twinDev (on : Bool) : Dev :=
  { wr (station 4 0 (withModel { twinOn := on } dev0)) Reg.DET_TWIN_STATUS 0x01000000 with ring := { nbr := [{ seen := true, station := 1, twin := some 0 }, {}] } }

/-- Both copies of the one hank of model 1 at a station of one, and a message. -/
def copies1 : List ImgCopy := [{ model := 1, gen := 0, kind := 2, stack := 0, hanks := [0], granules := [] }, { model := 1, gen := 0, kind := 4, stack := 0, hanks := [0], granules := [] }]
def mirrorMsg : RingMsg := rmsg 2 ([1] ++ beBytes 4 0 ++ [0, 0, 3])
def mirrorDev : Dev :=
  { msgDev mirrorMsg (fun r => { r with nbr := [closedNbr, {}] }) (station 1 0 { withModel { active := some img1 } dev0 with xmem := { copies := copies1 } }) with ports := [{ st := 3 }, {}] }
/-- A package whose ring messages are taken. -/
def noMsgs (d : Dev) : Dev := { d with ring := { d.ring with msgs := [] } }
def foldDev (b : Byte) (f : Ring → Ring) : Dev := msgDev (rmsg 3 [b]) f dev0

/-- Copies of generation 5 of model 1 on stack 0. -/
def cpy (kind : Nat) (damaged : Bool) (hanks : List Nat) : ImgCopy := { model := 1, gen := 5, kind := kind, stack := 0, hanks := hanks, granules := [], damaged := damaged }
def im5 : Image := { id := 1, gen := 5 }
def copyDev (l : List ImgCopy) : Dev := { withModel { active := some im5 } dev0 with xmem := { copies := l } }
/-- An image area of 256 MiB on stack 0. -/
def areaDev (l : List ImgCopy) : Dev := wr (copyDev l) (xreg 0 0x014) 1

theorem free_all (d : Dev) (k : Nat) (hu : ((d.xmem.copies.filter (fun x => decide (x.stack = k))).map (fun x => x.granules)).flatten = []) (hc : ∀ c < 32, chGone d k c = false) :
    freeGranules d k = List.range (imgArea d k / 2048) := by
  simp only [freeGranules, hu]
  refine List.filter_eq_self.mpr fun g _ => ?_
  rw [hc _ (Nat.mod_lt _ (by decide))]
  rfl

theorem areaDev_free : 32 ≤ (freeGranules (areaDev [cpy 4 true [0], cpy 14 false []]) 0).length := by
  rw [free_all _ _ (by decide +kernel) (by decide +kernel), List.length_range]
  decide +kernel

/-- Channel 0 of stack 0 present. -/
def chDev : Dev := wr dev0 (xreg 0 0x000) 0xFFFFFFFF

/-- A master that qualifies, a clock that has selected it, and PTP messages of it. -/
def pf (p : Nat) (b : Byte) : PtpForeign := { data := mst p b, logInt := 0, last := 0, prev := some 0 }
def pclk (f : PtpClock → PtpClock) : PtpClock := f { foreign := [pf 5 1], master := some (mst 5 1) }
def ptpMsg (ty flags : Byte) : RxDgram := dg ([ty, 2, 0, 0, 0, 0, flags] ++ List.replicate 13 0 ++ List.replicate 10 1 ++ [0, 9] ++ List.replicate 12 0)
def annMsg : RxDgram := dg ([0x0B, 2] ++ List.replicate 18 0 ++ List.replicate 10 1 ++ List.replicate 17 0 ++ [5] ++ List.replicate 16 0)
def respMsg : RxDgram := dg ([9, 2] ++ List.replicate 18 0 ++ List.replicate 10 1 ++ [0, 9] ++ List.replicate 12 0 ++ clockId dev0 0)
/-- What the taking of a message leaves. -/
def ptpOf (d : Dev) (ty : Nat) : Dev := ((takePtp (ptpSelect 0 d) 0 ty).map (·.2)).getD d
def ptpUp (cfg : W32) (f : PtpClock → PtpClock) : Dev := { wr (ptpClk (pclk f) dev0) (Reg.ETH_CFG 0) cfg with eth := { sp := [(0, { up := true })] }, now := 1953125 }

/-- Whether a Delay_Req is due, as data. -/
def dueNow (o i : Option Nat) (n : Nat) : Bool := match o, i with | some t, some b => decide (t + logInterval b ≤ n) | _, _ => true
theorem due_of {o i : Option Nat} {n : Nat} (h : dueNow o i n = true) (t b : Nat) (ho : o = some t) (hi : i = some b) : t + logInterval b ≤ n := by
  subst ho hi; exact of_decide_eq_true h

/-- The datagram that the receive checks hand on from a frame at sub-port 0 of ETH_0. -/
def rxDg (f : List Byte) : RxDgram :=
  let g := giveOf (rxCheck (rxCnt ethDev f) 0 0 f).1
  { port := 0, sp := 0, mac := slice f 6 6, ip := g.2.2.1, udp := g.2.2.2.1, time := frameTime ethDev 0, flen := f.length, prio := g.2.1, data := g.2.2.2.2 }

/-- A request of model 1 in one frame or two, and a station that takes it. -/
def reqMsg (frames : Byte) : RxDgram := dg (rvpBytes 4 1 5 (List.replicate 8 0 ++ [1, 0, 0, 0, 0, frames, 0, 0, 0, 0, 0, frames] ++ List.replicate 28 0 ++ [7]))
def reqDev : Dev := regiond { sesd (ses 1 1) dev0 with model := [(1, { active := some { maxPayload := 2 } })] }
/-- A load that waits for its image to be stored. -/
def storeDev : Dev := loadd { ld0 with status := 3, busy := true, bytes := imgBytes } dev0

/-- A timer under a configuration; a package that qualifies the loss of reference 1 from 5 ns, with a window of 2 us, at a time. -/
def tmCfg (t : Timer) (c : W32) : Dev := wr (tmd t dev0) (Reg.TIM_CFG 0) c
def lossDev (v : Bool) (t : Nat) : Dev := wr { dev0 with now := t, tim := { phase := 3, lost := some 1, lostFrom := 5, valid := [v, v, v] } } Reg.TBS_CFG 0x00020007
def requalDev (t : Nat) : Dev := wr { dev0 with now := t, tim := { requal := some 1, requalFrom := 5 } } Reg.TBS_CFG2 0x00010000

/-- A key-wrap key of zeros. -/
def kwk0 : List Byte := List.replicate 32 0
/-- SA_INSTALL of an AN over sub-port 0 of ETH_0, in use or not, and a package that runs it. -/
def saBody (an use : Byte) : List Byte := [0, 0, 0, 0, an, use, 0, 0] ++ List.replicate 76 0
def saDev (b : List Byte) (p : SubPort) : State := stf { kwk := some kwk0 } (curd (vq 0x50 b) { dev0 with eth := { sp := [(0, p)] } })

/-- States and operands that meet the hypotheses of StepRunsFront. -/
theorem wit_StepRunsFront : ∃ (s : State) (c : Instr) (rest : List Instr), s.pending = c :: rest :=
  ⟨{ dev := dev0, pending := [.sysrefLoss, .bypass] }, .sysrefLoss, [.bypass], by and_intros <;> decide +kernel⟩

/-- States and operands that meet the hypotheses of IdleStep. -/
theorem wit_IdleStep : ∃ (s : State), s.pending = [] ∧ (live s.dev = false ∨ s.dev.code = stSleep) :=
  ⟨State.reset, by and_intros <;> decide +kernel⟩

/-- States and operands that meet the hypotheses of PersistWfKept. -/
theorem wit_PersistWfKept : ∃ (s t : State), PersistWf s ∧ step s = .next t :=
  ⟨State.reset, State.reset, ⟨by unfold PersistWf; decide +kernel, rfl⟩⟩

/-- States and operands that meet the hypotheses of FusesOneWay. -/
theorem wit_FusesOneWay : ∃ (s t : State), step s = .next t :=
  ⟨State.reset, State.reset, rfl⟩

/-- States and operands that meet the hypotheses of SelectedSlotKept. -/
theorem wit_SelectedSlotKept : ∃ (s t : State) (k a : Nat), k < 2 ∧ slotInUse s.dev k = true ∧ slotBase k ≤ a ∧ a < slotBase k + 0x400000 ∧ step s = .next t :=
  ⟨st (wr { dev0 with code := 0 } Reg.BOOT_STATUS 0x08000000), st (wr { dev0 with code := 0 } Reg.BOOT_STATUS 0x08000000), 1, 0x7FFFFF, by decide +kernel, by decide +kernel, by decide +kernel, by decide +kernel, rfl⟩

/-- States and operands that meet the hypotheses of PersistFrame, clause by clause. -/
theorem wit_PersistFrame :
    (∃ (c : Instr) (s t : State), exec c s = .next t ∧ c ≠ .keySlotProgram ∧ c ≠ .keySlotRevoke ∧ c ≠ .kwkSet ∧ c ≠ .minSvn) ∧
    (∃ (c : Instr) (s t : State), exec c s = .next t ∧ c ≠ .flashErase ∧ c ≠ .flashWrite ∧ c ≠ .pwrgdFall ∧ (∀ n, c ≠ .pinReset n) ∧ (∀ v, c ≠ .por v)) :=
  ⟨⟨.bypass, State.reset, _, rfl, by decide +kernel⟩,
   ⟨.bypass, State.reset, _, rfl, by refine ⟨by decide, by decide, by decide, fun _ => ?_, fun _ => ?_⟩ <;> nofun⟩⟩

/-- States and operands that meet the hypotheses of QuietFabric. -/
theorem wit_QuietFabric : ∃ (c : Instr) (s : State), live s.dev = false ∧ (∀ v, c ≠ .por v) ∧ (∀ n, c ≠ .pinReset n) ∧ c ≠ .pwrgdFall ∧ (∀ x, c ≠ .resetRelease x) ∧ c ≠ .tapReset ∧ c ≠ .idcode ∧ (∀ v, c ≠ .samplePreload v) ∧ c ≠ .extest ∧ c ≠ .clamp ∧ c ≠ .highz ∧ c ≠ .bypass ∧ (∀ k, c ≠ .thermtrip k) ∧ c ≠ .sysrefLoss ∧ (∀ n p, c ≠ .serrefLoss n p) ∧ (∀ n p, c ≠ .optrefLoss n p) ∧ c ≠ .xt32kLoss :=
  ⟨.mma 0, State.reset, by decide +kernel, by nofun, by nofun, by nofun, by nofun, by nofun, by nofun, by nofun, by nofun, by nofun, by nofun, by nofun, by nofun, by nofun, by nofun, by nofun, by nofun⟩

/-- States and operands that meet the hypotheses of CommandsQueued, clause by clause. -/
theorem wit_CommandsQueued :
    (∃ (s : State) (i : Fin 288) (n w : Nat), awake s.dev = true ∧ AtWord s.dev i.val n w ∧ isFamily .mma w = true ∧ mmaCause (coreAt s.dev i.val) (taskAt (coreAt s.dev i.val) n) w = none ∧ mmaRows w ≠ 0 ∧ mmaTiles w ≠ 0 ∧ (coreAt s.dev i.val).mu.length < 8) ∧
    (∃ (s : State) (i : Fin 288) (n w : Nat), awake s.dev = true ∧ AtWord s.dev i.val n w ∧ isFamily .vop w = true ∧ vopCause s.dev i.val (taskAt (coreAt s.dev i.val) n) w = none ∧ vCount w ≠ 0 ∧ (coreAt s.dev i.val).vu.length < 8) ∧
    (∃ (s : State) (i : Fin 288) (n w : Nat), awake s.dev = true ∧ AtWord s.dev i.val n w ∧ isFamily .dma w = true ∧ isLocal s.dev i.val (dmaBase w) = true ∧ dmaN w ≠ 0 ∧ (coreAt s.dev i.val).dma.length < 8) ∧
    (∃ (s : State) (i : Fin 288) (n w : Nat), awake s.dev = true ∧ AtWord s.dev i.val n w ∧ isFamily .ctxload w = true ∧ ctxCause s.dev i.val (taskAt (coreAt s.dev i.val) n) w = none ∧ (coreAt s.dev i.val).ctx.length < 8) ∧
    (∃ (s : State) (i : Fin 288) (n w : Nat), awake s.dev = true ∧ AtWord s.dev i.val n w ∧ isFamily .ctxstore w = true ∧ ctxCause s.dev i.val (taskAt (coreAt s.dev i.val) n) w = none ∧ (coreAt s.dev i.val).ctx.length < 8) ∧
    (∃ (s : State) (i : Fin 288) (n w : Nat) (data : List Byte) (d : Dev), awake s.dev = true ∧ AtWord s.dev i.val n w ∧ isFamily .emit w = true ∧ emitCause s.dev (taskAt (coreAt s.dev i.val) n) i.val w = none ∧ (coreAt s.dev i.val).egr.length < 4 ∧ unitReadN s.dev i.val n (bits w 119 96) cReach portSeA (bits w 95 88) = (.ok data, d)) :=
  ⟨⟨st (at0 2 1 (wMma 64 1) id), 0, 0, wMma 64 1, by and_intros <;> decide +kernel⟩,
   ⟨st (at0 2 1 (wVop 4096 1) id), 0, 0, wVop 4096 1, by and_intros <;> decide +kernel⟩,
   ⟨st (at0 2 1 (wDma 32767 255) id), 0, 0, wDma 32767 255, by and_intros <;> decide +kernel⟩,
   ⟨st (at0 4 0 (wCtx 9) id), 0, 0, wCtx 9, by and_intros <;> decide +kernel⟩,
   ⟨st (at0 4 0 (wCtx 10) id), 0, 0, wCtx 10, by and_intros <;> decide +kernel⟩,
   ⟨st (at0 2 0 wEmit id), 0, 0, wEmit, List.replicate 64 0, (unitReadN (at0 2 0 wEmit id) 0 0 1024 cReach portSeA 1).2, by and_intros <;> decide +kernel⟩⟩

/-- States and operands that meet the hypotheses of EmptyCommands, clause by clause. -/
theorem wit_EmptyCommands :
    (∃ (s : State) (i : Fin 288) (n w : Nat), awake s.dev = true ∧ AtWord s.dev i.val n w ∧ isFamily .mma w = true ∧ mmaCause (coreAt s.dev i.val) (taskAt (coreAt s.dev i.val) n) w = none ∧ (mmaRows w = 0 ∨ mmaTiles w = 0)) ∧
    (∃ (s : State) (i : Fin 288) (n w : Nat), awake s.dev = true ∧ AtWord s.dev i.val n w ∧ isFamily .vop w = true ∧ vCount w = 0) ∧
    (∃ (s : State) (i : Fin 288) (n w : Nat), awake s.dev = true ∧ AtWord s.dev i.val n w ∧ isFamily .dma w = true ∧ isLocal s.dev i.val (dmaBase w) = true ∧ dmaN w = 0) :=
  ⟨⟨st (at0 2 1 (wMma 0 1) id), 0, 0, wMma 0 1, by and_intros <;> decide +kernel⟩,
   ⟨st (at0 2 1 (wVop 4096 0) id), 0, 0, wVop 4096 0, by and_intros <;> decide +kernel⟩,
   ⟨st (at0 2 1 (wDma 16 0) id), 0, 0, wDma 16 0, by and_intros <;> decide +kernel⟩⟩

/-- States and operands that meet the hypotheses of IssueRefused, clause by clause. -/
theorem wit_IssueRefused :
    (∃ (s : State) (i : Fin 288) (n w e : Nat), awake s.dev = true ∧ AtWord s.dev i.val n w ∧ isFamily .mma w = true ∧ mmaCause (coreAt s.dev i.val) (taskAt (coreAt s.dev i.val) n) w = some e) ∧
    (∃ (s : State) (i : Fin 288) (n w e : Nat), awake s.dev = true ∧ AtWord s.dev i.val n w ∧ isFamily .vop w = true ∧ vopCause s.dev i.val (taskAt (coreAt s.dev i.val) n) w = some e) ∧
    (∃ (s : State) (i : Fin 288) (n w : Nat), awake s.dev = true ∧ AtWord s.dev i.val n w ∧ isFamily .dma w = true ∧ isLocal s.dev i.val (dmaBase w) = false) ∧
    (∃ (s : State) (i : Fin 288) (n w : Nat), awake s.dev = true ∧ AtWord s.dev i.val n w ∧ isFamily .mma w = true ∧ mmaCause (coreAt s.dev i.val) (taskAt (coreAt s.dev i.val) n) w = none ∧ mmaRows w ≠ 0 ∧ mmaTiles w ≠ 0 ∧ 8 ≤ (coreAt s.dev i.val).mu.length) ∧
    (∃ (s : State) (i : Fin 288) (n w : Nat), awake s.dev = true ∧ AtWord s.dev i.val n w ∧ isFamily .vop w = true ∧ vopCause s.dev i.val (taskAt (coreAt s.dev i.val) n) w = none ∧ vCount w ≠ 0 ∧ 8 ≤ (coreAt s.dev i.val).vu.length) ∧
    (∃ (s : State) (i : Fin 288) (n w : Nat), awake s.dev = true ∧ AtWord s.dev i.val n w ∧ isFamily .dma w = true ∧ isLocal s.dev i.val (dmaBase w) = true ∧ dmaN w ≠ 0 ∧ 8 ≤ (coreAt s.dev i.val).dma.length) :=
  ⟨⟨st (at0 2 1 (wMma 2 1) (fun c => { c with skeins := c.skeins.take 3 })), 0, 0, wMma 2 1, cSkeinDisabled, by and_intros <;> decide +kernel⟩,
   ⟨st (at0 2 1 (wVop 32767 1) id), 0, 0, wVop 32767 1, cVopRange, by and_intros <;> decide +kernel⟩,
   ⟨st (at0 2 1 (wDma 32768 1) id), 0, 0, wDma 32768 1, by and_intros <;> decide +kernel⟩,
   ⟨st (at0 2 1 (wMma 64 4095) (fun c => { c with mu := full 8 })), 0, 0, wMma 64 4095, by and_intros <;> decide +kernel⟩,
   ⟨st (at0 2 1 (wVop 4096 1) (fun c => { c with vu := full 8 })), 0, 0, wVop 4096 1, by and_intros <;> decide +kernel⟩,
   ⟨st (at0 2 1 (wDma 16 1) (fun c => { c with dma := full 8 })), 0, 0, wDma 16 1, by and_intros <;> decide +kernel⟩⟩

/-- States and operands that meet the hypotheses of TagOps, clause by clause. -/
theorem wit_TagOps :
    (∃ (s : State) (i : Fin 288) (n w : Nat), awake s.dev = true ∧ AtWord s.dev i.val n w ∧ isFamily .tagop w = true ∧ tagopCause (coreAt s.dev i.val) w = none ∧ blockCause s.dev i.val n = none ∧ bits w 123 120 = 0) ∧
    (∃ (s : State) (i : Fin 288) (n w : Nat), awake s.dev = true ∧ AtWord s.dev i.val n w ∧ isFamily .tagop w = true ∧ tagopCause (coreAt s.dev i.val) w = none ∧ blockCause s.dev i.val n = none ∧ bits w 123 120 = 1) ∧
    (∃ (s : State) (i : Fin 288) (n w : Nat), awake s.dev = true ∧ AtWord s.dev i.val n w ∧ isFamily .tagop w = true ∧ tagopCause (coreAt s.dev i.val) w = none ∧ blockCause s.dev i.val n = none ∧ bits w 123 120 = 2) ∧
    (∃ (s : State) (i : Fin 288) (n w : Nat), awake s.dev = true ∧ AtWord s.dev i.val n w ∧ isFamily .tagop w = true ∧ tagopCause (coreAt s.dev i.val) w = none ∧ blockCause s.dev i.val n = none ∧ bits w 123 120 = 3) ∧
    (∃ (s : State) (i : Fin 288) (n w : Nat), awake s.dev = true ∧ AtWord s.dev i.val n w ∧ isFamily .tagop w = true ∧ tagopCause (coreAt s.dev i.val) w = none ∧ blockCause s.dev i.val n = none ∧ bits w 123 120 = 4) :=
  ⟨⟨st (at0 2 1 (wTag 0 3 3) (fun c => { c with skeins := setAt c.skeins 1 (1, { ring 64 1 4 with tags := 0 }) })), 0, 0, wTag 0 3 3, by and_intros <;> decide +kernel⟩,
   ⟨st (at0 2 1 (wTag 1 3 3) (fun c => { c with skeins := setAt c.skeins 1 (1, { ring 64 1 4 with tags := 15 }) })), 0, 0, wTag 1 3 3, by and_intros <;> decide +kernel⟩,
   ⟨st (at0 2 1 (wTag 2 3 2) (fun c => { c with skeins := setAt c.skeins 1 (1, { ring 64 1 4 with tags := 9 }) })), 0, 0, wTag 2 3 2, by and_intros <;> decide +kernel⟩,
   ⟨st (at0 2 1 (wTag 3 3 2) (fun c => { c with skeins := setAt c.skeins 1 (1, { ring 64 1 4 with tags := 6 }) })), 0, 0, wTag 3 3 2, by and_intros <;> decide +kernel⟩,
   ⟨st (at0 2 1 (wTag 4 0 0) (fun c => { c with skeins := setAt c.skeins 1 (1, { ring 64 1 4 with tags := 15 }) })), 0, 0, wTag 4 0 0, by and_intros <;> decide +kernel⟩⟩

/-- States and operands that meet the hypotheses of SequencerCommands, clause by clause. -/
theorem wit_SequencerCommands :
    (∃ (s : State) (i : Fin 288) (n w : Nat), awake s.dev = true ∧ AtWord s.dev i.val n w ∧ isFamily .end_ w = true ∧ (dRank (taskAt (coreAt s.dev i.val) n).desc ≠ 0 ∨ (taskAt (coreAt s.dev i.val) n).emitted = true)) ∧
    (∃ (s : State) (i : Fin 288) (n w : Nat), awake s.dev = true ∧ AtWord s.dev i.val n w ∧ isFamily .yield w = true ∧ bestReady (coreAt (advance s.dev i.val n) i.val) (some n) = none) ∧
    (∃ (s : State) (i : Fin 288) (n w : Nat) (k : _), awake s.dev = true ∧ AtWord s.dev i.val n w ∧ isFamily .yield w = true ∧ bestReady (coreAt (advance s.dev i.val n) i.val) (some n) = some k) ∧
    (∃ (s : State) (i : Fin 288) (n w : Nat), awake s.dev = true ∧ AtWord s.dev i.val n w ∧ isFamily .depmark w = true ∧ blockCause s.dev i.val n = none) ∧
    (∃ (s : State) (i : Fin 288) (n w : Nat), awake s.dev = true ∧ AtWord s.dev i.val n w ∧ isFamily .lbar w = true ∧ blockCause s.dev i.val n = none) ∧
    (∃ (s : State) (i : Fin 288) (n w : Nat) (k : _), awake s.dev = true ∧ AtWord s.dev i.val n w ∧ isFamily .depmark w = true ∧ blockCause s.dev i.val n = some k) ∧
    (∃ (s : State) (i : Fin 288) (n w : Nat) (k : _), awake s.dev = true ∧ AtWord s.dev i.val n w ∧ isFamily .lbar w = true ∧ blockCause s.dev i.val n = some k) ∧
    (∃ (s : State) (i : Fin 288) (n w : Nat), awake s.dev = true ∧ AtWord s.dev i.val n w ∧ isFamily .hankwait w = true ∧ (taskAt (coreAt s.dev i.val) n).waited.contains (taskAt (coreAt s.dev i.val) n).issue = true) ∧
    (∃ (s : State) (i : Fin 288) (n w : Nat), awake s.dev = true ∧ AtWord s.dev i.val n w ∧ isFamily .pat w = true ∧ (taskAt (coreAt s.dev i.val) n).started.contains (taskAt (coreAt s.dev i.val) n).issue = true) ∧
    (∃ (s : State) (i : Fin 288) (n w : Nat) (d : _), awake s.dev = true ∧ AtWord s.dev i.val n w ∧ isFamily .pat w = true ∧ (taskAt (coreAt s.dev i.val) n).started.contains (taskAt (coreAt s.dev i.val) n).issue = false ∧ startPat s.dev i.val n (taskAt (coreAt s.dev i.val) n).issue w = .started d) :=
  ⟨⟨st (at0 2 1 0 id), 0, 0, 0, by and_intros <;> decide +kernel⟩,
   ⟨st (at0 2 1 (word 12 0) id), 0, 0, word 12 0, by and_intros <;> decide +kernel⟩,
   ⟨st (at0 2 1 (word 12 0) (fun c => { c with tasks := modAt c.tasks 7 (fun t => { t with st := .ready }) })), 0, 0, word 12 0, 7, by and_intros <;> decide +kernel⟩,
   ⟨st (at0 2 1 (word 4 (1 * 2 ^ 112)) id), 0, 0, (word 4 (1 * 2 ^ 112)), by and_intros <;> decide +kernel⟩,
   ⟨st (at0 2 1 (word 5 (1 * 2 ^ 112)) id), 0, 0, (word 5 (1 * 2 ^ 112)), by and_intros <;> decide +kernel⟩,
   ⟨st (at0 2 1 (word 4 (1 * 2 ^ 112)) (fun c => { tk (fun t => { t with issue := 16 }) c with mu := full 1 })), 0, 0, (word 4 (1 * 2 ^ 112)), 4, by and_intros <;> decide +kernel⟩,
   ⟨st (at0 2 1 (word 5 (1 * 2 ^ 112)) (fun c => { tk (fun t => { t with issue := 16 }) c with mu := full 1 })), 0, 0, (word 5 (1 * 2 ^ 112)), 4, by and_intros <;> decide +kernel⟩,
   ⟨st (at0 2 1 wHank (tk (fun t => { t with waited := [0] }))), 0, 0, wHank, by and_intros <;> decide +kernel⟩,
   ⟨st (at0 2 1 wPat (tk (fun t => { t with started := [0] }))), 0, 0, wPat, by and_intros <;> decide +kernel⟩,
   ⟨st (at0 2 1 wPat id), 0, 0, wPat, startedOf (startPat (at0 2 1 wPat id) 0 0 0 wPat), by and_intros <;> first | decide +kernel | rfl⟩⟩

/-- States and operands that meet the hypotheses of RunAheadStarts, clause by clause. -/
theorem wit_RunAheadStarts :
    (∃ (s : State) (i : Fin 288) (n : Fin 8) (pos w : Nat) (d : Dev), awake s.dev = true ∧ runsAhead s.dev i.val n.val = true ∧ aheadOf s.dev i.val n.val = some (pos, w) ∧ wFamily w = some .hankwait ∧ hankwaitCause s.dev (taskAt (coreAt s.dev i.val) n.val) w = none ∧ startHankwait s.dev i.val n.val pos w = some d) ∧
    (∃ (s : State) (i : Fin 288) (n : Fin 8) (pos w : Nat) (d : Dev), awake s.dev = true ∧ runsAhead s.dev i.val n.val = true ∧ aheadOf s.dev i.val n.val = some (pos, w) ∧ wFamily w = some .pat ∧ startPat s.dev i.val n.val pos w = .started d) ∧
    (∃ (d d' : Dev) (i n pos w : Nat), startPat d i n pos w = .started d' ∧ w.testBit 107 = false) :=
  ⟨⟨st { at0 2 1 wHank id with model := [(1, { active := some { ringed := true, hanks := [⟨0, 0, 0⟩] } })] }, 0, 0, 0, wHank, (startHankwait { at0 2 1 wHank id with model := [(1, { active := some { ringed := true, hanks := [⟨0, 0, 0⟩] } })] } 0 0 0 wHank).getD {}, by and_intros <;> first | decide +kernel | rfl⟩,
   ⟨st (at0 2 1 wPat id), 0, 0, 0, wPat, startedOf (startPat (at0 2 1 wPat id) 0 0 0 wPat), by and_intros <;> decide +kernel⟩,
   ⟨at0 2 1 wPat id, startedOf (startPat (at0 2 1 wPat id) 0 0 0 wPat), 0, 0, 0, wPat, by and_intros <;> decide +kernel⟩⟩

/-- States and operands that meet the hypotheses of Completions, clause by clause. -/
theorem wit_Completions :
    (∃ (s : State) (i : Fin 288) (u : Fin 8) (q : QCmd) (r : List QCmd), awake s.dev = true ∧ unitQ (coreAt s.dev i.val) u.val = q :: r ∧ q.done = true) ∧
    (∃ (s : State) (i : Fin 288) (e : Fin 3) (x : Fin 8), awake s.dev = true ∧ AtInstr s.dev i.val e.val x.val 0) ∧
    (∃ (s : State) (i : Fin 288) (e : Fin 3) (x : Fin 8) (p : PatCtx), awake s.dev = true ∧ ctxAt (coreAt s.dev i.val) e.val x.val = p ∧ p.st ≠ 0 ∧ p.stepPending = true ∧ (taskAt (coreAt s.dev i.val) p.task).fault = none) ∧
    (∃ (s : State) (i : Fin 288) (n : Fin 8), awake s.dev = true ∧ (taskAt (coreAt s.dev i.val) n.val).st = .ending ∧ anyBusy (coreAt s.dev i.val) n.val = false ∧ dRank (taskAt (coreAt s.dev i.val) n.val).desc ≠ 0) ∧
    (∃ (s : State) (i : Fin 288) (n : Fin 8), awake s.dev = true ∧ (taskAt (coreAt s.dev i.val) n.val).st = .ending ∧ anyBusy (coreAt s.dev i.val) n.val = false ∧ dRank (taskAt (coreAt s.dev i.val) n.val).desc = 0 ∧ (coreAt s.dev i.val).held.find? (fun h => h.claimed && h.dirty && decide (h.slot = n.val) && h.leaving.isNone) = none) :=
  ⟨⟨st (at0 2 1 0 (fun c => { c with egr := [{ slot := 0, pos := 0, word := 0, done := true }] })), 0, 7, { slot := 0, pos := 0, word := 0, done := true }, [], by and_intros <;> decide +kernel⟩,
   ⟨st (pat0 2 0 id), 0, 2, 0, by and_intros <;> decide +kernel⟩,
   ⟨st (pat0 2 0 (fun p => { p with stepPending := true })), 0, 2, 0, pc0 (fun p => { p with stepPending := true }), by and_intros <;> decide +kernel⟩,
   ⟨st (at0 2 1 0 (tk (fun t => { t with st := .ending }))), 0, 0, by and_intros <;> decide +kernel⟩,
   ⟨st (at0 2 0 0 (tk (fun t => { t with st := .ending }))), 0, 0, by and_intros <;> decide +kernel⟩⟩

/-- States and operands that meet the hypotheses of TaskFaults, clause by clause. -/
theorem wit_TaskFaults :
    (∃ (s : State) (i : Fin 288) (n : Fin 8) (cause word : Nat) (t : Task), awake s.dev = true ∧ taskAt (coreAt s.dev i.val) n.val = t ∧ t.fault = some (cause, word)) ∧
    (∃ (d : Dev) (i n cause word : Nat) (t : Task), i < 288) ∧
    (∃ (s : State) (h : Nat) (r : Req), live s.dev = true ∧ reqAt s.dev h = some r ∧ r.deadline ≤ s.dev.now ∧ s.dev.code ≠ stHalted ∧ (r.st = .dispatched ∨ r.st = .held) ∧ r.emitted = false) ∧
    (∃ (s : State) (h : Nat) (r : Req), live s.dev = true ∧ reqAt s.dev h = some r ∧ r.deadline ≤ s.dev.now ∧ s.dev.code ≠ stHalted ∧ (r.st = .queued ∨ r.st = .ready) ∧ r.released = false ∧ r.retried = false) ∧
    (∃ (s : State) (h : Nat) (r : Req), live s.dev = true ∧ reqAt s.dev h = some r ∧ s.dev.now < r.deadline) ∧
    (∃ (s : State) (i : Fin 288) (u : TagWaiter) (n pos since c k : Nat), awake s.dev = true ∧ siteHalted s.dev i.val = false ∧ waitsOn s.dev i.val u = some ⟨n, pos, since, [(c, k)]⟩ ∧ k ≠ 63 ∧ (skeinAt (coreAt s.dev c) k).timeout ≠ 0 ∧ s.dev.now ≤ since + 1000 * (skeinAt (coreAt s.dev c) k).timeout) ∧
    (∃ (s : State) (i : Fin 288) (u : TagWaiter) (n pos since c k : Nat), awake s.dev = true ∧ siteHalted s.dev i.val = false ∧ waitsOn s.dev i.val u = some ⟨n, pos, since, [(c, k)]⟩ ∧ k ≠ 63 ∧ (skeinAt (coreAt s.dev c) k).timeout ≠ 0 ∧ since + 1000 * (skeinAt (coreAt s.dev c) k).timeout < s.dev.now ∧ u ≠ .dma) ∧
    (∃ (s : State) (i : Fin 288) (u : TagWaiter) (n pos since c k : Nat) (q : _) (ring : _), awake s.dev = true ∧ siteHalted s.dev i.val = false ∧ waitsOn s.dev i.val u = some ⟨n, pos, since, [(c, k)]⟩ ∧ k ≠ 63 ∧ (skeinAt (coreAt s.dev c) k).timeout ≠ 0 ∧ since + 1000 * (skeinAt (coreAt s.dev c) k).timeout < s.dev.now ∧ u = .dma ∧ (coreAt (setSkein s.dev c k { skeinAt (coreAt s.dev c) k with evt := true }) i.val).dma.head? = some q ∧ q.desc.bind (fun y => y.ring) = some ring) ∧
    (∃ (s : State) (i target : Fin 288) (u x : Fin 8) (n pos : Nat), awake s.dev = true ∧ executing (coreAt s.dev i.val) u.val x.val = some (n, pos) ∧ target ≠ i ∧ inService s.dev target.val = true ∧ dGlobal (taskAt (coreAt s.dev i.val) n).desc = true ∧ (∀ a, stuckFor s.dev i.val u.val x.val = some a → a.since + 10000 ≤ s.dev.now)) :=
  ⟨by refine ⟨st (at0 2 1 0 (tk (fun t => { t with fault := some (0x17, 3) }))), 0, 0, 0x17, 3, ?t0, ?goal0⟩; case goal0 => and_intros <;> first | decide +kernel | rfl,
   ⟨dev0, 287, 0, 0x17, 2 ^ 24 + 3, {}, by and_intros <;> decide +kernel⟩,
   ⟨st (reqd { rq with st := .dispatched } { dev0 with now := 9 }), 4, { rq with st := .dispatched }, by and_intros <;> decide +kernel⟩,
   ⟨st (reqd { rq with st := .queued } { dev0 with now := 9 }), 4, { rq with st := .queued }, by and_intros <;> decide +kernel⟩,
   ⟨st (reqd { rq with st := .dispatched } { dev0 with now := 8 }), 4, { rq with st := .dispatched }, by and_intros <;> decide +kernel⟩,
   ⟨st (muWait 1005), 0, .mu, 0, 0, 5, 0, 2, by and_intros <;> decide +kernel⟩,
   ⟨st (muWait 1006), 0, .mu, 0, 0, 5, 0, 2, by and_intros <;> decide +kernel⟩,
   ⟨st (dmaWait 1006), 0, .dma, 0, 0, 5, 0, 1, dmaW, (1, true), by and_intros <;> decide +kernel⟩,
   by refine ⟨st { at0 2 1 0 (fun c => { c with vu := full 1 }) with now := 10005, wdn := { stuck := [⟨0, 1, 0, 0, 5⟩] } }, 0, 287, 1, 0, 0, 0, ?goal8⟩; case goal8 => and_intros <;> first | decide +kernel | rfl | exact stuck_le (by decide +kernel)⟩

/-- States and operands that meet the hypotheses of ScratchpadCycles, clause by clause. -/
theorem wit_ScratchpadCycles :
    (∃ (s : State) (i : Fin 288) (x : BankReq), awake s.dev = true ∧ (coreAt s.dev i.val).bank = [] ∧ (coreAt s.dev i.val).locked = [] ∧ (coreAt s.dev i.val).held = [] ∧ (coreAt s.dev i.val).scrubWait = none ∧ bankReqOk x = true ∧ x.rmw = false ∧ x.write = true ∧ x.data.length = 64 ∧ (rd s.dev (Reg.CORE_SPAD_INJECT i.val)).getLsbD 31 = false) ∧
    (∃ (s : State) (i : Fin 288) (x : BankReq), awake s.dev = true ∧ (coreAt s.dev i.val).bank = [] ∧ (coreAt s.dev i.val).locked = [] ∧ (coreAt s.dev i.val).held = [] ∧ (coreAt s.dev i.val).scrubWait = none ∧ bankReqOk x = true ∧ x.rmw = false ∧ x.write = false ∧ wordErr s.dev i.val x.word.val = {}) ∧
    (∃ (s : State) (i : Fin 288) (w : Nat), awake s.dev = true ∧ fld s.dev (Reg.CORE_SPAD_SCRUB i.val) 14 0 = w ∧ (∀ x ∈ (coreAt s.dev i.val).bank ++ (coreAt s.dev i.val).locked, bankOf x.word.val ≠ bankOf w) ∧ (coreAt s.dev i.val).scrubWait = none ∧ wordErr s.dev i.val w = {} ∧ w < 32767) ∧
    (∃ (s : State) (i : Fin 288) (w : Nat), awake s.dev = true ∧ fld s.dev (Reg.CORE_SPAD_SCRUB i.val) 14 0 = w ∧ (∀ x ∈ (coreAt s.dev i.val).bank ++ (coreAt s.dev i.val).locked, bankOf x.word.val ≠ bankOf w) ∧ (coreAt s.dev i.val).scrubWait = none ∧ wordErr s.dev i.val w = {} ∧ w = 32767) ∧
    (∃ (s : State) (i : Fin 288) (x : BankReq), awake s.dev = true ∧ x ∈ (coreAt s.dev i.val).bank ∧ bankOf x.word.val = bankOf (fld s.dev (Reg.CORE_SPAD_SCRUB i.val) 14 0) ∧ (coreAt s.dev i.val).scrubWait = none) :=
  ⟨⟨st dev0, 287, { bread with port := 5, write := true, word := 32767, weight := true, data := List.replicate 64 0xa5 }, by and_intros <;> decide +kernel⟩,
   ⟨st dev0, 0, { bread with port := 4 }, by and_intros <;> decide +kernel⟩,
   ⟨st (wr dev0 (Reg.CORE_SPAD_SCRUB 0) 32766), 0, 32766, by and_intros <;> decide +kernel⟩,
   ⟨st (wr dev0 (Reg.CORE_SPAD_SCRUB 0) 32767), 0, 32767, by and_intros <;> decide +kernel⟩,
   ⟨st (setCore dev0 0 { bank := [bread] }), 0, bread, by and_intros <;> decide +kernel⟩⟩

/-- States and operands that meet the hypotheses of DispatchAndSpares, clause by clause. -/
theorem wit_DispatchAndSpares :
    (∃ (s : State) (m : Fin 16) (h : Nat) (r : Req) (im : Image), awake s.dev = true ∧ headReady s.dev (m.val + 1) = some (h, r) ∧ (modelAt s.dev (m.val + 1)).active = some im ∧ misses s.dev r im s.dev.now = true) ∧
    (∃ (s : State) (m : Fin 16) (h : Nat) (r : Req) (im : Image), awake s.dev = true ∧ headReady s.dev (m.val + 1) = some (h, r) ∧ (modelAt s.dev (m.val + 1)).active = some im ∧ misses s.dev r im s.dev.now = false ∧ im.cohort ≤ cohortNow s.dev (m.val + 1)) ∧
    (∃ (s : State) (m : Fin 16) (h : Nat) (r : Req) (im : Image) (ms : _) (d : _), awake s.dev = true ∧ headReady s.dev (m.val + 1) = some (h, r) ∧ (modelAt s.dev (m.val + 1)).active = some im ∧ misses s.dev r im s.dev.now = false ∧ cohortNow s.dev (m.val + 1) < im.cohort ∧ (if im.fast then fastGroup s.dev r im else exactGroup s.dev im) = some ms ∧ modReq ((ms.map (fun x => (x, descFor s.dev h r im ms.length x))).foldl (fun d x => placeTask d h x.1 x.2) s.dev) h (fun r => { r with st := .dispatched, group := ms.length, tasks := ms.map (fun x => (x.rank, x.site, x.slot)) }) = d ∧ im.fast = false) ∧
    (∃ (s : State) (m : Fin 16) (h : Nat) (r : Req) (im : Image) (ms : _) (d : _) (e : _), awake s.dev = true ∧ headReady s.dev (m.val + 1) = some (h, r) ∧ (modelAt s.dev (m.val + 1)).active = some im ∧ misses s.dev r im s.dev.now = false ∧ cohortNow s.dev (m.val + 1) < im.cohort ∧ (if im.fast then fastGroup s.dev r im else exactGroup s.dev im) = some ms ∧ modReq ((ms.map (fun x => (x, descFor s.dev h r im ms.length x))).foldl (fun d x => placeTask d h x.1 x.2) s.dev) h (fun r => { r with st := .dispatched, group := ms.length, tasks := ms.map (fun x => (x.rank, x.site, x.slot)) }) = d ∧ im.fast = true ∧ setFld (setModel d (m.val + 1) { modelAt d (m.val + 1) with lastRank0 := (ms.head?.map (fun y => y.canon + 1)).getD (modelAt d (m.val + 1)).lastRank0 }) (Reg.DET_MODEL_FAST_G m.val) 24 16 ms.length = e ∧ ms.length = fastTarget e im) ∧
    (∃ (s : State) (m : Fin 16) (h : Nat) (r : Req) (im : Image) (ms : _) (d : _) (e : _), awake s.dev = true ∧ headReady s.dev (m.val + 1) = some (h, r) ∧ (modelAt s.dev (m.val + 1)).active = some im ∧ misses s.dev r im s.dev.now = false ∧ cohortNow s.dev (m.val + 1) < im.cohort ∧ (if im.fast then fastGroup s.dev r im else exactGroup s.dev im) = some ms ∧ modReq ((ms.map (fun x => (x, descFor s.dev h r im ms.length x))).foldl (fun d x => placeTask d h x.1 x.2) s.dev) h (fun r => { r with st := .dispatched, group := ms.length, tasks := ms.map (fun x => (x.rank, x.site, x.slot)) }) = d ∧ im.fast = true ∧ setFld (setModel d (m.val + 1) { modelAt d (m.val + 1) with lastRank0 := (ms.head?.map (fun y => y.canon + 1)).getD (modelAt d (m.val + 1)).lastRank0 }) (Reg.DET_MODEL_FAST_G m.val) 24 16 ms.length = e ∧ ms.length ≠ fastTarget e im) ∧
    (∃ (s : State) (i : Fin 288) (x : Delivery) (r : List Delivery), awake s.dev = true ∧ s.dev.ring.deliver = x :: r ∧ x.sites = [i.val] ∧ x ∉ r) ∧
    (∃ (s : State) (i : Fin 288) (c : Nat) (x : SiteInfo) (e f : Dev) (whole : Bool), live s.dev = true ∧ siteInfo s.dev i.val = x ∧ x.st = .promoting ∧ x.canon = some c ∧ x.mgmtFence = false ∧ setCore (setSite s.dev i.val { x with st := .live, promoted := true }) i.val { skeins := [(63, hankSkeinDef s.dev c)] } = e ∧ refillFrom c (installed e) e = (whole, f) ∧ whole = true) ∧
    (∃ (s : State) (i : Fin 288) (c : Nat) (x : SiteInfo) (e f : Dev) (whole : Bool), live s.dev = true ∧ siteInfo s.dev i.val = x ∧ x.st = .promoting ∧ x.canon = some c ∧ x.mgmtFence = false ∧ setCore (setSite s.dev i.val { x with st := .live, promoted := true }) i.val { skeins := [(63, hankSkeinDef s.dev c)] } = e ∧ refillFrom c (installed e) e = (whole, f) ∧ whole = false) ∧
    (∃ (s : State) (i : Fin 288), live s.dev = true ∧ (siteInfo s.dev i.val).st = .spare) ∧
    (∃ (s : State) (i : Fin 288) (c : _), live s.dev = true ∧ (siteInfo s.dev i.val).st = .promoting ∧ (siteInfo s.dev i.val).canon = some c) :=
  ⟨⟨st { readyDev (imOne false) with now := 10 }, 0, 4, rq, (imOne false), by and_intros <;> decide +kernel⟩,
   ⟨st (readyDev { imOne false with cohort := 0 }), 0, 4, rq, { imOne false with cohort := 0 }, by and_intros <;> decide +kernel⟩,
   ⟨st (readyDev (imOne false)), 0, 4, rq, (imOne false), ((exactGroup (readyDev (imOne false)) (imOne false)).getD []), placedDev (imOne false) ((exactGroup (readyDev (imOne false)) (imOne false)).getD []) (readyDev (imOne false)), by and_intros <;> decide +kernel⟩,
   ⟨st (readyDev (imOne true)), 0, 4, rq, (imOne true), ((fastGroup (readyDev (imOne true)) rq (imOne true)).getD []), placedDev (imOne true) ((fastGroup (readyDev (imOne true)) rq (imOne true)).getD []) (readyDev (imOne true)), fastDev (imOne true), by and_intros <;> decide +kernel⟩,
   ⟨st (readyDev { imOne true with place := 2 }), 0, 4, rq, { imOne true with place := 2 }, ((fastGroup (readyDev { imOne true with place := 2 }) rq ({ imOne true with place := 2 })).getD []), placedDev ({ imOne true with place := 2 }) ((fastGroup (readyDev { imOne true with place := 2 }) rq ({ imOne true with place := 2 })).getD []) (readyDev { imOne true with place := 2 }), fastDev ({ imOne true with place := 2 }), by and_intros <;> decide +kernel⟩,
   ⟨st { dev0 with ring := { deliver := [{ model := 1, lap := 1, hanks := [], sites := [287] }] } }, 287, { model := 1, lap := 1, hanks := [], sites := [287] }, [], by and_intros <;> decide +kernel⟩,
   ⟨st (promoDev dev0), 4, 255, promo, promoLive dev0, (refillFrom 255 (installed (promoLive dev0)) (promoLive dev0)).2, true, by and_intros <;> decide +kernel⟩,
   ⟨st (promoDev (withModel { active := some img1 } dev0)), 4, 255, promo, promoLive (withModel { active := some img1 } dev0), (refillFrom 255 (installed (promoLive (withModel { active := some img1 } dev0))) (promoLive (withModel { active := some img1 } dev0))).2, false, by and_intros <;> decide +kernel⟩,
   ⟨st dev0, 283, by and_intros <;> decide +kernel⟩,
   ⟨st (promoDev dev0), 4, 255, by and_intros <;> decide +kernel⟩⟩

/-- States and operands that meet the hypotheses of PatternRegisters, clause by clause. -/
theorem wit_PatternRegisters :
    (∃ (s : State) (i : Fin 288) (e : Fin 3) (x : Fin 8) (w : Nat) (p : PatCtx) (v : Int), awake s.dev = true ∧ AtInstr s.dev i.val e.val x.val w ∧ ctxAt (coreAt s.dev i.val) e.val x.val = p ∧ patX p (taskAt (coreAt s.dev i.val) p.task).desc (bits w 24 22) = some v ∧ bits w 31 27 = 1) ∧
    (∃ (s : State) (i : Fin 288) (e : Fin 3) (x : Fin 8) (w : Nat) (p : PatCtx) (v : Int), awake s.dev = true ∧ AtInstr s.dev i.val e.val x.val w ∧ ctxAt (coreAt s.dev i.val) e.val x.val = p ∧ patX p (taskAt (coreAt s.dev i.val) p.task).desc (bits w 24 22) = some v ∧ bits w 31 27 = 2) ∧
    (∃ (s : State) (i : Fin 288) (e : Fin 3) (x : Fin 8) (w : Nat) (p : PatCtx) (v : Int), awake s.dev = true ∧ AtInstr s.dev i.val e.val x.val w ∧ ctxAt (coreAt s.dev i.val) e.val x.val = p ∧ patX p (taskAt (coreAt s.dev i.val) p.task).desc (bits w 24 22) = some v ∧ bits w 31 27 = 3 ∧ 0 ≤ v + patImm w ∧ v + patImm w ≤ 1048575) ∧
    (∃ (s : State) (i : Fin 288) (e : Fin 3) (x : Fin 8) (w : Nat) (p : PatCtx) (v : Int), awake s.dev = true ∧ AtInstr s.dev i.val e.val x.val w ∧ ctxAt (coreAt s.dev i.val) e.val x.val = p ∧ patX p (taskAt (coreAt s.dev i.val) p.task).desc (bits w 24 22) = some v ∧ bits w 31 27 = 3 ∧ (v + patImm w < 0 ∨ 1048575 < v + patImm w)) ∧
    (∃ (s : State) (i : Fin 288) (e : Fin 3) (x : Fin 8) (w : Nat) (p : PatCtx), awake s.dev = true ∧ AtInstr s.dev i.val e.val x.val w ∧ ctxAt (coreAt s.dev i.val) e.val x.val = p ∧ bits w 31 27 = 4) ∧
    (∃ (s : State) (i : Fin 288) (e : Fin 3) (x : Fin 8) (w : Nat) (p : PatCtx), awake s.dev = true ∧ AtInstr s.dev i.val e.val x.val w ∧ ctxAt (coreAt s.dev i.val) e.val x.val = p ∧ bits w 31 27 = 5) ∧
    (∃ (d : Dev) (i e x : Nat) (p : PatCtx), p.loops = [] ∧ p.pc < 255) :=
  ⟨⟨st (pat0 0 (pw 1 (0x200000)) (id)), 0, 0, 0, pw 1 (0x200000), pc0 (id), 0, by and_intros <;> decide +kernel⟩,
   ⟨st (pat0 0 (pw 2 (0x200000)) (id)), 0, 0, 0, pw 2 (0x200000), pc0 (id), 0, by and_intros <;> decide +kernel⟩,
   ⟨st (pat0 0 (pw 3 (1048575)) (id)), 0, 0, 0, pw 3 (1048575), pc0 (id), 0, by and_intros <;> decide +kernel⟩,
   ⟨st (pat0 0 (pw 3 (1048576)) (id)), 0, 0, 0, pw 3 (1048576), pc0 (id), 0, by and_intros <;> decide +kernel⟩,
   ⟨st (pat0 0 (pw 4 (0x3FFFFF)) (id)), 0, 0, 0, pw 4 (0x3FFFFF), pc0 (id), by and_intros <;> decide +kernel⟩,
   ⟨st (pat0 0 (pw 5 0) (id)), 0, 0, 0, pw 5 0, pc0 (id), by and_intros <;> decide +kernel⟩,
   ⟨dev0, 0, 0, 0, { pc := 254 }, by and_intros <;> decide +kernel⟩⟩

/-- States and operands that meet the hypotheses of PatternEmission, clause by clause. -/
theorem wit_PatternEmission :
    (∃ (s : State) (i : Fin 288) (e : Fin 3) (x : Fin 8) (w : Nat) (p : PatCtx) (d : Dev), awake s.dev = true ∧ AtInstr s.dev i.val e.val x.val w ∧ ctxAt (coreAt s.dev i.val) e.val x.val = p ∧ served s.dev i.val e.val x.val = d ∧ bits w 31 27 = 6 ∧ p.pc + 1 + bits w 7 0 ≤ 256 ∧ (∀ l ∈ p.loops, l.ctr ≠ bits w 26 25) ∧ (∀ l ∈ p.loops, p.pc + 1 + bits w 7 0 ≤ l.stop)) ∧
    (∃ (s : State) (i : Fin 288) (e : Fin 3) (x : Fin 8) (w : Nat) (p : PatCtx) (d : Dev) (f : _) (q : _), awake s.dev = true ∧ AtInstr s.dev i.val e.val x.val w ∧ ctxAt (coreAt s.dev i.val) e.val x.val = p ∧ served s.dev i.val e.val x.val = d ∧ bits w 31 27 = 7 ∧ w.testBit 22 = false ∧ w.testBit 21 = false ∧ emitOne d i.val e.val p (some (p.a.getD (bits w 26 25) 0)) = .ok f q) ∧
    (∃ (s : State) (i : Fin 288) (e : Fin 3) (x : Fin 8) (w : Nat) (p : PatCtx) (d : Dev) (f : _) (q : _), awake s.dev = true ∧ AtInstr s.dev i.val e.val x.val w ∧ ctxAt (coreAt s.dev i.val) e.val x.val = p ∧ served s.dev i.val e.val x.val = d ∧ bits w 31 27 = 7 ∧ w.testBit 22 = true ∧ w.testBit 21 = false ∧ emitOne d i.val e.val p (some (p.a.getD (bits w 26 25) 0)) = .ok f q) ∧
    (∃ (s : State) (i : Fin 288) (e : Fin 3) (x : Fin 8) (w : Nat) (p : PatCtx) (d : Dev), awake s.dev = true ∧ AtInstr s.dev i.val e.val x.val w ∧ ctxAt (coreAt s.dev i.val) e.val x.val = p ∧ served s.dev i.val e.val x.val = d ∧ bits w 31 27 = 7 ∧ p.f = 0 ∧ ringReady (skeinAt (coreAt d i.val) p.skein) e.val = false) ∧
    (∃ (s : State) (i : Fin 288) (e : Fin 3) (x : Fin 8) (w : Nat) (p : PatCtx) (d : Dev) (f : _) (q : _), awake s.dev = true ∧ AtInstr s.dev i.val e.val x.val w ∧ ctxAt (coreAt s.dev i.val) e.val x.val = p ∧ served s.dev i.val e.val x.val = d ∧ bits w 31 27 = 8 ∧ p.part + 1 < bits w 12 0 ∧ emitOne d i.val e.val p (some ((p.a.getD (bits w 26 25) 0 + p.part * p.s.getD (bits w 24 23) 0) % 2 ^ 24)) = .ok f q) ∧
    (∃ (s : State) (i : Fin 288) (e : Fin 3) (x : Fin 8) (w : Nat) (p : PatCtx) (d : Dev) (f : _) (q : _), awake s.dev = true ∧ AtInstr s.dev i.val e.val x.val w ∧ ctxAt (coreAt s.dev i.val) e.val x.val = p ∧ served s.dev i.val e.val x.val = d ∧ bits w 31 27 = 8 ∧ w.testBit 21 = false ∧ p.part + 1 = bits w 12 0 ∧ emitOne d i.val e.val p (some ((p.a.getD (bits w 26 25) 0 + p.part * p.s.getD (bits w 24 23) 0) % 2 ^ 24)) = .ok f q) ∧
    (∃ (s : State) (i : Fin 288) (e : Fin 3) (x : Fin 8) (w : Nat) (p : PatCtx) (d : Dev), awake s.dev = true ∧ AtInstr s.dev i.val e.val x.val w ∧ ctxAt (coreAt s.dev i.val) e.val x.val = p ∧ served s.dev i.val e.val x.val = d ∧ bits w 31 27 = 9 ∧ (p.f ≠ 0 ∨ ringReady (skeinAt (coreAt d i.val) p.skein) e.val = true)) ∧
    (∃ (s : State) (i : Fin 288) (e : Fin 3) (x : Fin 8) (w : Nat) (p : PatCtx) (d : Dev) (f : _) (q : _), awake s.dev = true ∧ AtInstr s.dev i.val e.val x.val w ∧ ctxAt (coreAt s.dev i.val) e.val x.val = p ∧ served s.dev i.val e.val x.val = d ∧ bits w 31 27 = 10 ∧ p.part < bits w 12 0 ∧ emitOne d i.val e.val p none = .ok f q ∧ p.part + 1 < bits w 12 0) ∧
    (∃ (s : State) (i : Fin 288) (e : Fin 3) (x : Fin 8) (w : Nat) (p : PatCtx) (d : Dev) (f : _) (q : _), awake s.dev = true ∧ AtInstr s.dev i.val e.val x.val w ∧ ctxAt (coreAt s.dev i.val) e.val x.val = p ∧ served s.dev i.val e.val x.val = d ∧ bits w 31 27 = 10 ∧ p.part < bits w 12 0 ∧ emitOne d i.val e.val p none = .ok f q ∧ p.part + 1 = bits w 12 0) ∧
    (∃ (s : State) (i : Fin 288) (e : Fin 3) (x : Fin 8) (w : Nat) (p : PatCtx) (d : Dev), awake s.dev = true ∧ AtInstr s.dev i.val e.val x.val w ∧ ctxAt (coreAt s.dev i.val) e.val x.val = p ∧ served s.dev i.val e.val x.val = d ∧ bits w 31 27 = 10 ∧ bits w 12 0 = 0) ∧
    (∃ (s : State) (i : Fin 288) (e : Fin 3) (x : Fin 8) (w : Nat) (p : PatCtx) (d : Dev), awake s.dev = true ∧ AtInstr s.dev i.val e.val x.val w ∧ ctxAt (coreAt s.dev i.val) e.val x.val = p ∧ served s.dev i.val e.val x.val = d ∧ bits w 31 27 = 10 ∧ p.part < bits w 12 0 ∧ p.f ≠ 0 ∧ (skeinAt (coreAt d i.val) p.skein).size ≤ p.f) ∧
    (∃ (d d' : Dev) (i e : Nat) (p q : PatCtx) (a : Option Nat), emitOne d i e p a = .ok d' q) ∧
    (∃ (d : Dev) (i e : Nat) (p : PatCtx), (p.f ≠ 0 ∨ ringReady (skeinAt (coreAt d i) p.skein) e = true) ∧ p.f < (skeinAt (coreAt d i) p.skein).size) :=
  ⟨⟨st (pat0 0 (pw 6 (1 * 2 ^ 25 + 250)) id), 0, 0, 0, pw 6 (1 * 2 ^ 25 + 250), pc0 id, patS (pw 6 (1 * 2 ^ 25 + 250)) id, by and_intros <;> decide +kernel⟩,
   ⟨st (pat0 0 (pw 7 0) id), 0, 0, 0, pw 7 0, pc0 id, patS (pw 7 0) id, emitDev (emitOne (patS (pw 7 0) id) 0 0 (pc0 id) (some 100)), emitCtx (emitOne (patS (pw 7 0) id) 0 0 (pc0 id) (some 100)), by and_intros <;> decide +kernel⟩,
   ⟨st (pat0 0 (pw 7 (1 * 2 ^ 22)) id), 0, 0, 0, pw 7 (1 * 2 ^ 22), pc0 id, patS (pw 7 (1 * 2 ^ 22)) id, emitDev (emitOne (patS (pw 7 (1 * 2 ^ 22)) id) 0 0 (pc0 id) (some 100)), emitCtx (emitOne (patS (pw 7 (1 * 2 ^ 22)) id) 0 0 (pc0 id) (some 100)), by and_intros <;> decide +kernel⟩,
   ⟨st (pat0 2 (pw 7 0) id), 0, 2, 0, pw 7 0, pc0 id, served (pat0 2 (pw 7 0) id) 0 2 0, by and_intros <;> decide +kernel⟩,
   ⟨st (pat0 0 (pw 8 2) id), 0, 0, 0, pw 8 2, pc0 id, patS (pw 8 2) id, emitDev (emitOne (patS (pw 8 2) id) 0 0 (pc0 id) (some 100)), emitCtx (emitOne (patS (pw 8 2) id) 0 0 (pc0 id) (some 100)), by and_intros <;> decide +kernel⟩,
   ⟨st (pat0 0 (pw 8 1) id), 0, 0, 0, pw 8 1, pc0 id, patS (pw 8 1) id, emitDev (emitOne (patS (pw 8 1) id) 0 0 (pc0 id) (some 100)), emitCtx (emitOne (patS (pw 8 1) id) 0 0 (pc0 id) (some 100)), by and_intros <;> decide +kernel⟩,
   ⟨st (pat0 0 (pw 9 0) id), 0, 0, 0, pw 9 0, pc0 id, patS (pw 9 0) id, by and_intros <;> decide +kernel⟩,
   ⟨st (pat0 0 (pw 10 2) id), 0, 0, 0, pw 10 2, pc0 id, patS (pw 10 2) id, emitDev (emitOne (patS (pw 10 2) id) 0 0 (pc0 id) none), emitCtx (emitOne (patS (pw 10 2) id) 0 0 (pc0 id) none), by and_intros <;> decide +kernel⟩,
   ⟨st (pat0 0 (pw 10 1) id), 0, 0, 0, pw 10 1, pc0 id, patS (pw 10 1) id, emitDev (emitOne (patS (pw 10 1) id) 0 0 (pc0 id) none), emitCtx (emitOne (patS (pw 10 1) id) 0 0 (pc0 id) none), by and_intros <;> decide +kernel⟩,
   ⟨st (pat0 0 (pw 10 0) id), 0, 0, 0, pw 10 0, pc0 id, patS (pw 10 0) id, by and_intros <;> decide +kernel⟩,
   ⟨st (pat0 0 (pw 10 4096) (fun p => { p with f := 1 })), 0, 0, 0, pw 10 4096, pc0 (fun p => { p with f := 1 }), patS (pw 10 4096) (fun p => { p with f := 1 }), by and_intros <;> decide +kernel⟩,
   ⟨at0 2 1 0 id, at0 2 1 0 id, 0, 0, pc0 id, { pc0 id with f := 1 }, none, by and_intros <;> decide +kernel⟩,
   ⟨at0 2 1 0 id, 0, 0, pc0 id, by and_intros <;> decide +kernel⟩⟩

/-- States and operands that meet the hypotheses of DmaChain, clause by clause. -/
theorem wit_DmaChain :
    (∃ (s : State) (i : Fin 288) (q : QCmd) (b : List Byte) (d : Dev) (src dst : End), awake s.dev = true ∧ dmaHead s.dev i.val = some q ∧ q.desc = none ∧ isLocal s.dev i.val (dmaBase q.word.toNat + q.k) = true ∧ spadBytesIn s.dev i.val q.slot ((dmaBase q.word.toNat + q.k) * 64) 64 = (.ok b, d) ∧ dmaCrcOk b = true ∧ dmaReserved b = false ∧ kindEnds (dmaDesc b).kind = some (src, dst) ∧ (xferRange d i.val q (dmaDesc b) src dst).or (xferRing d (dmaDesc b)) = none) ∧
    (∃ (s : State) (i : Fin 288) (q : QCmd) (x y : DmaDesc) (d : Dev) (k : Nat) (src dst : End), awake s.dev = true ∧ dmaHead s.dev i.val = some q ∧ q.desc = some x ∧ x.kind = k ∧ x.finished = false ∧ stuckAt s.dev i.val 5 0 = false ∧ kindEnds k = some (src, dst) ∧ xferRun i.val q src dst (x.total + 1) s.dev x = .moved d y ∧ k = 0) ∧
    (∃ (s : State) (i : Fin 288) (q : QCmd) (x y : DmaDesc) (d : Dev) (k : Nat) (src dst : End), awake s.dev = true ∧ dmaHead s.dev i.val = some q ∧ q.desc = some x ∧ x.kind = k ∧ x.finished = false ∧ stuckAt s.dev i.val 5 0 = false ∧ kindEnds k = some (src, dst) ∧ xferRun i.val q src dst (x.total + 1) s.dev x = .moved d y ∧ k = 1) ∧
    (∃ (s : State) (i : Fin 288) (q : QCmd) (x y : DmaDesc) (d : Dev) (k : Nat) (src dst : End), awake s.dev = true ∧ dmaHead s.dev i.val = some q ∧ q.desc = some x ∧ x.kind = k ∧ x.finished = false ∧ stuckAt s.dev i.val 5 0 = false ∧ kindEnds k = some (src, dst) ∧ xferRun i.val q src dst (x.total + 1) s.dev x = .moved d y ∧ k = 2) ∧
    (∃ (s : State) (i : Fin 288) (q : QCmd) (x y : DmaDesc) (d : Dev) (k : Nat) (src dst : End), awake s.dev = true ∧ dmaHead s.dev i.val = some q ∧ q.desc = some x ∧ x.kind = k ∧ x.finished = false ∧ stuckAt s.dev i.val 5 0 = false ∧ kindEnds k = some (src, dst) ∧ xferRun i.val q src dst (x.total + 1) s.dev x = .moved d y ∧ k = 3) ∧
    (∃ (s : State) (i : Fin 288) (q : QCmd) (x y : DmaDesc) (d : Dev) (k : Nat) (src dst : End), awake s.dev = true ∧ dmaHead s.dev i.val = some q ∧ q.desc = some x ∧ x.kind = k ∧ x.finished = false ∧ stuckAt s.dev i.val 5 0 = false ∧ kindEnds k = some (src, dst) ∧ xferRun i.val q src dst (x.total + 1) s.dev x = .moved d y ∧ k = 4) ∧
    (∃ (s : State) (i : Fin 288) (q : QCmd) (x y : DmaDesc) (d : Dev) (k : Nat) (src dst : End), awake s.dev = true ∧ dmaHead s.dev i.val = some q ∧ q.desc = some x ∧ x.kind = k ∧ x.finished = false ∧ stuckAt s.dev i.val 5 0 = false ∧ kindEnds k = some (src, dst) ∧ xferRun i.val q src dst (x.total + 1) s.dev x = .moved d y ∧ k = 5) ∧
    (∃ (s : State) (i : Fin 288) (q : QCmd) (x y : DmaDesc) (d : Dev) (k : Nat) (src dst : End), awake s.dev = true ∧ dmaHead s.dev i.val = some q ∧ q.desc = some x ∧ x.kind = k ∧ x.finished = false ∧ stuckAt s.dev i.val 5 0 = false ∧ kindEnds k = some (src, dst) ∧ xferRun i.val q src dst (x.total + 1) s.dev x = .moved d y ∧ k = 6) ∧
    (∃ (s : State) (i : Fin 288) (q : QCmd) (x : DmaDesc), awake s.dev = true ∧ dmaHead s.dev i.val = some q ∧ q.desc = some x ∧ x.finished = true) ∧
    (∃ (s : State) (i : Fin 288) (q : QCmd) (x : DmaDesc), awake s.dev = true ∧ dmaHead s.dev i.val = some q ∧ q.desc = some x ∧ x.kind ≠ 0) :=
  ⟨⟨st { dma0 none with mem := { spad := memWrite [] 1024 (([2, 0, 0, 0, 1, 0, 0, 0, 0, 4] ++ List.replicate 6 0 ++ [0, 8] ++ List.replicate 6 0 ++ [64] ++ List.replicate 35 0) ++ leBytes 4 (crc32c ([2, 0, 0, 0, 1, 0, 0, 0, 0, 4] ++ List.replicate 6 0 ++ [0, 8] ++ List.replicate 6 0 ++ [64] ++ List.replicate 35 0))) } }, 0, dq none, (([2, 0, 0, 0, 1, 0, 0, 0, 0, 4] ++ List.replicate 6 0 ++ [0, 8] ++ List.replicate 6 0 ++ [64] ++ List.replicate 35 0) ++ leBytes 4 (crc32c ([2, 0, 0, 0, 1, 0, 0, 0, 0, 4] ++ List.replicate 6 0 ++ [0, 8] ++ List.replicate 6 0 ++ [64] ++ List.replicate 35 0))), { dma0 none with mem := { spad := memWrite [] 1024 (([2, 0, 0, 0, 1, 0, 0, 0, 0, 4] ++ List.replicate 6 0 ++ [0, 8] ++ List.replicate 6 0 ++ [64] ++ List.replicate 35 0) ++ leBytes 4 (crc32c ([2, 0, 0, 0, 1, 0, 0, 0, 0, 4] ++ List.replicate 6 0 ++ [0, 8] ++ List.replicate 6 0 ++ [64] ++ List.replicate 35 0))) } }, .spad, .spad, by and_intros <;> decide +kernel⟩,
   ⟨st (dma0 (some (dd 0 274877906944 4096))), 0, dq (some (dd 0 274877906944 4096)), (dd 0 274877906944 4096), xferDesc (xferRun 0 (dq (some (dd 0 274877906944 4096))) .ext .spad 65 (dma0 (some (dd 0 274877906944 4096))) (dd 0 274877906944 4096)), xferDev (xferRun 0 (dq (some (dd 0 274877906944 4096))) .ext .spad 65 (dma0 (some (dd 0 274877906944 4096))) (dd 0 274877906944 4096)), 0, .ext, .spad, by and_intros <;> decide +kernel⟩,
   ⟨st (dma0 (some (dd 1 4096 274877906944))), 0, dq (some (dd 1 4096 274877906944)), (dd 1 4096 274877906944), xferDesc (xferRun 0 (dq (some (dd 1 4096 274877906944))) .spad .ext 65 (dma0 (some (dd 1 4096 274877906944))) (dd 1 4096 274877906944)), xferDev (xferRun 0 (dq (some (dd 1 4096 274877906944))) .spad .ext 65 (dma0 (some (dd 1 4096 274877906944))) (dd 1 4096 274877906944)), 1, .spad, .ext, by and_intros <;> decide +kernel⟩,
   ⟨st (dma0 (some (dd 2 4096 8192))), 0, dq (some (dd 2 4096 8192)), (dd 2 4096 8192), xferDesc (xferRun 0 (dq (some (dd 2 4096 8192))) .spad .spad 65 (dma0 (some (dd 2 4096 8192))) (dd 2 4096 8192)), xferDev (xferRun 0 (dq (some (dd 2 4096 8192))) .spad .spad 65 (dma0 (some (dd 2 4096 8192))) (dd 2 4096 8192)), 2, .spad, .spad, by and_intros <;> decide +kernel⟩,
   ⟨st (dma0 (some (dd 3 274877906944 1))), 0, dq (some (dd 3 274877906944 1)), (dd 3 274877906944 1), xferDesc (xferRun 0 (dq (some (dd 3 274877906944 1))) .ext .skein 65 (dma0 (some (dd 3 274877906944 1))) (dd 3 274877906944 1)), xferDev (xferRun 0 (dq (some (dd 3 274877906944 1))) .ext .skein 65 (dma0 (some (dd 3 274877906944 1))) (dd 3 274877906944 1)), 3, .ext, .skein, by and_intros <;> decide +kernel⟩,
   ⟨st (dma0 (some (dd 4 1 274877906944))), 0, dq (some (dd 4 1 274877906944)), (dd 4 1 274877906944), xferDesc (xferRun 0 (dq (some (dd 4 1 274877906944))) .skein .ext 65 (dma0 (some (dd 4 1 274877906944))) (dd 4 1 274877906944)), xferDev (xferRun 0 (dq (some (dd 4 1 274877906944))) .skein .ext 65 (dma0 (some (dd 4 1 274877906944))) (dd 4 1 274877906944)), 4, .skein, .ext, by and_intros <;> decide +kernel⟩,
   ⟨st (dma0 (some (dd 5 4096 1))), 0, dq (some (dd 5 4096 1)), (dd 5 4096 1), xferDesc (xferRun 0 (dq (some (dd 5 4096 1))) .spad .skein 65 (dma0 (some (dd 5 4096 1))) (dd 5 4096 1)), xferDev (xferRun 0 (dq (some (dd 5 4096 1))) .spad .skein 65 (dma0 (some (dd 5 4096 1))) (dd 5 4096 1)), 5, .spad, .skein, by and_intros <;> decide +kernel⟩,
   ⟨st (dma0 (some (dd 6 1 4096))), 0, dq (some (dd 6 1 4096)), (dd 6 1 4096), xferDesc (xferRun 0 (dq (some (dd 6 1 4096))) .skein .spad 65 (dma0 (some (dd 6 1 4096))) (dd 6 1 4096)), xferDev (xferRun 0 (dq (some (dd 6 1 4096))) .skein .spad 65 (dma0 (some (dd 6 1 4096))) (dd 6 1 4096)), 6, .skein, .spad, by and_intros <;> decide +kernel⟩,
   ⟨st (dma0 (some { dd 6 1 4096 with finished := true })), 0, dq (some { dd 6 1 4096 with finished := true }), { dd 6 1 4096 with finished := true }, by and_intros <;> decide +kernel⟩,
   ⟨st (dma0 (some (dd 1 0 0))), 0, dq (some (dd 1 0 0)), dd 1 0 0, by and_intros <;> decide +kernel⟩⟩

/-- States and operands that meet the hypotheses of LinkTraining, clause by clause. -/
theorem wit_LinkTraining :
    (∃ (s : State) (p : Fin 2) (k : Fin 17), live s.dev = true ∧ s.dev.code ≠ stSleep ∧ (portAt s.dev p.val).st ≠ 0) ∧
    (∃ (s : State) (p : Fin 2), live s.dev = true ∧ s.dev.code ≠ stSleep ∧ (portAt s.dev p.val).st = 1) ∧
    (∃ (s : State) (p : Fin 2), live s.dev = true ∧ (portAt s.dev p.val).st = 1 ∧ (portAt s.dev p.val).sending = 1) ∧
    (∃ (s : State) (p : Fin 2) (k : Fin 17) (ts : List Byte) (skew : Nat), live s.dev = true ∧ tsGood s.dev p.val k.val ts = false) ∧
    (∃ (s : State) (p : Fin 2) (k : Fin 17) (ts : List Byte) (skew : Nat), live s.dev = true ∧ tsGood s.dev p.val k.val ts = true ∧ beAt ts 2 1 = 1) ∧
    (∃ (s : State) (p : Fin 2) (k : Fin 17) (ts : List Byte) (skew m : Nat) (x : Port), live s.dev = true ∧ tsGood s.dev p.val k.val ts = true ∧ beAt ts 2 1 = 2 ∧ portAt (peerFlags (acceptTs s.dev p.val k.val ts skew) p.val ts) p.val = x ∧ beAt ts 16 4 % 2 ^ 17 = m ∧ x.st = 2 ∧ x.rxLocked = true ∧ x.rxMask = 0 ∧ 4 ≤ popMask m ∧ (∀ l < 17, m.testBit l = true → x.held.testBit l = true)) ∧
    (∃ (s : State) (p : Fin 2), live s.dev = true ∧ (portAt s.dev p.val).st = 2 ∧ 4 ≤ popMask (portAt s.dev p.val).held) ∧
    (∃ (s : State) (p : Fin 2), live s.dev = true ∧ (portAt s.dev p.val).st = 2 ∧ (portAt s.dev p.val).attempt < 3) ∧
    (∃ (s : State) (p : Fin 2), live s.dev = true ∧ (portAt s.dev p.val).st = 2 ∧ 3 ≤ (portAt s.dev p.val).attempt) :=
  ⟨⟨st (withPort { st := 1 }), 0, 16, by and_intros <;> decide +kernel⟩,
   ⟨st (withPort { st := 1 }), 0, by and_intros <;> decide +kernel⟩,
   ⟨st (withPort { st := 1, sending := 1 }), 0, by and_intros <;> decide +kernel⟩,
   ⟨st (withPort { st := 2, lanes := lanes5, rxLocked := true }), 0, 0, List.replicate 32 0, 0, by and_intros <;> decide +kernel⟩,
   ⟨st (withPort { st := 2, lanes := lanes5, rxLocked := true }), 0, 0, tset 1 0, 0, by and_intros <;> decide +kernel⟩,
   ⟨st (withPort { st := 2, lanes := lanes5, rxLocked := true }), 0, 0, tset 2 15, 2048, 15, portAt (peerFlags (acceptTs (withPort { st := 2, lanes := lanes5, rxLocked := true }) 0 0 (tset 2 15) 2048) 0 (tset 2 15)) 0, by and_intros <;> decide +kernel⟩,
   ⟨st (withPort { st := 2, lanes := lanes5, rxLocked := true }), 0, by and_intros <;> decide +kernel⟩,
   ⟨st (withPort { st := 2, attempt := 2 }), 0, by and_intros <;> decide +kernel⟩,
   ⟨st (withPort { st := 2, attempt := 3 }), 0, by and_intros <;> decide +kernel⟩⟩

/-- States and operands that meet the hypotheses of LinkLanes, clause by clause. -/
theorem wit_LinkLanes :
    (∃ (s : State) (p : Fin 2) (k : Fin 17) (signal : Bool) (n : Nat), live s.dev = true ∧ (portAt s.dev p.val).st ≠ 0 ∧ (laneAt (portAt s.dev p.val) k.val).lock = true ∧ (laneAt (portAt s.dev p.val) k.val).logical = some n) ∧
    (∃ (s : State) (p : Fin 2) (corr uncorr : List Nat), live s.dev = true ∧ (portAt s.dev p.val).st ≠ 0 ∧ (∀ k < 17, (laneAt (portAt s.dev p.val) k).logical = none)) ∧
    (∃ (s : State) (p : Fin 2) (corr uncorr : List Nat) (k : _) (n : _) (r : _) (x : _), live s.dev = true ∧ (portAt s.dev p.val).st ≠ 0 ∧ k < 17 ∧ (laneAt (portAt s.dev p.val) k).logical = some n ∧ (∀ j < 17, j ≠ k → (laneAt (portAt s.dev p.val) j).logical = none) ∧ r = (if fld s.dev (Reg.LNK_CFG p.val) 7 0 * 1024 < corr.getD n 0 then (laneAt (portAt s.dev p.val) k).degraded + 1 else 0) ∧ x = modLane (satAdd (satAdd s.dev (Reg.LNK_LANE_CORR p.val n) (corr.getD n 0)) (Reg.LNK_LANE_UNCORR p.val n) (uncorr.getD n 0)) p.val k (fun l => { l with degraded := r }) ∧ r < 3) ∧
    (∃ (s : State) (p : Fin 2) (corr uncorr : List Nat) (k : _) (n : _) (r : _) (x : _), live s.dev = true ∧ (portAt s.dev p.val).st ≠ 0 ∧ k < 17 ∧ (laneAt (portAt s.dev p.val) k).logical = some n ∧ (∀ j < 17, j ≠ k → (laneAt (portAt s.dev p.val) j).logical = none) ∧ r = (if fld s.dev (Reg.LNK_CFG p.val) 7 0 * 1024 < corr.getD n 0 then (laneAt (portAt s.dev p.val) k).degraded + 1 else 0) ∧ x = modLane (satAdd (satAdd s.dev (Reg.LNK_LANE_CORR p.val n) (corr.getD n 0)) (Reg.LNK_LANE_UNCORR p.val n) (uncorr.getD n 0)) p.val k (fun l => { l with degraded := r }) ∧ 3 ≤ r ∧ (∀ j < 17, k < j → (laneAt (portAt (retireLane x p.val k 2) p.val) j).logical = none)) ∧
    (∃ (s : State) (p : Fin 2) (n : Fin 17), live s.dev = true ∧ (portAt s.dev p.val).st ≠ 0) ∧
    (∃ (s : State) (p : Fin 2), live s.dev = true ∧ (portAt s.dev p.val).st = 3 ∧ p.val < s.dev.ports.length) ∧
    (∃ (s : State) (p : Fin 2), live s.dev = true ∧ ((portAt s.dev p.val).st = 1 ∨ (portAt s.dev p.val).st = 2)) ∧
    (∃ (s : State) (p : Fin 2) (k : Nat) (x : Port), live s.dev = true ∧ portAt s.dev p.val = x ∧ x.qualify = true ∧ (List.range 17).find? (fun k => decide ((laneAt x k).logical = some 16)) = some k ∧ (laneAt x k).retired = false ∧ (laneAt x k).lock = true ∧ (if x.reqOpen then x.reqMask else x.rxMask).testBit 16 = false) ∧
    (∃ (s : State) (p : Fin 2) (k : Nat) (x : Port) (pass : Bool), live s.dev = true ∧ portAt s.dev p.val = x ∧ x.qualify = true ∧ (List.range 17).find? (fun k => decide ((laneAt x k).logical = some 16)) = some k ∧ ((laneAt x k).retired = true ∨ (laneAt x k).lock = false)) ∧
    (∃ (s : State) (p : Fin 2), live s.dev = true ∧ (portAt s.dev p.val).reqOpen = true) :=
  ⟨⟨st (withPort { st := 3, lanes := List.replicate 16 {} ++ [{ lock := true, logical := some 16, degraded := 0 }] }), 0, 16, false, 16, by and_intros <;> decide +kernel⟩,
   ⟨st (withPort { st := 3 }), 0, [], [], by and_intros <;> decide +kernel⟩,
   ⟨st (withPort { st := 3, lanes := List.replicate 16 {} ++ [{ lock := true, logical := some 16, degraded := 2 }] }), 0, List.replicate 17 0, List.replicate 17 1, 16, 16, 0, modLane (satAdd (satAdd (withPort { st := 3, lanes := List.replicate 16 {} ++ [{ lock := true, logical := some 16, degraded := 2 }] }) (Reg.LNK_LANE_CORR 0 16) 0) (Reg.LNK_LANE_UNCORR 0 16) 1) 0 16 (fun l => { l with degraded := 0 }), by and_intros <;> decide +kernel⟩,
   ⟨st (withPort { st := 3, lanes := List.replicate 16 {} ++ [{ lock := true, logical := some 16, degraded := 2 }] }), 0, List.replicate 17 1, List.replicate 17 1, 16, 16, 3, modLane (satAdd (satAdd (withPort { st := 3, lanes := List.replicate 16 {} ++ [{ lock := true, logical := some 16, degraded := 2 }] }) (Reg.LNK_LANE_CORR 0 16) 1) (Reg.LNK_LANE_UNCORR 0 16) 1) 0 16 (fun l => { l with degraded := 3 }), by and_intros <;> decide +kernel⟩,
   ⟨st (withPort { st := 4 }), 0, 16, by and_intros <;> decide +kernel⟩,
   ⟨st (withPort { st := 3 }), 0, by and_intros <;> decide +kernel⟩,
   ⟨st (withPort { st := 2, lanes := lanes5 }), 0, by and_intros <;> decide +kernel⟩,
   ⟨st (withPort { st := 3, qualify := true, rxMask := 0xFFFF, lanes := List.replicate 16 {} ++ [{ logical := some 16, lock := true }] }), 0, 16, { st := 3, qualify := true, rxMask := 0xFFFF, lanes := List.replicate 16 {} ++ [{ logical := some 16, lock := true }] }, by and_intros <;> decide +kernel⟩,
   ⟨st (withPort { st := 3, qualify := true, rxMask := 0xFFFF, lanes := List.replicate 16 {} ++ [{ logical := some 16, lock := true, retired := true }] }), 0, 16, { st := 3, qualify := true, rxMask := 0xFFFF, lanes := List.replicate 16 {} ++ [{ logical := some 16, lock := true, retired := true }] }, true, by and_intros <;> decide +kernel⟩,
   ⟨st (withPort { reqOpen := true }), 0, by and_intros <;> decide +kernel⟩⟩

/-- States and operands that meet the hypotheses of LinkFlits, clause by clause. -/
theorem wit_LinkFlits :
    (∃ (s : State) (p : Fin 2) (x : Port), live s.dev = true ∧ portAt s.dev p.val = x ∧ p.val < s.dev.ports.length ∧ x.st = 3 ∧ x.sending = 4 ∧ x.txMask ≠ 0 ∧ x.replayAt = none ∧ x.replay.length < 2048 ∧ 1023 ≤ x.idleGap) ∧
    (∃ (s : State) (p : Fin 2) (x : Port) (hanks : _), live s.dev = true ∧ portAt s.dev p.val = x ∧ p.val < s.dev.ports.length ∧ x.st = 3 ∧ x.sending = 4 ∧ x.txMask ≠ 0 ∧ x.replayAt = none ∧ x.replay.length < 2048 ∧ x.idleGap < 1023 ∧ x.widthDue = none ∧ x.reqDue = false ∧ x.nakDue = false ∧ (portClosed s.dev p.val && !(if p.val = 0 then s.dev.ring.loopW else s.dev.ring.loopE)) = hanks ∧ nextNew (portClosed s.dev p.val) hanks x = none) ∧
    (∃ (s : State) (p : Fin 2) (x : Port) (hanks : _) (f : _) (y : _), live s.dev = true ∧ portAt s.dev p.val = x ∧ p.val < s.dev.ports.length ∧ x.st = 3 ∧ x.sending = 4 ∧ x.txMask ≠ 0 ∧ x.replayAt = none ∧ x.replay.length < 2048 ∧ x.idleGap < 1023 ∧ x.widthDue = none ∧ x.reqDue = false ∧ x.nakDue = false ∧ (portClosed s.dev p.val && !(if p.val = 0 then s.dev.ring.loopW else s.dev.ring.loopE)) = hanks ∧ nextNew (portClosed s.dev p.val) hanks x = some (f, y) ∧ f.typ ≠ 0) ∧
    (∃ (s : State) (p : Fin 2) (x : Port) (hanks : _) (b : _) (r : _), live s.dev = true ∧ portAt s.dev p.val = x ∧ p.val < s.dev.ports.length ∧ x.st = 3 ∧ x.sending = 4 ∧ x.txMask ≠ 0 ∧ x.replayAt = none ∧ x.replay.length < 2048 ∧ x.idleGap < 1023 ∧ x.widthDue = none ∧ x.reqDue = false ∧ x.nakDue = false ∧ (portClosed s.dev p.val && !(if p.val = 0 then s.dev.ring.loopW else s.dev.ring.loopE)) = hanks ∧ portClosed s.dev p.val = true ∧ x.bar = b :: r) ∧
    (∃ (s : State) (p : Fin 2) (x : Port), live s.dev = true ∧ portAt s.dev p.val = x ∧ x.st = 4 ∧ x.downDue ≠ 0 ∧ 1023 ≤ x.idleGap) ∧
    (∃ (s : State) (p : Fin 2) (x : Port), live s.dev = true ∧ portAt s.dev p.val = x ∧ x.st = 4 ∧ x.downDue ≠ 0 ∧ x.idleGap < 1023) ∧
    (∃ (s : State) (p : Fin 2) (f : List Byte) (x : Port), live s.dev = true ∧ portAt s.dev p.val = x ∧ x.st = 3 ∧ x.rxMask ≠ 0 ∧ x.discarding = false ∧ (f.length ≠ 272 ∨ beAt f 268 4 ≠ crc32c (f.take 268))) ∧
    (∃ (s : State) (p : Fin 2) (f : List Byte) (x : Port), live s.dev = true ∧ portAt s.dev p.val = x ∧ x.st = 3 ∧ x.rxMask ≠ 0 ∧ x.discarding = false ∧ f.length = 272 ∧ beAt f 268 4 = crc32c (f.take 268) ∧ (beAt f 266 1).testBit 7 = false ∧ beAt f 0 1 < 0x10 ∧ flitReserved { x with rxUp := true } f = false ∧ p.val < s.dev.ports.length) ∧
    (∃ (s : State) (p : Fin 2) (q : Nat) (info : List Byte) (d : Dev), live s.dev = true ∧ takeCtl s.dev p.val 0 = some (q, info, d)) ∧
    (∃ (s : State) (p : Fin 2) (q : Nat) (info : List Byte) (d : Dev), live s.dev = true ∧ takeCtl s.dev p.val 1 = some (q, info, d)) ∧
    (∃ (s : State) (p : Fin 2) (q : Nat) (info : List Byte) (d : Dev), live s.dev = true ∧ takeCtl s.dev p.val 2 = some (q, info, d) ∧ ((beAt info 3 1 + 256 - (portAt d p.val).served) % 256 = 0 ∨ 128 ≤ (beAt info 3 1 + 256 - (portAt d p.val).served) % 256)) ∧
    (∃ (s : State) (p : Fin 2) (q : Nat) (info : List Byte) (d : Dev) (x : _) (e : _), live s.dev = true ∧ takeCtl s.dev p.val 2 = some (q, info, d) ∧ 0 < (beAt info 3 1 + 256 - (portAt d p.val).served) % 256 ∧ (beAt info 3 1 + 256 - (portAt d p.val).served) % 256 < 128 ∧ (if 1023 ≤ (portAt d p.val).idleGap then putFlit d p.val 0 0 0 [] [] else d) = e ∧ portAt e p.val = x) ∧
    (∃ (s : State) (p : Fin 2) (q : Nat) (info : List Byte) (d : Dev) (x : _), live s.dev = true ∧ takeCtl s.dev p.val 3 = some (q, info, d) ∧ portAt d p.val = x ∧ x.reqOpen = true ∧ beAt info 3 1 = x.reqId ∧ beAt info 0 3 = x.reqMask) ∧
    (∃ (s : State) (p : Fin 2) (q : Nat) (info : List Byte) (d : Dev), live s.dev = true ∧ takeCtl s.dev p.val 4 = some (q, info, d) ∧ (portAt d p.val).st ≠ 4) ∧
    (∃ (s : State) (p : Fin 2) (q : Nat) (info : List Byte) (d : Dev), live s.dev = true ∧ takeCtl s.dev p.val 4 = some (q, info, d) ∧ (portAt d p.val).st = 4) ∧
    (∃ (s : State) (p : Fin 2), live s.dev = true ∧ ((portAt s.dev p.val).st = 2 ∨ (portAt s.dev p.val).st = 3) ∧ (portAt s.dev p.val).nakSent = true) :=
  ⟨⟨st (withPort (flitPort 1023)), 0, flitPort 1023, by and_intros <;> decide +kernel⟩,
   ⟨st (withPort (flitPort 1022)), 0, (flitPort 1022), false, by and_intros <;> decide +kernel⟩,
   ⟨st (withPort ({ flitPort 1022 with ident := [[7]] })), 0, { flitPort 1022 with ident := [[7]] }, false, ⟨0x14, 0, [], [7]⟩, flitPort 1022, by and_intros <;> decide +kernel⟩,
   ⟨st ({ withPort ({ flitPort 1022 with bar := [[1]] }) with ring := { nbr := [closedNbr, {}] } }), 0, { flitPort 1022 with bar := [[1]] }, true, [1], [], by and_intros <;> decide +kernel⟩,
   ⟨st (withPort { st := 4, downDue := 1, idleGap := 1023 }), 0, { st := 4, downDue := 1, idleGap := 1023 }, by and_intros <;> decide +kernel⟩,
   ⟨st (withPort { st := 4, downDue := 8, idleGap := 1022 }), 0, { st := 4, downDue := 8, idleGap := 1022 }, by and_intros <;> decide +kernel⟩,
   ⟨st (withPort { st := 3, rxMask := 15 }), 0, List.replicate 271 0, { st := 3, rxMask := 15 }, by and_intros <;> decide +kernel⟩,
   ⟨st (withPort { st := 3, rxMask := 15 }), 0, downFlit, { st := 3, rxMask := 15 }, by rw [downFlit_crc]; and_intros <;> decide +kernel⟩,
   ⟨st (ctlDev 0 [] {}), 0, 0xFFFF, [], modPort (ctlDev 0 [] {}) 0 (fun x => { x with ctl := [] }), by and_intros <;> decide +kernel⟩,
   ⟨st (ctlDev 1 [0, 0, 0, 0] {}), 0, 0xFFFF, [0, 0, 0, 0], modPort (ctlDev 1 [0, 0, 0, 0] {}) 0 (fun x => { x with ctl := [] }), by and_intros <;> decide +kernel⟩,
   ⟨st (ctlDev 2 [0, 0, 15, 128] {}), 0, 0xFFFF, [0, 0, 15, 128], modPort (ctlDev 2 [0, 0, 15, 128] {}) 0 (fun x => { x with ctl := [] }), by and_intros <;> decide +kernel⟩,
   by refine ⟨st (ctlDev 2 [0, 0, 15, 127] { idleGap := 1023 }), 0, 0xFFFF, [0, 0, 15, 127], modPort (ctlDev 2 [0, 0, 15, 127] { idleGap := 1023 }) 0 (fun x => { x with ctl := [] }), ?e11, ?x11, ?goal11⟩; case goal11 => and_intros <;> first | decide +kernel | rfl,
   ⟨st (ctlDev 3 [0, 0, 15, 1] { reqOpen := true, reqId := 1, reqMask := 15 }), 0, 0xFFFF, [0, 0, 15, 1], modPort (ctlDev 3 [0, 0, 15, 1] { reqOpen := true, reqId := 1, reqMask := 15 }) 0 (fun x => { x with ctl := [] }), { reqOpen := true, reqId := 1, reqMask := 15 }, by and_intros <;> decide +kernel⟩,
   ⟨st (ctlDev 4 [7, 0, 0, 0] { st := 3 }), 0, 0xFFFF, [7, 0, 0, 0], modPort (ctlDev 4 [7, 0, 0, 0] { st := 3 }) 0 (fun x => { x with ctl := [] }), by and_intros <;> decide +kernel⟩,
   ⟨st (ctlDev 4 [7, 0, 0, 0] { st := 4 }), 0, 0xFFFF, [7, 0, 0, 0], modPort (ctlDev 4 [7, 0, 0, 0] { st := 4 }) 0 (fun x => { x with ctl := [] }), by and_intros <;> decide +kernel⟩,
   ⟨st (withPort { st := 2, nakSent := true }), 0, by and_intros <;> decide +kernel⟩⟩

/-- States and operands that meet the hypotheses of LinkWindow, clause by clause. -/
theorem wit_LinkWindow :
    (∃ (d : Dev) (p a k : Nat) (x : Port), portAt d p = x ∧ p < d.ports.length ∧ x.oldest < 65536 ∧ a < 65536 ∧ k = (a + 65536 - x.oldest) % 65536 ∧ k < x.replay.length ∧ x.replay.length ≤ 2048) ∧
    (∃ (d : Dev) (p a k : Nat) (x : Port), portAt d p = x ∧ p < d.ports.length ∧ x.oldest < 65536 ∧ a < 65536 ∧ k = (a + 65536 - x.oldest) % 65536 ∧ x.replay.length ≤ k) ∧
    (∃ (d : Dev) (p : Nat) (f : List Byte) (x : Port), portAt d p = x ∧ p < d.ports.length ∧ x.expected < 65536 ∧ x.nakSent = false ∧ beAt f 2 2 = x.expected) ∧
    (∃ (d : Dev) (p : Nat) (f : List Byte) (x : Port), portAt d p = x ∧ p < d.ports.length ∧ x.expected < 65536 ∧ x.nakSent = false ∧ 0 < (beAt f 2 2 + 65536 - x.expected) % 65536 ∧ (beAt f 2 2 + 65536 - x.expected) % 65536 < 2048) :=
  ⟨⟨withPort { oldest := 65535, replay := List.replicate 2 ⟨0x11, 0, [], []⟩ }, 0, 0, 1, { oldest := 65535, replay := List.replicate 2 ⟨0x11, 0, [], []⟩ }, by and_intros <;> decide +kernel⟩,
   ⟨withPort { oldest := 65535, replay := List.replicate 2 ⟨0x11, 0, [], []⟩ }, 0, 1, 2, { oldest := 65535, replay := List.replicate 2 ⟨0x11, 0, [], []⟩ }, by and_intros <;> decide +kernel⟩,
   ⟨withPort { expected := 65535 }, 0, flit 0x11 65535 [0, 0, 0, 0], { expected := 65535 }, by and_intros <;> decide +kernel⟩,
   ⟨withPort { expected := 65535 }, 0, flit 0x11 2046 [0, 0, 0, 0], { expected := 65535 }, by and_intros <;> decide +kernel⟩⟩

/-- States and operands that meet the hypotheses of RingArrivals, clause by clause. -/
theorem wit_RingArrivals :
    (∃ (s : State) (p : Fin 2) (overflow : Bool) (ps : List HankPart) (r : List (List HankPart)), live s.dev = true ∧ (portAt s.dev p.val).hanks = ps :: r ∧ s.dev.ring.mode = 0) ∧
    (∃ (s : State) (p : Fin 2) (overflow : Bool) (ps : List HankPart) (r : List (List HankPart)) (d d1 : Dev) (h body : List Byte) (m index lap o : Nat) (im which : Image), live s.dev = true ∧ (portAt s.dev p.val).hanks = ps :: r ∧ s.dev.ring.mode = 1 ∧ cntInc (modPort s.dev p.val (fun x => { x with hanks := r })) (Reg.LAP_CNT_LO 0) = d ∧ headerOfParts ps = h ∧ (ps.map (fun q => q.data)).flatten = body ∧ headerGood ps h = true ∧ (beAt h 1 1).testBit 1 = false ∧ m = beAt h 0 1 ∧ index = beAt h 12 4 ∧ lap = beAt h 16 4 ∧ hankImage d m (beAt h 4 4) lap = some im ∧ bodyCrc im.gen { layer := beAt h 8 2, hank := beAt h 10 2, crc := 0 } index body = beAt h 20 4 ∧ ((modelAt d m).imageOf lap).orElse (fun _ => (modelAt d m).active) = some which ∧ index % 2 = p.val ∧ passHank (mirrorTake d which index body) true lap m index (some body) = d1 ∧ o = (if index < which.hanks.length then launcherOf d1 (originOf (max 1 (ringSize d1)) (index % 2) (blockNo (positions which) (max 1 (ringSize d1)) (index / 2))) else 256)) ∧
    (∃ (s : State) (p : Fin 2) (overflow : Bool) (ps : List HankPart) (r : List (List HankPart)) (d : Dev) (h : List Byte), live s.dev = true ∧ (portAt s.dev p.val).hanks = ps :: r ∧ s.dev.ring.mode = 1 ∧ headerOfParts ps = h ∧ headerGood ps h = false ∧ evt (cntInc (cntInc (modPort s.dev p.val (fun x => { x with hanks := r })) (Reg.LAP_CNT_LO 0)) (Reg.LAP_CNT_LO 1)) Reg.LAP_EVT 1 = d ∧ identify d p.val false h = none) ∧
    (∃ (s : State) (p : Fin 2) (b : List Byte) (d : Dev) (t : Token), live s.dev = true ∧ takeSeq s.dev p.val 0x11 = some (b, d) ∧ tokenOf b = some t) ∧
    (∃ (s : State) (p : Fin 2) (b : List Byte) (d : Dev) (t : Token), live s.dev = true ∧ takeSeq s.dev p.val 0x11 = some (b, d) ∧ tokenOf b = none) ∧
    (∃ (s : State) (p : Fin 2) (b : List Byte) (d : Dev), live s.dev = true ∧ takeSeq s.dev p.val 0x12 = some (b, d) ∧ msgReserved b = false ∧ beAt b 2 1 = stationNo d ∧ beAt b 2 1 ≠ 0xFF) ∧
    (∃ (s : State) (p : Fin 2) (b : List Byte) (d : Dev), live s.dev = true ∧ takeRx s.dev p.val 0x13 = some (b, d) ∧ twinMode d p.val = false) ∧
    (∃ (s : State) (p : Fin 2) (b : List Byte) (d : Dev) (e : _), live s.dev = true ∧ takeRx s.dev p.val 0x13 = some (b, d) ∧ twinMode d p.val = true ∧ beAt b 0 2 = 1 ∧ e = { twinEntryOf (slice b 8 22) with time := d.now } ∧ twinWanted (twinCnt d 1 1) p.val e = true) ∧
    (∃ (s : State) (p : Fin 2) (b : List Byte) (d : Dev) (e : _), live s.dev = true ∧ takeRx s.dev p.val 0x13 = some (b, d) ∧ twinMode d p.val = true ∧ beAt b 0 2 = 1 ∧ e = { twinEntryOf (slice b 8 22) with time := d.now } ∧ twinWanted (twinCnt d 1 1) p.val e = false) ∧
    (∃ (s : State) (p : Fin 2), live s.dev = true ∧ (portAt s.dev p.val).st = 3) ∧
    (∃ (s : State) (p : Fin 2) (b : List Byte) (d : Dev), live s.dev = true ∧ takeSeq s.dev p.val 0x14 = some (b, d) ∧ identCheck d p.val b = 0 ∧ twinPartner d = none ∧ portClosed d p.val = false ∧ d.ring.loopW = false ∧ d.ring.loopE = false) ∧
    (∃ (s : State) (m : RingMsg) (d : Dev), live s.dev = true ∧ popMsg s.dev 1 = some (m, d) ∧ (modelAt d (beAt m.body 0 1)).active = none) ∧
    (∃ (s : State) (m : RingMsg) (d d1 : Dev) (im : Image) (o : Nat), live s.dev = true ∧ popMsg s.dev 1 = some (m, d) ∧ (modelAt d (beAt m.body 0 1)).active = some im ∧ im.ringed = true ∧ beAt m.body 1 4 < im.hanks.length ∧ originOf (max 1 (ringSize d)) (beAt m.body 1 4 % 2) (blockNo (positions im) (max 1 (ringSize d)) (beAt m.body 1 4 / 2)) = o ∧ launcherOf d o = stationNo d ∧ cntInc d (Reg.LAP_CNT_LO 4) = d1 ∧ d1.ring.checked.contains (beAt m.body 0 1, beAt m.body 1 4, beAt m.body 5 3) = true) ∧
    (∃ (s : State) (m : RingMsg) (d d1 : Dev) (im : Image) (o : Nat), live s.dev = true ∧ popMsg s.dev 1 = some (m, d) ∧ (modelAt d (beAt m.body 0 1)).active = some im ∧ im.ringed = true ∧ beAt m.body 1 4 < im.hanks.length ∧ originOf (max 1 (ringSize d)) (beAt m.body 1 4 % 2) (blockNo (positions im) (max 1 (ringSize d)) (beAt m.body 1 4 / 2)) = o ∧ launcherOf d o = stationNo d ∧ cntInc d (Reg.LAP_CNT_LO 4) = d1 ∧ d1.ring.checked.contains (beAt m.body 0 1, beAt m.body 1 4, beAt m.body 5 3) = false ∧ o ≠ stationNo d1) ∧
    (∃ (s : State) (m : RingMsg) (d d1 : Dev) (im : Image) (o : Nat) (d2 d3 d4 : Dev) (e : StoreEnt) (b : Option (List Byte)) (g : List Byte), live s.dev = true ∧ popMsg s.dev 1 = some (m, d) ∧ (modelAt d (beAt m.body 0 1)).active = some im ∧ im.ringed = true ∧ beAt m.body 1 4 < im.hanks.length ∧ originOf (max 1 (ringSize d)) (beAt m.body 1 4 % 2) (blockNo (positions im) (max 1 (ringSize d)) (beAt m.body 1 4 / 2)) = o ∧ launcherOf d o = stationNo d ∧ cntInc d (Reg.LAP_CNT_LO 4) = d1 ∧ d1.ring.checked.contains (beAt m.body 0 1, beAt m.body 1 4, beAt m.body 5 3) = false ∧ o = stationNo d1 ∧ { d1 with ring := { d1.ring with checked := d1.ring.checked ++ [(beAt m.body 0 1, beAt m.body 1 4, beAt m.body 5 3)] } } = d2 ∧ storeAt d2 (beAt m.body 0 1) im.gen (beAt m.body 1 4) = some e ∧ readPlace d2 e.canon e.place = (b, d3) ∧ b.any (fun b => bodyGood im (beAt m.body 1 4) b) = false ∧ goldenHank d3 im (beAt m.body 1 4) = (some g, d4)) ∧
    (∃ (s : State) (m : RingMsg) (d d' : Dev) (im : Image) (b : List Byte), live s.dev = true ∧ popMsg s.dev 2 = some (m, d) ∧ portClosed d 0 = true ∧ d.ring.loopW = false ∧ (modelAt d (beAt m.body 0 1)).imageOf d.ring.rlap = some im ∧ mirrorHank d im (beAt m.body 1 4) = (some b, d')) ∧
    (∃ (s : State) (m : RingMsg) (d : Dev), live s.dev = true ∧ popMsg s.dev 3 = some (m, d) ∧ d.ring.mode ≠ 0 ∧ beAt m.body 0 1 = 0 ∧ (d.ring.mode = 1 ∨ d.ring.noticeW ≠ some m.src)) ∧
    (∃ (s : State) (m : RingMsg) (d : Dev), live s.dev = true ∧ popMsg s.dev 3 = some (m, d) ∧ d.ring.mode ≠ 0 ∧ beAt m.body 0 1 = 0 ∧ d.ring.mode ≠ 1 ∧ d.ring.noticeW = some m.src) ∧
    (∃ (s : State) (m : RingMsg) (d : Dev), live s.dev = true ∧ popMsg s.dev 3 = some (m, d) ∧ d.ring.mode ≠ 0 ∧ beAt m.body 0 1 ≠ 0 ∧ (d.ring.mode = 1 ∨ d.ring.noticeE ≠ some m.src)) ∧
    (∃ (s : State) (m : RingMsg) (d : Dev), live s.dev = true ∧ popMsg s.dev 4 = some (m, d) ∧ isLeader d = true ∧ beAt m.body 0 1 ≠ 1) :=
  ⟨⟨st (withPort { hanks := [[]] }), 0, true, [], [], by and_intros <;> decide +kernel⟩,
   by refine ⟨st (hankDev img1 (partsOf hankHead)), 0, true, partsOf hankHead, [], hankTaken img1 (partsOf hankHead), passHank (mirrorTake (hankTaken img1 (partsOf hankHead)) img1 0 []) true 3 1 0 (some []), hankHead, [], 1, 0, 3, ?o1, img1, img1, ?goal1⟩; case goal1 => and_intros <;> first | decide +kernel | rfl,
   ⟨st { hankDev img1 badParts with model := [] }, 0, false, badParts, [], evt (cntInc { hankTaken img1 badParts with model := [] } (Reg.LAP_CNT_LO 1)) Reg.LAP_EVT 1, List.replicate 32 0, by and_intros <;> decide +kernel⟩,
   ⟨st (rxDev 0x11 ([1, 1, 0, 63] ++ List.replicate 252 0) (dev0)), 0, ([1, 1, 0, 63] ++ List.replicate 252 0), modPort (rxDev 0x11 ([1, 1, 0, 63] ++ List.replicate 252 0) (dev0)) 0 (fun x => { x with rx := [] }), (tokenOf ([1, 1, 0, 63] ++ List.replicate 252 0)).getD { kind := 0 }, by and_intros <;> decide +kernel⟩,
   ⟨st (rxDev 0x11 (List.replicate 256 0) (dev0)), 0, (List.replicate 256 0), modPort (rxDev 0x11 (List.replicate 256 0) (dev0)) 0 (fun x => { x with rx := [] }), { kind := 0 }, by and_intros <;> decide +kernel⟩,
   ⟨st (rxDev 0x12 ([1, 63, 63, 1, 0, 0, 0, 0, 1] ++ List.replicate 247 0) (station 64 63 dev0)), 0, ([1, 63, 63, 1, 0, 0, 0, 0, 1] ++ List.replicate 247 0), modPort (rxDev 0x12 ([1, 63, 63, 1, 0, 0, 0, 0, 1] ++ List.replicate 247 0) (station 64 63 dev0)) 0 (fun x => { x with rx := [] }), by and_intros <;> decide +kernel⟩,
   ⟨st (rxDev 0x13 twinBody (station 4 0 dev0)), 0, twinBody, modPort (rxDev 0x13 twinBody (station 4 0 dev0)) 0 (fun x => { x with rx := [] }), by and_intros <;> decide +kernel⟩,
   ⟨st (rxDev 0x13 twinBody (twinDev true)), 0, twinBody, modPort (rxDev 0x13 twinBody (twinDev true)) 0 (fun x => { x with rx := [] }), { twinEntryOf (slice twinBody 8 22) with time := 0 }, by and_intros <;> decide +kernel⟩,
   ⟨st (rxDev 0x13 twinBody (twinDev false)), 0, twinBody, modPort (rxDev 0x13 twinBody (twinDev false)) 0 (fun x => { x with rx := [] }), { twinEntryOf (slice twinBody 8 22) with time := 0 }, by and_intros <;> decide +kernel⟩,
   ⟨st (withPort { st := 3 }), 0, by and_intros <;> decide +kernel⟩,
   ⟨st ({ station 4 0 dev0 with ports := [{}, { st := 3, rx := [(0x14, (identBytes (station 4 1 dev0) 0))] }] }), 1, (identBytes (station 4 1 dev0) 0), modPort ({ station 4 0 dev0 with ports := [{}, { st := 3, rx := [(0x14, (identBytes (station 4 1 dev0) 0))] }] }) 1 (fun x => { x with rx := [] }), by and_intros <;> decide +kernel⟩,
   ⟨st (msgDev (rmsg 1 ([1] ++ beBytes 4 2 ++ [0, 0, 3])) (id) (dev0)), (rmsg 1 ([1] ++ beBytes 4 2 ++ [0, 0, 3])), { (msgDev (rmsg 1 ([1] ++ beBytes 4 2 ++ [0, 0, 3])) (id) (dev0)) with ring := { (msgDev (rmsg 1 ([1] ++ beBytes 4 2 ++ [0, 0, 3])) (id) (dev0)).ring with msgs := [] } }, by and_intros <;> decide +kernel⟩,
   ⟨st (msgDev (rmsg 1 ([1] ++ beBytes 4 2 ++ [0, 0, 3])) (fun r => { r with checked := [(1, 2, 3)], noticeW := some 2, noticeE := some 0, mode := 2 }) (station 4 2 (withModel { active := some img8 } dev0))), (rmsg 1 ([1] ++ beBytes 4 2 ++ [0, 0, 3])), { (msgDev (rmsg 1 ([1] ++ beBytes 4 2 ++ [0, 0, 3])) (fun r => { r with checked := [(1, 2, 3)], noticeW := some 2, noticeE := some 0, mode := 2 }) (station 4 2 (withModel { active := some img8 } dev0))) with ring := { (msgDev (rmsg 1 ([1] ++ beBytes 4 2 ++ [0, 0, 3])) (fun r => { r with checked := [(1, 2, 3)], noticeW := some 2, noticeE := some 0, mode := 2 }) (station 4 2 (withModel { active := some img8 } dev0))).ring with msgs := [] } }, cntInc { (msgDev (rmsg 1 ([1] ++ beBytes 4 2 ++ [0, 0, 3])) (fun r => { r with checked := [(1, 2, 3)], noticeW := some 2, noticeE := some 0, mode := 2 }) (station 4 2 (withModel { active := some img8 } dev0))) with ring := { (msgDev (rmsg 1 ([1] ++ beBytes 4 2 ++ [0, 0, 3])) (fun r => { r with checked := [(1, 2, 3)], noticeW := some 2, noticeE := some 0, mode := 2 }) (station 4 2 (withModel { active := some img8 } dev0))).ring with msgs := [] } } (Reg.LAP_CNT_LO 4), img8, 1, by and_intros <;> decide +kernel⟩,
   ⟨st (msgDev (rmsg 1 ([1] ++ beBytes 4 2 ++ [0, 0, 3])) (fun r => { r with mode := 2, noticeW := some 2, noticeE := some 0 }) (station 4 2 (withModel { active := some img8 } dev0))), (rmsg 1 ([1] ++ beBytes 4 2 ++ [0, 0, 3])), { (msgDev (rmsg 1 ([1] ++ beBytes 4 2 ++ [0, 0, 3])) (fun r => { r with mode := 2, noticeW := some 2, noticeE := some 0 }) (station 4 2 (withModel { active := some img8 } dev0))) with ring := { (msgDev (rmsg 1 ([1] ++ beBytes 4 2 ++ [0, 0, 3])) (fun r => { r with mode := 2, noticeW := some 2, noticeE := some 0 }) (station 4 2 (withModel { active := some img8 } dev0))).ring with msgs := [] } }, cntInc { (msgDev (rmsg 1 ([1] ++ beBytes 4 2 ++ [0, 0, 3])) (fun r => { r with mode := 2, noticeW := some 2, noticeE := some 0 }) (station 4 2 (withModel { active := some img8 } dev0))) with ring := { (msgDev (rmsg 1 ([1] ++ beBytes 4 2 ++ [0, 0, 3])) (fun r => { r with mode := 2, noticeW := some 2, noticeE := some 0 }) (station 4 2 (withModel { active := some img8 } dev0))).ring with msgs := [] } } (Reg.LAP_CNT_LO 4), img8, 1, by and_intros <;> decide +kernel⟩,
   ⟨st (msgDev (rmsg 1 ([1] ++ beBytes 4 0 ++ [0, 0, 3])) (fun r => { r with store := [{ model := 1, gen := 0, index := 0, canon := 256, place := 0 }] }) (station 1 0 { withModel { active := some img1 } dev0 with xmem := { copies := [{ model := 1, gen := 0, kind := 2, stack := 0, hanks := [0], granules := [] }, { model := 1, gen := 0, kind := 4, stack := 0, hanks := [0], granules := [] }] } })), (rmsg 1 ([1] ++ beBytes 4 0 ++ [0, 0, 3])), { (msgDev (rmsg 1 ([1] ++ beBytes 4 0 ++ [0, 0, 3])) (fun r => { r with store := [{ model := 1, gen := 0, index := 0, canon := 256, place := 0 }] }) (station 1 0 { withModel { active := some img1 } dev0 with xmem := { copies := [{ model := 1, gen := 0, kind := 2, stack := 0, hanks := [0], granules := [] }, { model := 1, gen := 0, kind := 4, stack := 0, hanks := [0], granules := [] }] } })) with ring := { (msgDev (rmsg 1 ([1] ++ beBytes 4 0 ++ [0, 0, 3])) (fun r => { r with store := [{ model := 1, gen := 0, index := 0, canon := 256, place := 0 }] }) (station 1 0 { withModel { active := some img1 } dev0 with xmem := { copies := [{ model := 1, gen := 0, kind := 2, stack := 0, hanks := [0], granules := [] }, { model := 1, gen := 0, kind := 4, stack := 0, hanks := [0], granules := [] }] } })).ring with msgs := [] } }, cntInc { (msgDev (rmsg 1 ([1] ++ beBytes 4 0 ++ [0, 0, 3])) (fun r => { r with store := [{ model := 1, gen := 0, index := 0, canon := 256, place := 0 }] }) (station 1 0 { withModel { active := some img1 } dev0 with xmem := { copies := [{ model := 1, gen := 0, kind := 2, stack := 0, hanks := [0], granules := [] }, { model := 1, gen := 0, kind := 4, stack := 0, hanks := [0], granules := [] }] } })) with ring := { (msgDev (rmsg 1 ([1] ++ beBytes 4 0 ++ [0, 0, 3])) (fun r => { r with store := [{ model := 1, gen := 0, index := 0, canon := 256, place := 0 }] }) (station 1 0 { withModel { active := some img1 } dev0 with xmem := { copies := [{ model := 1, gen := 0, kind := 2, stack := 0, hanks := [0], granules := [] }, { model := 1, gen := 0, kind := 4, stack := 0, hanks := [0], granules := [] }] } })).ring with msgs := [] } } (Reg.LAP_CNT_LO 4), img1, 0, { cntInc { (msgDev (rmsg 1 ([1] ++ beBytes 4 0 ++ [0, 0, 3])) (fun r => { r with store := [{ model := 1, gen := 0, index := 0, canon := 256, place := 0 }] }) (station 1 0 { withModel { active := some img1 } dev0 with xmem := { copies := [{ model := 1, gen := 0, kind := 2, stack := 0, hanks := [0], granules := [] }, { model := 1, gen := 0, kind := 4, stack := 0, hanks := [0], granules := [] }] } })) with ring := { (msgDev (rmsg 1 ([1] ++ beBytes 4 0 ++ [0, 0, 3])) (fun r => { r with store := [{ model := 1, gen := 0, index := 0, canon := 256, place := 0 }] }) (station 1 0 { withModel { active := some img1 } dev0 with xmem := { copies := [{ model := 1, gen := 0, kind := 2, stack := 0, hanks := [0], granules := [] }, { model := 1, gen := 0, kind := 4, stack := 0, hanks := [0], granules := [] }] } })).ring with msgs := [] } } (Reg.LAP_CNT_LO 4) with ring := { (cntInc { (msgDev (rmsg 1 ([1] ++ beBytes 4 0 ++ [0, 0, 3])) (fun r => { r with store := [{ model := 1, gen := 0, index := 0, canon := 256, place := 0 }] }) (station 1 0 { withModel { active := some img1 } dev0 with xmem := { copies := [{ model := 1, gen := 0, kind := 2, stack := 0, hanks := [0], granules := [] }, { model := 1, gen := 0, kind := 4, stack := 0, hanks := [0], granules := [] }] } })) with ring := { (msgDev (rmsg 1 ([1] ++ beBytes 4 0 ++ [0, 0, 3])) (fun r => { r with store := [{ model := 1, gen := 0, index := 0, canon := 256, place := 0 }] }) (station 1 0 { withModel { active := some img1 } dev0 with xmem := { copies := [{ model := 1, gen := 0, kind := 2, stack := 0, hanks := [0], granules := [] }, { model := 1, gen := 0, kind := 4, stack := 0, hanks := [0], granules := [] }] } })).ring with msgs := [] } } (Reg.LAP_CNT_LO 4)).ring with checked := [(1, 0, 3)] } }, { cntInc { (msgDev (rmsg 1 ([1] ++ beBytes 4 0 ++ [0, 0, 3])) (fun r => { r with store := [{ model := 1, gen := 0, index := 0, canon := 256, place := 0 }] }) (station 1 0 { withModel { active := some img1 } dev0 with xmem := { copies := [{ model := 1, gen := 0, kind := 2, stack := 0, hanks := [0], granules := [] }, { model := 1, gen := 0, kind := 4, stack := 0, hanks := [0], granules := [] }] } })) with ring := { (msgDev (rmsg 1 ([1] ++ beBytes 4 0 ++ [0, 0, 3])) (fun r => { r with store := [{ model := 1, gen := 0, index := 0, canon := 256, place := 0 }] }) (station 1 0 { withModel { active := some img1 } dev0 with xmem := { copies := [{ model := 1, gen := 0, kind := 2, stack := 0, hanks := [0], granules := [] }, { model := 1, gen := 0, kind := 4, stack := 0, hanks := [0], granules := [] }] } })).ring with msgs := [] } } (Reg.LAP_CNT_LO 4) with ring := { (cntInc { (msgDev (rmsg 1 ([1] ++ beBytes 4 0 ++ [0, 0, 3])) (fun r => { r with store := [{ model := 1, gen := 0, index := 0, canon := 256, place := 0 }] }) (station 1 0 { withModel { active := some img1 } dev0 with xmem := { copies := [{ model := 1, gen := 0, kind := 2, stack := 0, hanks := [0], granules := [] }, { model := 1, gen := 0, kind := 4, stack := 0, hanks := [0], granules := [] }] } })) with ring := { (msgDev (rmsg 1 ([1] ++ beBytes 4 0 ++ [0, 0, 3])) (fun r => { r with store := [{ model := 1, gen := 0, index := 0, canon := 256, place := 0 }] }) (station 1 0 { withModel { active := some img1 } dev0 with xmem := { copies := [{ model := 1, gen := 0, kind := 2, stack := 0, hanks := [0], granules := [] }, { model := 1, gen := 0, kind := 4, stack := 0, hanks := [0], granules := [] }] } })).ring with msgs := [] } } (Reg.LAP_CNT_LO 4)).ring with checked := [(1, 0, 3)] } }, { cntInc { (msgDev (rmsg 1 ([1] ++ beBytes 4 0 ++ [0, 0, 3])) (fun r => { r with store := [{ model := 1, gen := 0, index := 0, canon := 256, place := 0 }] }) (station 1 0 { withModel { active := some img1 } dev0 with xmem := { copies := [{ model := 1, gen := 0, kind := 2, stack := 0, hanks := [0], granules := [] }, { model := 1, gen := 0, kind := 4, stack := 0, hanks := [0], granules := [] }] } })) with ring := { (msgDev (rmsg 1 ([1] ++ beBytes 4 0 ++ [0, 0, 3])) (fun r => { r with store := [{ model := 1, gen := 0, index := 0, canon := 256, place := 0 }] }) (station 1 0 { withModel { active := some img1 } dev0 with xmem := { copies := [{ model := 1, gen := 0, kind := 2, stack := 0, hanks := [0], granules := [] }, { model := 1, gen := 0, kind := 4, stack := 0, hanks := [0], granules := [] }] } })).ring with msgs := [] } } (Reg.LAP_CNT_LO 4) with ring := { (cntInc { (msgDev (rmsg 1 ([1] ++ beBytes 4 0 ++ [0, 0, 3])) (fun r => { r with store := [{ model := 1, gen := 0, index := 0, canon := 256, place := 0 }] }) (station 1 0 { withModel { active := some img1 } dev0 with xmem := { copies := [{ model := 1, gen := 0, kind := 2, stack := 0, hanks := [0], granules := [] }, { model := 1, gen := 0, kind := 4, stack := 0, hanks := [0], granules := [] }] } })) with ring := { (msgDev (rmsg 1 ([1] ++ beBytes 4 0 ++ [0, 0, 3])) (fun r => { r with store := [{ model := 1, gen := 0, index := 0, canon := 256, place := 0 }] }) (station 1 0 { withModel { active := some img1 } dev0 with xmem := { copies := [{ model := 1, gen := 0, kind := 2, stack := 0, hanks := [0], granules := [] }, { model := 1, gen := 0, kind := 4, stack := 0, hanks := [0], granules := [] }] } })).ring with msgs := [] } } (Reg.LAP_CNT_LO 4)).ring with checked := [(1, 0, 3)] } }, { model := 1, gen := 0, index := 0, canon := 256, place := 0 }, none, [], by and_intros <;> decide +kernel⟩,
   ⟨st mirrorDev, mirrorMsg, noMsgs mirrorDev, (mirrorHank (noMsgs mirrorDev) img1 0).2, img1, [], by and_intros <;> decide +kernel⟩,
   ⟨st (foldDev 0 id), rmsg 3 [0], noMsgs (foldDev 0 id), by and_intros <;> decide +kernel⟩,
   ⟨st (foldDev 0 (fun r => { r with mode := 2, noticeW := some 3 })), rmsg 3 [0], noMsgs (foldDev 0 (fun r => { r with mode := 2, noticeW := some 3 })), by and_intros <;> decide +kernel⟩,
   ⟨st (foldDev 1 (fun r => { r with mode := 2, noticeE := some 4 })), rmsg 3 [1], noMsgs (foldDev 1 (fun r => { r with mode := 2, noticeE := some 4 })), by and_intros <;> decide +kernel⟩,
   ⟨st (msgDev (rmsg 4 [8]) (id) (dev0)), (rmsg 4 [8]), { (msgDev (rmsg 4 [8]) (id) (dev0)) with ring := { (msgDev (rmsg 4 [8]) (id) (dev0)).ring with msgs := [] } }, by and_intros <;> decide +kernel⟩⟩

/-- States and operands that meet the hypotheses of BarrierCommits, clause by clause. -/
theorem wit_BarrierCommits :
    (∃ (s : State) (t : Token) (d : Dev), live s.dev = true ∧ popCommit s.dev 1 = some (t, d) ∧ d.code = stForming) ∧
    (∃ (s : State) (t : Token) (d : Dev) (im : _), live s.dev = true ∧ popCommit s.dev 2 = some (t, d) ∧ (modelAt d t.model).staged = some im ∧ im.gen = t.gen) ∧
    (∃ (s : State) (t : Token) (d : Dev) (im : _), live s.dev = true ∧ popCommit s.dev 3 = some (t, d) ∧ (modelAt d t.model).prev = some im ∧ im.gen = t.gen ∧ placement d im = none) ∧
    (∃ (s : State) (t : Token) (d : Dev) (im : _) (vm : _) (its : _), live s.dev = true ∧ popCommit s.dev 3 = some (t, d) ∧ (modelAt d t.model).prev = some im ∧ im.gen = t.gen ∧ placement d im = some vm ∧ itemsAll d im vm = some its) ∧
    (∃ (s : State) (t : Token) (d : Dev) (im : _) (x : _), live s.dev = true ∧ popCommit s.dev 4 = some (t, d) ∧ (modelAt d t.model).active = some im ∧ answerOps (setModel d t.model { modelAt d t.model with pend := 3, effLap := some (effectLap d t im.ringed) }) 3 t.model { op := 3, model := t.model, status := 8, gen := im.gen } = x) ∧
    (∃ (s : State) (t : Token) (d : Dev), live s.dev = true ∧ popCommit s.dev 5 = some (t, d) ∧ d.code = stForming ∧ anyActive d = false) ∧
    (∃ (s : State) (t : Token) (d : Dev), live s.dev = true ∧ popCommit s.dev 6 = some (t, d) ∧ d.ring.rRun = true ∧ d.ring.joined = false) ∧
    (∃ (s : State) (t : Token) (d : Dev), live s.dev = true ∧ popCommit s.dev 7 = some (t, d) ∧ ((t.arg.getD 0 0).toNat = stationNo d ∨ (t.arg.getD 1 0).toNat = stationNo d)) ∧
    (∃ (s : State) (t : Token) (d : Dev), live s.dev = true ∧ popCommit s.dev 8 = some (t, d)) :=
  ⟨⟨st (comDev { kind := 1 } ({ dev0 with code := 4 })), { kind := 1 }, { { dev0 with code := 4 } with }, by and_intros <;> decide +kernel⟩,
   ⟨st (comDev { kind := 2, model := 1 } (withModel { staged := some { id := 1, fast := true } } dev0)), { kind := 2, model := 1 }, { withModel { staged := some { id := 1, fast := true } } dev0 with }, { id := 1, fast := true }, by and_intros <;> decide +kernel⟩,
   ⟨st (comDev { kind := 3, model := 1 } (withModel { prev := some { id := 1, place := 257 } } dev0)), { kind := 3, model := 1 }, { withModel { prev := some { id := 1, place := 257 } } dev0 with }, { id := 1, place := 257 }, by and_intros <;> decide +kernel⟩,
   ⟨st (comDev { kind := 3, model := 1 } (withModel { prev := some { id := 1, fast := true } } dev0)), { kind := 3, model := 1 }, { withModel { prev := some { id := 1, fast := true } } dev0 with }, { id := 1, fast := true }, [], [(0, .input 0 0)], by and_intros <;> decide +kernel⟩,
   ⟨st (comDev { kind := 4, model := 1 } (withModel { active := some { id := 1, fast := true } } dev0)), { kind := 4, model := 1 }, (withModel { active := some { id := 1, fast := true } } dev0), { id := 1, fast := true }, answerOps (setModel (withModel { active := some { id := 1, fast := true } } dev0) 1 { modelAt (withModel { active := some { id := 1, fast := true } } dev0) 1 with pend := 3, effLap := some (effectLap (withModel { active := some { id := 1, fast := true } } dev0) { kind := 4, model := 1 } false) }) 3 1 { op := 3, model := 1, status := 8, gen := 0 }, by and_intros <;> decide +kernel⟩,
   ⟨st (comDev { kind := 5 } ({ dev0 with code := 4 })), { kind := 5 }, { { dev0 with code := 4 } with }, by and_intros <;> decide +kernel⟩,
   ⟨st (comDev { kind := 6 } ({ dev0 with ring := { rRun := true } })), { kind := 6 }, { { dev0 with ring := { rRun := true } } with }, by and_intros <;> decide +kernel⟩,
   ⟨st (comDev { kind := 7, arg := [0, 1] } (dev0)), { kind := 7, arg := [0, 1] }, { dev0 with }, by and_intros <;> decide +kernel⟩,
   ⟨st (comDev { kind := 8 } (dev0)), { kind := 8 }, { dev0 with }, by and_intros <;> decide +kernel⟩⟩

/-- States and operands that meet the hypotheses of RingTimers, clause by clause. -/
theorem wit_RingTimers :
    (∃ (s : State) (p : _), live s.dev = true ∧ s.dev.code = stForming ∧ isLeader s.dev = true ∧ stationNo s.dev = 0 ∧ bothClosed s.dev = true ∧ ringIsUp s.dev = false ∧ ringSize s.dev ≤ 64 ∧ s.dev.ring.flight = none ∧ s.dev.ring.queue = [] ∧ exitOf s.dev .east = some p) ∧
    (∃ (s : State) (t : Token), live s.dev = true ∧ s.dev.ring.flight = some t ∧ t.phase = 1 ∧ isLeader s.dev = true) ∧
    (∃ (s : State) (t : Token), live s.dev = true ∧ s.dev.ring.voted = some t ∧ t.leader ≠ stationNo s.dev ∧ t.kind ≠ 8) ∧
    (∃ (s : State), live s.dev = true ∧ s.dev.ring.mode = 2 ∧ s.dev.ring.noticeW.isSome ≠ s.dev.ring.noticeE.isSome) ∧
    (∃ (s : State) (pinned west : Bool) (n : Nat), live s.dev = true ∧ (pinned = true ∨ ringOpen s.dev = true) ∧ 5 ≤ s.dev.code ∧ s.dev.code ≠ stLost ∧ s.dev.code ≠ stSleep) ∧
    (∃ (s : State) (k : Nat) (x : ModelSt) (im : Image), live s.dev = true ∧ s.dev.ring.mode ≠ 0 ∧ s.dev.ring.joined = false ∧ s.dev.model = [(k, x)] ∧ x.staged = some im ∧ x.pend ≠ 1 ∧ s.dev.ring.lastKind ≠ 7 ∧ (askBarrier s.dev 2 k im.gen).ring.lastKind ≠ 7) ∧
    (∃ (s : State) (p : Fin 2), awake s.dev = true ∧ (portAt s.dev p.val).st = 4 ∧ (rd s.dev Reg.LAP_CFG).getLsbD 31 = true ∧ 4 ≤ ((portAt s.dev p.val).lanes.filter (fun l => l.signal)).length) ∧
    (∃ (s : State), live s.dev = true ∧ isLeader s.dev = true ∧ s.dev.ring.joinSeen = true) ∧
    (∃ (s : State) (m : Fin 16), live s.dev = true ∧ ((modelAt s.dev (m.val + 1)).going).filter (fun im => !imageBusy s.dev im) = []) ∧
    (∃ (s : State) (m : Fin 16) (im : Image) (d : Dev), live s.dev = true ∧ (modelAt s.dev (m.val + 1)).going = [im] ∧ imageBusy s.dev im = false ∧ (modelAt s.dev (m.val + 1)).active.isSome = true ∧ setModel s.dev (m.val + 1) { modelAt s.dev (m.val + 1) with going := [] } = d) :=
  ⟨⟨st { station 64 0 dev0 with code := 4, ports := [{ st := 3 }, { st := 3 }], ring := { nbr := [closedNbr, closedNbr] } }, 1, by and_intros <;> decide +kernel⟩,
   ⟨st { dev0 with ring := { flight := some { kind := 1 } } }, { kind := 1 }, by and_intros <;> decide +kernel⟩,
   ⟨st { dev0 with ring := { voted := some { kind := 1, leader := 1 } } }, { kind := 1, leader := 1 }, by and_intros <;> decide +kernel⟩,
   ⟨st { dev0 with ring := { mode := 2, noticeW := some 0 } }, by and_intros <;> decide +kernel⟩,
   ⟨st { station 2 0 dev0 with code := 5, ring := { mode := 1, nLive := 2 } }, false, true, 1, by and_intros <;> decide +kernel⟩,
   ⟨st (withModel { staged := some { id := 1, fast := true } } { dev0 with ring := { mode := 1 } }), 1, { staged := some { id := 1, fast := true } }, { id := 1, fast := true }, by and_intros <;> decide +kernel⟩,
   ⟨st (wr (withPort { st := 4, lanes := lanes5 }) Reg.LAP_CFG 0x80000000), 0, by and_intros <;> decide +kernel⟩,
   ⟨st { dev0 with ring := { joinSeen := true } }, by and_intros <;> decide +kernel⟩,
   ⟨st dev0, 15, by and_intros <;> decide +kernel⟩,
   ⟨st (withModel { active := some { id := 1, fast := true }, going := [{ id := 1, fast := true }] } dev0), 0, { id := 1, fast := true }, withModel { active := some { id := 1, fast := true } } dev0, by and_intros <;> decide +kernel⟩⟩

/-- States and operands that meet the hypotheses of MemoryControllers, clause by clause. -/
theorem wit_MemoryControllers :
    (∃ (s : State) (u : Fin 12) (c : Fin 32) (ready : List (Fin 8)) (final : Bool) (n : Fin 17) (going : Nat) (best : Option Nat) (cr : List Int), awake s.dev = true ∧ hasCh u.val c.val = true ∧ chGone s.dev u.val c.val = false ∧ smGet 0 s.dev.xmem.inReq (chKey u.val c.val) = going ∧ chooseClass (chWeights s.dev u.val c.val) (chCredits s.dev u.val c.val) (smGet 7 s.dev.xmem.last (chKey u.val c.val)) ready (if going = 0 then none else some (going - 1)) = (best, cr)) ∧
    (∃ (s : State) (u : Fin 12) (c : Fin 32) (temp : BitVec 8) (n : Nat), awake s.dev = true ∧ hasCh u.val c.val = true ∧ chGone s.dev u.val c.val = false ∧ 85 < temp.toInt) ∧
    (∃ (s : State) (u : Fin 12) (c : Fin 32) (temp : BitVec 8) (n : Nat), awake s.dev = true ∧ hasCh u.val c.val = true ∧ chGone s.dev u.val c.val = false ∧ temp.toInt < 80) ∧
    (∃ (s : State) (u : Fin 12) (c : Fin 32) (temp : BitVec 8) (n : Nat), awake s.dev = true ∧ hasCh u.val c.val = true ∧ chGone s.dev u.val c.val = false ∧ 80 ≤ temp.toInt ∧ temp.toInt ≤ 85) ∧
    (∃ (s : State) (u : Fin 12) (c : Fin 32) (a : Fin (2 ^ 40)) (st covered : Nat), awake s.dev = true ∧ hasCh u.val c.val = true ∧ chState s.dev u.val c.val = 0 ∧ ctlOf s.dev a.val = some u.val ∧ chOf u.val a.val = c.val ∧ st = xreg u.val (0x200 + 4 * c.val) ∧ u.val < 4) ∧
    (∃ (s : State) (u : Fin 12) (c : Fin 32) (a : Fin (2 ^ 40)) (st covered : Nat) (code : Fin 3) (n : Fin 5) (good : Bool) (k : Nat) (d e : Dev), awake s.dev = true ∧ hasCh u.val c.val = true ∧ chState s.dev u.val c.val = 0 ∧ ctlOf s.dev a.val = some u.val ∧ chOf u.val a.val = c.val ∧ st = xreg u.val (0x200 + 4 * c.val) ∧ k = (if good then max 1 n.val else 4) ∧ evt (xcnt s.dev u.val 2 k) (xreg u.val 0x00C) 2 = d ∧ { setFld (setFld d st 27 24 (code.val + 1)) st 15 0 (min (fld d st 15 0 + k) 0xffff) with xmem := { s.dev.xmem with retryWin := smSet 0 s.dev.xmem.retryWin (chKey u.val c.val) (smGet 0 s.dev.xmem.retryWin (chKey u.val c.val) + k) } } = e ∧ good = false) ∧
    (∃ (s : State) (u : Fin 12) (c : Fin 32) (a : Fin (2 ^ 40)) (st covered : Nat) (code : Fin 3) (n : Fin 5) (good : Bool) (k : Nat) (d e : Dev), awake s.dev = true ∧ hasCh u.val c.val = true ∧ chState s.dev u.val c.val = 0 ∧ ctlOf s.dev a.val = some u.val ∧ chOf u.val a.val = c.val ∧ st = xreg u.val (0x200 + 4 * c.val) ∧ k = (if good then max 1 n.val else 4) ∧ evt (xcnt s.dev u.val 2 k) (xreg u.val 0x00C) 2 = d ∧ { setFld (setFld d st 27 24 (code.val + 1)) st 15 0 (min (fld d st 15 0 + k) 0xffff) with xmem := { s.dev.xmem with retryWin := smSet 0 s.dev.xmem.retryWin (chKey u.val c.val) (smGet 0 s.dev.xmem.retryWin (chKey u.val c.val) + k) } } = e ∧ good = true ∧ fld e (xreg u.val 0x014) 31 16 < smGet 0 s.dev.xmem.retryWin (chKey u.val c.val) + k) ∧
    (∃ (s : State) (u : Fin 12) (c : Fin 32) (a : Fin (2 ^ 40)) (st covered : Nat) (code : Fin 3) (n : Fin 5) (good : Bool) (k : Nat) (d e : Dev), awake s.dev = true ∧ hasCh u.val c.val = true ∧ chState s.dev u.val c.val = 0 ∧ ctlOf s.dev a.val = some u.val ∧ chOf u.val a.val = c.val ∧ st = xreg u.val (0x200 + 4 * c.val) ∧ k = (if good then max 1 n.val else 4) ∧ evt (xcnt s.dev u.val 2 k) (xreg u.val 0x00C) 2 = d ∧ { setFld (setFld d st 27 24 (code.val + 1)) st 15 0 (min (fld d st 15 0 + k) 0xffff) with xmem := { s.dev.xmem with retryWin := smSet 0 s.dev.xmem.retryWin (chKey u.val c.val) (smGet 0 s.dev.xmem.retryWin (chKey u.val c.val) + k) } } = e ∧ good = true ∧ smGet 0 s.dev.xmem.retryWin (chKey u.val c.val) + k ≤ fld e (xreg u.val 0x014) 31 16) ∧
    (∃ (s : State) (u : Fin 12) (c : Fin 32), live s.dev = true ∧ hasCh u.val c.val = true ∧ chState s.dev u.val c.val = 1) ∧
    (∃ (s : State) (u : Fin 12) (c : Fin 32), live s.dev = true ∧ hasCh u.val c.val = true ∧ chState s.dev u.val c.val ≠ 1) ∧
    (∃ (s : State) (m : Fin 16) (g : BitVec 32) (k : Fin 8) (c : ImgCopy) (im : Image) (gs : List Nat), awake s.dev = true ∧ copyAt s.dev (m.val + 1) g.toNat k.val = some c ∧ imageByGen s.dev (m.val + 1) g.toNat = some im ∧ (freeGranules s.dev c.stack).take c.granules.length = gs ∧ c.damaged = false) ∧
    (∃ (s : State) (m : Fin 16) (g : BitVec 32) (k : Fin 8) (c : ImgCopy) (im : Image) (gs : List Nat), awake s.dev = true ∧ copyAt s.dev (m.val + 1) g.toNat k.val = some c ∧ imageByGen s.dev (m.val + 1) g.toNat = some im ∧ (freeGranules s.dev c.stack).take c.granules.length = gs ∧ c.damaged = true ∧ (k.val < 2 ∨ 6 ≤ k.val) ∧ (freeGranules s.dev c.stack).length < c.granules.length) ∧
    (∃ (s : State) (m : Fin 16) (g : BitVec 32) (k : Fin 8) (c : ImgCopy) (im : Image) (gs : List Nat) (o : _), awake s.dev = true ∧ copyAt s.dev (m.val + 1) g.toNat k.val = some c ∧ imageByGen s.dev (m.val + 1) g.toNat = some im ∧ (freeGranules s.dev c.stack).take c.granules.length = gs ∧ c.damaged = true ∧ (k.val < 2 ∨ 6 ≤ k.val) ∧ c.granules.length ≤ (freeGranules s.dev c.stack).length ∧ copyAt s.dev (m.val + 1) im.gen (if k.val < 2 then 1 - k.val else 13 - k.val) = some o ∧ o.damaged = true) ∧
    (∃ (s : State) (m : Fin 16) (g : BitVec 32) (k : Fin 8) (c : ImgCopy) (im : Image) (gs : List Nat) (o : _) (hs : _) (ns : _) (d : _), awake s.dev = true ∧ copyAt s.dev (m.val + 1) g.toNat k.val = some c ∧ imageByGen s.dev (m.val + 1) g.toNat = some im ∧ (freeGranules s.dev c.stack).take c.granules.length = gs ∧ c.damaged = true ∧ (k.val < 2 ∨ 6 ≤ k.val) ∧ c.granules.length ≤ (freeGranules s.dev c.stack).length ∧ copyAt s.dev (m.val + 1) im.gen (if k.val < 2 then 1 - k.val else 13 - k.val) = some o ∧ o.damaged = false ∧ k.val < 2 ∧ rebuildPinned im (1 - k.val) c.stack c.hanks gs s.dev = (hs, ns, true, d)) ∧
    (∃ (s : State) (m : Fin 16) (g : BitVec 32) (k : Fin 8) (c : ImgCopy) (im : Image) (gs : List Nat) (o : _) (hs : _) (ns : _) (d : _), awake s.dev = true ∧ copyAt s.dev (m.val + 1) g.toNat k.val = some c ∧ imageByGen s.dev (m.val + 1) g.toNat = some im ∧ (freeGranules s.dev c.stack).take c.granules.length = gs ∧ c.damaged = true ∧ (k.val < 2 ∨ 6 ≤ k.val) ∧ c.granules.length ≤ (freeGranules s.dev c.stack).length ∧ copyAt s.dev (m.val + 1) im.gen (if k.val < 2 then 1 - k.val else 13 - k.val) = some o ∧ o.damaged = false ∧ k.val < 2 ∧ rebuildPinned im (1 - k.val) c.stack c.hanks gs s.dev = (hs, ns, false, d)) ∧
    (∃ (s : State) (m : Fin 16) (g : BitVec 32) (k : Fin 8) (c : ImgCopy) (im : Image) (gs : List Nat) (o : _) (b : _) (d : _) (e : _), awake s.dev = true ∧ copyAt s.dev (m.val + 1) g.toNat k.val = some c ∧ imageByGen s.dev (m.val + 1) g.toNat = some im ∧ (freeGranules s.dev c.stack).take c.granules.length = gs ∧ c.damaged = true ∧ (k.val < 2 ∨ 6 ≤ k.val) ∧ c.granules.length ≤ (freeGranules s.dev c.stack).length ∧ copyAt s.dev (m.val + 1) im.gen (if k.val < 2 then 1 - k.val else 13 - k.val) = some o ∧ o.damaged = false ∧ 6 ≤ k.val ∧ readGranules o.stack 0 o.granules s.dev = (some b, d) ∧ writeGranules c.stack gs b d = some e) ∧
    (∃ (s : State) (m : Fin 16) (g : BitVec 32) (k : Fin 8) (c : ImgCopy) (im : Image) (gs : List Nat) (d : _) (b : _), awake s.dev = true ∧ copyAt s.dev (m.val + 1) g.toNat k.val = some c ∧ imageByGen s.dev (m.val + 1) g.toNat = some im ∧ (freeGranules s.dev c.stack).take c.granules.length = gs ∧ c.damaged = true ∧ 2 ≤ k.val ∧ k.val ≤ 5 ∧ 32 * (c.hanks.countP (fun i => !(((copyAt s.dev (m.val + 1) im.gen (k.val + 10)).map (fun b => b.hanks)).getD []).contains i)) ≤ (freeGranules s.dev c.stack).length ∧ (if k.val < 4 then rebuildShard s.dev im c else s.dev) = d ∧ copyAt d (m.val + 1) im.gen (k.val + 10) = some b ∧ (∀ i ∈ c.hanks, i ∈ b.hanks)) ∧
    (∃ (s : State) (m : Fin 16) (g : BitVec 32) (k : Fin 8) (c : ImgCopy) (im : Image) (gs : List Nat) (d : _) (b : _), awake s.dev = true ∧ copyAt s.dev (m.val + 1) g.toNat k.val = some c ∧ imageByGen s.dev (m.val + 1) g.toNat = some im ∧ (freeGranules s.dev c.stack).take c.granules.length = gs ∧ c.damaged = true ∧ 2 ≤ k.val ∧ k.val ≤ 5 ∧ 32 * (c.hanks.countP (fun i => !(((copyAt s.dev (m.val + 1) im.gen (k.val + 10)).map (fun b => b.hanks)).getD []).contains i)) ≤ (freeGranules s.dev c.stack).length ∧ (if k.val < 4 then rebuildShard s.dev im c else s.dev) = d ∧ copyAt d (m.val + 1) im.gen (k.val + 10) = some b ∧ (∃ i ∈ c.hanks, i ∉ b.hanks)) ∧
    (∃ (s : State) (u : Fin 12) (c : Fin 32), awake s.dev = true ∧ hasCh u.val c.val = true ∧ mgmtOpen s.dev = true ∧ chGone s.dev u.val c.val = false ∧ fld s.dev (tgReg u.val c.val 0x18) 31 30 ≠ 1 ∧ rdn s.dev (tgReg u.val c.val 0x14) ≠ 0) ∧
    (∃ (s : State) (u : Fin 12) (c : Fin 32) (n : Nat), awake s.dev = true ∧ hasCh u.val c.val = true ∧ fld s.dev (tgReg u.val c.val 0x18) 31 30 = 1 ∧ mgmtOpen s.dev = true) :=
  ⟨⟨st dev0, 3, 31, [7], false, 0, 0, (chooseClass (chWeights dev0 3 31) (chCredits dev0 3 31) 7 [7] none).1, (chooseClass (chWeights dev0 3 31) (chCredits dev0 3 31) 7 [7] none).2, by and_intros <;> decide +kernel⟩,
   ⟨st dev0, 11, 3, 86, 0, by and_intros <;> decide +kernel⟩,
   ⟨st dev0, 0, 0, 79, 0, by and_intros <;> decide +kernel⟩,
   ⟨st dev0, 0, 0, 80, 0, by and_intros <;> decide +kernel⟩,
   ⟨st chDev, 0, 0, 0, xreg 0 0x200, 0, by and_intros <;> decide +kernel⟩,
   by refine ⟨st chDev, 0, 0, 0, xreg 0 0x200, 0, 2, 4, false, 4, ?d5, ?e5, ?goal5⟩; case goal5 => and_intros <;> first | decide +kernel | rfl,
   by refine ⟨st chDev, 0, 0, 0, xreg 0 0x200, 0, 1, 0, true, 1, ?d6, ?e6, ?goal6⟩; case goal6 => and_intros <;> first | decide +kernel | rfl,
   by refine ⟨st (wr chDev (xreg 0 0x014) 0x00040000), 0, 0, 0, xreg 0 0x200, 0, 1, 4, true, 4, ?d7, ?e7, ?goal7⟩; case goal7 => and_intros <;> first | decide +kernel | rfl,
   ⟨st (wr dev0 (xreg 4 0x200) 0x10000000), 4, 0, by and_intros <;> decide +kernel⟩,
   ⟨st dev0, 0, 0, by and_intros <;> decide +kernel⟩,
   ⟨st (copyDev [cpy 7 false []]), 0, 5, 7, cpy 7 false [], im5, [], by and_intros <;> decide +kernel⟩,
   ⟨st (copyDev [{ cpy 1 true [] with granules := [0] }]), 0, 5, 1, { cpy 1 true [] with granules := [0] }, im5, [], by and_intros <;> decide +kernel⟩,
   ⟨st (copyDev [cpy 0 true [], cpy 1 true []]), 0, 5, 0, cpy 0 true [], im5, [], cpy 1 true [], by and_intros <;> decide +kernel⟩,
   ⟨st (copyDev [cpy 0 true [], cpy 1 false []]), 0, 5, 0, cpy 0 true [], im5, [], cpy 1 false [], [], [], copyDev [cpy 0 true [], cpy 1 false []], by and_intros <;> decide +kernel⟩,
   ⟨st (copyDev [cpy 0 true [0], cpy 1 false [0]]), 0, 5, 0, cpy 0 true [0], im5, [], cpy 1 false [0], (rebuildPinned im5 1 0 [0] [] (copyDev [cpy 0 true [0], cpy 1 false [0]])).1, (rebuildPinned im5 1 0 [0] [] (copyDev [cpy 0 true [0], cpy 1 false [0]])).2.1, (rebuildPinned im5 1 0 [0] [] (copyDev [cpy 0 true [0], cpy 1 false [0]])).2.2.2, by and_intros <;> decide +kernel⟩,
   ⟨st (copyDev [cpy 6 true [], cpy 7 false []]), 0, 5, 6, cpy 6 true [], im5, [], cpy 7 false [], [], copyDev [cpy 6 true [], cpy 7 false []], copyDev [cpy 6 true [], cpy 7 false []], by and_intros <;> decide +kernel⟩,
   ⟨st (copyDev [cpy 4 true [0], cpy 14 false [0]]), 0, 5, 4, cpy 4 true [0], im5, [], copyDev [cpy 4 true [0], cpy 14 false [0]], cpy 14 false [0], by and_intros <;> decide +kernel⟩,
   ⟨st (areaDev [cpy 4 true [0], cpy 14 false []]), 0, 5, 4, cpy 4 true [0], im5, [], areaDev [cpy 4 true [0], cpy 14 false []], cpy 14 false [], by decide +kernel, by decide +kernel, by decide +kernel, rfl, rfl, by decide, by decide, areaDev_free, by decide +kernel, by decide +kernel, 0, by decide +kernel⟩,
   ⟨st { wr (wr dev0 (tgReg 11 3 0x14) 1) Reg.BOOT_STATUS 0x80000000 with code := 2 }, 11, 3, by and_intros <;> decide +kernel⟩,
   ⟨st { wr dev0 (tgReg 11 3 0x18) 0x40000000 with code := 2 }, 11, 3, 1, by and_intros <;> decide +kernel⟩⟩

/-- States and operands that meet the hypotheses of EthLinksAndFrames, clause by clause. -/
theorem wit_EthLinksAndFrames :
    (∃ (s : State) (n : Fin 2) (p : Fin 8) (locks : Bool), live s.dev = true ∧ ethAllowed s.dev n.val = true ∧ p.val < subPorts s.dev n.val ∧ (spAt s.dev n.val p.val).up = false ∧ (rd s.dev (Reg.ETH_CFG n.val)).getLsbD 4 = false) ∧
    (∃ (s : State) (n : Fin 2) (p : Fin 8) (locks : Bool) (d : _), live s.dev = true ∧ ethAllowed s.dev n.val = true ∧ p.val < subPorts s.dev n.val ∧ (spAt s.dev n.val p.val).up = false ∧ (rd s.dev (Reg.ETH_CFG n.val)).getLsbD 4 = true ∧ setLink s.dev n.val p.val false false = d) ∧
    (∃ (s : State) (n : Fin 2) (p : Fin 8) (partner : BitVec 4) (trained : Bool), live s.dev = true ∧ ethAllowed s.dev n.val = true ∧ p.val < subPorts s.dev n.val ∧ (spAt s.dev n.val p.val).up = false ∧ (rd s.dev (Reg.ETH_CFG n.val)).getLsbD 4 = true ∧ (1#4 <<< fld s.dev (Reg.ETH_CFG n.val) 1 0) &&& partner ≠ 0) ∧
    (∃ (s : State) (n : Fin 2) (p : Fin 8) (partner : BitVec 4) (trained : Bool), live s.dev = true ∧ ethAllowed s.dev n.val = true ∧ p.val < subPorts s.dev n.val ∧ (spAt s.dev n.val p.val).up = false ∧ (rd s.dev (Reg.ETH_CFG n.val)).getLsbD 4 = true ∧ (1#4 <<< fld s.dev (Reg.ETH_CFG n.val) 1 0) &&& partner = 0) ∧
    (∃ (d : Dev) (n p : Nat) (up an : Bool), (spAt d n p).up ≠ up) ∧
    (∃ (s : State) (n : Fin 2) (p : Fin 8) (fr : List Byte) (fec : List (Fin 8 × BitVec 16 × BitVec 16)), live s.dev = true ∧ (spAt s.dev n.val p.val).up = false) ∧
    (∃ (s : State) (n : Fin 2) (p : Fin 8) (fr : List Byte) (fec : List (Fin 8 × BitVec 16 × BitVec 16)) (d : _), live s.dev = true ∧ (spAt s.dev n.val p.val).up = true ∧ p.val < subPorts s.dev n.val ∧ ecnt (ecnt (fecCount s.dev n.val p.val fec) n.val p.val 0 1) n.val p.val 1 fr.length = d ∧ 4 ≤ fr.length ∧ leAt fr (fr.length - 4) 4 ≠ crc32 (fr.take (fr.length - 4))) ∧
    (∃ (s : State) (n : Fin 2) (p : Fin 8) (fr : List Byte) (fec : List (Fin 8 × BitVec 16 × BitVec 16)) (d : _), live s.dev = true ∧ (spAt s.dev n.val p.val).up = true ∧ p.val < subPorts s.dev n.val ∧ ecnt (ecnt (fecCount s.dev n.val p.val fec) n.val p.val 0 1) n.val p.val 1 fr.length = d ∧ 4 ≤ fr.length ∧ leAt fr (fr.length - 4) 4 = crc32 (fr.take (fr.length - 4)) ∧ fr.length < 64) ∧
    (∃ (s : State) (n : Fin 2) (p : Fin 8) (fr : List Byte) (fec : List (Fin 8 × BitVec 16 × BitVec 16)) (d : _), live s.dev = true ∧ (spAt s.dev n.val p.val).up = true ∧ p.val < subPorts s.dev n.val ∧ ecnt (ecnt (fecCount s.dev n.val p.val fec) n.val p.val 0 1) n.val p.val 1 fr.length = d ∧ leAt fr (fr.length - 4) 4 = crc32 (fr.take (fr.length - 4)) ∧ 9216 < fr.length) ∧
    (∃ (s : State) (n : Fin 2) (p : Fin 8) (fr : List Byte) (fec : List (Fin 8 × BitVec 16 × BitVec 16)) (d : _) (who : _) (prio : _) (ip : _) (udp : _) (data : _) (e : _) (x : RxDgram), live s.dev = true ∧ (spAt s.dev n.val p.val).up = true ∧ p.val < subPorts s.dev n.val ∧ ecnt (ecnt (fecCount s.dev n.val p.val fec) n.val p.val 0 1) n.val p.val 1 fr.length = d ∧ rxCheck d n.val p.val fr = (.give who prio ip udp data, e) ∧ x = { port := n.val, sp := p.val, mac := slice fr 6 6, ip := ip, udp := udp, time := frameTime s.dev n.val, flen := fr.length, prio := prio, data := data } ∧ who = 0) ∧
    (∃ (s : State) (n : Fin 2) (p : Fin 8) (fr : List Byte) (fec : List (Fin 8 × BitVec 16 × BitVec 16)) (d : _) (who : _) (prio : _) (ip : _) (udp : _) (data : _) (e : _) (x : RxDgram), live s.dev = true ∧ (spAt s.dev n.val p.val).up = true ∧ p.val < subPorts s.dev n.val ∧ ecnt (ecnt (fecCount s.dev n.val p.val fec) n.val p.val 0 1) n.val p.val 1 fr.length = d ∧ rxCheck d n.val p.val fr = (.give who prio ip udp data, e) ∧ x = { port := n.val, sp := p.val, mac := slice fr 6 6, ip := ip, udp := udp, time := frameTime s.dev n.val, flen := fr.length, prio := prio, data := data } ∧ who = 1 ∧ ptpTaken e n.val data = true) ∧
    (∃ (s : State) (n : Fin 2) (p : Fin 8) (fr : List Byte) (fec : List (Fin 8 × BitVec 16 × BitVec 16)) (d : _) (who : _) (prio : _) (ip : _) (udp : _) (data : _) (e : _) (x : RxDgram), live s.dev = true ∧ (spAt s.dev n.val p.val).up = true ∧ p.val < subPorts s.dev n.val ∧ ecnt (ecnt (fecCount s.dev n.val p.val fec) n.val p.val 0 1) n.val p.val 1 fr.length = d ∧ rxCheck d n.val p.val fr = (.give who prio ip udp data, e) ∧ x = { port := n.val, sp := p.val, mac := slice fr 6 6, ip := ip, udp := udp, time := frameTime s.dev n.val, flen := fr.length, prio := prio, data := data } ∧ who = 1 ∧ ptpTaken e n.val data = false) ∧
    (∃ (s : State) (n : Fin 2) (p : Fin 8) (fr : List Byte) (fec : List (Fin 8 × BitVec 16 × BitVec 16)) (d : _) (who : _) (prio : _) (ip : _) (udp : _) (data : _) (e : _) (x : RxDgram), live s.dev = true ∧ (spAt s.dev n.val p.val).up = true ∧ p.val < subPorts s.dev n.val ∧ ecnt (ecnt (fecCount s.dev n.val p.val fec) n.val p.val 0 1) n.val p.val 1 fr.length = d ∧ rxCheck d n.val p.val fr = (.give who prio ip udp data, e) ∧ x = { port := n.val, sp := p.val, mac := slice fr 6 6, ip := ip, udp := udp, time := frameTime s.dev n.val, flen := fr.length, prio := prio, data := data } ∧ who = 2) ∧
    (∃ (s : State) (n : Fin 2) (p : Fin 8) (fr : List Byte) (fec : List (Fin 8 × BitVec 16 × BitVec 16)) (d : _) (who : _) (prio : _) (ip : _) (udp : _) (data : _) (e : _) (x : RxDgram), live s.dev = true ∧ (spAt s.dev n.val p.val).up = true ∧ p.val < subPorts s.dev n.val ∧ ecnt (ecnt (fecCount s.dev n.val p.val fec) n.val p.val 0 1) n.val p.val 1 fr.length = d ∧ rxCheck d n.val p.val fr = (.give who prio ip udp data, e) ∧ x = { port := n.val, sp := p.val, mac := slice fr 6 6, ip := ip, udp := udp, time := frameTime s.dev n.val, flen := fr.length, prio := prio, data := data } ∧ who = 3) ∧
    (∃ (d : Dev) (n p : Nat) (l : Fin 8) (c u : BitVec 16), l.val / (8 / subPorts d n) = p) ∧
    (∃ (d : Dev) (n p : Nat) (l : Fin 8) (c u : BitVec 16), l.val / (8 / subPorts d n) ≠ p) :=
  ⟨⟨st dev0, 1, 0, true, by and_intros <;> decide +kernel⟩,
   by refine ⟨st (wr dev0 (Reg.ETH_CFG 1) 0x10), 1, 0, true, ?d1, ?goal1⟩; case goal1 => and_intros <;> first | decide +kernel | rfl,
   ⟨st (wr dev0 (Reg.ETH_CFG 1) 0x10), 1, 0, 1, true, by and_intros <;> decide +kernel⟩,
   ⟨st (wr dev0 (Reg.ETH_CFG 1) 0x10), 1, 0, 14, true, by and_intros <;> decide +kernel⟩,
   ⟨dev0, 0, 0, true, false, by and_intros <;> decide +kernel⟩,
   ⟨st dev0, 0, 0, [0], [], by and_intros <;> decide +kernel⟩,
   ⟨st ethDev, 0, 0, List.replicate 64 0, [(0, 3, 1)], rxCnt (fecCount ethDev 0 0 [(0, 3, 1)]) (List.replicate 64 0), by and_intros <;> decide +kernel⟩,
   ⟨st ethDev, 0, 0, fcs (List.replicate 59 0), [], rxCnt ethDev (fcs (List.replicate 59 0)), by and_intros <;> decide +kernel⟩,
   ⟨st ethDev, 0, 0, longFrame, [], rxCnt ethDev longFrame, by decide +kernel, by decide +kernel, by decide +kernel, rfl, longFrame_crc, by rw [longFrame_length]; decide⟩,
   ⟨st ethDev, 0, 0, rvpFrame, [], rxCnt ethDev (rvpFrame), (giveOf (rxCheck (rxCnt ethDev (rvpFrame)) 0 0 (rvpFrame)).1).1, (giveOf (rxCheck (rxCnt ethDev (rvpFrame)) 0 0 (rvpFrame)).1).2.1, (giveOf (rxCheck (rxCnt ethDev (rvpFrame)) 0 0 (rvpFrame)).1).2.2.1, (giveOf (rxCheck (rxCnt ethDev (rvpFrame)) 0 0 (rvpFrame)).1).2.2.2.1, (giveOf (rxCheck (rxCnt ethDev (rvpFrame)) 0 0 (rvpFrame)).1).2.2.2.2, rxCnt ethDev (rvpFrame), rxDg (rvpFrame), by and_intros <;> decide +kernel⟩,
   ⟨st ethDev, 0, 0, ptpFrame 2, [], rxCnt ethDev (ptpFrame 2), (giveOf (rxCheck (rxCnt ethDev (ptpFrame 2)) 0 0 (ptpFrame 2)).1).1, (giveOf (rxCheck (rxCnt ethDev (ptpFrame 2)) 0 0 (ptpFrame 2)).1).2.1, (giveOf (rxCheck (rxCnt ethDev (ptpFrame 2)) 0 0 (ptpFrame 2)).1).2.2.1, (giveOf (rxCheck (rxCnt ethDev (ptpFrame 2)) 0 0 (ptpFrame 2)).1).2.2.2.1, (giveOf (rxCheck (rxCnt ethDev (ptpFrame 2)) 0 0 (ptpFrame 2)).1).2.2.2.2, rxCnt ethDev (ptpFrame 2), rxDg (ptpFrame 2), by and_intros <;> decide +kernel⟩,
   ⟨st ethDev, 0, 0, ptpFrame 1, [], rxCnt ethDev (ptpFrame 1), (giveOf (rxCheck (rxCnt ethDev (ptpFrame 1)) 0 0 (ptpFrame 1)).1).1, (giveOf (rxCheck (rxCnt ethDev (ptpFrame 1)) 0 0 (ptpFrame 1)).1).2.1, (giveOf (rxCheck (rxCnt ethDev (ptpFrame 1)) 0 0 (ptpFrame 1)).1).2.2.1, (giveOf (rxCheck (rxCnt ethDev (ptpFrame 1)) 0 0 (ptpFrame 1)).1).2.2.2.1, (giveOf (rxCheck (rxCnt ethDev (ptpFrame 1)) 0 0 (ptpFrame 1)).1).2.2.2.2, rxCnt ethDev (ptpFrame 1), rxDg (ptpFrame 1), by and_intros <;> decide +kernel⟩,
   ⟨st ethDev, 0, 0, arpFrame, [], rxCnt ethDev (arpFrame), (giveOf (rxCheck (rxCnt ethDev (arpFrame)) 0 0 (arpFrame)).1).1, (giveOf (rxCheck (rxCnt ethDev (arpFrame)) 0 0 (arpFrame)).1).2.1, (giveOf (rxCheck (rxCnt ethDev (arpFrame)) 0 0 (arpFrame)).1).2.2.1, (giveOf (rxCheck (rxCnt ethDev (arpFrame)) 0 0 (arpFrame)).1).2.2.2.1, (giveOf (rxCheck (rxCnt ethDev (arpFrame)) 0 0 (arpFrame)).1).2.2.2.2, rxCnt ethDev (arpFrame), rxDg (arpFrame), by and_intros <;> decide +kernel⟩,
   ⟨st ethDev, 0, 0, ndFrame, [], rxCnt ethDev (ndFrame), (giveOf (rxCheck (rxCnt ethDev (ndFrame)) 0 0 (ndFrame)).1).1, (giveOf (rxCheck (rxCnt ethDev (ndFrame)) 0 0 (ndFrame)).1).2.1, (giveOf (rxCheck (rxCnt ethDev (ndFrame)) 0 0 (ndFrame)).1).2.2.1, (giveOf (rxCheck (rxCnt ethDev (ndFrame)) 0 0 (ndFrame)).1).2.2.2.1, (giveOf (rxCheck (rxCnt ethDev (ndFrame)) 0 0 (ndFrame)).1).2.2.2.2, rxCnt ethDev (ndFrame), rxDg (ndFrame), by and_intros <;> decide +kernel⟩,
   ⟨dev0, 0, 0, 0, 3, 1, by and_intros <;> decide +kernel⟩,
   ⟨dev0, 0, 1, 0, 3, 1, by and_intros <;> decide +kernel⟩⟩

/-- States and operands that meet the hypotheses of EthAnswers, clause by clause. -/
theorem wit_EthAnswers :
    (∃ (s : State) (n : Fin 2) (p : Fin 8) (k : _), live s.dev = true ∧ (spAt s.dev n.val p.val).up = true ∧ (spAt s.dev n.val p.val).xoff.filter (aboveXoff s.dev n.val p.val) = [k]) ∧
    (∃ (s : State) (n : Fin 2) (p : Fin 8), live s.dev = true ∧ ((spAt s.dev n.val p.val).up = false ∨ (spAt s.dev n.val p.val).xoff.filter (aboveXoff s.dev n.val p.val) = [])) ∧
    (∃ (s : State) (n : Fin 2) (p : Fin 8) (k : Fin 8), live s.dev = true ∧ (spAt s.dev n.val p.val).queue = []) ∧
    (∃ (s : State) (n : Fin 2) (p : Fin 8) (x : _) (rest : _) (d : _), live s.dev = true ∧ takeFirst (fun x : RxDgram => decide (x.port = n.val) && decide (x.sp = p.val)) s.dev.eth.arp = some (x, rest) ∧ pfcCheck { s.dev with eth := { s.dev.eth with arp := rest } } n.val p.val = d ∧ x.data.take 8 = [0, 1, 8, 0, 6, 4, 0, 1] ∧ slice x.data 24 4 = spIp4 d n.val p.val ∧ ipSet (spIp4 d n.val p.val) = true) ∧
    (∃ (s : State) (n : Fin 2) (p : Fin 8) (x : _) (rest : _) (d : _), live s.dev = true ∧ takeFirst (fun x : RxDgram => decide (x.port = n.val) && decide (x.sp = p.val)) s.dev.eth.arp = some (x, rest) ∧ pfcCheck { s.dev with eth := { s.dev.eth with arp := rest } } n.val p.val = d ∧ slice x.data 24 4 ≠ spIp4 d n.val p.val) ∧
    (∃ (s : State) (n : Fin 2) (p : Fin 8) (x : _) (rest : _) (d : _), live s.dev = true ∧ takeFirst (fun x : RxDgram => decide (x.port = n.val) && decide (x.sp = p.val)) s.dev.eth.nd = some (x, rest) ∧ pfcCheck { s.dev with eth := { s.dev.eth with nd := rest } } n.val p.val = d ∧ slice x.data 8 16 = spIp6 d n.val p.val ∧ ipSet x.ip = true) ∧
    (∃ (s : State) (n : Fin 2) (p : Fin 8) (x : _) (rest : _) (d : _), live s.dev = true ∧ takeFirst (fun x : RxDgram => decide (x.port = n.val) && decide (x.sp = p.val)) s.dev.eth.nd = some (x, rest) ∧ pfcCheck { s.dev with eth := { s.dev.eth with nd := rest } } n.val p.val = d ∧ slice x.data 8 16 ≠ spIp6 d n.val p.val) ∧
    (∃ (s : State) (n : Fin 2) (p : Fin 8) (a : _) (left : List TxFrame), live s.dev = true ∧ txSa (spAt s.dev n.val p.val) = some a ∧ macsecOn s.dev n.val p.val = true ∧ 2 ^ 64 - 1 ≤ a.pn ∧ left = (spAt s.dev n.val p.val).queue.filter (fun f => decide (s.dev.now < f.time + 1000000))) ∧
    (∃ (s : State) (n : Fin 2) (p : Fin 8), live s.dev = true ∧ macsecOn s.dev n.val p.val = false) :=
  ⟨⟨st (rxd { dg [] with prio := 7 } { dev0 with eth := { sp := [(0, { up := true, xoff := [7, 6] })] } }), 0, 0, 7, by and_intros <;> decide +kernel⟩,
   ⟨st { dev0 with eth := { sp := [(0, { up := true, xoff := [7] })] } }, 0, 0, by and_intros <;> decide +kernel⟩,
   ⟨st dev0, 0, 0, 7, by and_intros <;> decide +kernel⟩,
   ⟨st (arpd (dg ([0, 1, 8, 0, 6, 4, 0, 1] ++ List.replicate 16 0 ++ [10, 0, 0, 1])) ethDev), 0, 0, (dg ([0, 1, 8, 0, 6, 4, 0, 1] ++ List.replicate 16 0 ++ [10, 0, 0, 1])), [], pfcCheck ethDev 0 0, by and_intros <;> decide +kernel⟩,
   ⟨st (arpd (dg []) ethDev), 0, 0, (dg []), [], pfcCheck ethDev 0 0, by and_intros <;> decide +kernel⟩,
   ⟨st (ndd (dg (List.replicate 8 0 ++ ip6 1)) ethDev), 0, 0, (dg (List.replicate 8 0 ++ ip6 1)), [], pfcCheck ethDev 0 0, by and_intros <;> decide +kernel⟩,
   ⟨st (ndd (dg []) ethDev), 0, 0, (dg []), [], pfcCheck ethDev 0 0, by and_intros <;> decide +kernel⟩,
   ⟨st (wr { dev0 with now := 1000000, eth := { sp := [(0, { txAn := some 1, tx := [{ an := 1, sci := [], ssci := [], key := [], salt := [], pn := 2 ^ 64 - 1, low := 0 }], queue := [{ dst := [], body := [], time := 0 }, { dst := [], body := [], time := 1 }] })] } } (Reg.ETH_SP_MACSEC 0 0) 0x80000000), 0, 0, { an := 1, sci := [], ssci := [], key := [], salt := [], pn := 2 ^ 64 - 1, low := 0 }, [{ dst := [], body := [], time := 1 }], by and_intros <;> decide +kernel⟩,
   ⟨st dev0, 0, 0, by and_intros <;> decide +kernel⟩⟩

/-- States and operands that meet the hypotheses of PtpMessages, clause by clause. -/
theorem wit_PtpMessages :
    (∃ (s : State) (n : Fin 2) (x : _) (d : _) (a : _) (c : _), live s.dev = true ∧ takePtp s.dev n.val 11 = some (x, d) ∧ ptpAt d n.val = c ∧ a = ({ port := slice x.data 20 10, prio1 := beAt x.data 47 1, clsAcc := beAt x.data 48 2, variance := beAt x.data 50 2, prio2 := beAt x.data 52 1, gm := slice x.data 53 8, steps := beAt x.data 61 2 } : PtpMaster)) ∧
    (∃ (s : State) (n : Fin 2) (x : _) (d : _) (c : _), live s.dev = true ∧ takePtp (ptpSelect n.val s.dev) n.val 0 = some (x, d) ∧ c = { ptpAt d n.val with syncSeq := beAt x.data 30 2, syncRx := x.time } ∧ fromMaster (ptpAt d n.val) x.data = false) ∧
    (∃ (s : State) (n : Fin 2) (x : _) (d : _) (c : _), live s.dev = true ∧ takePtp (ptpSelect n.val s.dev) n.val 0 = some (x, d) ∧ c = { ptpAt d n.val with syncSeq := beAt x.data 30 2, syncRx := x.time } ∧ fromMaster (ptpAt d n.val) x.data = true ∧ (beAt x.data 6 1).testBit 1 = true) ∧
    (∃ (s : State) (n : Fin 2) (x : _) (d : _) (c : _), live s.dev = true ∧ takePtp (ptpSelect n.val s.dev) n.val 0 = some (x, d) ∧ c = { ptpAt d n.val with syncSeq := beAt x.data 30 2, syncRx := x.time } ∧ fromMaster (ptpAt d n.val) x.data = true ∧ (beAt x.data 6 1).testBit 1 = false) ∧
    (∃ (s : State) (n : Fin 2) (x : _) (d : _) (c : _), live s.dev = true ∧ takePtp (ptpSelect n.val s.dev) n.val 8 = some (x, d) ∧ ptpAt d n.val = c ∧ fromMaster c x.data = true ∧ c.twoStep = true ∧ c.syncSeq = beAt x.data 30 2) ∧
    (∃ (s : State) (n : Fin 2) (x : _) (d : _) (c : _), live s.dev = true ∧ takePtp (ptpSelect n.val s.dev) n.val 8 = some (x, d) ∧ ptpAt d n.val = c ∧ fromMaster c x.data = true ∧ c.twoStep = true ∧ c.syncSeq ≠ beAt x.data 30 2) ∧
    (∃ (s : State) (n : Fin 2) (x : _) (d : _) (c : _), live s.dev = true ∧ takePtp (ptpSelect n.val s.dev) n.val 9 = some (x, d) ∧ ptpAt d n.val = c ∧ fromMaster c x.data = true ∧ c.reqOut = true ∧ slice x.data 44 10 = clockId d n.val ∧ beAt x.data 30 2 = c.reqSeq) ∧
    (∃ (s : State) (n : Fin 2) (d : _) (c : _), live s.dev = true ∧ ptpSelect n.val s.dev = d ∧ ptpAt d n.val = c ∧ c.master = none) ∧
    (∃ (s : State) (n : Fin 2) (d : _) (c : _) (t : _) (b : _), live s.dev = true ∧ ptpSelect n.val s.dev = d ∧ ptpAt d n.val = c ∧ c.reqLast = some t ∧ c.interval = some b ∧ d.now < t + logInterval b) ∧
    (∃ (s : State) (n : Fin 2) (d : _) (c : _) (e : _) (m : _), live s.dev = true ∧ ptpSelect n.val s.dev = d ∧ ptpAt d n.val = c ∧ c.master.isSome = true ∧ (spAt d n.val (ptpSp d n.val)).up = true ∧ (∀ t b, c.reqLast = some t → c.interval = some b → t + logInterval b ≤ d.now) ∧ setPtp d n.val { c with reqSeq := (c.reqSeq + 1) % 65536, reqLast := some d.now, reqOut := true } = e ∧ m = ([1, 2, 0, 44, byteOf (fld d (Reg.ETH_CFG n.val) 31 24), 0, 0, 0] ++ List.replicate 12 0 ++ clockId d n.val ++ beBytes 2 ((c.reqSeq + 1) % 65536) ++ [1, 0x7f] ++ List.replicate 10 0 : List Byte) ∧ ptpTrans d n.val = 0) ∧
    (∃ (s : State) (n : Fin 2) (d : _) (c : _) (e : _) (m : _), live s.dev = true ∧ ptpSelect n.val s.dev = d ∧ ptpAt d n.val = c ∧ c.master.isSome = true ∧ (spAt d n.val (ptpSp d n.val)).up = true ∧ (∀ t b, c.reqLast = some t → c.interval = some b → t + logInterval b ≤ d.now) ∧ setPtp d n.val { c with reqSeq := (c.reqSeq + 1) % 65536, reqLast := some d.now, reqOut := true } = e ∧ m = ([1, 2, 0, 44, byteOf (fld d (Reg.ETH_CFG n.val) 31 24), 0, 0, 0] ++ List.replicate 12 0 ++ clockId d n.val ++ beBytes 2 ((c.reqSeq + 1) % 65536) ++ [1, 0x7f] ++ List.replicate 10 0 : List Byte) ∧ ptpTrans d n.val = 1) ∧
    (∃ (s : State) (n : Fin 2) (d : _) (c : _) (e : _) (m : _), live s.dev = true ∧ ptpSelect n.val s.dev = d ∧ ptpAt d n.val = c ∧ c.master.isSome = true ∧ (spAt d n.val (ptpSp d n.val)).up = true ∧ (∀ t b, c.reqLast = some t → c.interval = some b → t + logInterval b ≤ d.now) ∧ setPtp d n.val { c with reqSeq := (c.reqSeq + 1) % 65536, reqLast := some d.now, reqOut := true } = e ∧ m = ([1, 2, 0, 44, byteOf (fld d (Reg.ETH_CFG n.val) 31 24), 0, 0, 0] ++ List.replicate 12 0 ++ clockId d n.val ++ beBytes 2 ((c.reqSeq + 1) % 65536) ++ [1, 0x7f] ++ List.replicate 10 0 : List Byte) ∧ 2 ≤ ptpTrans d n.val) ∧
    (∃ (d : Dev) (n : Nat) (f : TxFrame), n < d.tim.ptp.length ∧ f.event = true) ∧
    (∃ (d : Dev) (n : Nat) (l : List PtpForeign), n < d.tim.ptp.length ∧ (ptpAt d n).foreign.filter (fun f => f.heard d.now && f.qualified) = l ∧ l = []) ∧
    (∃ (d : Dev) (n : Nat) (l : List PtpForeign) (f : _), n < d.tim.ptp.length ∧ (ptpAt d n).foreign.filter (fun f => f.heard d.now && f.qualified) = l ∧ l = [f]) ∧
    (∃ (d : Dev) (n : Nat) (l : List PtpForeign) (f : _) (g : _), n < d.tim.ptp.length ∧ (ptpAt d n).foreign.filter (fun f => f.heard d.now && f.qualified) = l ∧ l = [f, g]) :=
  ⟨⟨st (ptpd annMsg dev0), 0, annMsg, pfcCheck dev0 0 0, mst 5 1, {}, by and_intros <;> decide +kernel⟩,
   by refine ⟨st (ptpd (ptpMsg 0 0) dev0), 0, ptpMsg 0 0, ptpOf (ptpd (ptpMsg 0 0) dev0) 0, ?c1, ?goal1⟩; case goal1 => and_intros <;> first | decide +kernel | rfl,
   by refine ⟨st (ptpd (ptpMsg 0 2) (ptpClk (pclk id) dev0)), 0, ptpMsg 0 2, ptpOf (ptpd (ptpMsg 0 2) (ptpClk (pclk id) dev0)) 0, ?c2, ?goal2⟩; case goal2 => and_intros <;> first | decide +kernel | rfl,
   by refine ⟨st (ptpd (ptpMsg 0 0) (ptpClk (pclk id) dev0)), 0, ptpMsg 0 0, ptpOf (ptpd (ptpMsg 0 0) (ptpClk (pclk id) dev0)) 0, ?c3, ?goal3⟩; case goal3 => and_intros <;> first | decide +kernel | rfl,
   ⟨st (ptpd (ptpMsg 8 0) (ptpClk (pclk (fun c => { c with twoStep := true, syncSeq := 9 })) dev0)), 0, ptpMsg 8 0, ptpOf (ptpd (ptpMsg 8 0) (ptpClk (pclk (fun c => { c with twoStep := true, syncSeq := 9 })) dev0)) 8, pclk (fun c => { c with twoStep := true, syncSeq := 9 }), by and_intros <;> decide +kernel⟩,
   ⟨st (ptpd (ptpMsg 8 0) (ptpClk (pclk (fun c => { c with twoStep := true, syncSeq := 8 })) dev0)), 0, ptpMsg 8 0, ptpOf (ptpd (ptpMsg 8 0) (ptpClk (pclk (fun c => { c with twoStep := true, syncSeq := 8 })) dev0)) 8, pclk (fun c => { c with twoStep := true, syncSeq := 8 }), by and_intros <;> decide +kernel⟩,
   ⟨st (ptpd (respMsg) (ptpClk (pclk (fun c => { c with reqOut := true, reqSeq := 9 })) dev0)), 0, respMsg, ptpOf (ptpd (respMsg) (ptpClk (pclk (fun c => { c with reqOut := true, reqSeq := 9 })) dev0)) 9, pclk (fun c => { c with reqOut := true, reqSeq := 9 }), by and_intros <;> decide +kernel⟩,
   by refine ⟨st dev0, 1, ?d7, ?c7, ?goal7⟩; case goal7 => and_intros <;> first | decide +kernel | rfl,
   by refine ⟨st (ptpClk (pclk (fun c => { c with reqLast := some 0, interval := some 0 })) dev0), 0, ?d8, ?c8, 0, 0, ?goal8⟩; case goal8 => and_intros <;> first | decide +kernel | rfl,
   by refine ⟨st (ptpUp 0 (fun c => { c with reqLast := some 0, interval := some 0xF7 })), 0, ?d9, ?c9, ?e9, ?m9, ?goal9⟩; case goal9 => and_intros <;> first | decide +kernel | rfl | exact due_of (by decide +kernel),
   by refine ⟨st (ptpUp 0x1000 (fun c => { c with reqLast := some 0, interval := some 0xF7 })), 0, ?d10, ?c10, ?e10, ?m10, ?goal10⟩; case goal10 => and_intros <;> first | decide +kernel | rfl | exact due_of (by decide +kernel),
   by refine ⟨st (ptpUp 0x2000 (fun c => { c with reqLast := some 0, interval := some 0xF7 })), 0, ?d11, ?c11, ?e11, ?m11, ?goal11⟩; case goal11 => and_intros <;> first | decide +kernel | rfl | exact due_of (by decide +kernel),
   ⟨dev0, 0, { dst := [], body := [], time := 0, event := true }, by and_intros <;> decide +kernel⟩,
   ⟨dev0, 0, [], by and_intros <;> decide +kernel⟩,
   ⟨ptpClk { foreign := [pf 5 1] } dev0, 0, [pf 5 1], pf 5 1, by and_intros <;> decide +kernel⟩,
   ⟨ptpClk { foreign := [pf 5 1, pf 4 2] } dev0, 0, [pf 5 1, pf 4 2], pf 5 1, pf 4 2, by and_intros <;> decide +kernel⟩⟩

/-- States and operands that meet the hypotheses of RvpSessions, clause by clause. -/
theorem wit_RvpSessions :
    (∃ (s : State) (x : RxDgram) (rest : List RxDgram) (d : Dev), live s.dev = true ∧ s.dev.rvp.rx = x :: rest ∧ rcnt (pfcCheck { s.dev with rvp := { s.dev.rvp with rx := rest } } x.port x.sp) 0 1 = d ∧ u7Only (beAt x.data 1 1) = true) ∧
    (∃ (s : State) (x : RxDgram) (rest : List RxDgram) (d : Dev), live s.dev = true ∧ s.dev.rvp.rx = x :: rest ∧ rcnt (pfcCheck { s.dev with rvp := { s.dev.rvp with rx := rest } } x.port x.sp) 0 1 = d ∧ u7Only (beAt x.data 1 1) = false ∧ 4 ≤ d.code ∧ d.code ≠ stLost ∧ d.code ≠ stHalted ∧ d.code ≠ stSleep ∧ beAt x.data 0 1 ≠ 1) ∧
    (∃ (s : State) (x : RxDgram) (rest : List RxDgram) (d : Dev), live s.dev = true ∧ s.dev.rvp.rx = x :: rest ∧ rcnt (pfcCheck { s.dev with rvp := { s.dev.rvp with rx := rest } } x.port x.sp) 0 1 = d ∧ u7Only (beAt x.data 1 1) = false ∧ 4 ≤ d.code ∧ d.code ≠ stLost ∧ d.code ≠ stHalted ∧ d.code ≠ stSleep ∧ rvpStep1 x.data = none ∧ d.code ≠ stForming ∧ beAt x.data 1 1 = 1) ∧
    (∃ (s : State) (x : RxDgram) (rest : List RxDgram) (d : Dev), live s.dev = true ∧ s.dev.rvp.rx = x :: rest ∧ rcnt (pfcCheck { s.dev with rvp := { s.dev.rvp with rx := rest } } x.port x.sp) 0 1 = d ∧ u7Only (beAt x.data 1 1) = false ∧ 4 ≤ d.code ∧ d.code ≠ stLost ∧ d.code ≠ stHalted ∧ d.code ≠ stSleep ∧ rvpStep1 x.data = none ∧ d.code ≠ stForming ∧ beAt x.data 1 1 ≠ 1 ∧ sessAt d (beAt x.data 2 2) = none) ∧
    (∃ (s : State) (x : RxDgram) (rest : List RxDgram) (d : Dev) (y : _), live s.dev = true ∧ s.dev.rvp.rx = x :: rest ∧ rcnt (pfcCheck { s.dev with rvp := { s.dev.rvp with rx := rest } } x.port x.sp) 0 1 = d ∧ u7Only (beAt x.data 1 1) = false ∧ 4 ≤ d.code ∧ d.code ≠ stLost ∧ d.code ≠ stHalted ∧ d.code ≠ stSleep ∧ rvpStep1 x.data = none ∧ d.code ≠ stForming ∧ beAt x.data 1 1 ≠ 1 ∧ sessAt d (beAt x.data 2 2) = some y ∧ y.token = beAt x.data 4 4 ∧ y.port = x.port ∧ y.sp = x.sp ∧ y.ip = x.ip ∧ y.udp = x.udp) ∧
    (∃ (s : State) (x : RxDgram) (d : Dev), live s.dev = true ∧ takeBody s.dev 1 = some (x, d) ∧ x.data.length = 32 ∧ beAt x.data 2 2 = 0 ∧ beAt x.data 4 4 = 0 ∧ 1 ≤ beAt x.data 29 1 ∧ beAt x.data 29 1 ≤ 3 ∧ beAt x.data 30 2 = 0 ∧ beAt x.data 28 1 = 2 ∧ loadAllowed d x.port x.sp = false) ∧
    (∃ (s : State) (x : RxDgram) (d : Dev) (n : _) (y : _), live s.dev = true ∧ takeBody s.dev 1 = some (x, d) ∧ x.data.length = 32 ∧ beAt x.data 2 2 = 0 ∧ beAt x.data 4 4 = 0 ∧ 1 ≤ beAt x.data 29 1 ∧ beAt x.data 29 1 ≤ 3 ∧ beAt x.data 30 2 = 0 ∧ beAt x.data 28 1 = 1 ∧ d.rvp.sess = [(n, y)] ∧ y.port = x.port ∧ y.sp = x.sp ∧ y.ip = x.ip ∧ y.udp = x.udp ∧ y.partner = beAt x.data 16 8 ∧ y.nonce = beAt x.data 24 4) ∧
    (∃ (s : State) (x : RxDgram) (d : Dev) (g : _) (tok : _) (e : _), live s.dev = true ∧ takeBody s.dev 1 = some (x, d) ∧ x.data.length = 32 ∧ beAt x.data 2 2 = 0 ∧ beAt x.data 4 4 = 0 ∧ 1 ≤ beAt x.data 29 1 ∧ beAt x.data 29 1 ≤ 3 ∧ beAt x.data 30 2 = 0 ∧ beAt x.data 28 1 = 1 ∧ d.rvp.sess = [] ∧ g = min (fld d Reg.RVP_CREDIT_CFG 31 16) (retUsable d x.port) ∧ 64 ≤ g ∧ newToken d 1 = (tok, e) ∧ e.rvp.sess = []) ∧
    (∃ (s : State) (x : RxDgram) (d : Dev) (g : _), live s.dev = true ∧ takeBody s.dev 1 = some (x, d) ∧ x.data.length = 32 ∧ beAt x.data 2 2 = 0 ∧ beAt x.data 4 4 = 0 ∧ 1 ≤ beAt x.data 29 1 ∧ beAt x.data 29 1 ≤ 3 ∧ beAt x.data 30 2 = 0 ∧ beAt x.data 28 1 = 1 ∧ d.rvp.sess = [] ∧ g = min (fld d Reg.RVP_CREDIT_CFG 31 16) (retUsable d x.port) ∧ g < 64) ∧
    (∃ (s : State) (x : RxDgram) (d : Dev) (y : Session), live s.dev = true ∧ takeBody s.dev 2 = some (x, d) ∧ x.data.length = 24 ∧ beAt x.data 16 1 = 1 ∧ beAt x.data 18 6 = 0 ∧ sessAt d (beAt x.data 2 2) = some y ∧ y.st = 2 ∧ beAt x.data 17 1 ≤ 1) ∧
    (∃ (s : State) (x : RxDgram) (d : Dev) (y : Session), live s.dev = true ∧ takeBody s.dev 2 = some (x, d) ∧ x.data.length = 24 ∧ beAt x.data 16 1 = 1 ∧ beAt x.data 18 6 = 0 ∧ sessAt d (beAt x.data 2 2) = some y ∧ y.st ≠ 2 ∧ beAt x.data 17 1 = 1) ∧
    (∃ (s : State) (x : RxDgram) (d : Dev) (y : Session), live s.dev = true ∧ takeBody s.dev 2 = some (x, d) ∧ x.data.length = 24 ∧ beAt x.data 16 1 = 1 ∧ beAt x.data 18 6 = 0 ∧ sessAt d (beAt x.data 2 2) = some y ∧ y.st ≠ 2 ∧ beAt x.data 17 1 = 0) ∧
    (∃ (s : State) (n : Nat) (y : Session), live s.dev = true ∧ sessAt s.dev n = some y ∧ y.idleFrom + fld s.dev Reg.RVP_CFG 31 16 * 1000000000 ≤ s.dev.now ∧ s.dev.code ≠ stHalted) ∧
    (∃ (s : State) (n : Nat) (y : Session), live s.dev = true ∧ sessAt s.dev n = some y ∧ s.dev.now < y.idleFrom + fld s.dev Reg.RVP_CFG 31 16 * 1000000000) :=
  ⟨⟨st (rxd (dg (rvpBytes 9 0 0 [])) (dev0)), (dg (rvpBytes 9 0 0 [])), [], rcnt (pfcCheck (dev0) 0 0) 0 1, by and_intros <;> decide +kernel⟩,
   ⟨st (rxd (dg [2, 1]) (dev0)), (dg [2, 1]), [], rcnt (pfcCheck (dev0) 0 0) 0 1, by and_intros <;> decide +kernel⟩,
   ⟨st (rxd (dg (rvpBytes 1 0 0 (List.replicate 12 0 ++ [1, 1, 0, 0]))) ({ dev0 with code := 5 })), (dg (rvpBytes 1 0 0 (List.replicate 12 0 ++ [1, 1, 0, 0]))), [], rcnt (pfcCheck ({ dev0 with code := 5 }) 0 0) 0 1, by and_intros <;> decide +kernel⟩,
   ⟨st (rxd (dg (rvpBytes 2 1 4 [])) (dev0)), (dg (rvpBytes 2 1 4 [])), [], rcnt (pfcCheck (dev0) 0 0) 0 1, by and_intros <;> decide +kernel⟩,
   ⟨st (rxd (dg (rvpBytes 2 1 5 [])) (sesd (ses 1 1) dev0)), (dg (rvpBytes 2 1 5 [])), [], rcnt (pfcCheck (sesd (ses 1 1) dev0) 0 0) 0 1, ses 1 1, by and_intros <;> decide +kernel⟩,
   ⟨st (bodyd (dg (rvpBytes 1 0 0 (List.replicate 12 0 ++ [2, 1, 0, 0]))) (dev0)), (dg (rvpBytes 1 0 0 (List.replicate 12 0 ++ [2, 1, 0, 0]))), dev0, by and_intros <;> decide +kernel⟩,
   ⟨st (bodyd (dg (rvpBytes 1 0 0 (List.replicate 12 0 ++ [1, 1, 0, 0]))) (sesd (ses 1 1) dev0)), (dg (rvpBytes 1 0 0 (List.replicate 12 0 ++ [1, 1, 0, 0]))), sesd (ses 1 1) dev0, 1, ses 1 1, by and_intros <;> decide +kernel⟩,
   ⟨st (bodyd (dg (rvpBytes 1 0 0 (List.replicate 12 0 ++ [1, 1, 0, 0]))) (regiond dev0)), (dg (rvpBytes 1 0 0 (List.replicate 12 0 ++ [1, 1, 0, 0]))), regiond dev0, 64, (newToken (regiond dev0) 1).1, (newToken (regiond dev0) 1).2, by and_intros <;> first | decide +kernel | rfl⟩,
   ⟨st (bodyd (dg (rvpBytes 1 0 0 (List.replicate 12 0 ++ [1, 1, 0, 0]))) (dev0)), (dg (rvpBytes 1 0 0 (List.replicate 12 0 ++ [1, 1, 0, 0]))), dev0, 0, by and_intros <;> decide +kernel⟩,
   ⟨st (bodyd (dg (rvpBytes 2 1 5 [1, 1, 0, 0, 0, 0, 0, 0])) (sesd (ses 1 2) dev0)), (dg (rvpBytes 2 1 5 [1, 1, 0, 0, 0, 0, 0, 0])), sesd (ses 1 2) dev0, ses 1 2, by and_intros <;> decide +kernel⟩,
   ⟨st (bodyd (dg (rvpBytes 2 1 5 [1, 1, 0, 0, 0, 0, 0, 0])) (sesd (ses 1 1) dev0)), (dg (rvpBytes 2 1 5 [1, 1, 0, 0, 0, 0, 0, 0])), sesd (ses 1 1) dev0, ses 1 1, by and_intros <;> decide +kernel⟩,
   ⟨st (bodyd (dg (rvpBytes 2 1 5 [1, 0, 0, 0, 0, 0, 0, 0])) (sesd (ses 1 1) dev0)), (dg (rvpBytes 2 1 5 [1, 0, 0, 0, 0, 0, 0, 0])), sesd (ses 1 1) dev0, ses 1 1, by and_intros <;> decide +kernel⟩,
   ⟨st (sesd { ses 1 1 with idleFrom := 5 } { dev0 with now := 5 }), 1, { ses 1 1 with idleFrom := 5 }, by and_intros <;> decide +kernel⟩,
   ⟨st (sesd { ses 1 1 with idleFrom := 6 } { dev0 with now := 5 }), 1, { ses 1 1 with idleFrom := 6 }, by and_intros <;> decide +kernel⟩⟩

/-- States and operands that meet the hypotheses of RvpRequests, clause by clause. -/
theorem wit_RvpRequests :
    (∃ (s : State) (x : RxDgram) (d : Dev) (y : Session), live s.dev = true ∧ takeBody s.dev 3 = some (x, d) ∧ x.data.length = 32 ∧ (∀ k, k < 16 → beAt x.data (16 + k) 1 = 0) ∧ sessAt d (beAt x.data 2 2) = some y) ∧
    (∃ (s : State) (n : Nat) (y : Session), live s.dev = true ∧ sessAt s.dev n = some y ∧ y.limit ≠ y.limitSent ∧ y.rise + 50000 ≤ s.dev.now) ∧
    (∃ (s : State) (n : Nat) (y : Session), live s.dev = true ∧ sessAt s.dev n = some y ∧ (y.limit = y.limitSent ∨ s.dev.now < y.rise + 50000)) ∧
    (∃ (s : State) (x : RxDgram) (d : Dev) (y : Session), live s.dev = true ∧ takeBody s.dev 4 = some (x, d) ∧ sessAt d (beAt x.data 2 2) = some y ∧ y.role ≠ 1) ∧
    (∃ (s : State) (x : RxDgram) (d : Dev) (y : Session), live s.dev = true ∧ takeBody s.dev 4 = some (x, d) ∧ sessAt d (beAt x.data 2 2) = some y ∧ y.role = 1 ∧ y.st ≠ 1) ∧
    (∃ (s : State) (x : RxDgram) (d : Dev) (y : Session) (im : Image) (blocks : List Nat) (r : _) (e : _), live s.dev = true ∧ takeBody s.dev 4 = some (x, d) ∧ sessAt d (beAt x.data 2 2) = some y ∧ y.role = 1 ∧ y.st = 1 ∧ requestFormat x.data = none ∧ requestModel d (beAt x.data 2 2) x.data = .ok im ∧ (y.limit + 2 ^ 33 - y.used - costOf (beAt x.data 32 4)) % 2 ^ 32 < 2 ^ 31 ∧ takeBlocks d y.port (costOf (beAt x.data 32 4)) = some blocks ∧ r = ({ st := .reasm, sess := beAt x.data 2 2, reqId := beAt x.data 16 8, model := beAt x.data 24 1, flow := (beAt x.data 25 1).testBit 0, flowEnd := decide (beAt x.data 25 1 = 3), fallback := beAt x.data 26 1, sessFb := y.fallback, frames := beAt x.data 28 2, metaLen := beAt x.data 30 2, payLen := beAt x.data 32 4, deadlineUs := beAt x.data 36 4, flowKey := slice x.data 40 16, port := y.port, sp := y.sp, cost := costOf (beAt x.data 32 4), blocks := blocks, budget := im.budget, defDl := im.defDeadline, got := [(0, 0, x.data.length - 64)], opened := x.time } : Req) ∧ { putSess d (beAt x.data 2 2) (some { y with used := (y.used + costOf (beAt x.data 32 4)) % 2 ^ 32 }) with rvp := { (putSess d (beAt x.data 2 2) (some { y with used := (y.used + costOf (beAt x.data 32 4)) % 2 ^ 32 })).rvp with reqs := smPut d.rvp.nextReq (some r) d.rvp.reqs, nextReq := d.rvp.nextReq + 1 }, det := { d.det with diverged := d.det.diverged.filter (fun q => decide (q ≠ beAt x.data 16 8)) } } = e ∧ beAt x.data 28 2 ≠ 1) ∧
    (∃ (s : State) (x : RxDgram) (d : Dev) (y : Session) (im : Image) (blocks : List Nat) (r : _) (e : _), live s.dev = true ∧ takeBody s.dev 4 = some (x, d) ∧ sessAt d (beAt x.data 2 2) = some y ∧ y.role = 1 ∧ y.st = 1 ∧ requestFormat x.data = none ∧ requestModel d (beAt x.data 2 2) x.data = .ok im ∧ (y.limit + 2 ^ 33 - y.used - costOf (beAt x.data 32 4)) % 2 ^ 32 < 2 ^ 31 ∧ takeBlocks d y.port (costOf (beAt x.data 32 4)) = some blocks ∧ r = ({ st := .reasm, sess := beAt x.data 2 2, reqId := beAt x.data 16 8, model := beAt x.data 24 1, flow := (beAt x.data 25 1).testBit 0, flowEnd := decide (beAt x.data 25 1 = 3), fallback := beAt x.data 26 1, sessFb := y.fallback, frames := beAt x.data 28 2, metaLen := beAt x.data 30 2, payLen := beAt x.data 32 4, deadlineUs := beAt x.data 36 4, flowKey := slice x.data 40 16, port := y.port, sp := y.sp, cost := costOf (beAt x.data 32 4), blocks := blocks, budget := im.budget, defDl := im.defDeadline, got := [(0, 0, x.data.length - 64)], opened := x.time } : Req) ∧ { putSess d (beAt x.data 2 2) (some { y with used := (y.used + costOf (beAt x.data 32 4)) % 2 ^ 32 }) with rvp := { (putSess d (beAt x.data 2 2) (some { y with used := (y.used + costOf (beAt x.data 32 4)) % 2 ^ 32 })).rvp with reqs := smPut d.rvp.nextReq (some r) d.rvp.reqs, nextReq := d.rvp.nextReq + 1 }, det := { d.det with diverged := d.det.diverged.filter (fun q => decide (q ≠ beAt x.data 16 8)) } } = e ∧ beAt x.data 28 2 = 1) ∧
    (∃ (s : State) (x : RxDgram) (d : Dev) (y : Session), live s.dev = true ∧ takeBody s.dev 5 = some (x, d) ∧ sessAt d (beAt x.data 2 2) = some y ∧ y.role = 1 ∧ 32 < x.data.length ∧ beAt x.data 26 2 = 0 ∧ inReasm d (beAt x.data 2 2) (beAt x.data 16 8) = none) ∧
    (∃ (s : State) (x : RxDgram) (d : Dev) (y : Session) (h : _) (r : _), live s.dev = true ∧ takeBody s.dev 5 = some (x, d) ∧ sessAt d (beAt x.data 2 2) = some y ∧ y.role = 1 ∧ 32 < x.data.length ∧ beAt x.data 26 2 = 0 ∧ inReasm d (beAt x.data 2 2) (beAt x.data 16 8) = some (h, r) ∧ beAt x.data 24 2 ≠ 0 ∧ (beAt x.data 24 2, beAt x.data 28 4, x.data.length - 32) ∈ r.got) ∧
    (∃ (s : State) (x : RxDgram) (d : Dev) (y : Session) (h : _) (r : _), live s.dev = true ∧ takeBody s.dev 5 = some (x, d) ∧ sessAt d (beAt x.data 2 2) = some y ∧ y.role = 1 ∧ 32 < x.data.length ∧ beAt x.data 26 2 = 0 ∧ inReasm d (beAt x.data 2 2) (beAt x.data 16 8) = some (h, r) ∧ (∀ g ∈ r.got, g.1 ≠ beAt x.data 24 2) ∧ beAt x.data 24 2 < r.frames ∧ r.payLen < beAt x.data 28 4 + (x.data.length - 32)) ∧
    (∃ (s : State) (x : RxDgram) (d : Dev) (y : Session) (h : _) (r : _), live s.dev = true ∧ takeBody s.dev 5 = some (x, d) ∧ sessAt d (beAt x.data 2 2) = some y ∧ y.role = 1 ∧ 32 < x.data.length ∧ beAt x.data 26 2 = 0 ∧ inReasm d (beAt x.data 2 2) (beAt x.data 16 8) = some (h, r) ∧ (∀ g ∈ r.got, g.1 ≠ beAt x.data 24 2) ∧ beAt x.data 24 2 < r.frames ∧ beAt x.data 28 4 + (x.data.length - 32) ≤ r.payLen ∧ (∀ g ∈ r.got, g.2.1 + g.2.2 ≤ beAt x.data 28 4 ∨ beAt x.data 28 4 + (x.data.length - 32) ≤ g.2.1) ∧ r.got.length + 1 ≠ r.frames) ∧
    (∃ (s : State) (h : Nat) (r : Req), live s.dev = true ∧ reqAt s.dev h = some r ∧ r.st = .reasm ∧ r.released = false ∧ r.opened + 10000 * fld s.dev Reg.RVP_CFG 15 0 ≤ s.dev.now) ∧
    (∃ (s : State) (h : Nat) (r : Req), live s.dev = true ∧ reqAt s.dev h = some r ∧ s.dev.now < r.opened + 10000 * fld s.dev Reg.RVP_CFG 15 0) :=
  ⟨⟨st (bodyd (dg (rvpBytes 3 1 5 (List.replicate 16 0))) (sesd (ses 1 1) dev0)), (dg (rvpBytes 3 1 5 (List.replicate 16 0))), sesd (ses 1 1) dev0, ses 1 1, by and_intros <;> decide +kernel⟩,
   ⟨st (sesd (ses 1 1) { dev0 with now := 50000 }), 1, ses 1 1, by and_intros <;> decide +kernel⟩,
   ⟨st (sesd { ses 1 1 with limitSent := 64 } dev0), 1, { ses 1 1 with limitSent := 64 }, by and_intros <;> decide +kernel⟩,
   ⟨st (bodyd (dg (rvpBytes 4 1 5 [])) (sesd (ses 2 1) dev0)), (dg (rvpBytes 4 1 5 [])), sesd (ses 2 1) dev0, ses 2 1, by and_intros <;> decide +kernel⟩,
   ⟨st (bodyd (dg (rvpBytes 4 1 5 [])) (sesd (ses 1 2) dev0)), (dg (rvpBytes 4 1 5 [])), sesd (ses 1 2) dev0, ses 1 2, by and_intros <;> decide +kernel⟩,
   by refine ⟨st (bodyd (reqMsg 2) reqDev), reqMsg 2, reqDev, ses 1 1, { maxPayload := 2 }, [0], ?r5, ?e5, ?goal5⟩; case goal5 => and_intros <;> first | decide +kernel | rfl,
   by refine ⟨st (bodyd (reqMsg 1) reqDev), reqMsg 1, reqDev, ses 1 1, { maxPayload := 2 }, [0], ?r6, ?e6, ?goal6⟩; case goal6 => and_intros <;> first | decide +kernel | rfl,
   ⟨st (bodyd (dg (rvpBytes 5 1 5 (List.replicate 8 0 ++ [0, 1, 0, 0, 0, 0, 0, 1, 7]))) (sesd (ses 1 1) dev0)), (dg (rvpBytes 5 1 5 (List.replicate 8 0 ++ [0, 1, 0, 0, 0, 0, 0, 1, 7]))), sesd (ses 1 1) dev0, ses 1 1, by and_intros <;> decide +kernel⟩,
   ⟨st (bodyd (dg (rvpBytes 5 1 5 (List.replicate 8 0 ++ [0, 1, 0, 0, 0, 0, 0, 1, 7]))) (reqd { rq with st := .reasm, frames := 2, payLen := 2, got := [(0, 0, 1), (1, 1, 1)] } (sesd (ses 1 1) dev0))), (dg (rvpBytes 5 1 5 (List.replicate 8 0 ++ [0, 1, 0, 0, 0, 0, 0, 1, 7]))), reqd { rq with st := .reasm, frames := 2, payLen := 2, got := [(0, 0, 1), (1, 1, 1)] } (sesd (ses 1 1) dev0), ses 1 1, 4, { rq with st := .reasm, frames := 2, payLen := 2, got := [(0, 0, 1), (1, 1, 1)] }, by and_intros <;> decide +kernel⟩,
   ⟨st (bodyd (dg (rvpBytes 5 1 5 (List.replicate 8 0 ++ [0, 1, 0, 0, 0, 0, 0, 1, 7]))) (reqd { rq with st := .reasm, frames := 2, payLen := 1, got := [(0, 0, 1)] } (sesd (ses 1 1) dev0))), (dg (rvpBytes 5 1 5 (List.replicate 8 0 ++ [0, 1, 0, 0, 0, 0, 0, 1, 7]))), reqd { rq with st := .reasm, frames := 2, payLen := 1, got := [(0, 0, 1)] } (sesd (ses 1 1) dev0), ses 1 1, 4, { rq with st := .reasm, frames := 2, payLen := 1, got := [(0, 0, 1)] }, by and_intros <;> decide +kernel⟩,
   ⟨st (bodyd (dg (rvpBytes 5 1 5 (List.replicate 8 0 ++ [0, 1, 0, 0, 0, 0, 0, 1, 7]))) (reqd { rq with st := .reasm, frames := 3, payLen := 3, got := [(0, 0, 1)] } (sesd (ses 1 1) dev0))), (dg (rvpBytes 5 1 5 (List.replicate 8 0 ++ [0, 1, 0, 0, 0, 0, 0, 1, 7]))), reqd { rq with st := .reasm, frames := 3, payLen := 3, got := [(0, 0, 1)] } (sesd (ses 1 1) dev0), ses 1 1, 4, { rq with st := .reasm, frames := 3, payLen := 3, got := [(0, 0, 1)] }, by and_intros <;> decide +kernel⟩,
   ⟨st (reqd { rq with st := .reasm, opened := 0 } (wr { dev0 with now := 10000 } Reg.RVP_CFG 1)), 4, { rq with st := .reasm, opened := 0 }, by and_intros <;> decide +kernel⟩,
   ⟨st (reqd { rq with st := .reasm, opened := 0 } (wr { dev0 with now := 9999 } Reg.RVP_CFG 1)), 4, { rq with st := .reasm, opened := 0 }, by and_intros <;> decide +kernel⟩⟩

/-- States and operands that meet the hypotheses of ModelLoads, clause by clause. -/
theorem wit_ModelLoads :
    (∃ (s : State) (x : RxDgram) (d : Dev) (y : Session) (n m : Nat), live s.dev = true ∧ takeBody s.dev 7 = some (x, d) ∧ n = beAt x.data 2 2 ∧ m = beAt x.data 17 1 ∧ sessAt d n = some y ∧ y.role = 2 ∧ loadFormat x.data = none ∧ beAt x.data 16 1 = 1 ∧ loadOf d m = none ∧ beAt x.data 32 8 = 0 ∧ (modelAt d m).staged = none ∧ d.rvp.loads = [none, none] ∧ beAt x.data 40 8 ≤ stageLimit d) ∧
    (∃ (s : State) (x : RxDgram) (d : Dev) (y : Session) (n m : Nat) (k : _) (l : _), live s.dev = true ∧ takeBody s.dev 7 = some (x, d) ∧ n = beAt x.data 2 2 ∧ m = beAt x.data 17 1 ∧ sessAt d n = some y ∧ y.role = 2 ∧ loadFormat x.data = none ∧ beAt x.data 16 1 = 1 ∧ loadOf d m = some (k, l) ∧ l.owned = true ∧ l.sess = n ∧ beAt x.data 24 4 = l.gen ∧ beAt x.data 40 8 = l.size ∧ beAt x.data 32 8 ≠ l.next ∧ l.lastAck ≠ 0 ∧ d.now < l.lastAck + 100000) ∧
    (∃ (s : State) (x : RxDgram) (d : Dev) (y : Session) (n m : Nat) (k : _) (l : _), live s.dev = true ∧ takeBody s.dev 7 = some (x, d) ∧ n = beAt x.data 2 2 ∧ m = beAt x.data 17 1 ∧ sessAt d n = some y ∧ y.role = 2 ∧ loadFormat x.data = none ∧ beAt x.data 16 1 = 2 ∧ loadOf d m = some (k, l) ∧ l.owned = true ∧ l.sess = n ∧ l.status ≠ 3) ∧
    (∃ (s : State) (x : RxDgram) (d : Dev) (y : Session) (n m : Nat), live s.dev = true ∧ takeBody s.dev 7 = some (x, d) ∧ n = beAt x.data 2 2 ∧ m = beAt x.data 17 1 ∧ sessAt d n = some y ∧ y.role = 2 ∧ loadFormat x.data = none ∧ beAt x.data 16 1 = 2 ∧ loadOf d m = none ∧ (modelAt d m).staged = none) ∧
    (∃ (s : State) (x : RxDgram) (d : Dev) (y : Session) (n m : Nat) (im : _), live s.dev = true ∧ takeBody s.dev 7 = some (x, d) ∧ n = beAt x.data 2 2 ∧ m = beAt x.data 17 1 ∧ sessAt d n = some y ∧ y.role = 2 ∧ loadFormat x.data = none ∧ beAt x.data 16 1 = 3 ∧ loadOf d m = none ∧ (modelAt d m).active = some im ∧ (3, m, n) ∉ d.rvp.reqOps) ∧
    (∃ (s : State) (x : RxDgram) (d : Dev) (y : Session) (n m : Nat), live s.dev = true ∧ takeBody s.dev 7 = some (x, d) ∧ n = beAt x.data 2 2 ∧ m = beAt x.data 17 1 ∧ sessAt d n = some y ∧ y.role = 2 ∧ loadFormat x.data = none ∧ beAt x.data 16 1 = 3 ∧ loadOf d m = none ∧ (modelAt d m).active = none) ∧
    (∃ (s : State) (x : RxDgram) (d : Dev) (y : Session) (n m : Nat) (im : _), live s.dev = true ∧ takeBody s.dev 7 = some (x, d) ∧ n = beAt x.data 2 2 ∧ m = beAt x.data 17 1 ∧ sessAt d n = some y ∧ y.role = 2 ∧ loadFormat x.data = none ∧ beAt x.data 16 1 = 4 ∧ loadOf d m = none ∧ (modelAt d m).prev = some im ∧ (4, m, n) ∉ d.rvp.reqOps) ∧
    (∃ (s : State) (x : RxDgram) (d : Dev) (y : Session) (n m : Nat), live s.dev = true ∧ takeBody s.dev 7 = some (x, d) ∧ n = beAt x.data 2 2 ∧ m = beAt x.data 17 1 ∧ sessAt d n = some y ∧ y.role = 2 ∧ loadFormat x.data = none ∧ beAt x.data 16 1 = 4 ∧ loadOf d m = none ∧ (modelAt d m).prev = none) ∧
    (∃ (s : State) (x : RxDgram) (d : Dev) (y : Session) (n m : Nat) (im : _), live s.dev = true ∧ takeBody s.dev 7 = some (x, d) ∧ n = beAt x.data 2 2 ∧ m = beAt x.data 17 1 ∧ sessAt d n = some y ∧ y.role = 2 ∧ loadFormat x.data = none ∧ beAt x.data 16 1 = 5 ∧ loadOf d m = none ∧ (modelAt d m).staged = none ∧ (modelAt d m).active = some im) ∧
    (∃ (s : State) (x : RxDgram) (d : Dev) (y : Session) (n m : Nat), live s.dev = true ∧ takeBody s.dev 7 = some (x, d) ∧ n = beAt x.data 2 2 ∧ m = beAt x.data 17 1 ∧ sessAt d n = some y ∧ y.role = 2 ∧ loadFormat x.data = none ∧ beAt x.data 16 1 = 5 ∧ loadOf d m = none ∧ (modelAt d m).staged = none ∧ (modelAt d m).active = none) ∧
    (∃ (s : State) (k : Fin 2) (l : Load), live s.dev = true ∧ s.dev.rvp.loads.getD k.val none = some l ∧ l.busy = true ∧ l.status = 2) ∧
    (∃ (s : State) (k : Fin 2) (l : Load), live s.dev = true ∧ s.dev.rvp.loads.getD k.val none = some l ∧ l.busy = true ∧ l.status = 3 ∧ parseImage l.bytes = none) ∧
    (∃ (s : State) (k : Fin 2) (l : Load) (im : _) (off : _) (vm : _) (its : _), live s.dev = true ∧ s.dev.rvp.loads.getD k.val none = some l ∧ l.busy = true ∧ l.status = 3 ∧ parseImage l.bytes = some (im, off) ∧ placement s.dev im = some vm ∧ itemsAll s.dev im vm = some its) :=
  ⟨⟨st (bodyd (ldf 1 1 1 7 0 8 [0]) (wr mgrd (xreg 0 0x014) 1)), (ldf 1 1 1 7 0 8 [0]), wr mgrd (xreg 0 0x014) 1, ses 2 1, 1, 1, by and_intros <;> decide +kernel⟩,
   ⟨st (bodyd (ldf 1 1 1 7 0 8 [0]) (loadd { ld0 with lastAck := 1 } { mgrd with now := 100000 })), (ldf 1 1 1 7 0 8 [0]), loadd { ld0 with lastAck := 1 } { mgrd with now := 100000 }, ses 2 1, 1, 1, 0, { ld0 with lastAck := 1 }, by and_intros <;> decide +kernel⟩,
   ⟨st (bodyd (ldf 2 1 0 0 0 0 []) (loadd ld0 mgrd)), (ldf 2 1 0 0 0 0 []), loadd ld0 mgrd, ses 2 1, 1, 1, 0, ld0, by and_intros <;> decide +kernel⟩,
   ⟨st (bodyd (ldf 2 1 0 0 0 0 []) (mgrd)), (ldf 2 1 0 0 0 0 []), mgrd, ses 2 1, 1, 1, by and_intros <;> decide +kernel⟩,
   ⟨st (bodyd (ldf 3 1 0 0 0 0 []) (withModel { active := some img1 } mgrd)), (ldf 3 1 0 0 0 0 []), withModel { active := some img1 } mgrd, ses 2 1, 1, 1, img1, by and_intros <;> decide +kernel⟩,
   ⟨st (bodyd (ldf 3 1 0 0 0 0 []) (mgrd)), (ldf 3 1 0 0 0 0 []), mgrd, ses 2 1, 1, 1, by and_intros <;> decide +kernel⟩,
   ⟨st (bodyd (ldf 4 1 0 0 0 0 []) (withModel { prev := some img1 } mgrd)), (ldf 4 1 0 0 0 0 []), withModel { prev := some img1 } mgrd, ses 2 1, 1, 1, img1, by and_intros <;> decide +kernel⟩,
   ⟨st (bodyd (ldf 4 1 0 0 0 0 []) (mgrd)), (ldf 4 1 0 0 0 0 []), mgrd, ses 2 1, 1, 1, by and_intros <;> decide +kernel⟩,
   ⟨st (bodyd (ldf 5 1 0 0 0 0 []) (withModel { active := some img1 } mgrd)), (ldf 5 1 0 0 0 0 []), withModel { active := some img1 } mgrd, ses 2 1, 1, 1, img1, by and_intros <;> decide +kernel⟩,
   ⟨st (bodyd (ldf 5 1 0 0 0 0 []) (mgrd)), (ldf 5 1 0 0 0 0 []), mgrd, ses 2 1, 1, 1, by and_intros <;> decide +kernel⟩,
   ⟨st (loadd { ld0 with status := 2 } dev0), 0, { ld0 with status := 2 }, by and_intros <;> decide +kernel⟩,
   ⟨st (loadd { ld0 with status := 3 } dev0), 0, { ld0 with status := 3 }, by and_intros <;> decide +kernel⟩,
   ⟨st storeDev, 0, { ld0 with status := 3, busy := true, bytes := imgBytes }, (imageOf imgBytes imgTab), 352, ((placement storeDev (imageOf imgBytes imgTab)).getD []), ((itemsAll storeDev (imageOf imgBytes imgTab) ((placement storeDev (imageOf imgBytes imgTab)).getD [])).getD []), by decide +kernel, rfl, rfl, rfl, imgBytes_parse, by decide +kernel, by decide +kernel⟩⟩

/-- States and operands that meet the hypotheses of ConditionAndRelease, clause by clause. -/
theorem wit_ConditionAndRelease :
    (∃ (s : State) (m : Fin 16) (h : Nat) (r : Req) (im : Image), live s.dev = true ∧ headQueued s.dev (m.val + 1) = some (h, r) ∧ (modelAt s.dev (m.val + 1)).active = some im ∧ misses s.dev r im s.dev.now = false ∧ r.flow = false ∧ r.payLen = 0) ∧
    (∃ (s : State) (m : Fin 16) (h : Nat) (r : Req) (im : Image) (k : _), live s.dev = true ∧ headQueued s.dev (m.val + 1) = some (h, r) ∧ (modelAt s.dev (m.val + 1)).active = some im ∧ misses s.dev r im s.dev.now = false ∧ r.flow = false ∧ r.payLen ≠ 0 ∧ r.slot = none ∧ k < inputSlots im ∧ k ∉ slotsUsed s.dev (m.val + 1) im.gen ∧ (∀ j, j < k → j ∈ slotsUsed s.dev (m.val + 1) im.gen)) ∧
    (∃ (s : State) (m : Fin 16) (h : Nat) (r : Req) (im : Image), live s.dev = true ∧ headQueued s.dev (m.val + 1) = some (h, r) ∧ (modelAt s.dev (m.val + 1)).active = some im ∧ misses s.dev r im s.dev.now = false ∧ r.flow = false ∧ r.payLen ≠ 0 ∧ r.slot = none ∧ (∀ k, k < inputSlots im → k ∈ slotsUsed s.dev (m.val + 1) im.gen) ∧ r.waited = true) ∧
    (∃ (s : State) (m : Fin 16) (h : Nat) (r : Req) (im : Image), live s.dev = true ∧ headQueued s.dev (m.val + 1) = some (h, r) ∧ (modelAt s.dev (m.val + 1)).active = some im ∧ misses s.dev r im s.dev.now = false ∧ r.flow = false ∧ r.payLen ≠ 0 ∧ r.slot = none ∧ (∀ k, k < inputSlots im → k ∈ slotsUsed s.dev (m.val + 1) im.gen) ∧ r.waited = false) ∧
    (∃ (s : State), live s.dev = true ∧ s.dev.tim.beat = false) ∧
    (∃ (s : State), live s.dev = true ∧ s.dev.tim.beat = true ∧ beatsIgnored s.dev = true) ∧
    (∃ (s : State), live s.dev = true ∧ s.dev.tim.beat = true ∧ beatsIgnored s.dev = false) :=
  ⟨⟨st (conDev 1 { rqq with payLen := 0 } []), 0, 4, { rqq with payLen := 0 }, imSlots 1, by and_intros <;> decide +kernel⟩,
   ⟨st (conDev 2 rqq [(5, rq0)]), 0, 4, rqq, imSlots 2, 1, by and_intros <;> decide +kernel⟩,
   ⟨st (conDev 1 { rqq with waited := true } [(5, rq0)]), 0, 4, { rqq with waited := true }, imSlots 1, by and_intros <;> decide +kernel⟩,
   ⟨st (conDev 1 rqq [(5, rq0)]), 0, 4, rqq, imSlots 1, by and_intros <;> decide +kernel⟩,
   ⟨st dev0, by and_intros <;> decide +kernel⟩,
   ⟨st { dev0 with code := 11, tim := { beat := true } }, by and_intros <;> decide +kernel⟩,
   ⟨st { dev0 with tim := { beat := true } }, by and_intros <;> decide +kernel⟩⟩

/-- States and operands that meet the hypotheses of FlowStore, clause by clause. -/
theorem wit_FlowStore :
    (∃ (s : State) (e : Fin 65536), live s.dev = true ∧ (entAt s.dev e.val).granted = true) ∧
    (∃ (s : State) (e : Fin 65536) (h : _) (r : _) (l : _), live s.dev = true ∧ (entAt s.dev e.val).granted = false ∧ (entAt s.dev e.val).claims = h :: l ∧ reqAt s.dev h = some r) ∧
    (∃ (s : State) (c : Fin 256) (m : FlowMsg) (rest : List FlowMsg) (d : Dev) (e : _) (t : _), awake s.dev = true ∧ s.dev.fcs.msgs = m :: rest ∧ d = { s.dev with fcs := { s.dev.fcs with msgs := rest } } ∧ m = .leaving c.val e t ∧ (entAt d e).st = .held c.val) ∧
    (∃ (s : State) (c : Fin 256) (m : FlowMsg) (rest : List FlowMsg) (d : Dev) (e : _) (t : _), awake s.dev = true ∧ s.dev.fcs.msgs = m :: rest ∧ d = { s.dev with fcs := { s.dev.fcs with msgs := rest } } ∧ m = .leaving c.val e t ∧ (entAt d e).st ≠ .held c.val) ∧
    (∃ (s : State) (c : Fin 256) (m : FlowMsg) (rest : List FlowMsg) (d : Dev) (e : _) (t : _), awake s.dev = true ∧ s.dev.fcs.msgs = m :: rest ∧ d = { s.dev with fcs := { s.dev.fcs with msgs := rest } } ∧ m = .notice c.val e t ∧ (entAt d e).st = .evicting c.val t ∧ (entAt d e).dropMark = false ∧ (entAt d e).failMark = false) ∧
    (∃ (s : State) (c : Fin 256) (m : FlowMsg) (rest : List FlowMsg) (d : Dev) (e : _) (t : _), awake s.dev = true ∧ s.dev.fcs.msgs = m :: rest ∧ d = { s.dev with fcs := { s.dev.fcs with msgs := rest } } ∧ m = .notice c.val e t ∧ (entAt d e).st = .evicting c.val t ∧ (entAt d e).dropMark = false ∧ (entAt d e).failMark = true) ∧
    (∃ (s : State) (c : Fin 256) (m : FlowMsg) (rest : List FlowMsg) (d : Dev) (e : _) (r : _) (spad : _) (slot : _), awake s.dev = true ∧ s.dev.fcs.msgs = m :: rest ∧ d = { s.dev with fcs := { s.dev.fcs with msgs := rest } } ∧ m = .snoop c.val e r spad slot none ∧ heldOf d (siteFor d c.val) e = none) ∧
    (∃ (s : State) (c : Fin 256) (m : FlowMsg) (rest : List FlowMsg) (d : Dev) (e : _) (r : _) (spad : _) (slot : _) (h : _), awake s.dev = true ∧ s.dev.fcs.msgs = m :: rest ∧ d = { s.dev with fcs := { s.dev.fcs with msgs := rest } } ∧ m = .snoop c.val e r spad slot none ∧ heldOf d (siteFor d c.val) e = some h ∧ h.leaving.isSome = true) ∧
    (∃ (s : State) (c : Fin 256) (m : FlowMsg) (rest : List FlowMsg) (d : Dev) (e : _) (r : _) (spad : _) (slot : _) (h : _), awake s.dev = true ∧ s.dev.fcs.msgs = m :: rest ∧ d = { s.dev with fcs := { s.dev.fcs with msgs := rest } } ∧ m = .snoop c.val e r spad slot none ∧ heldOf d (siteFor d c.val) e = some h ∧ h.leaving = none ∧ awaits d (siteFor d r) slot e = false) ∧
    (∃ (s : State) (c : Fin 256) (m : FlowMsg) (rest : List FlowMsg) (d : Dev) (e : _) (r : _) (spad : _) (slot : _) (h : _) (ws : _) (b : _), awake s.dev = true ∧ s.dev.fcs.msgs = m :: rest ∧ d = { s.dev with fcs := { s.dev.fcs with msgs := rest } } ∧ m = .snoop c.val e r spad slot none ∧ heldOf d (siteFor d c.val) e = some h ∧ h.leaving = none ∧ awaits d (siteFor d r) slot e = true ∧ copyWords (siteFor d c.val) h.spad h.words d = (ws, b)) ∧
    (∃ (s : State) (c : Fin 256) (m : FlowMsg) (rest : List FlowMsg) (d : Dev) (e : _) (r : _) (spad : _) (slot : _) (bs : _), awake s.dev = true ∧ s.dev.fcs.msgs = m :: rest ∧ d = { s.dev with fcs := { s.dev.fcs with msgs := rest } } ∧ m = .snoop c.val e r spad slot (some bs) ∧ awaits d (siteFor d r) slot e = true) ∧
    (∃ (s : State) (c : Fin 256) (m : FlowMsg) (rest : List FlowMsg) (d : Dev) (e : _) (r : _) (spad : _) (slot : _) (bs : _), awake s.dev = true ∧ s.dev.fcs.msgs = m :: rest ∧ d = { s.dev with fcs := { s.dev.fcs with msgs := rest } } ∧ m = .snoop c.val e r spad slot (some bs) ∧ awaits d (siteFor d r) slot e = false) ∧
    (∃ (s : State) (c : Fin 256) (m : FlowMsg) (rest : List FlowMsg) (d : Dev) (e : _) (t : _) (spad : _) (slot : _), awake s.dev = true ∧ s.dev.fcs.msgs = m :: rest ∧ d = { s.dev with fcs := { s.dev.fcs with msgs := rest } } ∧ m = .retry c.val e t spad slot ∧ awaits d (siteFor d c.val) slot e = false) ∧
    (∃ (s : State) (c : Fin 256) (m : FlowMsg) (rest : List FlowMsg) (d : Dev) (e : _) (t : _) (spad : _) (slot : _), awake s.dev = true ∧ s.dev.fcs.msgs = m :: rest ∧ d = { s.dev with fcs := { s.dev.fcs with msgs := rest } } ∧ m = .retry c.val e t spad slot ∧ awaits d (siteFor d c.val) slot e = true ∧ (entAt d e).st = .inMemory ∧ tagReached (entAt d e).etag t = true) ∧
    (∃ (s : State) (c : Fin 256) (m : FlowMsg) (rest : List FlowMsg) (d : Dev) (e : _) (t : _) (spad : _) (slot : _), awake s.dev = true ∧ s.dev.fcs.msgs = m :: rest ∧ d = { s.dev with fcs := { s.dev.fcs with msgs := rest } } ∧ m = .retry c.val e t spad slot ∧ awaits d (siteFor d c.val) slot e = true ∧ tagReached (entAt d e).etag t = false) ∧
    (∃ (s : State) (c : Fin 256) (m : FlowMsg) (rest : List FlowMsg) (d : Dev) (e : _) (h : _), awake s.dev = true ∧ s.dev.fcs.msgs = m :: rest ∧ d = { s.dev with fcs := { s.dev.fcs with msgs := rest } } ∧ m = .drop c.val e ∧ heldOf d (siteFor d c.val) e = some h ∧ (entAt d e).dropMark = false) ∧
    (∃ (s : State) (c : Fin 256) (m : FlowMsg) (rest : List FlowMsg) (d : Dev) (e : _), awake s.dev = true ∧ s.dev.fcs.msgs = m :: rest ∧ d = { s.dev with fcs := { s.dev.fcs with msgs := rest } } ∧ m = .drop c.val e ∧ heldOf d (siteFor d c.val) e = none) ∧
    (∃ (d q : Dev) (i j slot e spad : Nat) (bs : List Byte) (z : QCmd), fcnt (place (fillCopy j spad (clsWords (entAt d e).cls) bs (countNet (dropCopies d e) i j true true (clsWords (entAt d e).cls))) j slot e spad (clsWords (entAt d e).cls) (attrOf (entAt d e))) 3 1 = q ∧ (coreAt q j).ctx.head? = some z) ∧
    (∃ (s : State) (c : Fin 256) (e : Fin 65536) (h : HeldCtx) (t : Nat), awake s.dev = true ∧ heldOf s.dev (siteFor s.dev c.val) e.val = some h ∧ h.leaving = none) ∧
    (∃ (s : State) (c : Fin 256) (e : Fin 65536) (h : HeldCtx) (t : Nat) (d : _), awake s.dev = true ∧ heldOf s.dev (siteFor s.dev c.val) e.val = some h ∧ h.leaving = some t ∧ storeHome s.dev (siteFor s.dev c.val) e.val h = (.ok (), d) ∧ (entAt s.dev e.val).dropMark = false) ∧
    (∃ (s : State) (e : Fin 65536), live s.dev = true ∧ (entAt s.dev e.val).st = .inMemory ∧ (entAt s.dev e.val).claims = [] ∧ unclaimed (entAt s.dev e.val) = true ∧ (entAt s.dev e.val).dropMark = false ∧ (entAt s.dev e.val).lastEnd + fld s.dev Reg.FCS_CFG 31 16 * 10 ^ 9 < s.dev.now) ∧
    (∃ (s : State) (e : Fin 65536), live s.dev = true ∧ (unclaimed (entAt s.dev e.val) = false ∨ s.dev.now ≤ (entAt s.dev e.val).lastEnd + fld s.dev Reg.FCS_CFG 31 16 * 10 ^ 9)) :=
  ⟨⟨st (fcsd { granted := true } [] dev0), 0, by and_intros <;> decide +kernel⟩,
   ⟨st { fcsd { claims := [4] } [] dev0 with rvp := { reqs := [(4, rq)] } }, 0, 4, rq, [], by and_intros <;> decide +kernel⟩,
   ⟨st (fcsd { st := .held 0 } [.leaving 0 0 1] dev0), 0, .leaving 0 0 1, [], fcsd { st := .held 0 } [] dev0, 0, 1, by and_intros <;> decide +kernel⟩,
   ⟨st (fcsd { st := .evicting 0 1 } [.leaving 0 0 1] dev0), 0, .leaving 0 0 1, [], fcsd { st := .evicting 0 1 } [] dev0, 0, 1, by and_intros <;> decide +kernel⟩,
   ⟨st (fcsd { st := .evicting 0 1 } [.notice 0 0 1] dev0), 0, .notice 0 0 1, [], fcsd { st := .evicting 0 1 } [] dev0, 0, 1, by and_intros <;> decide +kernel⟩,
   ⟨st (fcsd { st := .evicting 0 1, failMark := true } [.notice 0 0 1] dev0), 0, .notice 0 0 1, [], fcsd { st := .evicting 0 1, failMark := true } [] dev0, 0, 1, by and_intros <;> decide +kernel⟩,
   ⟨st (fcsd { st := .held 0 } [.snoop 0 0 1 1024 0 none] dev0), 0, .snoop 0 0 1 1024 0 none, [], fcsd { st := .held 0 } [] dev0, 0, 1, 1024, 0, by and_intros <;> decide +kernel⟩,
   ⟨st (fcsd { st := .held 0 } [.snoop 0 0 1 1024 0 none] (heldd (some 1) dev0)), 0, .snoop 0 0 1 1024 0 none, [], fcsd { st := .held 0 } [] (heldd (some 1) dev0), 0, 1, 1024, 0, held0 (some 1), by and_intros <;> decide +kernel⟩,
   ⟨st (fcsd { st := .held 0 } [.snoop 0 0 1 1024 3 none] (heldd none dev0)), 0, .snoop 0 0 1 1024 3 none, [], fcsd { st := .held 0 } [] (heldd none dev0), 0, 1, 1024, 3, held0 none, by and_intros <;> decide +kernel⟩,
   ⟨st (fcsd { st := .held 0 } [.snoop 0 0 1 1024 0 none] (heldd none dev0)), 0, .snoop 0 0 1 1024 0 none, [], fcsd { st := .held 0 } [] (heldd none dev0), 0, 1, 1024, 0, held0 none, (copyWords (siteFor (fcsd { st := .held 0 } [] (heldd none dev0)) 0) 1024 1 (fcsd { st := .held 0 } [] (heldd none dev0))).1, (copyWords (siteFor (fcsd { st := .held 0 } [] (heldd none dev0)) 0) 1024 1 (fcsd { st := .held 0 } [] (heldd none dev0))).2, by and_intros <;> decide +kernel⟩,
   ⟨st (fcsd { st := .held 0 } [.snoop 0 0 1 1024 0 (some (List.replicate 64 0))] (heldd none dev0)), 0, .snoop 0 0 1 1024 0 (some (List.replicate 64 0)), [], fcsd { st := .held 0 } [] (heldd none dev0), 0, 1, 1024, 0, List.replicate 64 0, by and_intros <;> decide +kernel⟩,
   ⟨st (fcsd { st := .held 0 } [.snoop 0 0 1 1024 0 (some (List.replicate 64 0))] dev0), 0, .snoop 0 0 1 1024 0 (some (List.replicate 64 0)), [], fcsd { st := .held 0 } [] dev0, 0, 1, 1024, 0, List.replicate 64 0, by and_intros <;> decide +kernel⟩,
   ⟨st (fcsd { st := .inMemory } [.retry 1 0 1 1024 3] (heldd none dev0)), 1, .retry 1 0 1 1024 3, [], fcsd { st := .inMemory } [] (heldd none dev0), 0, 1, 1024, 3, by and_intros <;> decide +kernel⟩,
   ⟨st (fcsd { st := .inMemory, etag := 1 } [.retry 1 0 1 1024 0] (heldd none dev0)), 1, .retry 1 0 1 1024 0, [], fcsd { st := .inMemory, etag := 1 } [] (heldd none dev0), 0, 1, 1024, 0, by and_intros <;> decide +kernel⟩,
   ⟨st (fcsd { st := .inMemory } [.retry 1 0 1 1024 0] (heldd none dev0)), 1, .retry 1 0 1 1024 0, [], fcsd { st := .inMemory } [] (heldd none dev0), 0, 1, 1024, 0, by and_intros <;> decide +kernel⟩,
   ⟨st (fcsd { st := .held 0 } [.drop 0 0] (heldd none dev0)), 0, .drop 0 0, [], fcsd { st := .held 0 } [] (heldd none dev0), 0, held0 none, by and_intros <;> decide +kernel⟩,
   ⟨st (fcsd { st := .held 0 } [.drop 0 0] dev0), 0, .drop 0 0, [], fcsd { st := .held 0 } [] dev0, 0, by and_intros <;> decide +kernel⟩,
   by refine ⟨(fcsd { st := .held 0 } [] (heldd none dev0)), ?q17, siteFor (fcsd { st := .held 0 } [] (heldd none dev0)) 0, siteFor (fcsd { st := .held 0 } [] (heldd none dev0)) 1, 0, 0, 1024, List.replicate 64 0, { slot := 0, pos := 0, word := BitVec.ofNat 128 (wCtx 4) }, ?goal17⟩; case goal17 => and_intros <;> first | decide +kernel | rfl,
   ⟨st (heldd none dev0), 0, 0, held0 none, 0, by and_intros <;> decide +kernel⟩,
   ⟨st (flowRegion (fcsd { st := .held 0 } [] (heldd (some 1) dev0))), 0, 0, held0 (some 1), 1, (storeHome (flowRegion (fcsd { st := .held 0 } [] (heldd (some 1) dev0))) (siteFor (flowRegion (fcsd { st := .held 0 } [] (heldd (some 1) dev0))) 0) 0 (held0 (some 1))).2, by and_intros <;> first | decide +kernel | rfl⟩,
   ⟨st (wr { fcsd { st := .inMemory } [] dev0 with now := 1000000001 } Reg.FCS_CFG 0x10000), 0, by and_intros <;> decide +kernel⟩,
   ⟨st (wr { fcsd { st := .inMemory } [] dev0 with now := 1000000000 } Reg.FCS_CFG 0x10000), 0, by and_intros <;> decide +kernel⟩⟩

/-- States and operands that meet the hypotheses of TimerCommands, clause by clause. -/
theorem wit_TimerCommands :
    (∃ (s : State) (n : Fin 32) (y : Fin 4), live s.dev = true ∧ ((timerAt s.dev n.val).running = false ∨ tmFrozen s.dev n.val = true ∨ s.dev.code = stSleep)) ∧
    (∃ (s : State) (n : Fin 32) (y : Fin 4), live s.dev = true ∧ pinTimed s.dev n.val = false ∧ s.dev.code ≠ stSleep ∧ y.val ∈ nextEvents s.dev n.val) ∧
    (∃ (s : State) (n : Fin 32) (y : Fin 4), live s.dev = true ∧ pinTimed s.dev n.val = false ∧ s.dev.code ≠ stSleep ∧ y.val ∉ nextEvents s.dev n.val) ∧
    (∃ (s : State) (n : Fin 32) (y : Fin 4), live s.dev = true ∧ pinTimed s.dev n.val = false ∧ s.dev.code ≠ stSleep ∧ 4 ∈ nextEvents s.dev n.val) ∧
    (∃ (s : State) (n : Fin 32) (y : Fin 4), live s.dev = true ∧ pinTimed s.dev n.val = false ∧ s.dev.code ≠ stSleep ∧ 4 ∉ nextEvents s.dev n.val) ∧
    (∃ (s : State) (n : Fin 32) (y : Fin 4) (t : _) (evs : _), live s.dev = true ∧ pinTimed s.dev n.val = true ∧ s.dev.code ≠ stSleep ∧ (timerAt s.dev n.val).running = true ∧ tmFrozen s.dev n.val = false ∧ countEvent s.dev n.val (timerAt s.dev n.val) = (t, evs) ∧ y.val ∈ evs) ∧
    (∃ (s : State) (n : Fin 32) (y : Fin 4) (t : _) (evs : _), live s.dev = true ∧ pinTimed s.dev n.val = true ∧ s.dev.code ≠ stSleep ∧ (timerAt s.dev n.val).running = true ∧ tmFrozen s.dev n.val = false ∧ countEvent s.dev n.val (timerAt s.dev n.val) = (t, evs) ∧ 4 ∈ evs) ∧
    (∃ (s : State) (n : Fin 32) (y : Fin 4) (t : _) (evs : _) (k : _), live s.dev = true ∧ pinTimed s.dev n.val = true ∧ s.dev.code ≠ stSleep ∧ (timerAt s.dev n.val).running = true ∧ tmFrozen s.dev n.val = false ∧ (timerAt s.dev n.val).selfReset = false ∧ (timerAt s.dev n.val).cmp.getD y.val 0 = k + 1 ∧ k + 1 < 2 ^ tmWidth s.dev n.val ∧ (timerAt s.dev n.val).count ≤ k ∧ (∀ x, x < 4 → (timerAt s.dev n.val).cmp.getD x 0 ≤ (timerAt s.dev n.val).count ∨ k < (timerAt s.dev n.val).cmp.getD x 0) ∧ countEvent s.dev n.val { timerAt s.dev n.val with count := k } = (t, evs)) ∧
    (∃ (s : State) (n : Fin 32) (k : Fin 2) (c : Instr), live s.dev = true ∧ ((k.val = 0 ∧ c = .swcap0 n ∧ mgmtOpen s.dev = true) ∨ (k.val = 1 ∧ c = .swcap1 n ∧ mgmtOpen s.dev = true) ∨ (c = .timerCapture n k ∧ 1 ≤ fld s.dev (Reg.TIM_CAP_CFG n.val) (4 * k.val + 3) (4 * k.val) ∧ fld s.dev (Reg.TIM_CAP_CFG n.val) (4 * k.val + 3) (4 * k.val) ≤ 9))) ∧
    (∃ (d : Dev) (n k : Nat), k < 2 ∧ (rd d (Reg.TIM_STATUS n)).getLsbD (8 + k) = true) ∧
    (∃ (d : Dev) (n k : Nat) (m : _), k < 2 ∧ m ≠ n) ∧
    (∃ (s : State) (n : Fin 32), live s.dev = true ∧ mgmtOpen s.dev = true ∧ tmLocked s.dev n.val = false) ∧
    (∃ (s : State) (n : Fin 32), live s.dev = true ∧ tmLocked s.dev n.val = true) ∧
    (∃ (d : Dev) (n : Nat) (t : Timer) (x : _), x < 4) ∧
    (∃ (s : State) (imm res : Bool) (a : Nat), live s.dev = true ∧ a = rdn s.dev Reg.TIM_GSTART_AT_LO + 2 ^ 32 * rdn s.dev Reg.TIM_GSTART_AT_HI ∧ mgmtOpen s.dev = true ∧ (imm = true ∨ a % 2 = 0)) ∧
    (∃ (s : State) (imm res : Bool) (a : Nat), live s.dev = true ∧ a = rdn s.dev Reg.TIM_GSTART_AT_LO + 2 ^ 32 * rdn s.dev Reg.TIM_GSTART_AT_HI ∧ imm = false ∧ a % 2 = 1) ∧
    (∃ (s : State) (g : _), live s.dev = true ∧ s.dev.tim.gstart = some g ∧ s.dev.code ≠ stSleep ∧ (g.immediate = true ∨ g.at_ ≤ s.dev.now + 2)) ∧
    (∃ (s : State) (g : _), live s.dev = true ∧ s.dev.tim.gstart = some g ∧ s.dev.code ≠ stSleep ∧ g.immediate = false ∧ s.dev.now + 2 < g.at_) ∧
    (∃ (s : State) (p : Fin 4), live s.dev = true) :=
  ⟨⟨st (wr (tmd { running := true } { dev0 with halted := [0] }) (Reg.TIM_CFG 0) 0x80000000), 0, 0, by and_intros <;> decide +kernel⟩,
   ⟨st (tmCfg { running := true, cmp := [1, 2, 3, 4] } 0x100), 0, 0, by and_intros <;> decide +kernel⟩,
   ⟨st (tmCfg { running := true, cmp := [1, 2, 3, 4] } 0x100), 0, 1, by and_intros <;> decide +kernel⟩,
   ⟨st (tmCfg { running := true, count := 65535, cmp := [1, 2, 3, 4] } 0x100), 0, 0, by and_intros <;> decide +kernel⟩,
   ⟨st (tmCfg { running := true, cmp := [1, 2, 3, 4] } 0x100), 0, 0, by and_intros <;> decide +kernel⟩,
   ⟨st (tmCfg { running := true, cmp := [1, 2, 3, 4] } 0x300), 0, 0, (countEvent (tmCfg { running := true, cmp := [1, 2, 3, 4] } 0x300) 0 { running := true, cmp := [1, 2, 3, 4] }).1, (countEvent (tmCfg { running := true, cmp := [1, 2, 3, 4] } 0x300) 0 { running := true, cmp := [1, 2, 3, 4] }).2, by and_intros <;> decide +kernel⟩,
   ⟨st (tmCfg { running := true, count := 65535, cmp := [1, 2, 3, 4] } 0x600), 0, 0, (countEvent (tmCfg { running := true, count := 65535, cmp := [1, 2, 3, 4] } 0x600) 0 { running := true, count := 65535, cmp := [1, 2, 3, 4] }).1, (countEvent (tmCfg { running := true, count := 65535, cmp := [1, 2, 3, 4] } 0x600) 0 { running := true, count := 65535, cmp := [1, 2, 3, 4] }).2, by and_intros <;> decide +kernel⟩,
   ⟨st (tmCfg { running := true, cmp := [3, 9, 0, 9] } 0x300), 0, 0, (countEvent (tmCfg { running := true, cmp := [3, 9, 0, 9] } 0x300) 0 { running := true, count := 2, cmp := [3, 9, 0, 9] }).1, (countEvent (tmCfg { running := true, cmp := [3, 9, 0, 9] } 0x300) 0 { running := true, count := 2, cmp := [3, 9, 0, 9] }).2, 2, by and_intros <;> decide +kernel⟩,
   ⟨st openDev, 31, 1, .swcap1 31, ⟨by decide +kernel, Or.inr (Or.inl ⟨rfl, rfl, by decide +kernel⟩)⟩⟩,
   ⟨wr dev0 (Reg.TIM_STATUS 31) 0x300, 31, 1, by and_intros <;> decide +kernel⟩,
   ⟨dev0, 0, 1, 5, by and_intros <;> decide +kernel⟩,
   ⟨st openDev, 0, by and_intros <;> decide +kernel⟩,
   ⟨st openDev, 31, by and_intros <;> decide +kernel⟩,
   ⟨dev0, 0, {}, 3, by and_intros <;> decide +kernel⟩,
   ⟨st (wr openDev Reg.TIM_GSTART_AT_HI 1), false, true, 2 ^ 32, by and_intros <;> decide +kernel⟩,
   ⟨st (wr openDev Reg.TIM_GSTART_AT_LO 1), false, true, 1, by and_intros <;> decide +kernel⟩,
   ⟨st { dev0 with now := 5, tim := { gstart := some { at_ := 7, immediate := false, reset := true } } }, { at_ := 7, immediate := false, reset := true }, by and_intros <;> decide +kernel⟩,
   ⟨st { dev0 with now := 4, tim := { gstart := some { at_ := 7, immediate := false, reset := true } } }, { at_ := 7, immediate := false, reset := true }, by and_intros <;> decide +kernel⟩,
   ⟨st dev0, 3, by and_intros <;> decide +kernel⟩⟩

/-- States and operands that meet the hypotheses of TimeReferences, clause by clause. -/
theorem wit_TimeReferences :
    (∃ (s : State) (d : _) (t : _), live s.dev = true ∧ d = { cntSet s.dev Reg.TBS_PPS_CAP_LO (BitVec.ofNat 64 s.dev.now) with tim := { s.dev.tim with ppsLast := some s.dev.now } } ∧ s.dev.tim.ppsLast = some t ∧ t + 1000000000 ≤ s.dev.now + ppsTol s.dev ∧ s.dev.now ≤ t + 1000000000 + ppsTol s.dev) ∧
    (∃ (s : State) (d : _), live s.dev = true ∧ d = { cntSet s.dev Reg.TBS_PPS_CAP_LO (BitVec.ofNat 64 s.dev.now) with tim := { s.dev.tim with ppsLast := some s.dev.now } } ∧ (∀ t, s.dev.tim.ppsLast = some t → s.dev.now + ppsTol s.dev < t + 1000000000 ∨ t + 1000000000 + ppsTol s.dev < s.dev.now)) ∧
    (∃ (s : State) (n : Fin 2), live s.dev = true) ∧
    (∃ (s : State), live s.dev = true ∧ s.dev.tim.current ≠ 0 ∧ s.dev.tim.current ≠ 4 ∧ codeValid s.dev s.dev.tim.current = true) ∧
    (∃ (s : State), live s.dev = true ∧ s.dev.tim.current ≠ 0 ∧ s.dev.tim.current ≠ 4 ∧ codeValid s.dev s.dev.tim.current = false) ∧
    (∃ (s : State) (off : Int) (d : _), live s.dev = true ∧ { s.dev with tim := { s.dev.tim with current := commitRef s.dev, lost := none, first := false } } = d ∧ s.dev.code ≠ stSleep ∧ commitDue s.dev = true ∧ commitRef s.dev ≠ 0) ∧
    (∃ (s : State) (off : Int) (d : _), live s.dev = true ∧ { s.dev with tim := { s.dev.tim with current := commitRef s.dev, lost := none, first := false } } = d ∧ s.dev.code ≠ stSleep ∧ commitDue s.dev = true ∧ commitRef s.dev = 0) ∧
    (∃ (s : State) (off : Int) (d : _), live s.dev = true ∧ { s.dev with tim := { s.dev.tim with current := commitRef s.dev, lost := none, first := false } } = d ∧ (s.dev.code = stSleep ∨ commitDue s.dev = false)) ∧
    (∃ (s : State) (off : Int) (c : _), live s.dev = true ∧ s.dev.tim.lost = some c ∧ s.dev.tim.phase = 3 ∧ commitDue s.dev = false ∧ codeValid s.dev c = true) ∧
    (∃ (s : State) (off : Int) (c : _), live s.dev = true ∧ s.dev.tim.lost = some c ∧ s.dev.tim.phase = 3 ∧ commitDue s.dev = false ∧ codeValid s.dev c = false) ∧
    (∃ (s : State) (off : Int) (c : _), live s.dev = true ∧ s.dev.tim.lost = some c ∧ commitDue s.dev = true) ∧
    (∃ (s : State) (off : Int) (r : _), live s.dev = true ∧ s.dev.tim.requal = some r ∧ s.dev.tim.requalFrom + requalTime s.dev ≤ s.dev.now) ∧
    (∃ (s : State) (off : Int) (r : _), live s.dev = true ∧ s.dev.tim.requal = some r ∧ s.dev.now < s.dev.tim.requalFrom + requalTime s.dev) ∧
    (∃ (s : State) (off : Int), live s.dev = true ∧ s.dev.tim.requal = none) ∧
    (∃ (s : State) (off : Fin 39), live s.dev = true ∧ s.dev.tim.phase = 2 ∧ s.dev.tim.current ≠ 0) ∧
    (∃ (s : State) (off : Fin 39), live s.dev = true ∧ s.dev.tim.phase = 2 ∧ s.dev.tim.current = 0) ∧
    (∃ (s : State) (off : Fin 39), live s.dev = true ∧ s.dev.tim.phase ≠ 2) ∧
    (∃ (d : Dev), d.tim.phase ≠ 3) ∧
    (∃ (d : Dev), d.tim.phase = 3) :=
  ⟨⟨st ({ wr dev0 Reg.TBS_LOSS_CFG 0x10000 with now := 1000000008, tim := { ppsLast := some 7 } }), { cntSet ({ wr dev0 Reg.TBS_LOSS_CFG 0x10000 with now := 1000000008, tim := { ppsLast := some 7 } }) Reg.TBS_PPS_CAP_LO (BitVec.ofNat 64 1000000008) with tim := { ({ wr dev0 Reg.TBS_LOSS_CFG 0x10000 with now := 1000000008, tim := { ppsLast := some 7 } }).tim with ppsLast := some 1000000008 } }, 7, by and_intros <;> decide +kernel⟩,
   ⟨st ({ wr dev0 Reg.TBS_LOSS_CFG 0x10000 with now := 1000000009, tim := { ppsLast := some 7 } }), { cntSet ({ wr dev0 Reg.TBS_LOSS_CFG 0x10000 with now := 1000000009, tim := { ppsLast := some 7 } }) Reg.TBS_PPS_CAP_LO (BitVec.ofNat 64 1000000009) with tim := { ({ wr dev0 Reg.TBS_LOSS_CFG 0x10000 with now := 1000000009, tim := { ppsLast := some 7 } }).tim with ppsLast := some 1000000009 } }, by refine ⟨by decide +kernel, by decide +kernel, ?_⟩; intro t h; obtain rfl : (7 : Nat) = t := Option.some.inj h; exact Or.inr (by decide +kernel)⟩,
   ⟨st dev0, 0, by and_intros <;> decide +kernel⟩,
   ⟨st (wr { dev0 with tim := { current := 1, valid := [true, true, true] } } Reg.TBS_CFG 7), by and_intros <;> decide +kernel⟩,
   ⟨st { dev0 with tim := { current := 1 } }, by and_intros <;> decide +kernel⟩,
   by refine ⟨st (lossDev true 2005), -7, ?d5, ?goal5⟩; case goal5 => and_intros <;> first | decide +kernel | rfl,
   by refine ⟨st (lossDev false 2005), -7, ?d6, ?goal6⟩; case goal6 => and_intros <;> first | decide +kernel | rfl,
   by refine ⟨st (lossDev true 2004), -7, ?d7, ?goal7⟩; case goal7 => and_intros <;> first | decide +kernel | rfl,
   ⟨st (lossDev true 2004), 7, 1, by and_intros <;> decide +kernel⟩,
   ⟨st (lossDev false 2004), 7, 1, by and_intros <;> decide +kernel⟩,
   ⟨st (lossDev true 2005), 7, 1, by and_intros <;> decide +kernel⟩,
   ⟨st (requalDev 1000000005), 7, 1, by and_intros <;> decide +kernel⟩,
   ⟨st (requalDev 1000000004), 7, 1, by and_intros <;> decide +kernel⟩,
   ⟨st dev0, 7, by and_intros <;> decide +kernel⟩,
   ⟨st { dev0 with tim := { phase := 2, current := 1 } }, 38, by and_intros <;> decide +kernel⟩,
   ⟨st { dev0 with tim := { phase := 2 } }, 0, by and_intros <;> decide +kernel⟩,
   ⟨st dev0, 38, by and_intros <;> decide +kernel⟩,
   ⟨dev0, by and_intros <;> decide +kernel⟩,
   ⟨lossDev true 0, by and_intros <;> decide +kernel⟩⟩

/-- States and operands that meet the hypotheses of WardenCommands, clause by clause. -/
theorem wit_WardenCommands :
    (∃ (s : State) (i : Fin 288) (who : Option GateReq) (cured : Bool), live s.dev = true ∧ (siteInfo s.dev i.val).st ≠ .fenced) ∧
    (∃ (s : State) (i : Fin 288) (who : Option GateReq) (cured : Bool), live s.dev = true ∧ (siteInfo s.dev i.val).st = .fenced) ∧
    (∃ (s : State) (i : Fin 288) (who : Option GateReq) (cured : Bool), live s.dev = true ∧ inService s.dev i.val = true) ∧
    (∃ (s : State) (i : Fin 288) (who : Option GateReq) (cured : Bool), live s.dev = true ∧ inService s.dev i.val = false) ∧
    (∃ (d : Dev) (i detail : Nat) (j : _), ((siteInfo d i).st = .live ∨ (siteInfo d i).st = .suspect) ∧ j ≠ i) ∧
    (∃ (s : State) (k : Fin 4) (who : Option GateReq), live s.dev = true ∧ (seamAt s.dev k.val).st ≠ .lost) ∧
    (∃ (s : State) (k : Fin 4) (who : Option GateReq) (cured : Bool), live s.dev = true ∧ (seamAt s.dev k.val).st = .lost) ∧
    (∃ (d : Dev) (k : Nat), k < d.wdn.seams.length ∧ ((seamAt d k).st = .up ∨ (seamAt d k).st = .suspect)) ∧
    (∃ (s : State) (i : Fin 288) (x : SiteInfo) (pass : Bool), live s.dev = true ∧ siteInfo s.dev i.val = x ∧ (x.st = .suspect ∨ x.st = .promoting) ∧ x.deciding = true ∧ x.mgmtFence = true ∧ x.cause = 5) ∧
    (∃ (s : State) (i : Fin 288) (x : SiteInfo) (pass : Bool), live s.dev = true ∧ siteInfo s.dev i.val = x ∧ (x.st = .suspect ∨ x.st = .promoting) ∧ x.deciding = true ∧ x.mgmtFence = true ∧ x.cause ≠ 5) ∧
    (∃ (s : State) (i : Fin 288) (x : SiteInfo) (pass : Bool), live s.dev = true ∧ siteInfo s.dev i.val = x ∧ (x.st = .suspect ∨ x.st = .promoting) ∧ x.deciding = true ∧ x.mgmtFence = false ∧ overLimit s.dev x.suspects = true) ∧
    (∃ (s : State) (i : Fin 288) (x : SiteInfo), live s.dev = true ∧ siteInfo s.dev i.val = x ∧ (x.st = .suspect ∨ x.st = .promoting) ∧ x.deciding = true ∧ x.mgmtFence = false ∧ overLimit s.dev x.suspects = false) ∧
    (∃ (s : State) (k : Fin 4) (x : SeamInfo) (pass : Bool), live s.dev = true ∧ seamAt s.dev k.val = x ∧ x.st = .suspect ∧ x.deciding = true ∧ x.mgmtFence = true) ∧
    (∃ (s : State) (k : Fin 4) (x : SeamInfo), live s.dev = true ∧ seamAt s.dev k.val = x ∧ x.st = .suspect ∧ x.deciding = true ∧ x.mgmtFence = false ∧ overLimit s.dev x.suspects = true) ∧
    (∃ (s : State) (k : Fin 4) (x : SeamInfo), live s.dev = true ∧ seamAt s.dev k.val = x ∧ x.st = .suspect ∧ x.deciding = true ∧ x.mgmtFence = false ∧ overLimit s.dev x.suspects = false) ∧
    (∃ (s : State) (u : GateUnit) (pass : Bool), live s.dev = true ∧ (match u with | .site i => (siteInfo s.dev i.val).deciding | .seam k => (seamAt s.dev k.val).deciding) = false) ∧
    (∃ (s : State), live s.dev = true ∧ s.dev.wdn.standby = 0 ∧ s.dev.wdn.missed < 2) ∧
    (∃ (s : State), live s.dev = true ∧ s.dev.wdn.standby = 0 ∧ 2 ≤ s.dev.wdn.missed) ∧
    (∃ (s : State) (why : Fin 3), live s.dev = true ∧ s.dev.wdn.standby = 0) ∧
    (∃ (s : State) (b : Bool), live s.dev = true ∧ s.dev.wdn.standby ≠ 0) ∧
    (∃ (s : State), live s.dev = true ∧ s.dev.wdn.standby ≠ 0) ∧
    (∃ (s : State) (why : Fin 3), live s.dev = true ∧ s.dev.wdn.standby ≠ 0) :=
  ⟨⟨st dev0, 0, none, false, by and_intros <;> decide +kernel⟩,
   ⟨st (sited { st := .fenced } dev0), 0, none, false, by and_intros <;> decide +kernel⟩,
   ⟨st dev0, 0, none, false, by and_intros <;> decide +kernel⟩,
   ⟨st (sited { st := .fenced } dev0), 0, none, false, by and_intros <;> decide +kernel⟩,
   ⟨dev0, 0, 2, 1, by and_intros <;> decide +kernel⟩,
   ⟨st (seamd { st := .suspect } dev0), 0, none, by and_intros <;> decide +kernel⟩,
   ⟨st (seamd { st := .lost } dev0), 0, none, true, by and_intros <;> decide +kernel⟩,
   ⟨seamd { st := .suspect } dev0, 0, by and_intros <;> decide +kernel⟩,
   ⟨st (sited ({ susp with mgmtFence := true, cause := 5 }) dev0), 0, { susp with mgmtFence := true, cause := 5 }, true, by and_intros <;> decide +kernel⟩,
   ⟨st (sited ({ susp with mgmtFence := true, cause := 3 }) dev0), 0, { susp with mgmtFence := true, cause := 3 }, true, by and_intros <;> decide +kernel⟩,
   ⟨st (sited ({ susp with suspects := List.replicate 15 0 }) dev0), 0, { susp with suspects := List.replicate 15 0 }, true, by and_intros <;> decide +kernel⟩,
   ⟨st (wr (sited ({ susp with suspects := [0, 0] }) dev0) Reg.WDN_CFG 3), 0, { susp with suspects := [0, 0] }, by and_intros <;> decide +kernel⟩,
   ⟨st (seamd { st := .suspect, deciding := true, mgmtFence := true } dev0), 0, { st := .suspect, deciding := true, mgmtFence := true }, false, by and_intros <;> decide +kernel⟩,
   ⟨st (seamd { st := .suspect, deciding := true, suspects := List.replicate 15 0 } dev0), 0, { st := .suspect, deciding := true, suspects := List.replicate 15 0 }, by and_intros <;> decide +kernel⟩,
   ⟨st (wr (seamd { st := .suspect, suspects := [0, 0], deciding := true } dev0) Reg.WDN_CFG 3), 0, { st := .suspect, suspects := [0, 0], deciding := true }, by and_intros <;> decide +kernel⟩,
   ⟨st dev0, .seam 3, true, by and_intros <;> decide +kernel⟩,
   ⟨st { dev0 with wdn := { missed := 1 } }, by and_intros <;> decide +kernel⟩,
   ⟨st { dev0 with wdn := { missed := 2 } }, by and_intros <;> decide +kernel⟩,
   ⟨st dev0, 0, by and_intros <;> decide +kernel⟩,
   ⟨st { dev0 with wdn := { standby := 1 } }, true, by and_intros <;> decide +kernel⟩,
   ⟨st { dev0 with wdn := { standby := 1 } }, by and_intros <;> decide +kernel⟩,
   ⟨st { dev0 with wdn := { standby := 1 } }, 0, by and_intros <;> decide +kernel⟩⟩

/-- States and operands that meet the hypotheses of MctpTransport, clause by clause. -/
theorem wit_MctpTransport :
    (∃ (s : State) (b : List Byte), live s.dev = true ∧ s.dev.wdn.dead = false ∧ 9 ≤ b.length ∧ b.length ≤ 73 ∧ leAt b 0 1 = 2 * smbAddr s.dev ∧ leAt b 1 1 = 0x0F ∧ crc8 (b.take (b.length - 1)) ≠ leAt b (b.length - 1) 1) ∧
    (∃ (s : State) (b : List Byte), live s.dev = true ∧ s.dev.wdn.dead = false ∧ 9 ≤ b.length ∧ b.length ≤ 73 ∧ leAt b 0 1 = 2 * smbAddr s.dev ∧ leAt b 1 1 = 0x0F ∧ leAt b 2 1 + 4 = b.length ∧ crc8 (b.take (b.length - 1)) = leAt b (b.length - 1) 1 ∧ leAt b 4 1 % 16 = 1 ∧ destOk s.dev (leAt b 5 1) = true ∧ (leAt b 7 1).testBit 3 = true ∧ (leAt b 7 1).testBit 6 = true ∧ (leAt b 7 1).testBit 7 = true ∧ (∀ p ∈ s.dev.mgmt.parts, p.eid ≠ leAt b 6 1)) ∧
    (∃ (d : Dev) (dst eid tag : Nat) (m : List Byte) (q : VReq), leAt m 0 1 = 0x7F ∧ d.mgmt.eid = some dst ∧ 13 ≤ m.length ∧ m.length ≤ 1037 ∧ slice m 1 4 = [0x00, 0x00, 0xD7, 0xA2] ∧ (m.getD 7 0).getLsbD 7 = false ∧ q = { eid := eid, tag := tag, version := leAt m 5 1, cmd := leAt m 6 1, flags := leAt m 7 1, rsvd := leAt m 8 1, seq := leAt m 9 2, status := leAt m 11 2, body := m.drop 13 } ∧ d.mgmt.cur = none ∧ d.mgmt.queue.length < 8) ∧
    (∃ (d : Dev) (dst eid tag : Nat) (m : List Byte) (q : VReq), leAt m 0 1 = 0x7F ∧ d.mgmt.eid = some dst ∧ 13 ≤ m.length ∧ m.length ≤ 1037 ∧ slice m 1 4 = [0x00, 0x00, 0xD7, 0xA2] ∧ (m.getD 7 0).getLsbD 7 = false ∧ q = { eid := eid, tag := tag, version := leAt m 5 1, cmd := leAt m 6 1, flags := leAt m 7 1, rsvd := leAt m 8 1, seq := leAt m 9 2, status := leAt m 11 2, body := m.drop 13 } ∧ 8 ≤ d.mgmt.queue.length) ∧
    (∃ (s : State) (q : CtlReq) (rest : List CtlReq) (d : Dev), live s.dev = true ∧ s.dev.mgmt.ctl = q :: rest ∧ d = { s.dev with mgmt := { s.dev.mgmt with ctl := rest } } ∧ q.cmd = 1 ∧ q.data.length = 2 ∧ leAt q.data 0 1 % 4 < 2 ∧ leAt q.data 1 1 ≠ 0 ∧ leAt q.data 1 1 ≠ 0xFF) ∧
    (∃ (s : State) (q : CtlReq) (rest : List CtlReq) (d : Dev), live s.dev = true ∧ s.dev.mgmt.ctl = q :: rest ∧ d = { s.dev with mgmt := { s.dev.mgmt with ctl := rest } } ∧ q.cmd = 1 ∧ q.data.length = 2 ∧ leAt q.data 0 1 % 4 < 2 ∧ (leAt q.data 1 1 = 0 ∨ leAt q.data 1 1 = 0xFF)) ∧
    (∃ (s : State) (q : CtlReq) (rest : List CtlReq) (d : Dev), live s.dev = true ∧ s.dev.mgmt.ctl = q :: rest ∧ d = { s.dev with mgmt := { s.dev.mgmt with ctl := rest } } ∧ q.cmd = 2 ∧ q.data = []) ∧
    (∃ (s : State) (q : CtlReq) (rest : List CtlReq) (d : Dev), live s.dev = true ∧ s.dev.mgmt.ctl = q :: rest ∧ d = { s.dev with mgmt := { s.dev.mgmt with ctl := rest } } ∧ q.cmd = 3 ∧ q.data = []) ∧
    (∃ (s : State) (q : CtlReq) (rest : List CtlReq) (d : Dev), live s.dev = true ∧ s.dev.mgmt.ctl = q :: rest ∧ d = { s.dev with mgmt := { s.dev.mgmt with ctl := rest } } ∧ q.cmd = 4 ∧ q.data = [0x00]) ∧
    (∃ (s : State) (q : CtlReq) (rest : List CtlReq) (d : Dev), live s.dev = true ∧ s.dev.mgmt.ctl = q :: rest ∧ d = { s.dev with mgmt := { s.dev.mgmt with ctl := rest } } ∧ q.cmd = 5 ∧ q.data = []) ∧
    (∃ (s : State) (q : CtlReq) (rest : List CtlReq) (d : Dev), live s.dev = true ∧ s.dev.mgmt.ctl = q :: rest ∧ d = { s.dev with mgmt := { s.dev.mgmt with ctl := rest } } ∧ q.cmd = 6 ∧ q.data = [0x00]) ∧
    (∃ (s : State) (e : BitVec 8) (t : Fin 8), live s.dev = true) :=
  ⟨⟨st dev0, (mctpPkt ++ [0]), by and_intros <;> decide +kernel⟩,
   ⟨st dev0, (pec mctpPkt), by and_intros <;> decide +kernel⟩,
   ⟨{ dev0 with mgmt := { eid := some 9, queue := List.replicate 7 {} } }, 9, 8, 1, (vmsg 0x13 []), { eid := 8, tag := 1, version := leAt (vmsg 0x13 []) 5 1, cmd := leAt (vmsg 0x13 []) 6 1, flags := leAt (vmsg 0x13 []) 7 1, rsvd := leAt (vmsg 0x13 []) 8 1, seq := leAt (vmsg 0x13 []) 9 2, status := leAt (vmsg 0x13 []) 11 2, body := (vmsg 0x13 []).drop 13 }, by and_intros <;> decide +kernel⟩,
   ⟨{ dev0 with mgmt := { eid := some 9, queue := vq8 } }, 9, 8, 1, (vmsg 0x13 []), { eid := 8, tag := 1, version := leAt (vmsg 0x13 []) 5 1, cmd := leAt (vmsg 0x13 []) 6 1, flags := leAt (vmsg 0x13 []) 7 1, rsvd := leAt (vmsg 0x13 []) 8 1, seq := leAt (vmsg 0x13 []) 9 2, status := leAt (vmsg 0x13 []) 11 2, body := (vmsg 0x13 []).drop 13 }, by and_intros <;> decide +kernel⟩,
   ⟨st { dev0 with mgmt := { ctl := [{ eid := 8, tag := 1, inst := 0, cmd := 1, data := [0, 9] }] } }, { eid := 8, tag := 1, inst := 0, cmd := 1, data := [0, 9] }, [], { dev0 with mgmt := { ctl := [] } }, by and_intros <;> decide +kernel⟩,
   ⟨st { dev0 with mgmt := { ctl := [{ eid := 8, tag := 1, inst := 0, cmd := 1, data := [1, 0xFF] }] } }, { eid := 8, tag := 1, inst := 0, cmd := 1, data := [1, 0xFF] }, [], { dev0 with mgmt := { ctl := [] } }, by and_intros <;> decide +kernel⟩,
   ⟨st { dev0 with mgmt := { ctl := [{ eid := 8, tag := 1, inst := 0, cmd := 2, data := [] }] } }, { eid := 8, tag := 1, inst := 0, cmd := 2, data := [] }, [], { dev0 with mgmt := { ctl := [] } }, by and_intros <;> decide +kernel⟩,
   ⟨st { dev0 with mgmt := { ctl := [{ eid := 8, tag := 1, inst := 0, cmd := 3, data := [] }] } }, { eid := 8, tag := 1, inst := 0, cmd := 3, data := [] }, [], { dev0 with mgmt := { ctl := [] } }, by and_intros <;> decide +kernel⟩,
   ⟨st { dev0 with mgmt := { ctl := [{ eid := 8, tag := 1, inst := 0, cmd := 4, data := [0] }] } }, { eid := 8, tag := 1, inst := 0, cmd := 4, data := [0] }, [], { dev0 with mgmt := { ctl := [] } }, by and_intros <;> decide +kernel⟩,
   ⟨st { dev0 with mgmt := { ctl := [{ eid := 8, tag := 1, inst := 0, cmd := 5, data := [] }] } }, { eid := 8, tag := 1, inst := 0, cmd := 5, data := [] }, [], { dev0 with mgmt := { ctl := [] } }, by and_intros <;> decide +kernel⟩,
   ⟨st { dev0 with mgmt := { ctl := [{ eid := 8, tag := 1, inst := 0, cmd := 6, data := [0] }] } }, { eid := 8, tag := 1, inst := 0, cmd := 6, data := [0] }, [], { dev0 with mgmt := { ctl := [] } }, by and_intros <;> decide +kernel⟩,
   ⟨st dev0, 0, 0, by and_intros <;> decide +kernel⟩⟩

/-- States and operands that meet the hypotheses of VendorRequests, clause by clause. -/
theorem wit_VendorRequests :
    (∃ (s : State) (q : VReq) (rest : List VReq) (d : Dev), live s.dev = true ∧ s.dev.wdn.dead = false ∧ s.dev.mgmt.cur = none ∧ s.dev.mgmt.queue = q :: rest ∧ d = { s.dev with mgmt := { s.dev.mgmt with queue := rest } } ∧ q.version ≠ 1) ∧
    (∃ (s : State) (q : VReq) (rest : List VReq) (d : Dev), live s.dev = true ∧ s.dev.wdn.dead = false ∧ s.dev.mgmt.cur = none ∧ s.dev.mgmt.queue = q :: rest ∧ d = { s.dev with mgmt := { s.dev.mgmt with queue := rest } } ∧ q.version = 1 ∧ cmdKnown q.cmd = true ∧ lengthOk q.cmd q.body = false) ∧
    (∃ (s : State) (q : VReq) (rest : List VReq) (d : Dev), live s.dev = true ∧ s.dev.wdn.dead = false ∧ s.dev.mgmt.cur = none ∧ s.dev.mgmt.queue = q :: rest ∧ d = { s.dev with mgmt := { s.dev.mgmt with queue := rest } } ∧ q.version = 1 ∧ cmdKnown q.cmd = true ∧ lengthOk q.cmd q.body = true ∧ bootLocked s.dev = false ∧ s.dev.code ≠ stBootFailed ∧ q.cmd ≠ 0x11 ∧ q.cmd ≠ 0x12) ∧
    (∃ (s : State) (q : VReq) (rest : List VReq) (d : Dev), live s.dev = true ∧ s.dev.wdn.dead = false ∧ s.dev.mgmt.cur = none ∧ s.dev.mgmt.queue = q :: rest ∧ d = { s.dev with mgmt := { s.dev.mgmt with queue := rest } } ∧ q.version = 1 ∧ cmdKnown q.cmd = true ∧ lengthOk q.cmd q.body = true ∧ (bootLocked s.dev = true ∨ q.cmd = 0x11 ∨ q.cmd = 0x12) ∧ stateAllows d q.cmd q.body = true ∧ q.flags = 0 ∧ q.rsvd = 0 ∧ q.status = 0) ∧
    (∃ (s : State) (q : VReq), live s.dev = true ∧ s.dev.mgmt.cur = some q ∧ q.cmd = 0x11) ∧
    (∃ (s : State) (q : VReq), live s.dev = true ∧ s.dev.mgmt.cur = some q ∧ q.cmd = 0x12) ∧
    (∃ (s : State) (q : VReq), live s.dev = true ∧ s.dev.mgmt.cur = some q ∧ q.cmd = 0x13) ∧
    (∃ (s : State) (q : VReq), live s.dev = true ∧ s.dev.mgmt.cur = some q ∧ q.cmd = 0x20 ∧ leAt q.body 2 2 = 0 ∧ leAt q.body 0 1 = 0 ∧ leAt q.body 1 1 ≤ 30 ∧ leAt q.body 10 2 = 0) ∧
    (∃ (s : State) (q : VReq), live s.dev = true ∧ s.dev.mgmt.cur = some q ∧ q.cmd = 0x20 ∧ leAt q.body 2 2 = 0 ∧ leAt q.body 0 1 = 1 ∧ leAt q.body 1 1 ≤ 7) ∧
    (∃ (s : State) (q : VReq), live s.dev = true ∧ s.dev.mgmt.cur = some q ∧ q.cmd = 0x20 ∧ leAt q.body 2 2 = 0 ∧ 1 < leAt q.body 0 1) ∧
    (∃ (s : State) (q : VReq), live s.dev = true ∧ s.dev.mgmt.cur = some q ∧ q.cmd = 0x30) ∧
    (∃ (s : State) (q : VReq), live s.dev = true ∧ s.dev.mgmt.cur = some q ∧ q.cmd = 0x31 ∧ sleepInFlight s.dev = false) ∧
    (∃ (s : State) (q : VReq), live s.dev = true ∧ s.dev.mgmt.cur = some q ∧ q.cmd = 0x31 ∧ sleepInFlight s.dev = true) ∧
    (∃ (s : State) (q : VReq), live s.dev = true ∧ s.dev.mgmt.cur = some q ∧ q.cmd = 0x32 ∧ q.jtag = false ∧ s.dev.wdn.dead = false) :=
  ⟨⟨st { dev0 with mgmt := { queue := [{ version := 2 }] } }, { version := 2 }, [], { dev0 with mgmt := { queue := [] } }, by and_intros <;> decide +kernel⟩,
   ⟨st { dev0 with mgmt := { queue := [vq 1 []] } }, vq 1 [], [], { dev0 with mgmt := { queue := [] } }, by and_intros <;> decide +kernel⟩,
   ⟨st { dev0 with mgmt := { queue := [vq 19 []] } }, vq 19 [], [], { dev0 with mgmt := { queue := [] } }, by and_intros <;> decide +kernel⟩,
   ⟨st { openDev with mgmt := { queue := [vq 19 []] } }, vq 19 [], [], { openDev with mgmt := { queue := [] } }, by and_intros <;> decide +kernel⟩,
   ⟨st (curd (vq 17 []) (dev0)), vq 17 [], by and_intros <;> decide +kernel⟩,
   ⟨st (curd (vq 18 []) (dev0)), vq 18 [], by and_intros <;> decide +kernel⟩,
   ⟨st (curd (vq 19 []) (dev0)), vq 19 [], by and_intros <;> decide +kernel⟩,
   ⟨st (curd (vq 32 [0, 30, 0, 0, 0, 0, 0, 0, 0, 0, 0, 0]) (dev0)), vq 32 [0, 30, 0, 0, 0, 0, 0, 0, 0, 0, 0, 0], by and_intros <;> decide +kernel⟩,
   ⟨st (curd (vq 32 [1, 7, 0, 0, 0, 0, 0, 0, 0, 0, 0, 0]) (dev0)), vq 32 [1, 7, 0, 0, 0, 0, 0, 0, 0, 0, 0, 0], by and_intros <;> decide +kernel⟩,
   ⟨st (curd (vq 32 [2, 0, 0, 0, 0, 0, 0, 0, 0, 0, 0, 0]) (dev0)), vq 32 [2, 0, 0, 0, 0, 0, 0, 0, 0, 0, 0, 0], by and_intros <;> decide +kernel⟩,
   ⟨st (curd (vq 48 []) (dev0)), vq 48 [], by and_intros <;> decide +kernel⟩,
   ⟨st (curd (vq 49 []) (dev0)), vq 49 [], by and_intros <;> decide +kernel⟩,
   ⟨st (curd (vq 0x31 []) { dev0 with ring := { commits := [{ kind := 8 }] } }), vq 0x31 [], by and_intros <;> decide +kernel⟩,
   ⟨st (curd (vq 50 []) (dev0)), vq 50 [], by and_intros <;> decide +kernel⟩⟩

/-- States and operands that meet the hypotheses of RegisterAccess, clause by clause. -/
theorem wit_RegisterAccess :
    (∃ (s : State) (q : VReq) (vs : _) (d : _), live s.dev = true ∧ s.dev.mgmt.cur = some q ∧ leAt q.body 6 2 = 0 ∧ q.cmd = 0x01 ∧ leAt q.body 4 2 ≤ 240 ∧ rangeOk (leAt q.body 0 4) (leAt q.body 4 2) = true ∧ readRegs s.fuse (leAt q.body 0 4) (leAt q.body 4 2) s.dev = (vs, d)) ∧
    (∃ (s : State) (q : VReq), live s.dev = true ∧ s.dev.mgmt.cur = some q ∧ leAt q.body 6 2 = 0 ∧ q.cmd = 0x01 ∧ 0 < leAt q.body 4 2 ∧ leAt q.body 4 2 ≤ 240 ∧ rangeOk (leAt q.body 0 4) (leAt q.body 4 2) = false) ∧
    (∃ (s : State) (q : VReq), live s.dev = true ∧ s.dev.mgmt.cur = some q ∧ leAt q.body 6 2 = 0 ∧ q.cmd = 0x01 ∧ leAt q.body 4 2 = 0) ∧
    (∃ (s : State) (q : VReq) (st : _) (done : _) (fail : _) (d : _), live s.dev = true ∧ s.dev.mgmt.cur = some q ∧ leAt q.body 6 2 = 0 ∧ q.cmd = 0x02 ∧ leAt q.body 4 2 ≤ 253 ∧ rangeOk (leAt q.body 0 4) (leAt q.body 4 2) = true ∧ writeRegs (leAt q.body 0 4) (writeValues q.body) 0 s.dev = ((st, done, fail), d)) ∧
    (∃ (s : State) (q : VReq), live s.dev = true ∧ s.dev.mgmt.cur = some q ∧ leAt q.body 6 2 = 0 ∧ q.cmd = 0x02 ∧ 0 < leAt q.body 4 2 ∧ leAt q.body 4 2 ≤ 253 ∧ rangeOk (leAt q.body 0 4) (leAt q.body 4 2) = false) ∧
    (∃ (s : State) (c : Instr) (g : RegGroup) (l : List Nat) (a : Nat) (v : W32), live s.dev = true ∧ mgmtOpen s.dev = true ∧ ((∃ ad : BitVec 32, c = .registerWrite ad v ∧ ad.toNat = a ∧ rangeOk a 1 = true ∧ frameAbsent s.dev a = false ∧ a < shadowBase ∧ regAt a = some (g, l) ∧ ¬ ((frameSite a).isSome = true ∧ 0x800 ≤ a % 0x1000 ∧ a % 0x1000 < 0xC00)) ∨ (∃ (n : Fin 32) (r : TimerReg), c = .timerConfigWrite n r v ∧ r.at n.val = (g.id, l, a) ∧ rowOf g.id = g) ∨ (∃ m : Fin 16, c = .fastGWrite m v ∧ g = rowOf .DET_MODEL_FAST_G ∧ l = [m.val] ∧ a = Reg.DET_MODEL_FAST_G m.val)) ∧ v &&& ~~~(fieldMask g) ≠ 0) ∧
    (∃ (s : State) (c : Instr) (g : RegGroup) (l : List Nat) (a : Nat) (v : W32), live s.dev = true ∧ mgmtOpen s.dev = true ∧ ((∃ ad : BitVec 32, c = .registerWrite ad v ∧ ad.toNat = a ∧ rangeOk a 1 = true ∧ frameAbsent s.dev a = false ∧ a < shadowBase ∧ regAt a = some (g, l) ∧ ¬ ((frameSite a).isSome = true ∧ 0x800 ≤ a % 0x1000 ∧ a % 0x1000 < 0xC00)) ∨ (∃ (n : Fin 32) (r : TimerReg), c = .timerConfigWrite n r v ∧ r.at n.val = (g.id, l, a) ∧ rowOf g.id = g) ∨ (∃ m : Fin 16, c = .fastGWrite m v ∧ g = rowOf .DET_MODEL_FAST_G ∧ l = [m.val] ∧ a = Reg.DET_MODEL_FAST_G m.val)) ∧ v &&& ~~~(fieldMask g) = 0 ∧ encodingBad s.dev g l a v = true) ∧
    (∃ (s : State) (c : Instr) (g : RegGroup) (l : List Nat) (a : Nat) (v : W32), live s.dev = true ∧ mgmtOpen s.dev = true ∧ ((∃ ad : BitVec 32, c = .registerWrite ad v ∧ ad.toNat = a ∧ rangeOk a 1 = true ∧ frameAbsent s.dev a = false ∧ a < shadowBase ∧ regAt a = some (g, l) ∧ ¬ ((frameSite a).isSome = true ∧ 0x800 ≤ a % 0x1000 ∧ a % 0x1000 < 0xC00)) ∨ (∃ (n : Fin 32) (r : TimerReg), c = .timerConfigWrite n r v ∧ r.at n.val = (g.id, l, a) ∧ rowOf g.id = g) ∨ (∃ m : Fin 16, c = .fastGWrite m v ∧ g = rowOf .DET_MODEL_FAST_G ∧ l = [m.val] ∧ a = Reg.DET_MODEL_FAST_G m.val)) ∧ v &&& ~~~(fieldMask g) = 0 ∧ encodingBad s.dev g l a v = false ∧ lockHit s.dev g l a v = true) ∧
    (∃ (s : State) (c : Instr) (g : RegGroup) (l : List Nat) (a : Nat) (v : W32), live s.dev = true ∧ mgmtOpen s.dev = true ∧ ((∃ ad : BitVec 32, c = .registerWrite ad v ∧ ad.toNat = a ∧ rangeOk a 1 = true ∧ frameAbsent s.dev a = false ∧ a < shadowBase ∧ regAt a = some (g, l) ∧ ¬ ((frameSite a).isSome = true ∧ 0x800 ≤ a % 0x1000 ∧ a % 0x1000 < 0xC00)) ∨ (∃ (n : Fin 32) (r : TimerReg), c = .timerConfigWrite n r v ∧ r.at n.val = (g.id, l, a) ∧ rowOf g.id = g) ∨ (∃ m : Fin 16, c = .fastGWrite m v ∧ g = rowOf .DET_MODEL_FAST_G ∧ l = [m.val] ∧ a = Reg.DET_MODEL_FAST_G m.val)) ∧ v &&& ~~~(fieldMask g) = 0 ∧ encodingBad s.dev g l a v = false ∧ lockHit s.dev g l a v = false ∧ blockStatus s.dev g l v = 0) ∧
    (∃ (s : State) (c : Instr) (g : RegGroup) (l : List Nat) (a : Nat) (v : W32), live s.dev = true ∧ mgmtOpen s.dev = true ∧ ((∃ ad : BitVec 32, c = .registerWrite ad v ∧ ad.toNat = a ∧ rangeOk a 1 = true ∧ frameAbsent s.dev a = false ∧ a < shadowBase ∧ regAt a = some (g, l) ∧ ¬ ((frameSite a).isSome = true ∧ 0x800 ≤ a % 0x1000 ∧ a % 0x1000 < 0xC00)) ∨ (∃ (n : Fin 32) (r : TimerReg), c = .timerConfigWrite n r v ∧ r.at n.val = (g.id, l, a) ∧ rowOf g.id = g) ∨ (∃ m : Fin 16, c = .fastGWrite m v ∧ g = rowOf .DET_MODEL_FAST_G ∧ l = [m.val] ∧ a = Reg.DET_MODEL_FAST_G m.val)) ∧ v &&& ~~~(fieldMask g) = 0 ∧ encodingBad s.dev g l a v = false ∧ lockHit s.dev g l a v = false ∧ blockStatus s.dev g l v = msUnitBusy) ∧
    (∃ (s : State) (a : BitVec 32) (g : RegGroup) (l : List Nat), live s.dev = true ∧ mgmtOpen s.dev = true ∧ rangeOk a.toNat 1 = true ∧ a.toNat < shadowBase ∧ frameAbsent s.dev a.toNat = false ∧ frameSite a.toNat = none ∧ regAt a.toNat = some (g, l) ∧ g.kind = .lo ∧ plainPair g.id = false) :=
  ⟨⟨st (curd (vq 1 [0, 0, 0, 0, 1, 0, 0, 0]) (dev0)), vq 1 [0, 0, 0, 0, 1, 0, 0, 0], (readRegs {} 0 1 (curd (vq 1 [0, 0, 0, 0, 1, 0, 0, 0]) dev0)).1, (readRegs {} 0 1 (curd (vq 1 [0, 0, 0, 0, 1, 0, 0, 0]) dev0)).2, by and_intros <;> first | decide +kernel | rfl⟩,
   ⟨st (curd (vq 1 [252, 0, 0, 0, 240, 0, 0, 0]) (dev0)), vq 1 [252, 0, 0, 0, 240, 0, 0, 0], by and_intros <;> decide +kernel⟩,
   ⟨st (curd (vq 1 [0, 0, 0, 0, 0, 0, 0, 0]) (dev0)), vq 1 [0, 0, 0, 0, 0, 0, 0, 0], by and_intros <;> decide +kernel⟩,
   ⟨st (curd (vq 2 [0, 0, 3, 0, 1, 0, 0, 0, 0, 0, 0, 0]) (dev0)), vq 2 [0, 0, 3, 0, 1, 0, 0, 0, 0, 0, 0, 0], (writeRegs 0x30000 (writeValues (vq 2 [0, 0, 3, 0, 1, 0, 0, 0, 0, 0, 0, 0]).body) 0 (curd (vq 2 [0, 0, 3, 0, 1, 0, 0, 0, 0, 0, 0, 0]) dev0)).1.1, (writeRegs 0x30000 (writeValues (vq 2 [0, 0, 3, 0, 1, 0, 0, 0, 0, 0, 0, 0]).body) 0 (curd (vq 2 [0, 0, 3, 0, 1, 0, 0, 0, 0, 0, 0, 0]) dev0)).1.2.1, (writeRegs 0x30000 (writeValues (vq 2 [0, 0, 3, 0, 1, 0, 0, 0, 0, 0, 0, 0]).body) 0 (curd (vq 2 [0, 0, 3, 0, 1, 0, 0, 0, 0, 0, 0, 0]) dev0)).1.2.2, (writeRegs 0x30000 (writeValues (vq 2 [0, 0, 3, 0, 1, 0, 0, 0, 0, 0, 0, 0]).body) 0 (curd (vq 2 [0, 0, 3, 0, 1, 0, 0, 0, 0, 0, 0, 0]) dev0)).2, by and_intros <;> first | decide +kernel | rfl⟩,
   ⟨st (curd (vq 2 [252, 0, 0, 0, 2, 0, 0, 0]) (dev0)), vq 2 [252, 0, 0, 0, 2, 0, 0, 0], by and_intros <;> decide +kernel⟩,
   ⟨st (openDev), .registerWrite (BitVec.ofNat 32 (Reg.TIM_CFG 0)) 0x00800000, rowOf .TIM_CFG, [0], Reg.TIM_CFG 0, 0x00800000, ⟨by decide +kernel, by decide +kernel, Or.inl ⟨_, rfl, by and_intros <;> decide +kernel⟩, by and_intros <;> decide +kernel⟩⟩,
   ⟨st (openDev), .registerWrite (BitVec.ofNat 32 (Reg.TIM_COUNT_LO 0)) 0x10000, rowOf .TIM_COUNT_LO, [0], Reg.TIM_COUNT_LO 0, 0x10000, ⟨by decide +kernel, by decide +kernel, Or.inl ⟨_, rfl, by and_intros <;> decide +kernel⟩, by and_intros <;> decide +kernel⟩⟩,
   ⟨st (openDev), .registerWrite (BitVec.ofNat 32 (Reg.TIM_CFG 31)) 0x100, rowOf .TIM_CFG, [31], Reg.TIM_CFG 31, 0x100, ⟨by decide +kernel, by decide +kernel, Or.inl ⟨_, rfl, by and_intros <;> decide +kernel⟩, by and_intros <;> decide +kernel⟩⟩,
   ⟨st (openDev), .registerWrite (BitVec.ofNat 32 (Reg.TIM_CFG 0)) 1, rowOf .TIM_CFG, [0], Reg.TIM_CFG 0, 1, ⟨by decide +kernel, by decide +kernel, Or.inl ⟨_, rfl, by and_intros <;> decide +kernel⟩, by and_intros <;> decide +kernel⟩⟩,
   ⟨st (tmd { running := true } openDev), .registerWrite (BitVec.ofNat 32 (Reg.TIM_CFG 0)) 1, rowOf .TIM_CFG, [0], Reg.TIM_CFG 0, 1, ⟨by decide +kernel, by decide +kernel, Or.inl ⟨_, rfl, by and_intros <;> decide +kernel⟩, by and_intros <;> decide +kernel⟩⟩,
   ⟨st openDev, BitVec.ofNat 32 (Reg.LAP_CNT_LO 0), rowOf .LAP_CNT_LO, [0], by and_intros <;> decide +kernel⟩⟩

/-- States and operands that meet the hypotheses of FusedFrame. -/
theorem wit_FusedFrame : ∃ (fz : Fuses) (d : Dev) (i : Fin 288) (off : Nat) (v : W32), off < 0x1000 ∧ isFused d.part i.val = true :=
  ⟨{}, { dev0 with part := { fusedOut := [5] } }, 5, 0, 0, by and_intros <;> decide +kernel⟩

/-- States and operands that meet the hypotheses of FenceCommand, clause by clause. -/
theorem wit_FenceCommand :
    (∃ (s : State) (q : VReq) (k : Nat), live s.dev = true ∧ s.dev.mgmt.cur = some q ∧ q.cmd = 0x10 ∧ leAt q.body 1 1 = 0 ∧ leAt q.body 2 2 = k ∧ leAt q.body 0 1 = 1 ∧ 288 ≤ k) ∧
    (∃ (s : State) (q : VReq) (k : Nat), live s.dev = true ∧ s.dev.mgmt.cur = some q ∧ q.cmd = 0x10 ∧ leAt q.body 1 1 = 0 ∧ leAt q.body 2 2 = k ∧ leAt q.body 0 1 = 1 ∧ k < 288 ∧ isFused s.dev.part k = true) ∧
    (∃ (s : State) (q : VReq) (k : Nat), live s.dev = true ∧ s.dev.mgmt.cur = some q ∧ q.cmd = 0x10 ∧ leAt q.body 1 1 = 0 ∧ leAt q.body 2 2 = k ∧ leAt q.body 0 1 = 1 ∧ k < 288 ∧ isFused s.dev.part k = false ∧ (siteInfo s.dev k).st = .fenced) ∧
    (∃ (s : State) (q : VReq) (k : Nat), live s.dev = true ∧ s.dev.mgmt.cur = some q ∧ q.cmd = 0x10 ∧ leAt q.body 1 1 = 0 ∧ leAt q.body 2 2 = k ∧ leAt q.body 0 1 = 1 ∧ k < 288 ∧ isFused s.dev.part k = false ∧ ((siteInfo s.dev k).st = .live ∨ (siteInfo s.dev k).st = .spare ∨ (siteInfo s.dev k).st = .promoting ∨ ((siteInfo s.dev k).st = .suspect ∧ (siteInfo s.dev k).deciding = false))) ∧
    (∃ (s : State) (q : VReq) (k : Nat), live s.dev = true ∧ s.dev.mgmt.cur = some q ∧ q.cmd = 0x10 ∧ leAt q.body 1 1 = 0 ∧ leAt q.body 2 2 = k ∧ leAt q.body 0 1 = 1 ∧ k < 288 ∧ isFused s.dev.part k = false ∧ (siteInfo s.dev k).st = .suspect ∧ (siteInfo s.dev k).deciding = true ∧ (siteInfo s.dev k).mgmtFence = false) ∧
    (∃ (s : State) (q : VReq) (k : Nat), live s.dev = true ∧ s.dev.mgmt.cur = some q ∧ q.cmd = 0x10 ∧ leAt q.body 1 1 = 0 ∧ leAt q.body 2 2 = k ∧ leAt q.body 0 1 = 2 ∧ k < 4 ∧ (seamAt s.dev k).st = .lost) ∧
    (∃ (s : State) (q : VReq) (k : Nat), live s.dev = true ∧ s.dev.mgmt.cur = some q ∧ q.cmd = 0x10 ∧ leAt q.body 1 1 = 0 ∧ leAt q.body 2 2 = k ∧ leAt q.body 0 1 = 2 ∧ k < 4 ∧ (seamAt s.dev k).st ≠ .lost ∧ ((seamAt s.dev k).st = .suspect → (seamAt s.dev k).deciding = false)) ∧
    (∃ (s : State) (q : VReq) (k : Nat), live s.dev = true ∧ s.dev.mgmt.cur = some q ∧ q.cmd = 0x10 ∧ leAt q.body 1 1 = 0 ∧ leAt q.body 2 2 = k ∧ leAt q.body 0 1 = 2 ∧ k < 4 ∧ (seamAt s.dev k).st = .suspect ∧ (seamAt s.dev k).deciding = true ∧ (seamAt s.dev k).mgmtFence = false) ∧
    (∃ (s : State) (q : VReq) (k : Nat), live s.dev = true ∧ s.dev.mgmt.cur = some q ∧ q.cmd = 0x10 ∧ leAt q.body 1 1 = 0 ∧ leAt q.body 2 2 = k ∧ leAt q.body 0 1 = 3 ∧ k < 128 ∧ chState s.dev (k / 32) (k % 32) ≠ 0) ∧
    (∃ (s : State) (q : VReq) (k : Nat), live s.dev = true ∧ s.dev.mgmt.cur = some q ∧ q.cmd = 0x10 ∧ leAt q.body 1 1 = 0 ∧ leAt q.body 2 2 = k ∧ leAt q.body 0 1 = 3 ∧ k < 128 ∧ chState s.dev (k / 32) (k % 32) = 0 ∧ tgRunning s.dev (k / 32) (k % 32) = false) ∧
    (∃ (s : State) (q : VReq) (k : Nat), live s.dev = true ∧ s.dev.mgmt.cur = some q ∧ q.cmd = 0x10 ∧ leAt q.body 1 1 = 0 ∧ leAt q.body 2 2 = k ∧ leAt q.body 0 1 = 4 ∧ k < 32 ∧ chState s.dev (4 + k / 4) (k % 4) ≠ 0) ∧
    (∃ (s : State) (q : VReq) (k : Nat), live s.dev = true ∧ s.dev.mgmt.cur = some q ∧ q.cmd = 0x10 ∧ leAt q.body 1 1 = 0 ∧ leAt q.body 2 2 = k ∧ leAt q.body 0 1 = 4 ∧ k < 32 ∧ chState s.dev (4 + k / 4) (k % 4) = 0 ∧ tgRunning s.dev (4 + k / 4) (k % 4) = false) ∧
    (∃ (s : State) (q : VReq) (k : Nat), live s.dev = true ∧ s.dev.mgmt.cur = some q ∧ q.cmd = 0x10 ∧ leAt q.body 1 1 = 0 ∧ leAt q.body 2 2 = k ∧ leAt q.body 0 1 = 5 ∧ k < 2 ∧ (portAt s.dev k).st = 3) ∧
    (∃ (s : State) (q : VReq) (k : Nat), live s.dev = true ∧ s.dev.mgmt.cur = some q ∧ q.cmd = 0x10 ∧ leAt q.body 1 1 = 0 ∧ leAt q.body 2 2 = k ∧ leAt q.body 0 1 = 6 ∧ k = 0 ∧ s.dev.code ≠ stLost) ∧
    (∃ (s : State) (q : VReq) (k : Nat), live s.dev = true ∧ s.dev.mgmt.cur = some q ∧ q.cmd = 0x10 ∧ leAt q.body 1 1 = 0 ∧ leAt q.body 2 2 = k ∧ (leAt q.body 0 1 = 0 ∨ 6 < leAt q.body 0 1)) :=
  ⟨⟨st (curd (vq 16 [1, 0, 32, 1]) (dev0)), vq 16 [1, 0, 32, 1], 288, by and_intros <;> decide +kernel⟩,
   ⟨st (curd (vq 16 [1, 0, 31, 1]) ({ dev0 with part := { fusedOut := [287] } })), vq 16 [1, 0, 31, 1], 287, by and_intros <;> decide +kernel⟩,
   ⟨st (curd (vq 16 [1, 0, 0, 0]) (sited { st := .fenced } dev0)), vq 16 [1, 0, 0, 0], 0, by and_intros <;> decide +kernel⟩,
   ⟨st (curd (vq 0x10 [1, 0, 31, 1]) (dev0)), vq 0x10 [1, 0, 31, 1], 287, by and_intros <;> decide +kernel⟩,
   ⟨st (curd (vq 0x10 [1, 0, 0, 0]) (sited susp dev0)), vq 0x10 [1, 0, 0, 0], 0, by and_intros <;> decide +kernel⟩,
   ⟨st (curd (vq 16 [2, 0, 3, 0]) ({ dev0 with wdn := { seams := [{}, {}, {}, { st := .lost }] } })), vq 16 [2, 0, 3, 0], 3, by and_intros <;> decide +kernel⟩,
   ⟨st (curd (vq 0x10 [2, 0, 3, 0]) (dev0)), vq 0x10 [2, 0, 3, 0], 3, by and_intros <;> decide +kernel⟩,
   ⟨st (curd (vq 0x10 [2, 0, 0, 0]) (seamd { st := .suspect, deciding := true } dev0)), vq 0x10 [2, 0, 0, 0], 0, by and_intros <;> decide +kernel⟩,
   ⟨st (curd (vq 0x10 [3, 0, 127, 0]) (wr dev0 (xreg 3 0x27C) 0x40000000)), vq 0x10 [3, 0, 127, 0], 127, by and_intros <;> decide +kernel⟩,
   ⟨st (curd (vq 0x10 [3, 0, 127, 0]) (dev0)), vq 0x10 [3, 0, 127, 0], 127, by and_intros <;> decide +kernel⟩,
   ⟨st (curd (vq 0x10 [4, 0, 31, 0]) (wr dev0 (xreg 11 0x20C) 0x40000000)), vq 0x10 [4, 0, 31, 0], 31, by and_intros <;> decide +kernel⟩,
   ⟨st (curd (vq 0x10 [4, 0, 31, 0]) (dev0)), vq 0x10 [4, 0, 31, 0], 31, by and_intros <;> decide +kernel⟩,
   ⟨st (curd (vq 16 [5, 0, 1, 0]) ({ dev0 with ports := [{}, { st := 3 }] })), vq 16 [5, 0, 1, 0], 1, by and_intros <;> decide +kernel⟩,
   ⟨st (curd (vq 16 [6, 0, 0, 0]) (dev0)), vq 16 [6, 0, 0, 0], 0, by and_intros <;> decide +kernel⟩,
   ⟨st (curd (vq 16 [7, 0, 0, 0]) (dev0)), vq 16 [7, 0, 0, 0], 0, by and_intros <;> decide +kernel⟩⟩

/-- States and operands that meet the hypotheses of MacsecKeys, clause by clause. -/
theorem wit_MacsecKeys :
    (∃ (s : State) (q : VReq) (b : List Byte) (p : SubPort), live s.dev = true ∧ s.dev.mgmt.cur = some q ∧ q.body = b ∧ spAt s.dev (leAt b 0 1) (leAt b 1 1) = p ∧ q.cmd = 0x50 ∧ leAt b 5 1 < 2 ∧ leAt b 6 2 = 0 ∧ saSelOk s.dev b = false) ∧
    (∃ (s : State) (q : VReq) (b : List Byte) (p : SubPort), live s.dev = true ∧ s.dev.mgmt.cur = some q ∧ q.body = b ∧ spAt s.dev (leAt b 0 1) (leAt b 1 1) = p ∧ q.cmd = 0x50 ∧ leAt b 5 1 < 2 ∧ leAt b 6 2 = 0 ∧ saSelOk s.dev b = true ∧ leAt b 2 1 = 0 ∧ s.fuse.kwk = none) ∧
    (∃ (s : State) (q : VReq) (b : List Byte) (p : SubPort) (k : _), live s.dev = true ∧ s.dev.mgmt.cur = some q ∧ q.body = b ∧ spAt s.dev (leAt b 0 1) (leAt b 1 1) = p ∧ q.cmd = 0x50 ∧ leAt b 5 1 < 2 ∧ leAt b 6 2 = 0 ∧ saSelOk s.dev b = true ∧ leAt b 2 1 = 0 ∧ s.fuse.kwk = some k ∧ saInUse p b = true) ∧
    (∃ (s : State) (q : VReq) (b : List Byte) (p : SubPort) (k : _), live s.dev = true ∧ s.dev.mgmt.cur = some q ∧ q.body = b ∧ spAt s.dev (leAt b 0 1) (leAt b 1 1) = p ∧ q.cmd = 0x50 ∧ leAt b 5 1 < 2 ∧ leAt b 6 2 = 0 ∧ saSelOk s.dev b = true ∧ leAt b 2 1 = 0 ∧ s.fuse.kwk = some k ∧ saInUse p b = false ∧ (p.tx.filter (fun a => decide (a.an ≠ leAt b 4 1))).length < 2 ∧ leAt b 5 1 = 0) ∧
    (∃ (s : State) (q : VReq) (b : List Byte) (p : SubPort) (k : _), live s.dev = true ∧ s.dev.mgmt.cur = some q ∧ q.body = b ∧ spAt s.dev (leAt b 0 1) (leAt b 1 1) = p ∧ q.cmd = 0x50 ∧ leAt b 5 1 < 2 ∧ leAt b 6 2 = 0 ∧ saSelOk s.dev b = true ∧ leAt b 2 1 = 0 ∧ s.fuse.kwk = some k ∧ saInUse p b = false ∧ (p.tx.filter (fun a => decide (a.an ≠ leAt b 4 1))).length < 2 ∧ leAt b 5 1 = 1) ∧
    (∃ (s : State) (q : VReq) (b : List Byte) (p : SubPort), live s.dev = true ∧ s.dev.mgmt.cur = some q ∧ q.body = b ∧ spAt s.dev (leAt b 0 1) (leAt b 1 1) = p ∧ q.cmd = 0x51 ∧ allZero (slice b 5 3) = true ∧ saSelOk s.dev b = true ∧ saInUse p b = true) ∧
    (∃ (s : State) (q : VReq) (b : List Byte) (p : SubPort), live s.dev = true ∧ s.dev.mgmt.cur = some q ∧ q.body = b ∧ spAt s.dev (leAt b 0 1) (leAt b 1 1) = p ∧ q.cmd = 0x51 ∧ allZero (slice b 5 3) = true ∧ saSelOk s.dev b = true ∧ saInUse p b = false) ∧
    (∃ (s : State) (q : VReq) (b : List Byte) (p : SubPort), live s.dev = true ∧ s.dev.mgmt.cur = some q ∧ q.body = b ∧ spAt s.dev (leAt b 0 1) (leAt b 1 1) = p ∧ q.cmd = 0x52) :=
  ⟨⟨st (curd (vq 80 ([0, 0, 0, 1, 0, 0, 0, 0] ++ List.replicate 76 0)) (ethDev)), vq 80 ([0, 0, 0, 1, 0, 0, 0, 0] ++ List.replicate 76 0), ([0, 0, 0, 1, 0, 0, 0, 0] ++ List.replicate 76 0), spAt (curd (vq 80 ([0, 0, 0, 1, 0, 0, 0, 0] ++ List.replicate 76 0)) (ethDev)) 0 0, by and_intros <;> decide +kernel⟩,
   ⟨st (curd (vq 80 ([0, 0, 0, 0, 3, 1, 0, 0] ++ List.replicate 76 0)) (ethDev)), vq 80 ([0, 0, 0, 0, 3, 1, 0, 0] ++ List.replicate 76 0), ([0, 0, 0, 0, 3, 1, 0, 0] ++ List.replicate 76 0), spAt (curd (vq 80 ([0, 0, 0, 0, 3, 1, 0, 0] ++ List.replicate 76 0)) (ethDev)) 0 0, by and_intros <;> decide +kernel⟩,
   ⟨saDev (saBody 0 0) { txAn := some 0 }, vq 0x50 (saBody 0 0), saBody 0 0, { txAn := some 0 }, kwk0, by and_intros <;> decide +kernel⟩,
   ⟨saDev (saBody 3 0) {}, vq 0x50 (saBody 3 0), saBody 3 0, {}, kwk0, by and_intros <;> decide +kernel⟩,
   ⟨saDev (saBody 3 1) {}, vq 0x50 (saBody 3 1), saBody 3 1, {}, kwk0, by and_intros <;> decide +kernel⟩,
   ⟨st (curd (vq 81 ([0, 0, 0, 0, 0, 0, 0, 0])) ({ dev0 with eth := { sp := [(0, { up := true, txAn := some 0 })] } })), vq 81 ([0, 0, 0, 0, 0, 0, 0, 0]), ([0, 0, 0, 0, 0, 0, 0, 0]), spAt (curd (vq 81 ([0, 0, 0, 0, 0, 0, 0, 0])) ({ dev0 with eth := { sp := [(0, { up := true, txAn := some 0 })] } })) 0 0, by and_intros <;> decide +kernel⟩,
   ⟨st (curd (vq 81 ([0, 0, 1, 7, 3, 0, 0, 0])) (ethDev)), vq 81 ([0, 0, 1, 7, 3, 0, 0, 0]), ([0, 0, 1, 7, 3, 0, 0, 0]), spAt (curd (vq 81 ([0, 0, 1, 7, 3, 0, 0, 0])) (ethDev)) 0 0, by and_intros <;> decide +kernel⟩,
   ⟨st (curd (vq 82 ([0, 0, 0, 0, 0, 0, 0, 0])) (ethDev)), vq 82 ([0, 0, 0, 0, 0, 0, 0, 0]), ([0, 0, 0, 0, 0, 0, 0, 0]), spAt (curd (vq 82 ([0, 0, 0, 0, 0, 0, 0, 0])) (ethDev)) 0 0, by and_intros <;> decide +kernel⟩⟩

/-- States and operands that meet the hypotheses of FusesAndFlash, clause by clause. -/
theorem wit_FusesAndFlash :
    (∃ (s : State) (q : VReq) (b : List Byte), live s.dev = true ∧ s.dev.mgmt.cur = some q ∧ q.body = b ∧ q.cmd = 0x60 ∧ leAt b 2 2 = 0 ∧ leAt b 1 1 < 4 ∧ leAt b 0 1 = 1 ∧ (s.fuse.keys.getD (leAt b 1 1) {}).provisioned = true) ∧
    (∃ (s : State) (q : VReq) (b : List Byte), live s.dev = true ∧ s.dev.mgmt.cur = some q ∧ q.body = b ∧ q.cmd = 0x60 ∧ leAt b 2 2 = 0 ∧ leAt b 1 1 < 4 ∧ leAt b 0 1 = 1 ∧ (s.fuse.keys.getD (leAt b 1 1) {}).provisioned = false) ∧
    (∃ (s : State) (q : VReq) (b : List Byte), live s.dev = true ∧ s.dev.mgmt.cur = some q ∧ q.body = b ∧ q.cmd = 0x60 ∧ leAt b 2 2 = 0 ∧ leAt b 1 1 < 4 ∧ leAt b 0 1 = 2 ∧ allZero (slice b 4 48) = true ∧ (s.fuse.keys.getD (leAt b 1 1) {}).provisioned = true ∧ (s.fuse.keys.getD (leAt b 1 1) {}).revoked = true) ∧
    (∃ (s : State) (q : VReq) (b : List Byte), live s.dev = true ∧ s.dev.mgmt.cur = some q ∧ q.body = b ∧ q.cmd = 0x60 ∧ leAt b 2 2 = 0 ∧ leAt b 1 1 < 4 ∧ leAt b 0 1 = 2 ∧ allZero (slice b 4 48) = true ∧ (s.fuse.keys.getD (leAt b 1 1) {}).provisioned = true ∧ (s.fuse.keys.getD (leAt b 1 1) {}).revoked = false ∧ (s.fuse.keys.filter (fun x => x.provisioned && !x.revoked)).length ≤ 1) ∧
    (∃ (s : State) (q : VReq) (b : List Byte), live s.dev = true ∧ s.dev.mgmt.cur = some q ∧ q.body = b ∧ q.cmd = 0x60 ∧ leAt b 2 2 = 0 ∧ leAt b 1 1 < 4 ∧ leAt b 0 1 = 2 ∧ allZero (slice b 4 48) = true ∧ (s.fuse.keys.getD (leAt b 1 1) {}).provisioned = true ∧ (s.fuse.keys.getD (leAt b 1 1) {}).revoked = false ∧ 1 < (s.fuse.keys.filter (fun x => x.provisioned && !x.revoked)).length) ∧
    (∃ (s : State) (q : VReq) (b : List Byte), live s.dev = true ∧ s.dev.mgmt.cur = some q ∧ q.body = b ∧ q.cmd = 0x61 ∧ s.fuse.kwk = none ∧ b.length = 32) ∧
    (∃ (s : State) (q : VReq) (b : List Byte), live s.dev = true ∧ s.dev.mgmt.cur = some q ∧ q.body = b ∧ q.cmd = 0x61 ∧ s.fuse.kwk.isSome = true) ∧
    (∃ (s : State) (q : VReq) (b : List Byte), live s.dev = true ∧ s.dev.mgmt.cur = some q ∧ q.body = b ∧ q.cmd = 0x62 ∧ allZero (slice b 1 3) = true ∧ leAt b 0 1 = s.fuse.minSvn) ∧
    (∃ (s : State) (q : VReq) (b : List Byte), live s.dev = true ∧ s.dev.mgmt.cur = some q ∧ q.body = b ∧ q.cmd = 0x62 ∧ allZero (slice b 1 3) = true ∧ s.fuse.minSvn < leAt b 0 1 ∧ leAt b 0 1 ≤ 63 ∧ leAt b 0 1 ≤ selectedSvn s.dev) ∧
    (∃ (s : State) (q : VReq) (b : List Byte), live s.dev = true ∧ s.dev.mgmt.cur = some q ∧ q.body = b ∧ q.cmd = 0x62 ∧ allZero (slice b 1 3) = true ∧ (leAt b 0 1 < s.fuse.minSvn ∨ (s.fuse.minSvn < leAt b 0 1 ∧ (63 < leAt b 0 1 ∨ selectedSvn s.dev < leAt b 0 1)))) ∧
    (∃ (s : State) (q : VReq) (b : List Byte), live s.dev = true ∧ s.dev.mgmt.cur = some q ∧ q.body = b ∧ q.cmd = 0x63 ∧ fld s.dev Reg.BOOT_STATUS 29 28 = 0) ∧
    (∃ (s : State) (q : VReq) (b : List Byte), live s.dev = true ∧ s.dev.mgmt.cur = some q ∧ q.body = b ∧ q.cmd = 0x63 ∧ fld s.dev Reg.BOOT_STATUS 29 28 = 1 ∧ rdn s.dev Reg.BOOT_DEBUG < 3) ∧
    (∃ (s : State) (q : VReq) (b : List Byte), live s.dev = true ∧ s.dev.mgmt.cur = some q ∧ q.body = b ∧ q.cmd = 0x70 ∧ allZero (slice b 1 3) = true ∧ leAt b 0 1 ≤ 1 ∧ slotInUse s.dev (leAt b 0 1) = true) ∧
    (∃ (s : State) (q : VReq) (b : List Byte), live s.dev = true ∧ s.dev.mgmt.cur = some q ∧ q.body = b ∧ q.cmd = 0x70 ∧ allZero (slice b 1 3) = true ∧ leAt b 0 1 ≤ 1 ∧ slotInUse s.dev (leAt b 0 1) = false) ∧
    (∃ (s : State) (q : VReq) (b : List Byte), live s.dev = true ∧ s.dev.mgmt.cur = some q ∧ q.body = b ∧ q.cmd = 0x71 ∧ allZero (slice b 1 3) = true ∧ leAt b 10 2 = 0 ∧ leAt b 0 1 ≤ 1 ∧ b.length = 12 + leAt b 8 2 ∧ leAt b 8 2 ≤ 512 ∧ leAt b 4 4 + leAt b 8 2 ≤ 0x400000 ∧ slotInUse s.dev (leAt b 0 1) = true) ∧
    (∃ (s : State) (q : VReq) (b : List Byte), live s.dev = true ∧ s.dev.mgmt.cur = some q ∧ q.body = b ∧ q.cmd = 0x71 ∧ allZero (slice b 1 3) = true ∧ leAt b 10 2 = 0 ∧ leAt b 0 1 ≤ 1 ∧ b.length = 12 + leAt b 8 2 ∧ leAt b 8 2 ≤ 512 ∧ leAt b 4 4 + leAt b 8 2 ≤ 0x400000 ∧ slotInUse s.dev (leAt b 0 1) = false) :=
  ⟨⟨stf (keyf { provisioned := true } []) (curd (vq 96 ([1, 0, 0, 0] ++ List.replicate 48 0)) (dev0)), vq 96 ([1, 0, 0, 0] ++ List.replicate 48 0), ([1, 0, 0, 0] ++ List.replicate 48 0), by and_intros <;> decide +kernel⟩,
   ⟨st (curd (vq 96 ([1, 3, 0, 0] ++ List.replicate 48 0)) (dev0)), vq 96 ([1, 3, 0, 0] ++ List.replicate 48 0), ([1, 3, 0, 0] ++ List.replicate 48 0), by and_intros <;> decide +kernel⟩,
   ⟨stf (keyf { provisioned := true, revoked := true } []) (curd (vq 96 ([2, 0, 0, 0] ++ List.replicate 48 0)) (dev0)), vq 96 ([2, 0, 0, 0] ++ List.replicate 48 0), ([2, 0, 0, 0] ++ List.replicate 48 0), by and_intros <;> decide +kernel⟩,
   ⟨stf (keyf { provisioned := true } []) (curd (vq 96 ([2, 0, 0, 0] ++ List.replicate 48 0)) (dev0)), vq 96 ([2, 0, 0, 0] ++ List.replicate 48 0), ([2, 0, 0, 0] ++ List.replicate 48 0), by and_intros <;> decide +kernel⟩,
   ⟨stf (keyf { provisioned := true } [{ provisioned := true }]) (curd (vq 96 ([2, 0, 0, 0] ++ List.replicate 48 0)) (dev0)), vq 96 ([2, 0, 0, 0] ++ List.replicate 48 0), ([2, 0, 0, 0] ++ List.replicate 48 0), by and_intros <;> decide +kernel⟩,
   ⟨st (curd (vq 97 ([0] ++ List.replicate 31 0)) (dev0)), vq 97 ([0] ++ List.replicate 31 0), ([0] ++ List.replicate 31 0), by and_intros <;> decide +kernel⟩,
   ⟨stf ({ kwk := some [] }) (curd (vq 97 ([0] ++ List.replicate 31 0)) (dev0)), vq 97 ([0] ++ List.replicate 31 0), ([0] ++ List.replicate 31 0), by and_intros <;> decide +kernel⟩,
   ⟨st (curd (vq 98 ([0, 0, 0, 0])) (dev0)), vq 98 ([0, 0, 0, 0]), ([0, 0, 0, 0]), by and_intros <;> decide +kernel⟩,
   ⟨st (curd (vq 98 ([63, 0, 0, 0])) (wr (wr dev0 Reg.BOOT_STATUS 0x04000000) (Reg.BOOT_COPY_SVN 0) 63)), vq 98 ([63, 0, 0, 0]), ([63, 0, 0, 0]), by and_intros <;> decide +kernel⟩,
   ⟨st (curd (vq 98 ([1, 0, 0, 0])) (dev0)), vq 98 ([1, 0, 0, 0]), ([1, 0, 0, 0]), by and_intros <;> decide +kernel⟩,
   ⟨st (curd (vq 99 ([0] ++ List.replicate 95 0)) (dev0)), vq 99 ([0] ++ List.replicate 95 0), ([0] ++ List.replicate 95 0), by and_intros <;> decide +kernel⟩,
   ⟨st (curd (vq 99 ([0] ++ List.replicate 95 0)) (wr dev0 Reg.BOOT_STATUS 0x10000000)), vq 99 ([0] ++ List.replicate 95 0), ([0] ++ List.replicate 95 0), by and_intros <;> decide +kernel⟩,
   ⟨st (curd (vq 112 ([0, 0, 0, 0])) (wr dev0 Reg.BOOT_STATUS 0x04000000)), vq 112 ([0, 0, 0, 0]), ([0, 0, 0, 0]), by and_intros <;> decide +kernel⟩,
   ⟨st (curd (vq 112 ([1, 0, 0, 0])) (dev0)), vq 112 ([1, 0, 0, 0]), ([1, 0, 0, 0]), by and_intros <;> decide +kernel⟩,
   ⟨st (curd (vq 113 ([0, 0, 0, 0, 0, 0, 0, 0, 1, 0, 0, 0, 7])) (wr dev0 Reg.BOOT_STATUS 0x04000000)), vq 113 ([0, 0, 0, 0, 0, 0, 0, 0, 1, 0, 0, 0, 7]), ([0, 0, 0, 0, 0, 0, 0, 0, 1, 0, 0, 0, 7]), by and_intros <;> decide +kernel⟩,
   ⟨st (curd (vq 113 ([1, 0, 0, 0, 255, 255, 63, 0, 1, 0, 0, 0, 7])) (dev0)), vq 113 ([1, 0, 0, 0, 255, 255, 63, 0, 1, 0, 0, 0, 7]), ([1, 0, 0, 0, 255, 255, 63, 0, 1, 0, 0, 0, 7]), by and_intros <;> decide +kernel⟩⟩

/-- States and operands that meet the hypotheses of TapAndDebug, clause by clause. -/
theorem wit_TapAndDebug :
    (∃ (s : State) (d : _) (m : BitVec 8) (a v : BitVec 32), { s.dev with mgmt := { s.dev.mgmt with tap := { s.dev.mgmt.tap with instr := 0xFF, dr := 0 } } } = d ∧ debugOpen s.dev = false ∧ live s.dev = true) ∧
    (∃ (s : State) (m : BitVec 8) (d : Dev), debugOpen s.dev = true ∧ live s.dev = true ∧ flipGroups (tapSelect 0x40 (256 * maskOf s.dev.halted) s.dev) ((groupsOf m).filter (fun k => !s.dev.halted.contains k)) = d) ∧
    (∃ (s : State) (m : BitVec 8) (d : Dev), debugOpen s.dev = true ∧ live s.dev = true ∧ flipGroups (tapSelect 0x40 (256 * maskOf s.dev.halted) s.dev) ((groupsOf m).filter (fun k => s.dev.halted.contains k)) = d ∧ d.code ≠ stHalted) ∧
    (∃ (s : State) (m : BitVec 8) (d : Dev) (e : _), debugOpen s.dev = true ∧ live s.dev = true ∧ flipGroups (tapSelect 0x40 (256 * maskOf s.dev.halted) s.dev) ((groupsOf m).filter (fun k => s.dev.halted.contains k)) = d ∧ d.code = stHalted ∧ (∀ k ∈ d.halted, k < 4 → m.getLsbD k = true) ∧ setCode { d with halted := d.halted.filter (fun k => !(groupsOf m).contains k) } (servingCode { d with halted := d.halted.filter (fun k => !(groupsOf m).contains k) }) = e) ∧
    (∃ (s : State) (a : BitVec 32), debugOpen s.dev = true ∧ live s.dev = true ∧ s.dev.mgmt.cur = none ∧ s.dev.mgmt.queue.length < 8) ∧
    (∃ (s : State) (a v : BitVec 32), debugOpen s.dev = true ∧ live s.dev = true ∧ s.dev.mgmt.cur = none ∧ s.dev.mgmt.queue.length < 8) ∧
    (∃ (s : State) (w : Bool), live s.dev = true ∧ s.dev.alertN = true) ∧
    (∃ (s : State) (w : Bool), live s.dev = true ∧ s.dev.alertN = false) :=
  ⟨⟨st dev0, { dev0 with mgmt := { tap := { instr := 0xFF, dr := 0 } } }, 0, 0, 0, by and_intros <;> decide +kernel⟩,
   by refine ⟨st { dev0 with code := 2 }, 255, ?d1, ?goal1⟩; case goal1 => and_intros <;> first | decide +kernel | rfl,
   by refine ⟨st { dev0 with code := 2, halted := [0, 7] }, 255, ?d2, ?goal2⟩; case goal2 => and_intros <;> first | decide +kernel | rfl,
   by refine ⟨st (wr { dev0 with code := 11, halted := [0, 1] } Reg.BOOT_STATUS 0x40000000), 3, ?d3, ?e3, ?goal3⟩; case goal3 => and_intros <;> first | decide +kernel | rfl,
   ⟨st { { dev0 with code := 2 } with mgmt := { queue := List.replicate 7 {} } }, 0, by and_intros <;> decide +kernel⟩,
   ⟨st { { dev0 with code := 2 } with mgmt := { queue := List.replicate 7 {} } }, 0, 0, by and_intros <;> decide +kernel⟩,
   ⟨st { dev0 with alertN := true }, false, by and_intros <;> decide +kernel⟩,
   ⟨st { dev0 with alertN := false }, true, by and_intros <;> decide +kernel⟩⟩

/-- States and operands that meet the hypotheses of ClearActions, clause by clause. -/
theorem wit_ClearActions :
    (∃ (s : State) (c : Instr) (a n : Nat), live s.dev = true ∧ mgmtOpen s.dev = true ∧ ((∃ i : Fin 288, isFused s.dev.part i.val = false ∧ ((c = .clrSwitch i ∧ a = Reg.CORE_SWITCH_LO i.val ∧ n = 1) ∨ (c = .clrStall i ∧ a = Reg.CORE_STALL_LO i.val 0 ∧ n = 6) ∨ (c = .clrWrFirst i ∧ a = Reg.CORE_SPAD_WR_FIRST_LO i.val ∧ n = 1) ∨ (c = .clrWords i ∧ a = Reg.CORE_SE_WORDS_LO i.val 0 ∧ n = 3) ∨ (c = .clrBytes i ∧ a = Reg.CORE_DMA_BYTES_LO i.val ∧ n = 1))) ∨ (c = .lapClrCnt ∧ a = Reg.LAP_CNT_LO 0 ∧ n = 13) ∨ (∃ u : Fin 12, c = .xmemClrCnt u ∧ a = xreg u.val 0x080 ∧ n = 10) ∨ (c = .rvpClrCnt ∧ a = Reg.RVP_CNT_LO 0 ∧ n = 17) ∨ (c = .fcsClrCnt ∧ a = Reg.FCS_CNT_LO 0 ∧ n = 15) ∨ (c = .wdnClrCnt ∧ a = Reg.WDN_CNT_LO 0 ∧ n = 8) ∨ (c = .elogClrCnt ∧ a = Reg.ELOG_CNT_LO 0 ∧ n = 7))) ∧
    (∃ (s : State) (c : Instr) (a b : Nat), live s.dev = true ∧ mgmtOpen s.dev = true ∧ (∃ i : Fin 288, isFused s.dev.part i.val = false ∧ ((c = .clrAbort i ∧ a = Reg.CORE_ABORT_LAST i.val ∧ b = Reg.CORE_ABORT_COUNT i.val) ∨ (c = .clrInfo i ∧ a = Reg.CORE_SPAD_ERR_INFO i.val ∧ b = Reg.CORE_SPAD_ERR_SYN i.val) ∨ (c = .clrCount i ∧ a = Reg.CORE_SPAD_CE_COUNT i.val ∧ b = Reg.CORE_SPAD_UE_COUNT i.val) ∨ (c = .seClrFault i ∧ a = Reg.CORE_SE_FAULT i.val ∧ b = Reg.CORE_SE_FAULT_ADDR i.val)))) ∧
    (∃ (s : State) (i : Fin 288), live s.dev = true ∧ mgmtOpen s.dev = true ∧ isFused s.dev.part i.val = false) ∧
    (∃ (s : State) (i : Fin 288) (c : _), c ∈ ([.clrAbort i, .clrSwitch i, .clrStall i, .clrWrFirst i, .clrInfo i, .clrCount i, .seClrFault i, .clrWords i, .dmaClrFault i, .clrBytes i] : List Instr) ∧ live s.dev = true ∧ mgmtOpen s.dev = true ∧ isFused s.dev.part i.val = true) ∧
    (∃ (s : State) (p : Fin 2), live s.dev = true ∧ mgmtOpen s.dev = true) :=
  ⟨⟨st openDev, .lapClrCnt, Reg.LAP_CNT_LO 0, 13, ⟨by decide +kernel, by decide +kernel, Or.inr (Or.inl ⟨rfl, rfl, rfl⟩)⟩⟩,
   ⟨st openDev, .clrAbort 287, Reg.CORE_ABORT_LAST 287, Reg.CORE_ABORT_COUNT 287, ⟨by decide +kernel, by decide +kernel, 287, by decide +kernel, Or.inl ⟨rfl, rfl, rfl⟩⟩⟩,
   ⟨st openDev, 287, by and_intros <;> decide +kernel⟩,
   ⟨st { openDev with part := { fusedOut := [287] } }, 287, .clrAbort 287, by and_intros <;> decide +kernel⟩,
   ⟨st openDev, 1, by and_intros <;> decide +kernel⟩⟩

/-- States and operands that meet the hypotheses of RegisterActions, clause by clause. -/
theorem wit_RegisterActions :
    (∃ (s : State) (p : Fin 2), live s.dev = true ∧ mgmtOpen s.dev = true ∧ s.dev.code ≠ stSleep ∧ ((portAt s.dev p.val).st = 0 ∨ (portAt s.dev p.val).st = 4)) ∧
    (∃ (s : State) (p : Fin 2), live s.dev = true ∧ mgmtOpen s.dev = true ∧ s.dev.code = stSleep) ∧
    (∃ (s : State) (p : Fin 2), live s.dev = true ∧ mgmtOpen s.dev = true ∧ (portAt s.dev p.val).st ≠ 0 ∧ (portAt s.dev p.val).st ≠ 4) ∧
    (∃ (s : State), live s.dev = true ∧ mgmtOpen s.dev = true ∧ s.dev.ring.mode ≠ 0) ∧
    (∃ (s : State), live s.dev = true ∧ mgmtOpen s.dev = true ∧ s.dev.ring.mode = 0) ∧
    (∃ (s : State) (q : BitVec 32), live s.dev = true ∧ mgmtOpen s.dev = true) ∧
    (∃ (s : State) (e : Fin 65536), live s.dev = true ∧ mgmtOpen s.dev = true) ∧
    (∃ (s : State) (u : Fin 12) (c : Fin 32) (high : Bool) (v : BitVec 32), live s.dev = true ∧ mgmtOpen s.dev = true ∧ hasCh u.val c.val = true) ∧
    (∃ (s : State) (c : Instr), live s.dev = true ∧ mgmtOpen s.dev = false ∧ ((∃ p, c = .retrain p) ∨ c = .reformReq ∨ (∃ q, c = .elogSel q) ∨ (∃ e, c = .fcsEntrySel e) ∨ (∃ u k h v, c = .weightWrite u k h v) ∨ (∃ a v, c = .registerWrite a v) ∨ (∃ n r v, c = .timerConfigWrite n r v) ∨ (∃ m v, c = .fastGWrite m v) ∨ (∃ n, c = .timerStart n ∨ c = .timerStop n ∨ c = .timerReset n) ∨ c = .wdnClrCnt ∨ c = .elogClrCnt ∨ c = .rvpClrCnt ∨ c = .fcsClrCnt ∨ c = .detClrCnt ∨ c = .lapClrCnt)) :=
  ⟨⟨st openDev, 1, by and_intros <;> decide +kernel⟩,
   ⟨st { openDev with code := 12 }, 1, by and_intros <;> decide +kernel⟩,
   ⟨st { openDev with ports := [{}, { st := 3 }] }, 1, by and_intros <;> decide +kernel⟩,
   ⟨st { openDev with ring := { mode := 1 } }, by and_intros <;> decide +kernel⟩,
   ⟨st openDev, by and_intros <;> decide +kernel⟩,
   ⟨st openDev, 0, by and_intros <;> decide +kernel⟩,
   ⟨st openDev, 65535, by and_intros <;> decide +kernel⟩,
   ⟨st openDev, 4, 3, by and_intros <;> decide +kernel⟩,
   ⟨st dev0, .reformReq, ⟨by decide +kernel, by decide +kernel, Or.inr (Or.inl rfl)⟩⟩⟩

/-- States and operands that meet the hypotheses of Resets, clause by clause. -/
theorem wit_Resets :
    (∃ (s : State) (c : Instr), ((∃ v, c = .por v) ∨ (∃ n, c = .pinReset n ∧ 500 ≤ n) ∨ c = .pwrgdFall)) ∧
    (∃ (s : State) (n : Nat), n < 500) ∧
    (∃ (s t : State) (c : Instr), s.dev.code = stReset ∧ (∀ k, c ≠ .resetRelease k) ∧ exec c s = .next t) ∧
    (∃ (s : State) (k : Fin 32), s.dev.code = stReset) ∧
    (∃ (s : State) (k : Fin 32), s.dev.code ≠ stReset) :=
  ⟨⟨st dev0, .pinReset 500, Or.inr (Or.inl ⟨500, rfl, by decide⟩)⟩,
   ⟨st dev0, 499, by and_intros <;> decide +kernel⟩,
   ⟨st { dev0 with code := 0 }, st { dev0 with code := 0 }, .releaseBeat, ⟨by decide +kernel, fun k h => Instr.noConfusion h, rfl⟩⟩,
   ⟨st { dev0 with code := 0 }, by and_intros <;> decide +kernel⟩,
   ⟨st dev0, by and_intros <;> decide +kernel⟩⟩

/-- States and operands that meet the hypotheses of BootPhases, clause by clause. -/
theorem wit_BootPhases :
    (∃ (s : State) (o : BootOutcome), s.dev.code = stBoot ∧ live s.dev = true ∧ fld s.dev Reg.BOOT_STATUS 3 0 ≠ (match o with | .rom _ _ _ _ => 0 | .flash _ => 1 | .verify _ _ => 2 | .settings => 3 | .clear => 4 | .selftest _ _ => 5 | _ => 16)) ∧
    (∃ (s : State), s.dev.code = stBoot ∧ live s.dev = true ∧ fld s.dev Reg.BOOT_STATUS 3 0 = 0) ∧
    (∃ (s : State) (x : Bool), s.dev.code = stBoot ∧ live s.dev = true ∧ fld s.dev Reg.BOOT_STATUS 3 0 = 0) ∧
    (∃ (s : State) (y : Bool) (x : Bool), s.dev.code = stBoot ∧ live s.dev = true ∧ fld s.dev Reg.BOOT_STATUS 3 0 = 0) ∧
    (∃ (s : State) (ok : Bool), s.dev.code = stBoot ∧ live s.dev = true ∧ fld s.dev Reg.BOOT_STATUS 3 0 = 1 ∧ (fld s.dev Reg.BOOT_STATUS 20 16).testBit 4 = true) ∧
    (∃ (s : State), s.dev.code = stBoot ∧ live s.dev = true ∧ fld s.dev Reg.BOOT_STATUS 3 0 = 1 ∧ (fld s.dev Reg.BOOT_STATUS 20 16).testBit 4 = false ∧ fld s.dev Reg.BOOT_STATUS 20 16 % 4 ≠ 3) ∧
    (∃ (s : State) (a : Bool) (b : Bool), s.dev.code = stBoot ∧ live s.dev = true ∧ fld s.dev Reg.BOOT_STATUS 3 0 = 2) ∧
    (∃ (s : State), s.dev.code = stBoot ∧ live s.dev = true ∧ fld s.dev Reg.BOOT_STATUS 3 0 = 2 ∧ fld s.dev Reg.BOOT_STATUS 27 26 = 0) ∧
    (∃ (s : State), s.dev.code = stBoot ∧ live s.dev = true ∧ fld s.dev Reg.BOOT_STATUS 3 0 = 3) ∧
    (∃ (s : State), s.dev.code = stBoot ∧ live s.dev = true ∧ fld s.dev Reg.BOOT_STATUS 3 0 = 4) ∧
    (∃ (s : State), s.dev.code = stBoot ∧ live s.dev = true ∧ fld s.dev Reg.BOOT_STATUS 3 0 = 5) ∧
    (∃ (s : State) (f : List (Fin 12 × Fin 32)), s.dev.code = stTrain ∧ live s.dev = true ∧ fld s.dev Reg.BOOT_STATUS 3 0 = 6 ∧ s.dev.boot.memDone = false) ∧
    (∃ (s : State), s.dev.code = stTrain ∧ live s.dev = true ∧ s.dev.boot.memDone = true ∧ (∀ p ∈ s.dev.ports, p.st = 3 ∨ p.st = 4)) ∧
    (∃ (s : State), s.dev.code = stTrain ∧ live s.dev = true ∧ s.dev.boot.memDone = false) ∧
    (∃ (s : State), live s.dev = true ∧ s.dev.code = stForming ∧ (portAt s.dev 0).st = 4 ∧ s.dev.pwr.optref.getD 0 true = true ∧ (portAt s.dev 1).st ≠ 4) ∧
    (∃ (s : State), live s.dev = true ∧ s.dev.code ≠ stForming) :=
  ⟨⟨st (phase 1 0 0), .flash true, by and_intros <;> decide +kernel⟩,
   ⟨st (phase 1 0 0), by and_intros <;> decide +kernel⟩,
   ⟨st (phase 1 0 0), true, by and_intros <;> decide +kernel⟩,
   ⟨st (phase 1 0 0), true, true, by and_intros <;> decide +kernel⟩,
   ⟨st (phase 1 1 0x100000), true, by and_intros <;> decide +kernel⟩,
   ⟨st (phase 1 1 0x020000), by and_intros <;> decide +kernel⟩,
   ⟨st (phase 1 2 0), true, true, by and_intros <;> decide +kernel⟩,
   ⟨st (phase 1 2 0), by and_intros <;> decide +kernel⟩,
   ⟨st (phase 1 3 0), by and_intros <;> decide +kernel⟩,
   ⟨st (phase 1 4 0), by and_intros <;> decide +kernel⟩,
   ⟨st (phase 1 5 0), by and_intros <;> decide +kernel⟩,
   ⟨st (phase 3 6 0), [], by and_intros <;> decide +kernel⟩,
   ⟨st { dev0 with code := 3, boot := { memDone := true }, ports := [{ st := 3 }, { st := 4 }] }, by and_intros <;> decide +kernel⟩,
   ⟨st { dev0 with code := 3 }, by and_intros <;> decide +kernel⟩,
   ⟨st { dev0 with code := 4, ports := [{ st := 4 }, { st := 3 }] }, by and_intros <;> decide +kernel⟩,
   ⟨st dev0, by and_intros <;> decide +kernel⟩⟩

/-- States and operands that meet the hypotheses of SpeedAndPower, clause by clause. -/
theorem wit_SpeedAndPower :
    (∃ (s : State) (k : Fin 4) (rates : List (BitVec 12)), live s.dev = true ∧ s.dev.code ≠ stSleep ∧ rates.length = 8) ∧
    (∃ (s : State) (rs : List DieReading), live s.dev = true ∧ s.dev.wdn.dead = false ∧ s.dev.code = stServing ∧ rs.length = 4 ∧ (∀ k, k < 4 → s.dev.pwr.avs.getD k 0 = 0) ∧ s.dev.pwr.avs.length = 4 ∧ fld s.dev Reg.MGT_THROTTLE_CFG 7 0 ≠ 0 ∧ (∃ r ∈ rs, ∃ x ∈ dieTemps r.temps, (fld s.dev Reg.MGT_THROTTLE_CFG 7 0 : Int) ≤ x) ∧ (∀ k, k < 4 → commanded s.dev k ≤ fld s.dev (Reg.MGT_VCORE_CFG k) 23 16)) ∧
    (∃ (s : State) (rs : List DieReading), live s.dev = true ∧ s.dev.wdn.dead = false ∧ s.dev.code = stServing ∧ rs.length = 4 ∧ (∀ k, k < 4 → s.dev.pwr.avs.getD k 0 = 0) ∧ s.dev.pwr.avs.length = 4 ∧ fld s.dev Reg.MGT_THROTTLE_CFG 7 0 ≠ 0 ∧ (∃ r ∈ rs, ∃ x ∈ dieTemps r.temps, (fld s.dev Reg.MGT_THROTTLE_CFG 7 0 : Int) ≤ x) ∧ (∀ k, k < 4 → fld s.dev (Reg.MGT_VCORE_CFG k) 23 16 < commanded s.dev k)) ∧
    (∃ (s : State) (rs : List DieReading), live s.dev = true ∧ s.dev.wdn.dead = false ∧ s.dev.code = stServing ∧ rs.length = 4 ∧ (∀ k, k < 4 → s.dev.pwr.avs.getD k 0 = 0) ∧ s.dev.pwr.avs.length = 4 ∧ (∀ r ∈ rs, ∀ x ∈ dieTemps r.temps, x < (fld s.dev Reg.MGT_THROTTLE_CFG 7 0 : Int) - 5) ∧ (rs.map (fun r => r.watts.toNat)).sum + 20 ≤ fld s.dev Reg.MGT_THROTTLE_CFG 25 16 ∧ (∀ k, k < 4 → commanded s.dev k < fld s.dev (Reg.MGT_VCORE_CFG k) 7 0)) ∧
    (∃ (s : State) (k : Fin 4), live s.dev = true ∧ s.dev.pwr.avs.getD k.val 0 = 0) ∧
    (∃ (s : State) (k : Fin 4), live s.dev = true ∧ s.dev.pwr.avs.getD k.val 0 ≠ 0) ∧
    (∃ (s : State) (k : Fin 4), live s.dev = true ∧ s.dev.pwr.avs.getD k.val 0 = 1) ∧
    (∃ (s : State) (k : Fin 4), live s.dev = true ∧ s.dev.pwr.avs.getD k.val 0 = 2) ∧
    (∃ (s : State) (k : Fin 4), live s.dev = true ∧ fld s.dev (Reg.MGT_VCORE_CFG k.val) 23 16 ≠ 0 ∧ commanded s.dev k.val ≤ fld s.dev (Reg.MGT_VCORE_CFG k.val) 23 16) ∧
    (∃ (s : State) (k : Fin 4), live s.dev = true ∧ (fld s.dev (Reg.MGT_VCORE_CFG k.val) 23 16 = 0 ∨ fld s.dev (Reg.MGT_VCORE_CFG k.val) 23 16 < commanded s.dev k.val)) ∧
    (∃ (d : Dev) (k : Nat), d.pwr.goal.getD k 0 = 0) ∧
    (∃ (d : Dev) (k : Nat), commanded d k < d.pwr.goal.getD k 0) ∧
    (∃ (d : Dev) (k : Nat), d.pwr.goal.getD k 0 ≠ 0 ∧ d.pwr.goal.getD k 0 < commanded d k) ∧
    (∃ (d : Dev) (k code : Nat), code < 256 ∧ k < d.pwr.avs.length) ∧
    (∃ (s : State) (k : Fin 4), s.dev.code = stReset) ∧
    (∃ (s : State) (k : Fin 4), s.dev.code ≠ stReset) :=
  ⟨⟨st dev0, 3, List.replicate 8 0, by and_intros <;> decide +kernel⟩,
   ⟨st (vcd 0x00640078 100 (wr dev0 Reg.MGT_THROTTLE_CFG 0x0200005F)), rds 95 0, by and_intros <;> decide +kernel⟩,
   ⟨st (vcd 0x00640078 101 (wr dev0 Reg.MGT_THROTTLE_CFG 0x0200005F)), rds 95 0, by and_intros <;> decide +kernel⟩,
   ⟨st (vcd 0x00640078 119 (wr dev0 Reg.MGT_THROTTLE_CFG 0x0200005F)), rds 89 123, by and_intros <;> decide +kernel⟩,
   ⟨st { dev0 with pwr := { avs := [0, 0, 0, 0] } }, 3, by and_intros <;> decide +kernel⟩,
   ⟨st { dev0 with pwr := { avs := [0, 0, 0, 1] } }, 3, by and_intros <;> decide +kernel⟩,
   ⟨st { dev0 with pwr := { avs := [0, 0, 0, 1] } }, 3, by and_intros <;> decide +kernel⟩,
   ⟨st { dev0 with pwr := { avs := [0, 0, 0, 2] } }, 3, by and_intros <;> decide +kernel⟩,
   ⟨st (vcd 0x00640078 100 dev0), 3, by and_intros <;> decide +kernel⟩,
   ⟨st (vcd 0x00640078 101 dev0), 3, by and_intros <;> decide +kernel⟩,
   ⟨{ dev0 with pwr := { goal := [0, 0, 0, 0] } }, 3, by and_intros <;> decide +kernel⟩,
   ⟨{ vcd 0x00640078 109 dev0 with pwr := { goal := [0, 0, 0, 110], avs := [0, 0, 0, 0] } }, 3, by and_intros <;> decide +kernel⟩,
   ⟨{ vcd 0x00640078 111 dev0 with pwr := { goal := [0, 0, 0, 110], avs := [0, 0, 0, 0] } }, 3, by and_intros <;> decide +kernel⟩,
   ⟨{ dev0 with pwr := { avs := [0, 0, 0, 0] } }, 3, 255, by and_intros <;> decide +kernel⟩,
   ⟨st { dev0 with code := 0 }, by and_intros <;> decide +kernel⟩,
   ⟨st dev0, by and_intros <;> decide +kernel⟩⟩

/-- States and operands that meet the hypotheses of ClocksAndSleep, clause by clause. -/
theorem wit_ClocksAndSleep :
    (∃ (s : State) (n : Fin 2), s.dev.code ≠ stReset ∧ s.dev.pwr.serref.getD n.val true = true ∧ ethDisabled s.dev n.val = false ∧ ¬(s.dev.code = stBoot ∧ fld s.dev Reg.BOOT_STATUS 3 0 < 4)) ∧
    (∃ (s : State) (n : Fin 2), s.dev.code ≠ stReset ∧ s.dev.code = stBoot ∧ fld s.dev Reg.BOOT_STATUS 3 0 < 4) ∧
    (∃ (s : State) (n : Fin 2), s.dev.code ≠ stReset ∧ s.dev.pwr.optref.getD n.val true = true) ∧
    (∃ (s : State) (n : Fin 2) (d : _), s.dev.code ≠ stReset ∧ { s.dev with pwr := { s.dev.pwr with optref := s.dev.pwr.optref.set n.val true } } = d ∧ s.dev.pwr.optref.getD n.val true = false ∧ (portAt d n.val).st = 4 ∧ s.dev.code ≠ stLost) ∧
    (∃ (s : State) (n : Fin 2) (d : _), s.dev.code ≠ stReset ∧ { s.dev with pwr := { s.dev.pwr with optref := s.dev.pwr.optref.set n.val true } } = d ∧ s.dev.pwr.optref.getD n.val true = false ∧ (portAt d n.val).st ≠ 4) ∧
    (∃ (s : State) (d : _), s.dev.code ≠ stReset ∧ s.dev.pwr.xt32k = true ∧ { s.dev with pwr := { s.dev.pwr with xt32k := false } } = d ∧ s.dev.code = stSleep) ∧
    (∃ (s : State) (d : _), s.dev.code ≠ stReset ∧ s.dev.pwr.xt32k = true ∧ { s.dev with pwr := { s.dev.pwr with xt32k := false } } = d ∧ s.dev.code ≠ stSleep) ∧
    (∃ (s : State), s.dev.code ≠ stReset ∧ s.dev.pwr.xt32k = false) ∧
    (∃ (s : State) (pins : Fin 16), live s.dev = true ∧ s.dev.tim.current ≠ 4) ∧
    (∃ (s : State) (pins : Fin 16) (d : _) (e : _), live s.dev = true ∧ s.dev.tim.current = 4 ∧ s.dev.tim.gstart = none ∧ d = { s.dev with now := (s.dev.now + (s.dev.tim.frac + 3906250) / 128) % 2 ^ 64, tim := { s.dev.tim with frac := (s.dev.tim.frac + 3906250) % 128 } } ∧ e = sleepTimers pins.val 0 false (wr d Reg.TIM_MEVT 0) ∧ rd e Reg.TIM_MEVT = 0) ∧
    (∃ (s : State) (pins : Fin 16) (d : _) (e : _), live s.dev = true ∧ s.dev.tim.current = 4 ∧ s.dev.tim.gstart = none ∧ d = { s.dev with now := (s.dev.now + (s.dev.tim.frac + 3906250) / 128) % 2 ^ 64, tim := { s.dev.tim with frac := (s.dev.tim.frac + 3906250) % 128 } } ∧ e = sleepTimers pins.val 0 false (wr d Reg.TIM_MEVT 0) ∧ rd e Reg.TIM_MEVT ≠ 0) ∧
    (∃ (s : State), live s.dev = true ∧ s.dev.tim.current = 4 ∧ s.dev.code ≠ stSleep) ∧
    (∃ (s : State), live s.dev = true ∧ (s.dev.tim.current ≠ 4 ∨ s.dev.code = stSleep)) ∧
    (∃ (s : State) (p : Fin 2) (k : Fin 17), live s.dev = true ∧ s.dev.code = stSleep) ∧
    (∃ (s : State) (p : Fin 2) (k : Fin 17), live s.dev = true ∧ s.dev.code ≠ stSleep ∧ sleepInFlight s.dev = true) ∧
    (∃ (s : State) (p : Fin 2) (k : Fin 17), live s.dev = true ∧ s.dev.code ≠ stSleep ∧ sleepInFlight s.dev = false) :=
  ⟨⟨st dev0, 1, by and_intros <;> decide +kernel⟩,
   ⟨st (phase 1 0 0), 1, by and_intros <;> decide +kernel⟩,
   ⟨st dev0, 1, by and_intros <;> decide +kernel⟩,
   ⟨st { dev0 with ports := [{}, { st := 4 }], pwr := { optref := [true, false] } }, 1, { dev0 with ports := [{}, { st := 4 }] }, by and_intros <;> decide +kernel⟩,
   ⟨st { dev0 with ports := [{}, { st := 3 }], pwr := { optref := [true, false] } }, 1, { dev0 with ports := [{}, { st := 3 }] }, by and_intros <;> decide +kernel⟩,
   ⟨st { dev0 with code := 12 }, { dev0 with code := 12, pwr := { xt32k := false } }, by and_intros <;> decide +kernel⟩,
   ⟨st dev0, { dev0 with pwr := { xt32k := false } }, by and_intros <;> decide +kernel⟩,
   ⟨st { dev0 with pwr := { xt32k := false } }, by and_intros <;> decide +kernel⟩,
   ⟨st dev0, 15, by and_intros <;> decide +kernel⟩,
   by refine ⟨st { dev0 with code := 12, tim := { current := 4 } }, 0, ?d9, ?e9, ?goal9⟩; case goal9 => and_intros <;> first | decide +kernel | rfl,
   by refine ⟨st (wr (wr (tmd { running := true, count := 0, cmp := [1, 0, 0, 0] } { dev0 with code := 12, tim := { current := 4 } }) (Reg.TIM_CFG 0) 0x200) (Reg.TIM_ACT 0 0) 0x200), 0, ?d10, ?e10, ?goal10⟩; case goal10 => and_intros <;> first | decide +kernel | rfl,
   ⟨st { dev0 with tim := { current := 4 } }, by and_intros <;> decide +kernel⟩,
   ⟨st dev0, by and_intros <;> decide +kernel⟩,
   ⟨st { dev0 with code := 12 }, 1, 16, by and_intros <;> decide +kernel⟩,
   ⟨st { dev0 with ring := { commits := [{ kind := 8 }] } }, 1, 16, by and_intros <;> decide +kernel⟩,
   ⟨st dev0, 1, 16, by and_intros <;> decide +kernel⟩⟩

/-- States and operands that meet the hypotheses of MinSvnRises. -/
theorem wit_MinSvnRises : ∃ (s t : State), step s = .next t ∧ s.fuse.minSvn ≤ 63 ∧ t.fuse.minSvn ≠ s.fuse.minSvn :=
  ⟨svnState, nextOf (step svnState), by and_intros <;> first | decide +kernel | rfl⟩

/-- States and operands that meet the hypotheses of ElogMerges, clause by clause. -/
theorem wit_ElogMerges :
    (∃ (d : Dev) (cls block code unit detail : Nat) (pre : _) (e : _) (post : _) (sp : _) (y : _) (sq : _), 1 ≤ cls ∧ cls ≤ 5 ∧ d.wdn.elog = pre ++ e :: post ∧ elogSame d block code unit e = true ∧ (∀ x ∈ post, elogSame d block code unit x = false) ∧ d.wdn.spill = sp ++ y :: sq ∧ elogSame d block code unit y = true ∧ (∀ x ∈ sq, elogSame d block code unit x = false)) ∧
    (∃ (d : Dev) (cls block code unit detail : Nat), 1 ≤ cls ∧ cls ≤ 5 ∧ (∀ x ∈ d.wdn.elog, elogSame d block code unit x = false) ∧ d.wdn.elog.length < 1024) :=
  ⟨⟨{ dev0 with wdn := { elog := [le4, le3, le4], spill := [le3, le4] } }, 5, 1, 0x0101, 3, 7, [le4], le3, [le4], [], le3, [le4], by and_intros <;> decide +kernel⟩,
   ⟨{ dev0 with wdn := { elog := [le4] } }, 1, 1, 0x0101, 3, 7, by and_intros <;> decide +kernel⟩⟩

/-- States and operands that meet the hypotheses of ReservedBits. -/
theorem wit_ReservedBits : ∃ (fz : Fuses) (d : Dev) (a : Nat) (g : RegGroup) (l : List Nat) (v : W32), a < shadowBase ∧ frameAbsent d a = false ∧ regAt a = some (g, l) ∧ ¬ ((frameSite a).isSome = true ∧ 0x800 ≤ a % 0x1000 ∧ a % 0x1000 < 0xC00) ∧ v &&& ~~~(fieldMask g) ≠ 0 :=
  ⟨{}, dev0, Reg.TIM_CFG 0, rowOf .TIM_CFG, [0], 0x00800000, by and_intros <;> decide +kernel⟩

/-- States and operands that meet the hypotheses of PackageAnatomy, clause by clause. -/
theorem wit_PackageAnatomy :
    (∃ (k r col : Nat), k < 4 ∧ r < 8 ∧ col < 9 ∧ col < 4) ∧
    (∃ (k r col : Nat), k < 4 ∧ r < 8 ∧ col < 9 ∧ 4 < col) ∧
    (∃ (k r col : Nat), k < 4 ∧ r < 8 ∧ col < 9 ∧ col ≠ 4) ∧
    (∃ (k : Nat), k < 4) ∧
    (∃ (j : Nat), j < 8) :=
  ⟨⟨3, 7, 3, by and_intros <;> decide +kernel⟩,
   ⟨3, 7, 8, by and_intros <;> decide +kernel⟩,
   ⟨3, 7, 8, by and_intros <;> decide +kernel⟩,
   ⟨3, by and_intros <;> decide +kernel⟩,
   ⟨7, by and_intros <;> decide +kernel⟩⟩


end Sys2Proof.Tests
end

section
/-! SUPPORT. What a reset leaves and what its release enters (18 R497 to R499): maps that keep the keys of a range, fields of registers read back, the station code, and the commands that act on a package that is not live. -/

set_option autoImplicit false

namespace Sys2Proof.Machine

/-! ### Maps cut down to some keys -/

/-- A map kept at some keys only reads there as before, and elsewhere as unlisted. -/
theorem smFind_filter_key {α : Type} (p : Nat → Bool) (m : SMap α) (k : Nat) :
    smFind k (m.filter (fun x => p x.1)) = if p k then smFind k m else none := by
  induction m with
  | nil => simp [smFind]
  | cons x r ih =>
    obtain ⟨a, w⟩ := x
    by_cases ha : a = k
    · subst ha
      cases hp : p a <;> simp_all [smFind]
    · cases hp : p a <;> simp_all [smFind]

/-- A memory kept at some addresses only reads there as before, and elsewhere as never written. -/
theorem memByte_filter (p : Nat → Bool) (m : List Host.Cell) (a : Nat) :
    memByte (m.filter (fun x => p x.1)) a = if p a then memByte m a else memDefault := by
  have h := smFind_filter_key p m a
  simp only [memByte, smGet, h]
  split <;> rfl

/-! ### Fields of registers -/

/-- A field reads back what was set, cut to its width. -/
theorem bits_fieldSet_same (v : W32) (hi lo n : Nat) (h : lo ≤ hi) (h2 : hi < 32) :
    bits (fieldSet v hi lo n).toNat hi lo = n % 2 ^ (hi + 1 - lo) := by
  rw [fieldSet_toNat v hi lo n h h2]
  have hl : 0 < 2 ^ lo := by positivity
  simp only [bits]
  rw [Nat.add_mul_div_right _ _ hl, mul_comm (_ % _), Nat.sub_mul_div]
  have hq := Nat.div_add_mod (v.toNat / 2 ^ lo) (2 ^ (hi + 1 - lo))
  rw [show v.toNat / 2 ^ lo - v.toNat / 2 ^ lo % 2 ^ (hi + 1 - lo) = 2 ^ (hi + 1 - lo) * (v.toNat / 2 ^ lo / 2 ^ (hi + 1 - lo)) by omega,
    Nat.mul_add_mod, Nat.mod_mod]

theorem fld_setFld_same (d : Dev) (a hi lo n : Nat) (h : lo ≤ hi) (h2 : hi < 32) :
    fld (setFld d a hi lo n) a hi lo = n % 2 ^ (hi + 1 - lo) := by
  simp only [fld, rdn, setFld, rd_wr_same, bits_fieldSet_same _ _ _ _ h h2]

/-- A field is the same in packages whose register is the same. -/
theorem fld_congr {d e : Dev} {a : Nat} (hi lo : Nat) (h : rd e a = rd d a) : fld e a hi lo = fld d a hi lo := by
  simp only [fld, rdn, h]

/-! ### What folds, the error log and a change of the station code leave alone -/

/-- What each turn of a fold keeps, the fold keeps. -/
theorem foldl_keeps {α β γ : Type} {f : β → γ} {g : β → α → β} (h : ∀ b x, f (g b x) = f b) (l : List α) (b : β) :
    f (l.foldl g b) = f b := by
  induction l generalizing b with
  | nil => rfl
  | cons x r ih => exact (ih _).trans (h b x)

theorem rd_elogRoom_ne (d : Dev) {a : Nat} (h : a ≠ Reg.ELOG_EVT) : rd (elogRoom d) a = rd d a := by
  unfold elogRoom
  split
  · exact rd_evt_ne d 2 h
  · rfl

theorem rd_elogTell_ne (d : Dev) (cls : Nat) {a : Nat} (he : a ≠ Reg.ELOG_EVT) (ha : a ≠ Reg.MGT_ALERT) : rd (elogTell cls d) a = rd d a := by
  have hevt : rd (if 4 ≤ cls then evt (evt d Reg.ELOG_EVT 0) Reg.ELOG_EVT 1 else evt d Reg.ELOG_EVT 0) a = rd d a := by
    split <;> simp [he]
  simp only [elogTell]
  generalize (if 4 ≤ cls then evt (evt d Reg.ELOG_EVT 0) Reg.ELOG_EVT 1 else evt d Reg.ELOG_EVT 0) = e at hevt ⊢
  split
  · exact ((alert_spec e 0 (by decide)).2 a ha).trans hevt
  · exact hevt

/-- An error log event sets no register but the log's events and the alerts. -/
theorem rd_elog_ne (d : Dev) (cls block code unit detail : Nat) {a : Nat} (he : a ≠ Reg.ELOG_EVT) (ha : a ≠ Reg.MGT_ALERT) :
    rd (elog cls block code unit detail d) a = rd d a := by
  simp only [elog]
  split
  · rfl
  · exact (rd_elogTell_ne _ cls he ha).trans (rd_elogRoom_ne (cntInc d (Reg.ELOG_CNT_LO (cls - 1))) he)

/-- Suspended twin comparison changes registers, the comparison's store and the models. -/
theorem twinSuspend_eq (d : Dev) : ∃ r t m, twinSuspend d = { d with regs := r, det := t, model := m } := by
  unfold twinSuspend
  split <;> exact ⟨_, _, _, rfl⟩

theorem rd_twinSuspend_ne (d : Dev) {a : Nat} (h : a ≠ Reg.DET_EVT) : rd (twinSuspend d) a = rd d a := by
  unfold twinSuspend
  split
  · exact rd_evt_ne (cntAdd d (Reg.DET_TWIN_CNT_LO 5) d.det.store.length) 4 h
  · rfl

/-- A change of the station code changes the code, registers, ALERT_N, the twin comparison's store and the models. -/
theorem setCode_eq (d : Dev) (c : Nat) : ∃ r a t m, setCode d c = { d with code := c, regs := r, alertN := a, det := t, model := m } := by
  unfold setCode
  split
  · subst_vars; exact ⟨_, _, _, _, rfl⟩
  · obtain ⟨r, a, h⟩ := alert_eq { d with code := c } 6
    obtain ⟨r', t, m, h'⟩ := twinSuspend_eq (alert { d with code := c } 6)
    dsimp only
    split
    · exact ⟨r, a, _, _, h⟩
    · exact ⟨r', a, t, m, by rw [h', h]⟩

@[simp] theorem setCode_code (d : Dev) (c : Nat) : (setCode d c).code = c := by obtain ⟨r, a, t, m, h⟩ := setCode_eq d c; rw [h]
@[simp] theorem setCode_core (d : Dev) (c : Nat) : (setCode d c).core = d.core := by obtain ⟨r, a, t, m, h⟩ := setCode_eq d c; rw [h]

/-- A change of the station code sets no register but the alerts and the twin comparison's events. -/
theorem rd_setCode_ne (d : Dev) (c : Nat) {a : Nat} (ha : a ≠ Reg.MGT_ALERT) (ht : a ≠ Reg.DET_EVT) : rd (setCode d c) a = rd d a := by
  have h := (alert_spec { d with code := c } 6 (by decide)).2 a ha
  unfold setCode
  split
  · rfl
  · dsimp only
    split
    · exact h
    · exact (rd_twinSuspend_ne _ ht).trans h

/-! ### Commands that reach a package that is not live -/

/-- The commands that act in RESET or under EXTEST (log entry 2): the resets and their release, the TAP, THERMTRIP, and the references. -/
def actsQuiet : Instr → Bool
  | .por _ | .pinReset _ | .pwrgdFall | .resetRelease _ | .tapReset | .idcode | .samplePreload _ | .extest | .clamp | .highz | .bypass
  | .thermtrip _ | .sysrefLoss | .serrefLoss _ _ | .optrefLoss _ _ | .xt32kLoss => true
  | _ => false

theorem onState_quiet {f : State → State} {s : State} (h : live s.dev = false) : onState f s = .next s := by simp [onState, h]
theorem onAwake_quiet {f : Dev → Dev} {s : State} (h : live s.dev = false) : onAwake f s = .next s := onDev_quiet h

/-- A command outside actsQuiet leaves a package that is not live as it is. -/
theorem exec_quiet {c : Instr} {s : State} (h : live s.dev = false) (hc : actsQuiet c = false) : exec c s = .next s := by
  cases c with
  | por | pinReset | pwrgdFall | resetRelease | tapReset | idcode | samplePreload | extest | clamp | highz | bypass
  | thermtrip | sysrefLoss | serrefLoss | optrefLoss | xt32kLoss => cases hc
  | _ => simp [onDev_quiet h, onAwake_quiet h, onState_quiet h]

theorem live_of_reset {d : Dev} (h : d.code = stReset) : live d = false := by simp [live, h]

/-! ### The resets (18 R497, R498) -/

/-- A flash command cut off by a reset changes the flash, and of the package the number of free values drawn. -/
theorem cutFlash_eq (s : State) : ∃ fl n, cutFlash s = { s with flash := fl, dev := { s.dev with free := n } } := by
  unfold cutFlash draw
  split
  · dsimp only
    split
    · exact ⟨_, _, rfl⟩
    · split <;> exact ⟨_, _, rfl⟩
  · exact ⟨_, _, rfl⟩

/-- Without a flash command in progress a reset finds nothing to cut off. -/
theorem cutFlash_idle {s : State} (h : ∀ q, s.dev.mgmt.cur = some q → q.cmd ≠ 0x70 ∧ q.cmd ≠ 0x71) : cutFlash s = s := by
  unfold cutFlash
  split
  next q hq =>
    obtain ⟨h0, h1⟩ := h q hq
    simp [h0, h1]
  · rfl

/-- The cause that a reset records. -/
theorem fld_freshDev_cause (d : Dev) (cause : Nat) : fld (freshDev d cause) Reg.BOOT_STATUS 5 4 = cause % 4 := by
  have h : rd (freshDev d cause) Reg.BOOT_STATUS = BitVec.ofNat 32 (16 * cause) := rfl
  simp only [fld, rdn, h, bits, BitVec.toNat_ofNat]
  omega

/-- What every reset leaves, whatever the package was: RESET at device time 0, no core, request, model or scratchpad contents, and nothing of the HBM stacks. -/
structure InReset (d e : Dev) : Prop where
  code : e.code = stReset
  now : e.now = 0
  core : e.core = []
  reqs : e.rvp.reqs = []
  model : e.model = []
  spad : e.mem.spad = []
  part : e.part = d.part
  hbm : ∀ a, a < 0x4000000000 → memByte e.mem.ext a = memDefault

theorem devPor_inReset (v : Bool) (d : Dev) : InReset d (devPor v d) := by
  cases v <;> exact ⟨rfl, rfl, rfl, rfl, rfl, rfl, rfl, fun _ _ => rfl⟩

theorem devPor_ext (v : Bool) (d : Dev) : (devPor v d).mem.ext = [] := by cases v <;> rfl

theorem fld_devPor_cause (v : Bool) (d : Dev) : fld (devPor v d) Reg.BOOT_STATUS 5 4 = 1 := by
  have h : rd (devPor v d) Reg.BOOT_STATUS = rd (freshDev d 1) Reg.BOOT_STATUS := by cases v <;> rfl
  exact (fld_congr 5 4 h).trans (fld_freshDev_cause d 1)

theorem fld_softReset_cause (d : Dev) (cause : Nat) : fld (softReset cause d) Reg.BOOT_STATUS 5 4 = cause % 4 :=
  fld_freshDev_cause d cause

/-- A reset that keeps the LPDDR 5X contents keeps none of the HBM stacks. -/
theorem memByte_softReset (cause : Nat) (d : Dev) (a : Nat) :
    memByte (softReset cause d).mem.ext a = if 0x4000000000 ≤ a then memByte d.mem.ext a else memDefault :=
  (memByte_filter (fun a => decide (0x4000000000 ≤ a)) d.mem.ext a).trans (by simp only [decide_eq_true_eq])

theorem softReset_inReset (cause : Nat) (d : Dev) : InReset d (softReset cause d) :=
  ⟨rfl, rfl, rfl, rfl, rfl, rfl, rfl, fun a ha => by rw [memByte_softReset, if_neg (by omega)]⟩

/-- What a reset leaves of the machine: a package in RESET, the queue and the fuses as they were, and the flash unless a command of it is cut off. -/
structure ResetTo (s t : State) : Prop where
  dev : InReset s.dev t.dev
  pending : t.pending = s.pending
  fuse : t.fuse = s.fuse
  flash : (∀ q, s.dev.mgmt.cur = some q → q.cmd ≠ 0x70 ∧ q.cmd ≠ 0x71) → t.flash = s.flash

/-- A reset of the package after the flash has stopped. -/
theorem resetTo_cutFlash {f : Dev → Dev} (s : State) (hf : ∀ d, InReset d (f d)) : ResetTo s { cutFlash s with dev := f (cutFlash s).dev } where
  dev := by
    obtain ⟨fl, n, h⟩ := cutFlash_eq s
    obtain ⟨hcode, hnow, hcore, hreqs, hmodel, hspad, hpart, hhbm⟩ := hf (cutFlash s).dev
    exact ⟨hcode, hnow, hcore, hreqs, hmodel, hspad, hpart.trans (by rw [h]), hhbm⟩
  pending := by obtain ⟨fl, n, h⟩ := cutFlash_eq s; rw [h]
  fuse := by obtain ⟨fl, n, h⟩ := cutFlash_eq s; rw [h]
  flash h := by rw [cutFlash_idle h]

/-- A reset that drops the contents of both memories, as POR and the fall of PWRGD do. -/
theorem stPor_spec (v : Bool) (s : State) :
    ResetTo s (stPor v s) ∧ (stPor v s).dev.mem.ext = [] ∧ fld (stPor v s).dev Reg.BOOT_STATUS 5 4 = 1 :=
  ⟨resetTo_cutFlash s (devPor_inReset v), devPor_ext v _, fld_devPor_cause v _⟩

/-- A PIN reset long enough to count: LPDDR 5X and the THERMTRIP_N latch stay. -/
theorem stPinReset_spec {n : Nat} (s : State) (h : 500 ≤ n) :
    ResetTo s (stPinReset n s) ∧ (∀ a, 0x4000000000 ≤ a → memByte (stPinReset n s).dev.mem.ext a = memByte s.dev.mem.ext a) ∧
      fld (stPinReset n s).dev Reg.BOOT_STATUS 5 4 = 2 ∧ (stPinReset n s).dev.pwr.thermtrip = s.dev.pwr.thermtrip := by
  have hst : stPinReset n s = { cutFlash s with dev := softReset 2 (cutFlash s).dev } := if_neg (by omega)
  rw [hst]
  refine ⟨resetTo_cutFlash s (softReset_inReset 2), fun a ha => ?_, fld_softReset_cause _ 2, ?_⟩
  · obtain ⟨fl, k, hc⟩ := cutFlash_eq s
    rw [memByte_softReset, if_pos ha, hc]
  · obtain ⟨fl, k, hc⟩ := cutFlash_eq s
    show (cutFlash s).dev.pwr.thermtrip = _
    rw [hc]

/-- POR, a PIN reset of at least 500 ns and the fall of PWRGD reset the package; the first and the last drop both memories, the PIN reset the HBM stacks alone. -/
theorem exec_resets_package (s : State) {c : Instr} (hc : (∃ v, c = .por v) ∨ (∃ n, c = .pinReset n ∧ 500 ≤ n) ∨ c = .pwrgdFall) :
    ∃ t, exec c s = .next t ∧ ResetTo s t ∧
      ((∃ n, c = .pinReset n) → (∀ a, 0x4000000000 ≤ a → memByte t.dev.mem.ext a = memByte s.dev.mem.ext a) ∧
        fld t.dev Reg.BOOT_STATUS 5 4 = 2 ∧ t.dev.pwr.thermtrip = s.dev.pwr.thermtrip) ∧
      ((∀ n, c ≠ .pinReset n) → t.dev.mem.ext = [] ∧ fld t.dev Reg.BOOT_STATUS 5 4 = 1) := by
  obtain ⟨v, rfl⟩ | ⟨n, rfl, hn⟩ | rfl := hc
  · obtain ⟨hreset, hmem⟩ := stPor_spec v s
    exact ⟨_, exec_por v s, hreset, fun ⟨_, h⟩ => Instr.noConfusion h, fun _ => hmem⟩
  · obtain ⟨hreset, hmem⟩ := stPinReset_spec s hn
    exact ⟨_, exec_pinReset n s, hreset, fun _ => hmem, fun h => absurd rfl (h n)⟩
  · obtain ⟨hreset, hmem⟩ := stPor_spec false s
    exact ⟨_, exec_pwrgdFall s, hreset, fun ⟨_, h⟩ => Instr.noConfusion h, fun _ => hmem⟩

/-! ### RESET_RELEASE (18 R499) -/

/-- The check of the OPTREF_156 inputs keeps what their error log entries keep. -/
theorem optrefAbsent_keeps {γ : Type} {f : Dev → γ} (h : ∀ d p, f (elog 3 9 0x0903 (2 + p) 2 d) = f d) (d : Dev) : f (optrefAbsent d) = f d := by
  refine foldl_keeps (fun b p => ?_) _ _
  split
  · rfl
  · exact h b p

@[simp] theorem optrefAbsent_code (d : Dev) : (optrefAbsent d).code = d.code := optrefAbsent_keeps (fun d _ => elog_code d _ _ _ _ _) d
@[simp] theorem optrefAbsent_core (d : Dev) : (optrefAbsent d).core = d.core := optrefAbsent_keeps (fun d _ => elog_core d _ _ _ _ _) d

theorem rd_optrefAbsent_ne (d : Dev) {a : Nat} (he : a ≠ Reg.ELOG_EVT) (ha : a ≠ Reg.MGT_ALERT) : rd (optrefAbsent d) a = rd d a :=
  optrefAbsent_keeps (f := fun d => rd d a) (fun d _ => rd_elog_ne d _ _ _ _ _ he ha) d

/-- One word of the challenge of a start (18 R518), a free value. -/
def challengeWord (d : Dev) (w : Nat) : Dev := wr (draw d).2 (Reg.BOOT_CHALLENGE w) (BitVec.ofNat 32 (draw d).1)

theorem rd_challengeWord_status (d : Dev) (w : Nat) : rd (challengeWord d w) Reg.BOOT_STATUS = rd d Reg.BOOT_STATUS :=
  rd_wr_ne (draw d).2 _ (show 0x300000 ≠ 0x300050 + 4 * w by omega)

/-- RESET_RELEASE in RESET as one chain: the levels, the straps, the challenge, BOOT, and the check of the references. -/
theorem devResetRelease_inReset (k : Fin 32) {d : Dev} (h : d.code = stReset) :
    devResetRelease k d = optrefAbsent (setCode ((List.range 4).foldl challengeWord
      (setFld { d with pwr := { d.pwr with resetN := true, pwrgd := true }, boot := { d.boot with bootFrom := d.now } } Reg.BOOT_STATUS 20 16 k.val)) stBoot) :=
  if_neg (not_not_intro h)

/-- What the release of reset makes of a package in RESET: BOOT, the straps in BOOT_STATUS, and the cores as they were. -/
theorem devResetRelease_spec (k : Fin 32) {d : Dev} (h : d.code = stReset) :
    (devResetRelease k d).code = stBoot ∧ fld (devResetRelease k d) Reg.BOOT_STATUS 20 16 = k.val ∧ (devResetRelease k d).core = d.core := by
  rw [devResetRelease_inReset k h]
  refine ⟨by rw [optrefAbsent_code, setCode_code], ?_, ?_⟩
  · rw [fld_congr 20 16 (rd_optrefAbsent_ne _ (by decide) (by decide)), fld_congr 20 16 (rd_setCode_ne _ _ (by decide) (by decide)),
      fld_congr 20 16 (foldl_keeps (f := fun d => rd d Reg.BOOT_STATUS) rd_challengeWord_status _ _), fld_setFld_same _ _ _ _ _ (by decide) (by decide)]
    exact Nat.mod_eq_of_lt k.isLt
  · rw [optrefAbsent_core, setCode_core, foldl_keeps (f := Dev.core) (g := challengeWord) (fun _ _ => rfl)]
    rfl

/-- Out of RESET the release of reset does nothing. -/
theorem devResetRelease_running (k : Fin 32) {d : Dev} (h : d.code ≠ stReset) : devResetRelease k d = d := if_pos h

/-! ### Commands in RESET -/

/-- An instruction at the TAP changes the TAP alone. -/
theorem tapSelect_code (code dr : Nat) (d : Dev) : (tapSelect code dr d).code = d.code := by
  simp only [tapSelect]
  split <;> rfl

theorem devExtest_code (d : Dev) : (devExtest d).code = d.code := by
  simp only [devExtest]
  split
  · exact tapSelect_code _ _ d
  · exact tapSelect_code _ _ d

/-- The loss of a reference, and THERMTRIP, is kept in RESET and has no other effect (18 R497). -/
theorem referenceLoss_inReset {d : Dev} (h : d.code = stReset) :
    (∀ k, (devThermtrip k d).code = stReset) ∧ (devSysrefLoss d).code = stReset ∧ (∀ n p, (devSerrefLoss n p d).code = stReset) ∧
      (∀ n p, (devOptrefLoss n p d).code = stReset) ∧ (devXt32kLoss d).code = stReset := by
  refine ⟨fun k => ?_, ?_, fun n p => ?_, fun n p => ?_, ?_⟩
  · simp [devThermtrip, h]
  · simp [devSysrefLoss, h]
  · simp [devSerrefLoss, h]
  · simp [devOptrefLoss, h]
  · simp only [devXt32kLoss, h, if_true]
    split
    · exact h
    · rfl

/-- A pulse of RESET_N below 500 ns is ignored (log entry 69). -/
theorem stPinReset_short {n : Nat} (s : State) (h : n < 500) : stPinReset n s = s := if_pos h

/-- Nothing but its release takes the package out of RESET. -/
theorem exec_keeps_reset {s t : State} {c : Instr} (h : s.dev.code = stReset) (hc : ∀ k, c ≠ .resetRelease k) (ht : exec c s = .next t) :
    t.dev.code = stReset := by
  obtain ⟨hthermtrip, hsysref, hserref, hoptref, hxt32k⟩ := referenceLoss_inReset h
  cases c with
  | por v => cases ht; exact (stPor_spec v s).1.dev.code
  | pwrgdFall => cases ht; exact (stPor_spec false s).1.dev.code
  | pinReset n =>
    cases ht
    by_cases hn : n < 500
    · rw [stPinReset_short s hn]; exact h
    · exact (stPinReset_spec s (by omega)).1.dev.code
  | resetRelease k => exact absurd rfl (hc k)
  | tapReset | bypass => cases ht; exact h
  | idcode | clamp | highz => cases ht; exact (tapSelect_code _ _ _).trans h
  | samplePreload vals => cases ht; exact (tapSelect_code _ _ (draw s.dev).2).trans h
  | extest => cases ht; exact (devExtest_code _).trans h
  | thermtrip k => cases ht; exact hthermtrip k
  | sysrefLoss => cases ht; exact hsysref
  | serrefLoss n p => cases ht; exact hserref n p
  | optrefLoss n p => cases ht; exact hoptref n p
  | xt32kLoss => cases ht; exact hxt32k
  | _ =>
    rw [exec_quiet (live_of_reset h) rfl] at ht
    cases ht; exact h

end Sys2Proof.Machine
end

section
/-! SUPPORT. Reads and writes of a register that a row of the tables names (00 R11, R13; 19 R537): what is read lies in the row's fields, and a write goes through the checks of the row. -/

set_option autoImplicit false

namespace Sys2Proof.Machine

/-- What a word keeps of a mask has no bit outside it. -/
theorem masked_outside {x y m : W32} (h : x = y &&& m) : x &&& ~~~m = 0 := by
  rw [h, BitVec.and_assoc, BitVec.and_not_self]
  exact BitVec.and_zero

/-- Outside the shadow, absent frames and the pattern store a read is that of the tables. -/
theorem readReg_listed (fz : Fuses) {d : Dev} {a : Nat} (ha : a < shadowBase) (habs : frameAbsent d a = false)
    (hpat : ¬ ((frameSite a).isSome = true ∧ 0x800 ≤ a % 0x1000 ∧ a % 0x1000 < 0xC00)) : readReg fz d a = readReg.listed fz a d := by
  rw [readReg, if_neg (Nat.not_le.2 ha), habs, if_neg Bool.false_ne_true]
  cases hf : frameSite a with
  | none => rfl
  | some i => exact if_neg fun h => hpat ⟨by rw [hf]; rfl, h⟩

/-- What is read of a row is a word cut to the row's fields. -/
theorem readReg_listed_masked (fz : Fuses) (d : Dev) {a : Nat} {g : RegGroup} {l : List Nat} (hg : regAt a = some (g, l)) :
    ∃ y : W32, (readReg.listed fz a d).1 = y &&& readMask g := by
  simp only [readReg.listed, hg]
  split
  · exact ⟨_, rfl⟩
  · split
    · exact ⟨0, (BitVec.zero_and).symm⟩
    · exact ⟨_, rfl⟩
  · simp only [oneValue]
    split
    · exact ⟨0, (BitVec.zero_and).symm⟩
    · exact ⟨_, rfl⟩

/-- Outside the shadow, absent frames and the pattern store a write is that of the row. -/
theorem writeReg_row {d : Dev} {a : Nat} {g : RegGroup} {l : List Nat} (v : W32) (ha : a < shadowBase) (habs : frameAbsent d a = false)
    (hpat : ¬ ((frameSite a).isSome = true ∧ 0x800 ≤ a % 0x1000 ∧ a % 0x1000 < 0xC00)) (hg : regAt a = some (g, l)) :
    writeReg d a v = writeAt d g l a v := by
  rw [writeReg, habs, if_neg Bool.false_ne_true, if_neg hpat, if_neg (Nat.not_le.2 ha), hg]

/-- The check of reserved bits comes before every other check of the row. -/
theorem writeAt_reserved {d : Dev} {g : RegGroup} {l : List Nat} {a : Nat} {v : W32} (h : v &&& ~~~(fieldMask g) ≠ 0) :
    writeAt d g l a v = (msReservedField, d) := if_pos h

end Sys2Proof.Machine
end

section
/-! SUPPORT. The anatomy of a die (02 R48, R49): sites by row and column. -/

set_option autoImplicit false

namespace Sys2Proof.Machine

variable (k : Nat) {r col : Nat}

/-- A site of a die by its row and column is a spare in column 4. -/
theorem isSpareSite_iff_column (hc : col < 9) : isSpareSite (72 * k + 9 * r + col) = true ↔ col = 4 := by
  simp only [isSpareSite, decide_eq_true_eq]
  omega

/-- The position of a site by its row and column: the spare of the row is left out. -/
theorem positionOf_column (hr : r < 8) (hc : col < 9) : positionOf (72 * k + 9 * r + col) = 8 * r + (if col < 4 then col else col - 1) := by
  have hsite : (72 * k + 9 * r + col) % 72 = 9 * r + col := by omega
  have hcol : (9 * r + col) % 9 = col := by omega
  have hrow : (9 * r + col) / 9 = r := by omega
  simp only [positionOf, hsite, hcol, hrow]

/-- A site that is no spare is the site at its position. -/
theorem siteAtPosition_column (hc : col < 9) (hs : col ≠ 4) : siteAtPosition (8 * r + (if col < 4 then col else col - 1)) = 9 * r + col := by
  unfold siteAtPosition
  split <;> split <;> omega

end Sys2Proof.Machine
end

section
/-! SUPPORT. The statements of 00_scope.md settled: resets, reserved bits, and the anatomy of the package. -/

set_option autoImplicit false

namespace Sys2Proof.Machine

/-- Settles O52: each reset makes a fresh package, and RESET is left by RESET_RELEASE alone. -/
theorem resets : Obligations.Resets := by
  refine ⟨⟨rfl, rfl, rfl, rfl, rfl, rfl, rfl, rfl, rfl, rfl⟩, fun s c hc => ?_, fun s n h => ?_, fun s t c => exec_keeps_reset, fun s k h => ?_, fun s k h => ?_⟩
  · obtain ⟨t, ht, ⟨⟨hcode, hnow, hcore, hreqs, hmodel, hspad, hpart, hhbm⟩, hpending, hfuse, hflash⟩, hpin, hpor⟩ := exec_resets_package s hc
    exact ⟨t, ht, hcode, hnow, hcore, hreqs, hmodel, hspad, hpending, hfuse, hpart, hflash, hhbm, hpin, hpor⟩
  · rw [exec_pinReset, stPinReset_short s h]
  · obtain ⟨hcode, hstraps, hcore⟩ := devResetRelease_spec k h
    exact ⟨_, exec_resetRelease k s, hcode, hstraps, hcore, rfl, rfl⟩
  · rw [exec_resetRelease, onAny, devResetRelease_running k h]

/-- Settles O58: what is read is cut to the row's fields, and the check of reserved bits comes first. -/
theorem reservedBits : Obligations.ReservedBits := by
  intro fz d a g l ha habs hg hpat
  refine ⟨?_, fun v hv => ?_⟩
  · obtain ⟨y, hy⟩ := readReg_listed_masked fz d hg
    rw [readReg_listed fz ha habs hpat]
    exact masked_outside hy
  · rw [writeReg_row v ha habs hpat hg, writeAt_reserved hv]

/-- Settles O59: a site is taken apart into die, row and column. -/
theorem packageAnatomy : Obligations.PackageAnatomy := by
  refine ⟨fun k r col _ hr hc => ?_, fun k h => if_pos h, fun j _ => ?_⟩
  · have hspare := isSpareSite_iff_column k (r := r) hc
    have hpos := positionOf_column k hr hc
    refine ⟨hspare.trans ?_, hspare, fun h => ?_, fun h => ?_, fun h => ?_⟩
    · simp only [List.mem_cons, List.not_mem_nil, or_false]
      omega
    · rw [hpos, if_pos h]
    · rw [hpos, if_neg (by omega)]
      omega
    · rw [hpos]
      exact ⟨by split <;> omega, siteAtPosition_column hc h⟩
  · rw [ctlBase, if_neg (by omega), Nat.add_sub_cancel_left]

end Sys2Proof.Machine
end

section
/-! SUPPORT. Register accesses and the order of their checks (02 R52; 04 R129; 19 R536 to R538): frames of absent units, the checks of a row one by one, the latch of a counter, and the requests READ and WRITE. -/

set_option autoImplicit false

namespace Sys2Proof.Machine

/-! ### Frames of absent units (02 R52) -/

/-- Every offset of a site's frame belongs to that site. -/
theorem frameSite_frame (i : Fin 288) {off : Nat} (h : off < 0x1000) : frameSite (0x100000 + 0x1000 * i.val + off) = some i.val := by
  have hi := i.isLt
  rw [frameSite, if_pos (by omega)]
  congr 1
  omega

/-- The frame of a fused-out site is absent. -/
theorem frameAbsent_of_fused {d : Dev} {a i : Nat} (hs : frameSite a = some i) (hf : isFused d.part i = true) : frameAbsent d a = true := by
  simp [frameAbsent, hs, hf]

theorem readReg_absent (fz : Fuses) {d : Dev} {a : Nat} (ha : a < shadowBase) (h : frameAbsent d a = true) : readReg fz d a = (0, d) := by
  rw [readReg, if_neg (Nat.not_le.2 ha), if_pos h]

theorem writeReg_absent {d : Dev} {a : Nat} (v : W32) (h : frameAbsent d a = true) : writeReg d a v = (msUnitAbsent, d) := if_pos h

/-! ### The checks of a row in their order (19 R537) -/

section
variable {d : Dev} {g : RegGroup} {l : List Nat} {a : Nat} {v : W32}

theorem writeAt_encoding (hres : v &&& ~~~(fieldMask g) = 0) (henc : encodingBad d g l a v = true) :
    writeAt d g l a v = (msReservedEncoding, d) := by
  rw [writeAt, if_neg (not_not_intro hres), if_pos henc]

theorem writeAt_locked (hres : v &&& ~~~(fieldMask g) = 0) (henc : encodingBad d g l a v = false) (hlock : lockHit d g l a v = true) :
    writeAt d g l a v = (msLockViolation, d) := by
  rw [writeAt, if_neg (not_not_intro hres), henc, if_neg Bool.false_ne_true, if_pos hlock]

/-- Past the checks of R12 to R14 the block decides: its own refusal, or the fields set and the actions done. -/
theorem writeAt_unlocked (hres : v &&& ~~~(fieldMask g) = 0) (henc : encodingBad d g l a v = false) (hlock : lockHit d g l a v = false) :
    writeAt d g l a v = if blockStatus d g l v ≠ 0 then (blockStatus d g l v, d) else (msSuccess, woAction g.id l v (setFields d g l a v)) := by
  rw [writeAt, if_neg (not_not_intro hres), henc, if_neg Bool.false_ne_true, hlock, if_neg Bool.false_ne_true]

end

/-- A refusal under R12 or R13 is logged (19 R535). -/
theorem wrote_logged (a : Nat) (d : Dev) {st : Nat} (h : st = msReservedField ∨ st = msLockViolation) :
    wrote a (st, d) = elog 1 8 0x0804 0 a d := by
  obtain rfl | rfl := h <;> rfl

/-- What a write with any other status leaves is logged nowhere. -/
theorem wrote_unlogged (a : Nat) (d : Dev) {st : Nat} (hres : st ≠ msReservedField) (hlock : st ≠ msLockViolation) : wrote a (st, d) = d := by
  have hnote : noteRefusal d st a = d := if_neg (not_or.2 ⟨hres, hlock⟩)
  simp [wrote, hnote]

/-! ### The commands that write one register -/

/-- `c` is a command that writes `v` to the register of row `g` with the indices `l`, at `a`: REGISTER_WRITE of a listed register, TIMER_CONFIG_WRITE, or FAST_G_WRITE. -/
def WritesRow (d : Dev) (c : Instr) (g : RegGroup) (l : List Nat) (a : Nat) (v : W32) : Prop :=
  (∃ ad : BitVec 32, c = .registerWrite ad v ∧ ad.toNat = a ∧ rangeOk a 1 = true ∧ frameAbsent d a = false ∧ a < shadowBase ∧ regAt a = some (g, l) ∧
      ¬ ((frameSite a).isSome = true ∧ 0x800 ≤ a % 0x1000 ∧ a % 0x1000 < 0xC00)) ∨
    (∃ (n : Fin 32) (r : TimerReg), c = .timerConfigWrite n r v ∧ r.at n.val = (g.id, l, a) ∧ rowOf g.id = g) ∨
    (∃ m : Fin 16, c = .fastGWrite m v ∧ g = rowOf .DET_MODEL_FAST_G ∧ l = [m.val] ∧ a = Reg.DET_MODEL_FAST_G m.val)

/-- Each of the three commands is the write of its row. -/
theorem exec_writesRow {s : State} {c : Instr} {g : RegGroup} {l : List Nat} {a : Nat} {v : W32} (hlive : live s.dev = true)
    (hopen : mgmtOpen s.dev = true) (hc : WritesRow s.dev c g l a v) : exec c s = .next (s.put (wrote a (writeAt s.dev g l a v))) := by
  obtain ⟨ad, rfl, rfl, hrange, habs, hshadow, hrow, hpat⟩ | ⟨n, r, rfl, hat, hg⟩ | ⟨m, rfl, rfl, rfl, rfl⟩ := hc
  · rw [exec_registerWrite, onDev_live hlive, devRegisterWrite, byWrite_open hopen, if_pos hrange, writeReg_row v hshadow habs hpat hrow]
  · rw [exec_timerConfigWrite, onDev_live hlive, devTimerConfigWrite, byWrite_open hopen]
    simp only [hat, hg]
  · rw [exec_fastGWrite, onDev_live hlive, devFastGWrite, byWrite_open hopen]

/-! ### The LO half of a 64-bit pair (04 R129) -/

/-- The LO half read loads its latch with the high half of the pair. -/
theorem readReg_lo (fz : Fuses) {d : Dev} {a : Nat} {g : RegGroup} {l : List Nat} (ha : a < shadowBase) (habs : frameAbsent d a = false)
    (hsite : frameSite a = none) (hrow : regAt a = some (g, l)) (hkind : g.kind = .lo) (hplain : plainPair g.id = false) :
    (readReg fz d a).2 = { d with regs := { d.regs with latch := smSet 0 d.regs.latch a (BitVec.ofNat 32 (pairValue d g.id l a / 2 ^ 32)) } } := by
  rw [readReg_listed fz ha habs (by simp [hsite])]
  simp only [readReg.listed, hrow, hkind, hplain]

theorem exec_counterLoRead_open {s : State} {a : BitVec 32} (hlive : live s.dev = true) (hopen : mgmtOpen s.dev = true) (hrange : rangeOk a.toNat 1 = true) :
    exec (.counterLoRead a) s = .next (s.put (readReg s.fuse s.dev a.toNat).2) := by
  rw [exec_counterLoRead, onDev_live hlive, devCounterLoRead, byWrite_open hopen, if_pos hrange]

/-! ### READ and WRITE (19 R536, R537) -/

section
variable {d : Dev} {q : VReq}

/-- The row of the request being executed runs it and answers. -/
theorem runCmd_current {cmd : Nat} (f : VReq → Dev → (Nat × List Byte) × Dev) (hcur : d.mgmt.cur = some q) (hcmd : q.cmd = cmd) :
    runCmd cmd f d = finish (f q d).2 q (f q d).1.1 (f q d).1.2 := by
  simp only [runCmd, hcur, if_pos hcmd]

variable (hcur : d.mgmt.cur = some q) (hrsvd : leAt q.body 6 2 = 0)
include hcur hrsvd

/-- READ of a range within its row, or of no register at all. -/
theorem devRead_range (fz : Fuses) (hcmd : q.cmd = 0x01) (hcount : leAt q.body 4 2 ≤ 240)
    (hrange : leAt q.body 4 2 ≠ 0 → rangeOk (leAt q.body 0 4) (leAt q.body 4 2) = true) :
    devRead fz d = finish (readRegs fz (leAt q.body 0 4) (leAt q.body 4 2) d).2 q 0
      (leBytes 2 (leAt q.body 4 2) ++ [0, 0] ++ ((readRegs fz (leAt q.body 0 4) (leAt q.body 4 2) d).1.map (fun v => leBytes 4 v.toNat)).flatten) := by
  have hok : ¬ (leAt q.body 4 2 ≠ 0 ∧ rangeOk (leAt q.body 0 4) (leAt q.body 4 2) = false) := fun ⟨h0, h⟩ => by simp [hrange h0] at h
  rw [devRead, runCmd_current _ hcur hcmd]
  simp only [if_neg (not_not_intro hrsvd), if_neg (Nat.not_lt.2 hcount), if_neg hok]

theorem devRead_badAddress (fz : Fuses) (hcmd : q.cmd = 0x01) (h0 : 0 < leAt q.body 4 2) (hcount : leAt q.body 4 2 ≤ 240)
    (hrange : rangeOk (leAt q.body 0 4) (leAt q.body 4 2) = false) : devRead fz d = finish d q msBadAddress [] := by
  rw [devRead, runCmd_current _ hcur hcmd]
  simp only [if_neg (not_not_intro hrsvd), if_neg (Nat.not_lt.2 hcount), if_pos (And.intro h0.ne' hrange)]

/-- WRITE of a range within its row. -/
theorem devWrite_range (hcmd : q.cmd = 0x02) (hcount : leAt q.body 4 2 ≤ 253) (hrange : rangeOk (leAt q.body 0 4) (leAt q.body 4 2) = true)
    {st done fail : Nat} {e : Dev} (he : writeRegs (leAt q.body 0 4) (writeValues q.body) 0 d = ((st, done, fail), e)) :
    devWrite d = finish e q st (writeBody done fail) := by
  have hok : ¬ (leAt q.body 4 2 ≠ 0 ∧ rangeOk (leAt q.body 0 4) (leAt q.body 4 2) = false) := fun h => by simp [hrange] at h
  rw [devWrite, runCmd_current _ hcur hcmd]
  simp only [if_neg (not_not_intro hrsvd), if_neg (Nat.not_lt.2 hcount), if_neg hok, he]

theorem devWrite_badAddress (hcmd : q.cmd = 0x02) (h0 : 0 < leAt q.body 4 2) (hcount : leAt q.body 4 2 ≤ 253)
    (hrange : rangeOk (leAt q.body 0 4) (leAt q.body 4 2) = false) : devWrite d = finish d q msBadAddress (writeBody 0 0) := by
  rw [devWrite, runCmd_current _ hcur hcmd]
  simp only [if_neg (not_not_intro hrsvd), if_neg (Nat.not_lt.2 hcount), if_pos (And.intro h0.ne' hrange)]

end

end Sys2Proof.Machine
end

section
/-! SUPPORT. The statements of 02_package.md settled: register access, and the frame of a fused-out site. -/

set_option autoImplicit false

namespace Sys2Proof.Machine

/-- Settles O44: READ and WRITE answer for their range, a write of one register ends at its first failed check, and a LO half loads its latch. -/
theorem registerAccess : Obligations.RegisterAccess := by
  refine ⟨fun s q hlive hcur hrsvd => ⟨fun hcmd => ?read, fun hcmd => ?write⟩, fun s c g l a v hlive hopen hc => ?row,
    fun s a g l hlive hopen hrange hshadow habs hsite hrow hkind hplain => ?latch⟩
  case read =>
    rw [exec_read, onDev_live hlive]
    refine ⟨fun vs d hcount hrange hregs => ?_, fun h0 hcount hrange => ?_, fun h0 => ?_⟩
    · rw [devRead_range hcur hrsvd s.fuse hcmd hcount fun _ => hrange, hregs]
    · rw [devRead_badAddress hcur hrsvd s.fuse hcmd h0 hcount hrange]
    · rw [devRead_range hcur hrsvd s.fuse hcmd (by omega) fun h => absurd h0 h, h0]
      rfl
  case write =>
    rw [exec_write, onDev_live hlive]
    refine ⟨fun st done fail d hcount hrange hregs => ?_, fun h0 hcount hrange => ?_⟩
    · rw [devWrite_range hcur hrsvd hcmd hcount hrange hregs, writeBody]
    · rw [devWrite_badAddress hcur hrsvd hcmd h0 hcount hrange]
      rfl
  case row =>
    rw [exec_writesRow hlive hopen hc]
    refine ⟨fun hres => ?_, fun hres => ⟨fun henc => ?_, fun henc => ⟨fun hlock => ?_, fun hlock => ⟨fun hblock => ?_, fun hblock => ?_⟩⟩⟩⟩
    · rw [writeAt_reserved hres, wrote_logged a _ (.inl rfl)]
    · rw [writeAt_encoding hres henc, wrote_unlogged a _ (by decide) (by decide)]
    · rw [writeAt_locked hres henc hlock, wrote_logged a _ (.inr rfl)]
    · rw [writeAt_unlocked hres henc hlock, if_neg (not_not_intro hblock), wrote_unlogged a _ (by decide) (by decide)]
    · rw [writeAt_unlocked hres henc hlock, hblock, if_pos (by decide), wrote_unlogged a _ (by decide) (by decide)]
  case latch =>
    refine ⟨_, exec_counterLoRead_open hlive hopen hrange, ?_⟩
    rw [readReg_lo s.fuse hshadow habs hsite hrow hkind hplain]
    exact ⟨smGet_smSet_same _ _ _ _, fun b hb => smGet_smSet_ne _ _ _ hb, rfl, rfl, rfl, rfl, rfl⟩

/-- Settles O45: the frame of a fused-out site is absent, below the image shadow. -/
theorem fusedFrame : Obligations.FusedFrame := by
  intro fz d i off v hoff hf
  have hshadow : 0x100000 + 0x1000 * i.val + off < 0x310000 := by omega
  have habs := frameAbsent_of_fused (frameSite_frame i hoff) hf
  exact ⟨readReg_absent fz hshadow habs, writeReg_absent v habs⟩

end Sys2Proof.Machine
end

section
/-! SUPPORT. Vendor requests (19 R534, R535, R540 to R543): the checks of a request in their order, the bodies of LOG_READ, and what the row RESET leaves. -/

set_option autoImplicit false

namespace Sys2Proof.Machine

variable {d : Dev} {q : VReq}

/-! ### VENDOR_MESSAGE and the checks of R535 -/

theorem firstChecks_version (h : q.version ≠ 1) : firstChecks d q = msBadCommand := if_pos (.inl h)

section
variable (hversion : q.version = 1) (hknown : cmdKnown q.cmd = true)
include hversion hknown

theorem firstChecks_length (hlen : lengthOk q.cmd q.body = false) : firstChecks d q = msBadLength := by
  simp [firstChecks, hversion, hknown, hlen]

theorem firstChecks_locked (hlen : lengthOk q.cmd q.body = true) (hlock : bootLocked d = false) (hcode : d.code ≠ stBootFailed)
    (hstate : q.cmd ≠ 0x11) (htele : q.cmd ≠ 0x12) : firstChecks d q = msUnitBusy := by
  simp [firstChecks, hversion, hknown, hlen, hlock, hcode, hstate, htele]

theorem firstChecks_passed (hlen : lengthOk q.cmd q.body = true) (hopen : bootLocked d = true ∨ q.cmd = 0x11 ∨ q.cmd = 0x12)
    (hstate : stateAllows d q.cmd q.body = true) (hflags : q.flags = 0) (hrsvd : q.rsvd = 0) (hstatus : q.status = 0) : firstChecks d q = msSuccess := by
  have hbusy : ¬ (bootLocked d = false ∧ d.code ≠ stBootFailed ∧ q.cmd ≠ 0x11 ∧ q.cmd ≠ 0x12) := by
    rintro ⟨hlock, -, h11, h12⟩
    obtain h | h | h := hopen
    · simp [h] at hlock
    · exact h11 h
    · exact h12 h
  simp [firstChecks, hversion, hknown, hlen, if_neg hbusy, hstate, hflags, hrsvd, hstatus]

end

/-- With no request executed and a warden alive, the oldest request is taken and checked. -/
theorem devVendorMessage_takes {e : Dev} {rest : List VReq} (hdead : d.wdn.dead = false) (hcur : d.mgmt.cur = none) (hqueue : d.mgmt.queue = q :: rest)
    (he : e = { d with mgmt := { d.mgmt with queue := rest } }) :
    devVendorMessage d = if firstChecks e q = 0 then { e with mgmt := { e.mgmt with cur := some q } } else answer e q (firstChecks e q) [] := by
  subst he
  simp only [devVendorMessage, hcur, hqueue, hdead, Bool.false_and, Bool.false_eq_true, if_false]

/-! ### LOG_READ (19 R542) -/

section
variable (hcur : d.mgmt.cur = some q) (hcmd : q.cmd = 0x20) (hrsvd : leAt q.body 2 2 = 0)
include hcur hcmd hrsvd

theorem devLogRead_errorLog (hlog : leAt q.body 0 1 = 0) (hcount : leAt q.body 1 1 ≤ 30) (hfrom : leAt q.body 10 2 = 0) :
    devLogRead d = finish d q 0 (readElog d (leAt q.body 1 1) (slice q.body 4 8)) := by
  rw [devLogRead, runCmd_current _ hcur hcmd]
  simp [hrsvd, hlog, hfrom, Nat.not_lt.2 hcount]

theorem devLogRead_auditLog (hlog : leAt q.body 0 1 = 1) (hcount : leAt q.body 1 1 ≤ 7) :
    devLogRead d = finish d q 0 (readAudit d (leAt q.body 1 1) (slice q.body 4 8)) := by
  rw [devLogRead, runCmd_current _ hcur hcmd]
  simp [hrsvd, hlog, Nat.not_lt.2 hcount]

theorem devLogRead_noLog (hlog : 1 < leAt q.body 0 1) : devLogRead d = finish d q msReservedEncoding [] := by
  have h0 : leAt q.body 0 1 ≠ 0 := by omega
  rw [devLogRead, runCmd_current _ hcur hcmd]
  simp [hrsvd, hlog, h0]

end

/-! ### RESET (18 R497) -/

/-- To a requester on MCTP, and with a warden alive, an answer is one message more. -/
theorem finish_out (st : Nat) (body : List Byte) (hjtag : q.jtag = false) (hdead : d.wdn.dead = false) :
    (finish d q st body).mgmt.out = d.mgmt.out ++ [(q.eid, q.tag, responseBytes q st body)] := by
  by_cases hst : st = 0 <;> simp [finish, answer, hst, hjtag, hdead, cntInc, cntAdd]

/-- RESET answers, and resets the package but for the messages that are to leave. -/
theorem devReset_current (hcur : d.mgmt.cur = some q) (hcmd : q.cmd = 0x32) :
    devReset d = { softReset 3 (finish d q 0 []) with mgmt := { (softReset 3 (finish d q 0 [])).mgmt with out := (finish d q 0 []).mgmt.out } } := by
  simp only [devReset, hcur, if_pos hcmd]

end Sys2Proof.Machine
end

section
/-! SUPPORT. Speed, the throttle and the regulators (03 R79 to R86): fields below a field that is set, the codes of the four dies and what keeps them, one code up or down on every die, and the cases of the rows that lose the package. -/

set_option autoImplicit false

namespace Sys2Proof.Machine

/-! ### Fields below a field that is set -/

/-- A field that lies in the low bits of a number is the field of those low bits. -/
theorem bits_mod_pow (x : Nat) {hi lo m : Nat} (hlo : lo ≤ hi) (hm : hi < m) : bits (x % 2 ^ m) hi lo = bits x hi lo := by
  have hcut (y : Nat) : bits y hi lo = y % 2 ^ (hi + 1) / 2 ^ lo := by
    rw [bits, show 2 ^ (hi + 1) = 2 ^ lo * 2 ^ (hi + 1 - lo) by rw [← pow_add]; congr 1; omega, Nat.mod_mul_right_div_self]
  rw [hcut, hcut, Nat.mod_mod_of_dvd _ (pow_dvd_pow 2 hm)]

/-- Setting a field changes no bit below it. -/
theorem fieldSet_mod_pow (v : W32) (n : Nat) {hi lo : Nat} (h : lo ≤ hi) (h2 : hi < 32) : (fieldSet v hi lo n).toNat % 2 ^ lo = v.toNat % 2 ^ lo := by
  have hle : 2 ^ lo * bits v.toNat hi lo ≤ v.toNat := (Nat.mul_le_mul_left _ (Nat.mod_le _ _)).trans (Nat.mul_div_le _ _)
  rw [fieldSet_toNat v hi lo n h h2, Nat.add_mul_mod_self_right, mul_comm, Nat.sub_mul_mod hle]

theorem fld_setFld_below (d : Dev) (a n : Nat) {hi lo hi' lo' : Nat} (h : lo ≤ hi) (h2 : hi < 32) (hlo : lo' ≤ hi') (hbelow : hi' < lo) :
    fld (setFld d a hi lo n) a hi' lo' = fld d a hi' lo' := by
  simp only [fld, rdn, setFld, rd_wr_same]
  rw [← bits_mod_pow _ hlo hbelow, fieldSet_mod_pow _ n h h2, bits_mod_pow _ hlo hbelow]

theorem rd_setFld_ne (d : Dev) {a b : Nat} (hi lo n : Nat) (h : b ≠ a) : rd (setFld d a hi lo n) b = rd d b := rd_wr_ne d _ h

theorem setAt_same {α : Type} {l : List α} {k : Nat} (v x : α) (h : k < l.length) : (setAt l k v).getD k x = v := by
  simp [setAt, h]

theorem setAt_ne {α : Type} (l : List α) {j k : Nat} (v x : α) (h : j ≠ k) : (setAt l k v).getD j x = l.getD j x := by
  simp [setAt, List.getD_eq_getElem?_getD, List.getElem?_set_ne h.symm]

/-! ### Speed monitors (03 R79, R80) -/

/-- The eight rates of a die shown in its registers. -/
def showRates (k : Nat) (rs : List Nat) (n : Nat) (d : Dev) : Dev :=
  (List.range n).foldl (fun d m => wr d (Reg.MGT_SPEED k m) (BitVec.ofNat 32 (rs.getD m 0))) d

/-- The slowest rate shown, and the lowest since it was cleared, of which 0 does not count. -/
def showSlowest (k mn : Nat) (d : Dev) : Dev :=
  setFld (setFld d (Reg.MGT_SPEED_MIN k) 11 0 mn) (Reg.MGT_SPEED_MIN k) 27 16
    (if mn = 0 then fld d (Reg.MGT_SPEED_MIN k) 27 16 else if fld d (Reg.MGT_SPEED_MIN k) 27 16 = 0 then mn else min (fld d (Reg.MGT_SPEED_MIN k) 27 16) mn)

/-- The updates in a row below the guaranteed minimum counted; the third is an event. -/
def countSlow (k mn : Nat) (d : Dev) : Dev :=
  if mn = 0 then d
  else if mn < speedFloor (commanded d k) then
    let e := { d with pwr := { d.pwr with low := setAt d.pwr.low k (d.pwr.low.getD k 0 + 1) } }
    if d.pwr.low.getD k 0 + 1 = 3 then elog 1 9 0x0901 k mn (alert (evt e Reg.MGT_PWR_STATUS 11) 1) else e
  else { d with pwr := { d.pwr with low := setAt d.pwr.low k 0 } }

/-- Showing the rates sets their registers and nothing else. -/
theorem showRates_spec (k : Nat) (rs : List Nat) (n : Nat) (d : Dev) :
    (∀ m, m < n → rd (showRates k rs n d) (Reg.MGT_SPEED k m) = BitVec.ofNat 32 (rs.getD m 0)) ∧
      (∀ a, (∀ m, m < n → a ≠ Reg.MGT_SPEED k m) → rd (showRates k rs n d) a = rd d a) ∧ ∃ r, showRates k rs n d = { d with regs := r } := by
  induction n with
  | zero => exact ⟨fun m hm => absurd hm (Nat.not_lt_zero m), fun _ _ => rfl, _, rfl⟩
  | succ n ih =>
    obtain ⟨hset, hframe, r, hr⟩ := ih
    have hstep : showRates k rs (n + 1) d = wr (showRates k rs n d) (Reg.MGT_SPEED k n) (BitVec.ofNat 32 (rs.getD n 0)) := by
      simp only [showRates, List.range_succ, List.foldl_append, List.foldl_cons, List.foldl_nil]
    rw [hstep]
    refine ⟨fun m hm => ?_, fun a ha => ?_, _, by rw [hr]; rfl⟩
    · obtain rfl | hne := eq_or_ne m n
      · exact rd_wr_same _ _ _
      · rw [rd_wr_ne _ _ (show 0x240 + 32 * k + 4 * m ≠ 0x240 + 32 * k + 4 * n by omega)]
        exact hset m (by omega)
    · rw [rd_wr_ne _ _ (ha n n.lt_succ_self)]
      exact hframe a fun m hm => ha m (by omega)

/-- The field of the slowest rate. -/
theorem fld_showSlowest (k mn : Nat) (d : Dev) : fld (showSlowest k mn d) (Reg.MGT_SPEED_MIN k) 11 0 = mn % 2 ^ 12 := by
  rw [showSlowest, fld_setFld_below _ _ _ (by decide) (by decide) (by decide) (by decide), fld_setFld_same _ _ _ _ _ (by decide) (by decide)]

theorem rd_showSlowest_ne (k mn : Nat) (d : Dev) {a : Nat} (h : a ≠ Reg.MGT_SPEED_MIN k) : rd (showSlowest k mn d) a = rd d a := by
  rw [showSlowest, rd_setFld_ne _ _ _ _ h, rd_setFld_ne _ _ _ _ h]

/-- What a speed update shows of a die. -/
def showSpeed (k : Nat) (rs : List Nat) (d : Dev) : Dev := showSlowest k (rs.foldl min 4095) (showRates k rs 8 d)

/-- The minimum of values from a bound does not exceed the bound. -/
theorem foldl_min_le (l : List Nat) (b : Nat) : l.foldl min b ≤ b := by
  induction l generalizing b with
  | nil => exact le_rfl
  | cons x l ih => exact (ih _).trans (min_le_left _ _)

/-- The rates of a die and the slowest of them are shown, and only registers change, the die's code not among them. -/
theorem showSpeed_spec (k : Fin 4) (rs : List Nat) (d : Dev) :
    (∀ m, m < 8 → rd (showSpeed k.val rs d) (Reg.MGT_SPEED k.val m) = BitVec.ofNat 32 (rs.getD m 0)) ∧
      fld (showSpeed k.val rs d) (Reg.MGT_SPEED_MIN k.val) 11 0 = rs.foldl min 4095 ∧ commanded (showSpeed k.val rs d) k.val = commanded d k.val ∧
      ∃ r, showSpeed k.val rs d = { d with regs := r } := by
  obtain ⟨hset, hframe, r, hr⟩ := showRates_spec k.val rs 8 d
  have hk := k.isLt
  refine ⟨fun m hm => ?_, ?_, fld_congr 7 0 ?_, _, by rw [showSpeed, hr]; rfl⟩
  · exact (rd_showSlowest_ne _ _ _ (show 0x240 + 32 * k.val + 4 * m ≠ 0x2c0 + 4 * k.val by omega)).trans (hset m hm)
  · exact (fld_showSlowest _ _ _).trans (Nat.mod_eq_of_lt (Nat.lt_succ_of_le (foldl_min_le rs 4095)))
  · exact (rd_showSlowest_ne _ _ _ (show 0x210 + 4 * k.val ≠ 0x2c0 + 4 * k.val by omega)).trans
      (hframe _ fun m _ => show 0x210 + 4 * k.val ≠ 0x240 + 32 * k.val + 4 * m by omega)

/-- A speed update outside SLEEP shows the rates and their minimum, then counts. -/
theorem devSpeedMonitorUpdate_awake {d : Dev} {rates : List (BitVec 12)} (k : Fin 4) (hreset : d.code ≠ stReset) (hsleep : d.code ≠ stSleep) (hlen : rates.length = 8) :
    devSpeedMonitorUpdate k rates d = countSlow k.val ((rates.map (fun r => r.toNat)).foldl min 4095) (showSpeed k.val (rates.map (fun r => r.toNat)) d) :=
  if_neg (by simp [hlen, hreset, hsleep])

/-- What the count of slow updates keeps: every register between the power events and the log's events; the station code, the cores and the sites. -/
theorem countSlow_frame (k mn : Nat) (d : Dev) :
    (∀ a, Reg.MGT_PWR_STATUS < a → a < Reg.ELOG_EVT → rd (countSlow k mn d) a = rd d a) ∧
      (countSlow k mn d).code = d.code ∧ (countSlow k mn d).core = d.core ∧ (countSlow k mn d).wdn.sites = d.wdn.sites := by
  unfold countSlow
  split
  · exact ⟨fun _ _ _ => rfl, rfl, rfl, rfl⟩
  · split
    · dsimp only
      split
      · refine ⟨fun a hp he => ?_, by simp [evt], by simp [evt], by simp [evt]⟩
        have ha : a ≠ Reg.MGT_ALERT := (Nat.lt_trans (by decide) hp).ne'
        rw [rd_elog_ne _ _ _ _ _ _ he.ne ha, (alert_spec _ 1 (by decide)).2 a ha, rd_evt_ne _ _ hp.ne']
        rfl
      · exact ⟨fun _ _ _ => rfl, rfl, rfl, rfl⟩
    · exact ⟨fun _ _ _ => rfl, rfl, rfl, rfl⟩

/-- A slow update is counted, and the third in a row sets SPEED_LOW_EVT. -/
theorem countSlow_low {k mn : Nat} {d : Dev} (hk : k < d.pwr.low.length) (h0 : 0 < mn) (hlow : mn < speedFloor (commanded d k)) :
    (countSlow k mn d).pwr.low.getD k 0 = d.pwr.low.getD k 0 + 1 ∧
      (d.pwr.low.getD k 0 = 2 → (rd (countSlow k mn d) Reg.MGT_PWR_STATUS).getLsbD 11 = true) := by
  rw [countSlow, if_neg h0.ne', if_pos hlow]
  dsimp only
  split
  next =>
    refine ⟨?_, fun _ => ?_⟩
    · rw [elog_pwr, alert_pwr]
      exact setAt_same _ _ hk
    · rw [rd_elog_ne _ _ _ _ _ _ (by decide) (by decide), (alert_spec _ 1 (by decide)).2 _ (by decide)]
      exact evt_getLsbD _ _ 11 (by decide)
  next hn => exact ⟨setAt_same _ _ hk, fun h => absurd (by omega) hn⟩

/-- A good update starts the count again. -/
theorem countSlow_good {k mn : Nat} {d : Dev} (hk : k < d.pwr.low.length) (h0 : 0 < mn) (hgood : speedFloor (commanded d k) ≤ mn) :
    (countSlow k mn d).pwr.low.getD k 0 = 0 := by
  rw [countSlow, if_neg h0.ne', if_neg (Nat.not_lt.2 hgood)]
  exact setAt_same _ _ hk

/-! ### One code on a regulator (03 R82) -/

theorem commanded_commandVcore {k code : Nat} (d : Dev) (hcode : code < 256) : commanded (commandVcore d k code) k = code :=
  (fld_setFld_same d (Reg.MGT_VCORE_STAT k) 7 0 code (by decide) (by decide)).trans (Nat.mod_eq_of_lt hcode)

theorem avs_commandVcore {d : Dev} {k : Nat} (code : Nat) (hk : k < d.pwr.avs.length) : (commandVcore d k code).pwr.avs.getD k 0 = 1 := setAt_same _ _ hk

theorem rd_commandVcore_ne (d : Dev) {a k : Nat} (code : Nat) (h : a ≠ Reg.MGT_VCORE_STAT k) : rd (commandVcore d k code) a = rd d a := rd_wr_ne d _ h

theorem commanded_commandVcore_ne (d : Dev) {j k : Nat} (code : Nat) (h : j ≠ k) : commanded (commandVcore d k code) j = commanded d j :=
  fld_congr 7 0 (rd_commandVcore_ne d code (show 0x210 + 4 * j ≠ 0x210 + 4 * k by omega))

theorem stepVcore_noGoal {d : Dev} {k : Nat} (h : d.pwr.goal.getD k 0 = 0) : stepVcore d k = d := if_pos h

theorem stepVcore_up {d : Dev} {k : Nat} (h : commanded d k < d.pwr.goal.getD k 0) : stepVcore d k = commandVcore d k (commanded d k + 1) := by
  have h0 : d.pwr.goal.getD k 0 ≠ 0 := by omega
  simp only [stepVcore, if_neg h0, if_neg h.ne, if_pos h]

theorem stepVcore_down {d : Dev} {k : Nat} (h0 : d.pwr.goal.getD k 0 ≠ 0) (h : d.pwr.goal.getD k 0 < commanded d k) :
    stepVcore d k = commandVcore d k (commanded d k - 1) := by
  simp only [stepVcore, if_neg h0, if_neg h.ne', if_neg (Nat.not_lt.2 h.le)]

/-! ### What keeps the codes of the dies -/

/-- From `d` to `e` no die's code, limit or regulator has changed, nor the station code or a core. -/
structure RailsKept (d e : Dev) : Prop where
  commanded : ∀ k, k < 4 → commanded e k = commanded d k
  limits : ∀ k, k < 4 → rd e (Reg.MGT_VCORE_CFG k) = rd d (Reg.MGT_VCORE_CFG k)
  throttle : rd e Reg.MGT_THROTTLE_CFG = rd d Reg.MGT_THROTTLE_CFG
  code : e.code = d.code
  core : e.core = d.core
  avs : e.pwr.avs = d.pwr.avs

theorem RailsKept.refl (d : Dev) : RailsKept d d := ⟨fun _ _ => rfl, fun _ _ => rfl, rfl, rfl, rfl, rfl⟩

theorem RailsKept.trans {d e f : Dev} (h : RailsKept d e) (h' : RailsKept e f) : RailsKept d f where
  commanded k hk := (h'.commanded k hk).trans (h.commanded k hk)
  limits k hk := (h'.limits k hk).trans (h.limits k hk)
  throttle := h'.throttle.trans h.throttle
  code := h'.code.trans h.code
  core := h'.core.trans h.core
  avs := h'.avs.trans h.avs

/-- The registers of the rails stand in one range. -/
theorem railsKept_of_rd {d e : Dev} (h : ∀ a, a < Reg.MGT_PWR_STATUS → 0x200 ≤ a → rd e a = rd d a) (hcode : e.code = d.code) (hcore : e.core = d.core)
    (havs : e.pwr.avs = d.pwr.avs) : RailsKept d e where
  commanded k hk := fld_congr 7 0 (h _ (show 0x210 + 4 * k < 0x224 by omega) (show 0x200 ≤ 0x210 + 4 * k by omega))
  limits k hk := h _ (show 0x200 + 4 * k < 0x224 by omega) (Nat.le_add_right _ _)
  throttle := h _ (by decide) (by decide)
  code := hcode
  core := hcore
  avs := havs

theorem railsKept_wr (d : Dev) {a : Nat} (v : W32) (ha : Reg.MGT_PWR_STATUS ≤ a) : RailsKept d (wr d a v) :=
  railsKept_of_rd (fun _ hb _ => rd_wr_ne d v (Nat.ne_of_lt (Nat.lt_of_lt_of_le hb ha))) rfl rfl rfl

theorem railsKept_status (d : Dev) (hi lo n : Nat) : RailsKept d (setFld d Reg.MGT_PWR_STATUS hi lo n) := railsKept_wr d _ le_rfl

theorem railsKept_evt (d : Dev) (bit : Nat) : RailsKept d (evt d Reg.MGT_PWR_STATUS bit) := railsKept_wr d _ le_rfl

theorem railsKept_evtIf (d : Dev) (bit : Nat) (p : Prop) [Decidable p] : RailsKept d (if p then evt d Reg.MGT_PWR_STATUS bit else d) := by
  split
  · exact railsKept_evt d bit
  · exact RailsKept.refl d

theorem railsKept_atFloor (d : Dev) (b : Bool) : RailsKept d { d with pwr := { d.pwr with atFloor := b } } :=
  railsKept_of_rd (fun _ _ _ => rfl) rfl rfl rfl

theorem RailsKept.floor {d e : Dev} (h : RailsKept d e) {k : Nat} (hk : k < 4) : floorOf e k = floorOf d k := fld_congr 23 16 (h.limits k hk)

theorem RailsKept.setpoint {d e : Dev} (h : RailsKept d e) {k : Nat} (hk : k < 4) : fld e (Reg.MGT_VCORE_CFG k) 7 0 = fld d (Reg.MGT_VCORE_CFG k) 7 0 :=
  fld_congr 7 0 (h.limits k hk)

theorem railsKept_elog (d : Dev) (cls block code unit detail : Nat) : RailsKept d (elog cls block code unit detail d) :=
  railsKept_of_rd (fun a ha h => rd_elog_ne d _ _ _ _ _ (Nat.ne_of_lt (ha.trans (by decide))) (Nat.ne_of_gt (Nat.lt_of_lt_of_le (by decide) h)))
    (elog_code d _ _ _ _ _) (elog_core d _ _ _ _ _) (by rw [elog_pwr])

/-- The measured values of a die stand above its commanded code. -/
theorem railsKept_measured (d : Dev) {k : Nat} (hk : k < 4) {hi lo : Nat} (n : Nat) (hlo : 7 < lo) (h : lo ≤ hi) (h2 : hi < 32) :
    RailsKept d (setFld d (Reg.MGT_VCORE_STAT k) hi lo n) where
  commanded j hj := by
    obtain rfl | hne := eq_or_ne j k
    · exact fld_setFld_below d _ n h h2 (by decide) hlo
    · exact fld_congr 7 0 (rd_setFld_ne d _ _ _ (show 0x210 + 4 * j ≠ 0x210 + 4 * k by omega))
  limits j hj := rd_setFld_ne d _ _ _ (show 0x200 + 4 * j ≠ 0x210 + 4 * k by omega)
  throttle := rd_setFld_ne d _ _ _ (show 0x220 ≠ 0x210 + 4 * k by omega)
  code := rfl
  core := rfl
  avs := rfl

theorem railsKept_showReadings (d : Dev) (rs : List DieReading) : RailsKept d (showReadings d rs) := by
  refine List.foldlRecOn (motive := RailsKept d) (List.range 4) _ (RailsKept.refl d) fun e he k hk => he.trans ?_
  rw [List.mem_range] at hk
  split
  · exact ((railsKept_wr e _ (show 0x224 ≤ 0x230 + 4 * k by omega)).trans (railsKept_measured _ hk _ (by decide) (by decide) (by decide))).trans
      (railsKept_measured _ hk _ (by decide) (by decide) (by decide))
  · exact RailsKept.refl e

/-! ### Every die one code on (03 R83, R84) -/

/-- From `d` to `e` each of the first `n` dies has been commanded its code and awaits its regulator, and nothing else of the other dies, of the registers, the station code or the cores has changed. -/
structure DiesMoved (code : Nat → Nat) (n : Nat) (d e : Dev) : Prop where
  moved : ∀ k, k < n → commanded e k = code k ∧ e.pwr.avs.getD k 0 = 1
  waiting : ∀ k, n ≤ k → commanded e k = commanded d k ∧ e.pwr.avs.getD k 0 = d.pwr.avs.getD k 0
  rails : e.pwr.avs.length = d.pwr.avs.length
  frame : ∀ a, (∀ k, k < n → a ≠ Reg.MGT_VCORE_STAT k) → rd e a = rd d a
  code : e.code = d.code
  core : e.core = d.core

theorem DiesMoved.zero (code : Nat → Nat) (d : Dev) : DiesMoved code 0 d d :=
  ⟨fun k hk => absurd hk (Nat.not_lt_zero k), fun _ _ => ⟨rfl, rfl⟩, rfl, fun _ _ => rfl, rfl, rfl⟩

theorem DiesMoved.succ {code : Nat → Nat} {n : Nat} {d e : Dev} (h : DiesMoved code n d e) (hn : n < d.pwr.avs.length) (hcode : code n < 256) :
    DiesMoved code (n + 1) d (commandVcore e n (code n)) where
  moved k hk := by
    obtain rfl | hne := eq_or_ne k n
    · exact ⟨commanded_commandVcore e hcode, avs_commandVcore _ (h.rails ▸ hn)⟩
    · obtain ⟨hcmd, havs⟩ := h.moved k (by omega)
      exact ⟨(commanded_commandVcore_ne e _ hne).trans hcmd, (setAt_ne _ _ _ hne).trans havs⟩
  waiting k hk := by
    obtain ⟨hcmd, havs⟩ := h.waiting k (by omega)
    exact ⟨(commanded_commandVcore_ne e _ (by omega)).trans hcmd, (setAt_ne _ _ _ (by omega)).trans havs⟩
  rails := (List.length_set).trans h.rails
  frame a ha := (rd_commandVcore_ne e _ (ha n n.lt_succ_self)).trans (h.frame a fun k hk => ha k (by omega))
  code := h.code
  core := h.core

/-- The pass may begin from a package with the same registers, regulators, station code and cores. -/
theorem DiesMoved.congr {code : Nat → Nat} {n : Nat} {d' d e : Dev} (hregs : d.regs = d'.regs) (havs : d.pwr.avs = d'.pwr.avs) (hcode : d.code = d'.code)
    (hcore : d.core = d'.core) (h : DiesMoved code n d e) : DiesMoved code n d' e where
  moved := h.moved
  waiting k hk := by
    obtain ⟨hcmd, hreg⟩ := h.waiting k hk
    have hrd (a : Nat) : rd d a = rd d' a := by rw [rd, rd, hregs]
    exact ⟨hcmd.trans (fld_congr 7 0 (hrd _)), hreg.trans (by rw [havs])⟩
  rails := h.rails.trans (by rw [havs])
  frame a ha := (h.frame a ha).trans (by rw [rd, rd, hregs])
  code := h.code.trans hcode
  core := h.core.trans hcore

/-- A pass over the dies that commands each die its code, as long as the die and its limits are as they were, moves them all. -/
theorem diesMoved_foldl {g : Dev → Nat → Dev} {code : Nat → Nat} {d : Dev} (hrails : d.pwr.avs.length = 4) (hcode : ∀ k, k < 4 → code k < 256)
    (hg : ∀ e k, k < 4 → commanded e k = commanded d k → e.pwr.avs.getD k 0 = d.pwr.avs.getD k 0 → rd e (Reg.MGT_VCORE_CFG k) = rd d (Reg.MGT_VCORE_CFG k) →
      g e k = commandVcore e k (code k)) {n : Nat} (hn : n ≤ 4) : DiesMoved code n d ((List.range n).foldl g d) := by
  induction n with
  | zero => exact DiesMoved.zero code d
  | succ n ih =>
    have h := ih (by omega)
    obtain ⟨hcmd, havs⟩ := h.waiting n le_rfl
    have hcfg := h.frame (Reg.MGT_VCORE_CFG n) fun k hk => show 0x200 + 4 * n ≠ 0x210 + 4 * k by omega
    rw [List.range_succ, List.foldl_append, List.foldl_cons, List.foldl_nil, hg _ n (by omega) hcmd havs hcfg]
    exact h.succ (by omega) (hcode n (by omega))

/-- One code down for a die above its floor whose regulator is ready. -/
def lowerDie (d : Dev) (k : Nat) : Dev := if avsReady d k && decide (floorOf d k < commanded d k) then commandVcore d k (commanded d k - 1) else d

/-- One code up for a die below its setpoint whose regulator is ready. -/
def raiseDie (d : Dev) (k : Nat) : Dev := if avsReady d k && decide (commanded d k < fld d (Reg.MGT_VCORE_CFG k) 7 0) then commandVcore d k (commanded d k + 1) else d

theorem lowerDie_above {d : Dev} {k : Nat} (hready : d.pwr.avs.getD k 0 = 0) (h : floorOf d k < commanded d k) :
    lowerDie d k = commandVcore d k (commanded d k - 1) := if_pos (by rw [avsReady, hready, decide_eq_true h]; rfl)

theorem raiseDie_below {d : Dev} {k : Nat} (hready : d.pwr.avs.getD k 0 = 0) (h : commanded d k < fld d (Reg.MGT_VCORE_CFG k) 7 0) :
    raiseDie d k = commandVcore d k (commanded d k + 1) := if_pos (by rw [avsReady, hready, decide_eq_true h]; rfl)

/-- A demand with a die above its floor ends the ramps under way, out of SLEEP. -/
def rampEnded (d : Dev) : Dev := { d with pwr := { d.pwr with atFloor := false, goal := if d.code = stSleep then d.pwr.goal else [0, 0, 0, 0] } }

theorem throttleDown_above {d : Dev} (h : floorOf d 0 < commanded d 0) : throttleDown d = (List.range 4).foldl lowerDie (rampEnded d) := by
  have hall : ¬ (List.range 4).all (fun k => decide (commanded d k ≤ floorOf d k)) = true := fun hall =>
    absurd (of_decide_eq_true (List.all_eq_true.1 hall 0 (by decide))) (Nat.not_le.2 h)
  rw [throttleDown, if_neg hall]
  rfl

theorem commanded_lt (d : Dev) (k : Nat) : commanded d k < 256 := Nat.mod_lt _ (by decide)

section
variable {d : Dev}

/-- With every die at its floor no code moves: AT_FLOOR_EVT is set, and the first such evaluation is an entry. -/
theorem throttleDown_atFloor (h : ∀ k, k < 4 → commanded d k ≤ floorOf d k) :
    RailsKept d (throttleDown d) ∧ (rd (throttleDown d) Reg.MGT_PWR_STATUS).getLsbD 8 = true ∧ (throttleDown d).pwr.atFloor = true := by
  have hall : (List.range 4).all (fun k => decide (commanded d k ≤ floorOf d k)) = true :=
    List.all_eq_true.2 fun k hk => decide_eq_true (h k (List.mem_range.1 hk))
  have hevt : (rd (evt d Reg.MGT_PWR_STATUS 8) Reg.MGT_PWR_STATUS).getLsbD 8 = true := evt_getLsbD d _ 8 (by decide)
  have hkept : RailsKept d (evt d Reg.MGT_PWR_STATUS 8) := railsKept_evt d 8
  rw [throttleDown, if_pos hall]
  dsimp only
  split
  next hfloor => exact ⟨hkept, hevt, hfloor⟩
  next =>
    refine ⟨(hkept.trans (railsKept_atFloor _ true)).trans (railsKept_elog _ _ _ _ _ _), ?_, by rw [elog_pwr]⟩
    rw [rd_elog_ne _ _ _ _ _ _ (by decide) (by decide)]
    exact hevt

variable (hready : ∀ k, k < 4 → d.pwr.avs.getD k 0 = 0) (hrails : d.pwr.avs.length = 4)
include hready hrails

theorem throttleDown_moves (h : ∀ k, k < 4 → floorOf d k < commanded d k) : DiesMoved (fun k => commanded d k - 1) 4 d (throttleDown d) := by
  rw [throttleDown_above (h 0 (by decide))]
  refine DiesMoved.congr (d := rampEnded d) rfl rfl rfl rfl ?_
  refine diesMoved_foldl (d := rampEnded d) (code := fun k => commanded d k - 1) hrails
    (fun k _ => Nat.lt_of_le_of_lt (Nat.sub_le _ _) (commanded_lt d k)) (fun e k hk hcmd havs hcfg => ?_) le_rfl
  have hcmd : commanded e k = commanded d k := hcmd
  have hfloor : floorOf e k = floorOf d k := fld_congr 23 16 hcfg
  rw [lowerDie_above (havs.trans (hready k hk)) (by rw [hcmd, hfloor]; exact h k hk), hcmd]

theorem throttleUp_moves (h : ∀ k, k < 4 → commanded d k < fld d (Reg.MGT_VCORE_CFG k) 7 0) : DiesMoved (fun k => commanded d k + 1) 4 d (throttleUp d) := by
  have hset (k : Nat) : fld d (Reg.MGT_VCORE_CFG k) 7 0 < 256 := Nat.mod_lt _ (by decide)
  refine diesMoved_foldl (g := raiseDie) hrails (fun k hk => Nat.lt_of_le_of_lt (h k hk) (hset k)) (fun e k hk hcmd havs hcfg => ?_) le_rfl
  rw [raiseDie_below (havs.trans (hready k hk)) (by rw [hcmd, fld_congr 7 0 hcfg]; exact h k hk), hcmd]

end

/-! ### THROTTLE_EVALUATION -/

section
variable {d : Dev} {rs : List DieReading} (hlen : rs.length = 4) (hreset : d.code ≠ stReset) (hdead : d.wdn.dead = false)
include hlen hreset hdead

/-- A sensor at THROT_T sets THERM_THROT_EVT and demands one code down. -/
theorem devThrottleEvaluation_hot (hrule : fld d Reg.MGT_THROTTLE_CFG 7 0 ≠ 0) (hhot : ∃ r ∈ rs, ∃ x ∈ dieTemps r.temps, (fld d Reg.MGT_THROTTLE_CFG 7 0 : Int) ≤ x) :
    ∃ e, RailsKept d e ∧ (rd e Reg.MGT_PWR_STATUS).getLsbD 9 = true ∧ devThrottleEvaluation rs d = throttleDown e := by
  have hthr := fld_congr 7 0 (railsKept_showReadings d rs).throttle
  have hdemand : (decide ((fld d Reg.MGT_THROTTLE_CFG 7 0 : Int) ≠ 0) &&
      ((rs.map (fun r => dieTemps r.temps)).flatten).any (fun t => decide ((fld d Reg.MGT_THROTTLE_CFG 7 0 : Int) ≤ t))) = true := by
    obtain ⟨r, hr, x, hx, hle⟩ := hhot
    rw [Bool.and_eq_true, decide_eq_true_eq, List.any_eq_true]
    exact ⟨Int.natCast_ne_zero.2 hrule, x, List.mem_flatten.2 ⟨_, List.mem_map.2 ⟨r, hr, rfl⟩, hx⟩, decide_eq_true hle⟩
  rw [devThrottleEvaluation, if_neg (by simp [hlen, hreset, hdead])]
  simp only [hthr, hdemand, Bool.true_or, if_true]
  refine ⟨_, ?_, ?_, rfl⟩
  · exact ((((railsKept_showReadings d rs).trans (railsKept_status _ _ _ _)).trans (railsKept_status _ _ _ _)).trans (railsKept_evt _ _)).trans
      (railsKept_evtIf _ _ _)
  · split
    · rw [evt_getLsbD_ne _ _ (by decide)]
      exact evt_getLsbD _ _ 9 (by decide)
    · exact evt_getLsbD _ _ 9 (by decide)

/-- With every sensor below THROT_T less 5 and the power under its limit by 20 W, no rule demands and all are released. -/
theorem devThrottleEvaluation_released (hsleep : d.code ≠ stSleep)
    (hcool : ∀ r ∈ rs, ∀ x ∈ dieTemps r.temps, x < (fld d Reg.MGT_THROTTLE_CFG 7 0 : Int) - 5)
    (hunder : (rs.map (fun r => r.watts.toNat)).sum + 20 ≤ fld d Reg.MGT_THROTTLE_CFG 25 16) :
    ∃ e, RailsKept d e ∧ devThrottleEvaluation rs d = throttleUp e := by
  have hkept := railsKept_showReadings d rs
  have hthr := fld_congr 7 0 hkept.throttle
  have hlim := fld_congr 25 16 hkept.throttle
  have hbelow : ∀ t ∈ (rs.map (fun r => dieTemps r.temps)).flatten, t < (fld d Reg.MGT_THROTTLE_CFG 7 0 : Int) - 5 := by
    intro t ht
    obtain ⟨_, hl, ht⟩ := List.mem_flatten.1 ht
    obtain ⟨r, hr, rfl⟩ := List.mem_map.1 hl
    exact hcool r hr t ht
  have hnotHot : ((rs.map (fun r => dieTemps r.temps)).flatten).any (fun t => decide ((fld d Reg.MGT_THROTTLE_CFG 7 0 : Int) ≤ t)) = false :=
    List.any_eq_false.2 fun t ht => by have := hbelow t ht; simp only [decide_eq_true_eq]; omega
  have hallCool : ((rs.map (fun r => dieTemps r.temps)).flatten).all (fun t => decide (t < (fld d Reg.MGT_THROTTLE_CFG 7 0 : Int) - 5)) = true :=
    List.all_eq_true.2 fun t ht => decide_eq_true (hbelow t ht)
  have hnotAbove : decide (fld d Reg.MGT_THROTTLE_CFG 25 16 < (rs.map (fun r => r.watts.toNat)).sum) = false := decide_eq_false (by omega)
  rw [devThrottleEvaluation, if_neg (by simp [hlen, hreset, hdead])]
  simp only [hthr, hlim, hnotHot, hallCool, hnotAbove, decide_eq_true hunder, Bool.and_false, Bool.or_false, Bool.or_true, Bool.and_true,
    Bool.false_eq_true, if_false]
  refine ⟨_, ?_, if_pos (decide_eq_true ?_)⟩
  · exact ((hkept.trans (railsKept_status _ _ _ _)).trans (railsKept_status _ _ _ _)).trans (railsKept_atFloor _ false)
  · exact hkept.code ▸ hsleep

/-- A thermal demand with every die at its floor. -/
theorem devThrottleEvaluation_stays (hrule : fld d Reg.MGT_THROTTLE_CFG 7 0 ≠ 0) (hhot : ∃ r ∈ rs, ∃ x ∈ dieTemps r.temps, (fld d Reg.MGT_THROTTLE_CFG 7 0 : Int) ≤ x)
    (hfloor : ∀ k, k < 4 → commanded d k ≤ floorOf d k) :
    RailsKept d (devThrottleEvaluation rs d) ∧ (rd (devThrottleEvaluation rs d) Reg.MGT_PWR_STATUS).getLsbD 8 = true ∧ (devThrottleEvaluation rs d).pwr.atFloor = true := by
  obtain ⟨e, hkept, -, heval⟩ := devThrottleEvaluation_hot hlen hreset hdead hrule hhot
  obtain ⟨hstill, hevt, hatFloor⟩ := throttleDown_atFloor (d := e) fun k hk => by rw [hkept.commanded k hk, hkept.floor hk]; exact hfloor k hk
  rw [heval]
  exact ⟨hkept.trans hstill, hevt, hatFloor⟩

variable (hready : ∀ k, k < 4 → d.pwr.avs.getD k 0 = 0) (hrails : d.pwr.avs.length = 4)
include hready hrails

/-- A thermal demand with every die above its floor and its regulator ready. -/
theorem devThrottleEvaluation_lowers (hrule : fld d Reg.MGT_THROTTLE_CFG 7 0 ≠ 0) (hhot : ∃ r ∈ rs, ∃ x ∈ dieTemps r.temps, (fld d Reg.MGT_THROTTLE_CFG 7 0 : Int) ≤ x)
    (habove : ∀ k, k < 4 → floorOf d k < commanded d k) :
    (∀ k, k < 4 → commanded (devThrottleEvaluation rs d) k = commanded d k - 1 ∧ (devThrottleEvaluation rs d).pwr.avs.getD k 0 = 1) ∧
      (rd (devThrottleEvaluation rs d) Reg.MGT_PWR_STATUS).getLsbD 9 = true ∧ (devThrottleEvaluation rs d).code = d.code ∧ (devThrottleEvaluation rs d).core = d.core := by
  obtain ⟨e, hkept, hevt, heval⟩ := devThrottleEvaluation_hot hlen hreset hdead hrule hhot
  have hmove := throttleDown_moves (d := e) (hkept.avs ▸ hready) (hkept.avs ▸ hrails) fun k hk => by rw [hkept.commanded k hk, hkept.floor hk]; exact habove k hk
  rw [heval]
  generalize throttleDown e = f at hmove ⊢
  rw [hmove.frame Reg.MGT_PWR_STATUS fun k hk => show 0x224 ≠ 0x210 + 4 * k by omega]
  exact ⟨fun k hk => hkept.commanded k hk ▸ hmove.moved k hk, hevt, hmove.code.trans hkept.code, hmove.core.trans hkept.core⟩

/-- No demand, all rules released, and every die below its setpoint with its regulator ready. -/
theorem devThrottleEvaluation_raises (hsleep : d.code ≠ stSleep) (hcool : ∀ r ∈ rs, ∀ x ∈ dieTemps r.temps, x < (fld d Reg.MGT_THROTTLE_CFG 7 0 : Int) - 5)
    (hunder : (rs.map (fun r => r.watts.toNat)).sum + 20 ≤ fld d Reg.MGT_THROTTLE_CFG 25 16) (hbelow : ∀ k, k < 4 → commanded d k < fld d (Reg.MGT_VCORE_CFG k) 7 0) :
    (∀ k, k < 4 → commanded (devThrottleEvaluation rs d) k = commanded d k + 1 ∧ (devThrottleEvaluation rs d).pwr.avs.getD k 0 = 1) ∧
      (devThrottleEvaluation rs d).code = d.code ∧ (devThrottleEvaluation rs d).core = d.core := by
  obtain ⟨e, hkept, heval⟩ := devThrottleEvaluation_released hlen hreset hdead hsleep hcool hunder
  have hmove := throttleUp_moves (d := e) (hkept.avs ▸ hready) (hkept.avs ▸ hrails) fun k hk => by rw [hkept.commanded k hk, hkept.setpoint hk]; exact hbelow k hk
  rw [heval]
  generalize throttleUp e = f at hmove ⊢
  exact ⟨fun k hk => hkept.commanded k hk ▸ hmove.moved k hk, hmove.code.trans hkept.code, hmove.core.trans hkept.core⟩

end

/-! ### AVS, brown-outs and thermal protection (03 R82, R85, R86) -/

section
variable {d : Dev} {k : Fin 4}

theorem devAvsCompletion_ready (h : d.pwr.avs.getD k.val 0 = 0) : devAvsCompletion k d = d := if_pos (decide_eq_true h)

theorem devAvsCompletion_awaited (h : d.pwr.avs.getD k.val 0 ≠ 0) :
    devAvsCompletion k d = stepVcore { d with pwr := { d.pwr with avs := setAt d.pwr.avs k.val 0 } } k.val :=
  if_neg (by simpa [avsReady] using h)

theorem brownOut_running {j : Nat} (h : d.code ≠ stReset) : brownOut d j = enterLost j 5 false (loseDie d j) := if_neg h

theorem devAvsTimeout_idle (h : d.pwr.avs.getD k.val 0 = 0) : devAvsTimeout k d = d := by
  rw [devAvsTimeout, h]
  rfl

theorem devAvsTimeout_first (h : d.pwr.avs.getD k.val 0 = 1) : devAvsTimeout k d = { d with pwr := { d.pwr with avs := setAt d.pwr.avs k.val 2 } } := by
  rw [devAvsTimeout, h]
  rfl

/-- The second failure of a command is a brown-out. -/
theorem devAvsTimeout_second (hreset : d.code ≠ stReset) (h : d.pwr.avs.getD k.val 0 = 2) :
    devAvsTimeout k d = enterLost k.val 5 false (loseDie { d with pwr := { d.pwr with avs := setAt d.pwr.avs k.val 0 } } k.val) := by
  rw [devAvsTimeout, h]
  exact brownOut_running hreset

theorem devThermalFence_atFloor (hreset : d.code ≠ stReset) (h0 : floorOf d k.val ≠ 0) (h : commanded d k.val ≤ floorOf d k.val) :
    devThermalFence k d = enterLost k.val 4 false d := by
  rw [devThermalFence, if_neg (not_or.2 ⟨hreset, h0⟩), if_pos h]

theorem devThermalFence_idle (h : floorOf d k.val = 0 ∨ floorOf d k.val < commanded d k.val) : devThermalFence k d = d := by
  unfold devThermalFence
  split
  · rfl
  next hn => exact if_neg (Nat.not_le.2 (h.resolve_left fun h0 => hn (.inr h0)))

theorem devThermtrip_reset (h : d.code = stReset) : devThermtrip k d = { d with pwr := { d.pwr with thermtrip := true } } := if_pos h

theorem devThermtrip_running (h : d.code ≠ stReset) : devThermtrip k d = enterLost k.val 4 false { d with pwr := { d.pwr with thermtrip := true } } := if_neg h

theorem code_ne_reset_of_live (h : live d = true) : d.code ≠ stReset := fun hcode => by simp [live_of_reset hcode] at h

end

end Sys2Proof.Machine
end

section
/-! SUPPORT. The reference clocks and the clock of SLEEP (03 R88, R89, R92; 12 R335; 15 R438, R439; 20 R565): what the loss or return of a reference does in each case, one tick of XT_32K, and the first tick of TIME_500 after a wake. -/

set_option autoImplicit false

namespace Sys2Proof.Machine

variable {d : Dev}

/-! ### References lost and back -/

theorem devSysrefLoss_running (h : d.code ≠ stReset) :
    devSysrefLoss d = enterLost d.wdn.active 6 false { d with pwr := { d.pwr with sysref := false }, tim := { d.tim with stopped := true } } := if_neg h

/-- The loss of SERREF_156 is an entry and takes the sub-ports down, on an enabled port out of RESET once the settings are loaded. -/
theorem devSerrefLoss_lost {n : Fin 2} (hcode : d.code ≠ stReset) (hwas : d.pwr.serref.getD n.val true = true) (hen : ethDisabled d n.val = false)
    (hset : ¬ (d.code = stBoot ∧ fld d Reg.BOOT_STATUS 3 0 < 4)) :
    devSerrefLoss n false d = elog 3 9 0x0903 n.val 1 (ethDown { d with pwr := { d.pwr with serref := d.pwr.serref.set n.val false } } n.val) := by
  refine if_neg ?_
  rintro (h | h | h | h | h)
  · exact Bool.noConfusion (hwas.symm.trans h)
  · exact Bool.noConfusion h
  · exact hcode h
  · exact hset h
  · exact Bool.noConfusion (hen.symm.trans h)

/-- Before the settings are loaded a loss of SERREF_156 is remembered only: its entry is made with them. -/
theorem devSerrefLoss_waits {n : Fin 2} (hset : d.code = stBoot ∧ fld d Reg.BOOT_STATUS 3 0 < 4) :
    devSerrefLoss n false d = { d with pwr := { d.pwr with serref := d.pwr.serref.set n.val false } } :=
  if_pos (.inr (.inr (.inr (.inl hset))))

theorem devSerrefLoss_back (n : Fin 2) : devSerrefLoss n true d = { d with pwr := { d.pwr with serref := d.pwr.serref.set n.val true } } :=
  if_pos (.inr (.inl rfl))

theorem devOptrefLoss_lost {n : Fin 2} (hcode : d.code ≠ stReset) (hwas : d.pwr.optref.getD n.val true = true) :
    devOptrefLoss n false d = linkDown (elog 3 9 0x0903 (2 + n.val) 2 { d with pwr := { d.pwr with optref := d.pwr.optref.set n.val false } }) n.val 5 0 := by
  refine (if_neg ?_).trans (if_neg Bool.false_ne_true)
  rintro (h | h)
  · exact Bool.noConfusion (hwas.symm.trans h)
  · exact hcode h

/-- The return of OPTREF_156 trains a port that is DOWN, unless the station is LOST. -/
theorem devOptrefLoss_back {e : Dev} {n : Fin 2} (hcode : d.code ≠ stReset) (hwas : d.pwr.optref.getD n.val true = false)
    (he : { d with pwr := { d.pwr with optref := d.pwr.optref.set n.val true } } = e) :
    devOptrefLoss n true d = if (portAt e n.val).st = 4 ∧ d.code ≠ stLost then retrain e n.val else e := by
  subst he
  refine (if_neg ?_).trans (if_pos rfl)
  rintro (h | h)
  · exact Bool.noConfusion (hwas.symm.trans h)
  · exact hcode h

/-- The loss of XT_32K wakes a sleeping station and is an entry otherwise. -/
theorem devXt32kLoss_lost {e : Dev} (hcode : d.code ≠ stReset) (hwas : d.pwr.xt32k = true) (he : { d with pwr := { d.pwr with xt32k := false } } = e) :
    devXt32kLoss d = if d.code = stSleep then wakeUp (elog 1 9 0x0904 0 2 e) else elog 1 9 0x0904 0 1 e := by
  subst he
  exact (if_neg (by simp [hwas])).trans (if_neg hcode)

theorem devXt32kLoss_absent (h : d.pwr.xt32k = false) : devXt32kLoss d = d := if_pos h

/-! ### The wake -/

theorem wakeUp_awake (h : d.code ≠ stSleep) : wakeUp d = d := if_pos h

/-! ### Device time in SLEEP and after it -/

theorem devSleepTick_otherClock (pins : Fin 16) (h : d.tim.current ≠ 4) : devSleepTick pins d = d := if_pos h

/-- A sleep tick advances device time and its fraction, and nothing else. -/
theorem sleepTime_eq (d : Dev) : ∃ n f, sleepTime d = { d with now := n, tim := { d.tim with frac := f } } := ⟨_, _, rfl⟩

theorem takeGstart_none (before after : Nat) (h : d.tim.gstart = none) : takeGstart before after d = ((0, false), d) := by
  rw [takeGstart, h]

/-- A sleep tick without a global start: time, then the timers, and a wake when an EVENT of this tick shows in TIM_MEVT. -/
theorem devSleepTick_counts {e : Dev} (pins : Fin 16) (hclock : d.tim.current = 4) (hstart : d.tim.gstart = none)
    (he : e = sleepTimers pins.val 0 false (wr (sleepTime d) Reg.TIM_MEVT 0)) :
    devSleepTick pins d = if rd e Reg.TIM_MEVT ≠ 0 then wakeUp (wr e Reg.TIM_MEVT (rd e Reg.TIM_MEVT ||| rd (sleepTime d) Reg.TIM_MEVT))
      else wr e Reg.TIM_MEVT (rd e Reg.TIM_MEVT ||| rd (sleepTime d) Reg.TIM_MEVT) := by
  have hnone : (sleepTime d).tim.gstart = none := by
    obtain ⟨n, f, h⟩ := sleepTime_eq d
    rw [h]
    exact hstart
  have htake := takeGstart_none d.now (sleepTime d).now hnone
  subst he
  rw [devSleepTick, if_neg (not_not_intro hclock)]
  simp only [htake, decide_eq_true_eq]

/-- At the wake device time becomes even, and only the timers change beside it. -/
theorem wakeTime_eq (d : Dev) : ∃ ts, wakeTime d = { d with now := d.now / 2 * 2, tim := { d.tim with frac := 0, timers := ts } } := by
  unfold wakeTime
  refine List.foldlRecOn (motive := fun e => ∃ ts : SMap Timer, e = { d with now := d.now / 2 * 2, tim := { d.tim with frac := 0, timers := ts } }) _ _ ⟨d.tim.timers, rfl⟩ ?_
  rintro e ⟨ts, he⟩ n _
  exact ⟨_, by rw [he]; rfl⟩

/-- TIME_500 as the clock again: a first acquisition from an even device time. -/
theorem timeWake_eq (d : Dev) : ∃ ts, timeWake d = { d with now := d.now / 2 * 2, tim := { d.tim with frac := 0, timers := ts, current := 0, requal := none, lost := none, first := true, phase := 0, stopped := false } } := by
  obtain ⟨ts, h⟩ := wakeTime_eq d
  exact ⟨_, by rw [timeWake, h]; rfl⟩

theorem devWakeRelock_wakes (hclock : d.tim.current = 4) (hcode : d.code ≠ stSleep) : devWakeRelock d = timeWake d := if_pos ⟨hclock, hcode⟩

theorem devWakeRelock_idle (h : d.tim.current ≠ 4 ∨ d.code = stSleep) : devWakeRelock d = d :=
  if_neg fun ⟨hclock, hcode⟩ => h.elim (fun h => h hclock) hcode

end Sys2Proof.Machine
end

section
/-! SUPPORT. The statements of 03_self_timed_operation.md settled: vendor requests, speed and power, and the clocks of SLEEP. -/

set_option autoImplicit false

namespace Sys2Proof.Machine

/-- Settles O43: a request is taken and checked in the order of R535, and the row of its command answers it. -/
theorem vendorRequests : Obligations.VendorRequests := by
  refine ⟨fun s q rest d hlive hdead hcur hqueue hd => ?checks, fun s q hlive hcur => ?rows⟩
  case checks =>
    have htake := devVendorMessage_takes hdead hcur hqueue hd
    have hlock : bootLocked d = bootLocked s.dev := by rw [hd]; rfl
    have hcode : d.code = s.dev.code := by rw [hd]
    rw [exec_vendorMessage, onDev_live hlive, htake]
    refine ⟨fun hversion => ?_, fun hversion hknown hlen => ?_, fun hversion hknown hlen hshut hfailed h11 h12 => ?_,
      fun hversion hknown hlen hopen hstate hflags hrsvd hstatus => ?_⟩
    · rw [firstChecks_version hversion, if_neg (by decide)]
    · rw [firstChecks_length hversion hknown hlen, if_neg (by decide)]
    · rw [firstChecks_locked hversion hknown hlen (hlock.trans hshut) (hcode ▸ hfailed) h11 h12, if_neg (by decide)]
    · rw [firstChecks_passed hversion hknown hlen (hlock ▸ hopen) hstate hflags hrsvd hstatus, if_pos rfl]
  case rows =>
    refine ⟨fun hcmd => ?_, fun hcmd => ?_, fun hcmd => ?_, fun hcmd hrsvd => ⟨fun hlog hcount hfrom => ?_, fun hlog hcount => ?_, fun hlog => ?_⟩,
      fun hcmd => ?_, fun hcmd => ⟨fun hbarrier => ?_, fun hbarrier => ?_⟩, fun hcmd hjtag hdead => ?_⟩
    · rw [exec_stateGet, onDev_live hlive, devStateGet, runCmd_current _ hcur hcmd]
    · rw [exec_telemetry, onDev_live hlive, devTelemetry, runCmd_current _ hcur hcmd]
    · rw [exec_getAlerts, onDev_live hlive, devGetAlerts, runCmd_current _ hcur hcmd]
    · rw [exec_logRead, onDev_live hlive, devLogRead_errorLog hcur hcmd hrsvd hlog hcount hfrom]
    · rw [exec_logRead, onDev_live hlive, devLogRead_auditLog hcur hcmd hrsvd hlog hcount]
    · rw [exec_logRead, onDev_live hlive, devLogRead_noLog hcur hcmd hrsvd hlog]
    · simp only [exec_sleep, onDev_live hlive, devSleep, hcur, if_pos hcmd]
    · rw [exec_wake, onDev_live hlive, devWake, runCmd_current _ hcur hcmd, wakeEvent, hbarrier, if_neg Bool.false_ne_true]
    · rw [exec_wake, onDev_live hlive, devWake, runCmd_current _ hcur hcmd, wakeEvent, if_pos hbarrier]
    · obtain ⟨hcode, hnow, hcore, hreqs, -, -, -, -⟩ := softReset_inReset 3 (finish s.dev q 0 [])
      rw [exec_reset, onDev_live hlive, devReset_current hcur hcmd]
      exact ⟨_, rfl, hcode, rfl, rfl, finish_out 0 [] hjtag hdead, hnow, hcore, hreqs⟩

/-- Settles O54: an update shows its rates and is counted, an evaluation moves every die one code or none, and each row of a regulator or a sensor case by case. -/
theorem speedAndPower : Obligations.SpeedAndPower := by
  refine ⟨fun s k rates hlive hsleep hlen => ?speed, fun s rs hlive hdead hserving hlen hready hrails => ?throttle,
    fun s k hlive => ⟨fun h => ?ready, fun h => ?awaited, fun h => ?none, fun h => ?retried, fun h => ?failed, ?brown, fun h0 h => ?fence, fun h => ?noFence⟩,
    fun d k => ⟨stepVcore_noGoal, stepVcore_up, stepVcore_down⟩, fun d k code hcode hk => ⟨commanded_commandVcore d hcode, avs_commandVcore code hk⟩,
    fun s k => ⟨fun h => ?latch, fun h => ?trip⟩⟩
  case speed =>
    have hreset := code_ne_reset_of_live hlive
    rw [exec_speedMonitorUpdate, onDev_live hlive, devSpeedMonitorUpdate_awake k hreset hsleep hlen]
    obtain ⟨hset, hmin, hcmd, r, hr⟩ := showSpeed_spec k (rates.map (fun r => r.toNat)) s.dev
    generalize showSpeed k.val (rates.map (fun r => r.toNat)) s.dev = d at hset hmin hcmd hr
    generalize (rates.map (fun r => r.toNat)).foldl min 4095 = mn at hmin
    have hpwr : d.pwr = s.dev.pwr := by rw [hr]
    obtain ⟨hframe, hcode, hcore, hsites⟩ := countSlow_frame k.val mn d
    refine ⟨_, rfl, fun m hm => ?_, ?_, hcode.trans (by rw [hr]), hcore.trans (by rw [hr]), hsites.trans (by rw [hr]), fun hk h0 => ⟨fun hlow => ?_, fun hgood => ?_⟩⟩
    · have hrate : (rates.map (fun r => r.toNat)).getD m 0 = (rates.getD m 0).toNat := List.getD_map (d := (0 : BitVec 12)) ..
      have hlt := (rates.getD m 0).isLt
      rw [rdn, hframe _ (show 0x224 < 0x240 + 32 * k.val + 4 * m by omega) (show 0x240 + 32 * k.val + 4 * m < 0xb0004 by omega), hset m hm, hrate, BitVec.toNat_ofNat]
      exact Nat.mod_eq_of_lt (hlt.trans (by decide))
    · exact (fld_congr 11 0 (hframe _ (show 0x224 < 0x2c0 + 4 * k.val by omega) (show 0x2c0 + 4 * k.val < 0xb0004 by omega))).trans hmin
    · rw [← hpwr] at hk ⊢
      exact countSlow_low hk h0 (hcmd ▸ hlow)
    · exact countSlow_good (hpwr ▸ hk) h0 (hcmd ▸ hgood)
  case throttle =>
    have hreset := code_ne_reset_of_live hlive
    rw [exec_throttleEvaluation, onDev_live hlive]
    refine ⟨fun hrule hhot hfloor => ?_, fun hrule hhot habove => ?_, fun hcool hunder hbelow => ?_⟩
    · obtain ⟨hkept, hevt, hatFloor⟩ := devThrottleEvaluation_stays hlen hreset hdead hrule hhot hfloor
      generalize devThrottleEvaluation rs s.dev = e at hkept hevt hatFloor ⊢
      exact ⟨_, rfl, hkept.commanded, hevt, hatFloor, hkept.code, hkept.core⟩
    · obtain ⟨hmoved, hevt, hcode, hcore⟩ := devThrottleEvaluation_lowers hlen hreset hdead hready hrails hrule hhot habove
      generalize devThrottleEvaluation rs s.dev = e at hmoved hevt hcode hcore ⊢
      exact ⟨_, rfl, hmoved, hevt, hcode, hcore⟩
    · have hawake : s.dev.code ≠ stSleep := by rw [hserving]; decide
      obtain ⟨hmoved, hcode, hcore⟩ := devThrottleEvaluation_raises hlen hreset hdead hready hrails hawake hcool hunder hbelow
      generalize devThrottleEvaluation rs s.dev = e at hmoved hcode hcore ⊢
      exact ⟨_, rfl, hmoved, hcode, hcore⟩
  case ready => rw [exec_avsCompletion, onDev_live hlive, devAvsCompletion_ready h]
  case awaited => rw [exec_avsCompletion, onDev_live hlive, devAvsCompletion_awaited h]
  case none => rw [exec_avsTimeout, onDev_live hlive, devAvsTimeout_idle h]
  case retried => rw [exec_avsTimeout, onDev_live hlive, devAvsTimeout_first h, setAt]
  case failed => rw [exec_avsTimeout, onDev_live hlive, devAvsTimeout_second (code_ne_reset_of_live hlive) h, setAt]
  case brown => rw [exec_brownOut, onDev_live hlive, devBrownOut, brownOut_running (code_ne_reset_of_live hlive)]
  case fence => rw [exec_thermalFence, onDev_live hlive, devThermalFence_atFloor (code_ne_reset_of_live hlive) h0 h]
  case noFence => rw [exec_thermalFence, onDev_live hlive, devThermalFence_idle h]
  case latch => rw [exec_thermtrip, onAny, devThermtrip_reset h]
  case trip => rw [exec_thermtrip, onAny, devThermtrip_running h]

/-- Settles O55: each reference lost or back, the tick of XT_32K, the relock of TIME_500, and signal on a lane, case by case. -/
theorem clocksAndSleep : Obligations.ClocksAndSleep := by
  refine ⟨fun s hcode => ⟨?sysref, fun n => ⟨fun hwas hen hset => ?lost, fun hset => ?waits, ?back, fun hwas => ?optref, fun d hd hwas => ?retrain⟩,
    fun hwas d hd => ⟨fun hsleep => ?woken, fun hsleep => ?noted⟩, fun habs => ?absent⟩,
    fun s hlive => ⟨fun hclock pins => ?idle, fun pins d hclock hstart hd e he => ?tick, fun hclock hcode => ?relock, fun h => ?stay, fun p k => ?signal⟩⟩
  case sysref => rw [exec_sysrefLoss, onAny, devSysrefLoss_running hcode]
  case lost => rw [exec_serrefLoss, onAny, devSerrefLoss_lost hcode hwas hen hset]
  case waits => rw [exec_serrefLoss, onAny, devSerrefLoss_waits hset]
  case back => rw [exec_serrefLoss, onAny, devSerrefLoss_back]
  case optref => rw [exec_optrefLoss, onAny, devOptrefLoss_lost hcode hwas]
  case retrain =>
    rw [exec_optrefLoss, onAny, devOptrefLoss_back hcode hwas hd]
    exact ⟨fun hdown hlost => by rw [if_pos ⟨hdown, hlost⟩], fun hdown => by rw [if_neg fun h => hdown h.1]⟩
  case woken => rw [exec_xt32kLoss, onAny, devXt32kLoss_lost hcode hwas hd, if_pos hsleep]
  case noted => rw [exec_xt32kLoss, onAny, devXt32kLoss_lost hcode hwas hd, if_neg hsleep]
  case absent => rw [exec_xt32kLoss, onAny, devXt32kLoss_absent habs]
  case idle => rw [exec_sleepTick, onDev_live hlive, devSleepTick_otherClock pins hclock]
  case tick =>
    obtain rfl : d = sleepTime s.dev := hd
    rw [exec_sleepTick, onDev_live hlive, devSleepTick_counts pins hclock hstart he]
    refine ⟨fun h0 => ?_, fun h0 => by rw [if_pos h0]⟩
    rw [if_neg (not_not_intro h0), h0, show (0 : W32) ||| rd (sleepTime s.dev) Reg.TIM_MEVT = rd (sleepTime s.dev) Reg.TIM_MEVT from BitVec.zero_or]
  case relock =>
    obtain ⟨ts, h⟩ := timeWake_eq s.dev
    rw [exec_wakeRelock, onDev_live hlive, devWakeRelock_wakes hclock hcode, h]
    exact ⟨_, rfl, rfl, rfl, rfl, rfl, rfl⟩
  case stay => rw [exec_wakeRelock, onDev_live hlive, devWakeRelock_idle h]
  case signal =>
    rw [exec_signalDetectWake, onDev_live hlive, devSignalDetectWake]
    refine ⟨fun hsleep => by rw [if_pos hsleep], fun hsleep hbarrier => ?_, fun hsleep hbarrier => ?_⟩
    · rw [if_neg hsleep, wakeEvent, if_pos hbarrier]
    · rw [if_neg hsleep, wakeEvent, hbarrier, if_neg Bool.false_ne_true, wakeUp_awake hsleep]

end Sys2Proof.Machine
end

section
/-! SUPPORT. Commands at the issue pointer (04 R102 to R112): a package that is awake, the word that a command finds there, the four ends of issue to a unit, and the tags that a TAGOP leaves. -/

set_option autoImplicit false

namespace Sys2Proof.Machine

/-! ### The command word at the issue pointer (04 R104, R112) -/

section
variable {s : State} {d : Dev} {i n w : Nat}

theorem awake_iff : awake d = true ↔ live d = true ∧ d.code ≠ stSleep := by
  rw [awake, Bool.and_eq_true, decide_eq_true_eq]

theorem onAwake_awake {f : Dev → Dev} (h : awake s.dev = true) : onAwake f s = .next (s.put (f s.dev)) := by
  obtain ⟨hlive, hcode⟩ := awake_iff.mp h
  rw [onAwake, onDev_live hlive, if_neg hcode]

/-- A command of the family of the word at the issue pointer acts on that word. -/
theorem withWord_atWord {fam : Nat → Bool} {f : Dev → Nat → Nat → Dev} (h : AtWord d i n w) (hfam : fam w = true) : withWord i fam f d = f d n w := by
  obtain ⟨hhalt, hrun, hst, hwait, hfetch, hcheck⟩ := h
  simp only [withWord, hhalt, hrun, hst, hwait, hfetch, hcheck, hfam, Bool.false_eq_true, ne_eq, not_true_eq_false, if_false, if_true]

theorem onAwake_atWord {fam : Nat → Bool} {f : Dev → Nat → Nat → Dev} (ha : awake s.dev = true) (h : AtWord s.dev i n w) (hfam : fam w = true) :
    onAwake (withWord i fam f) s = .next (s.put (f s.dev n w)) := by
  rw [onAwake_awake ha, withWord_atWord h hfam]

/-! ### Issue to a unit (04 R104) -/

theorem issueTo_cause {u e : Nat} {cause : Option Nat} {empty : Bool} (hc : cause = some e) :
    issueTo d i n u w cause empty = faultTask d i n e (taskAt (coreAt d i) n).issue := by subst hc; rfl

theorem issueTo_empty {u : Nat} {cause : Option Nat} {empty : Bool} (hc : cause = none) (he : empty = true) : issueTo d i n u w cause empty = advance d i n := by
  subst hc he; rfl

theorem issueTo_full (u : Nat) {cause : Option Nat} {empty : Bool} (hc : cause = none) (he : empty = false) (hq : unitDepth u ≤ (unitQ (coreAt d i) u).length) :
    issueTo d i n u w cause empty = blockTask d i n (queueCause d i u) := by subst hc he; exact if_pos hq

theorem issueTo_room (u : Nat) {cause : Option Nat} {empty : Bool} (hc : cause = none) (he : empty = false) (hq : (unitQ (coreAt d i) u).length < unitDepth u) :
    issueTo d i n u w cause empty = pump (enqueue d i n u w false) := by subst hc he; exact if_neg (Nat.not_le.mpr hq)

end

section
variable {s : State} {i : Fin 288} {n w : Nat}

theorem exec_mma_atWord (ha : awake s.dev = true) (h : AtWord s.dev i.val n w) (hfam : isFamily .mma w = true) :
    exec (.mma i) s = .next (s.put (issueTo s.dev i.val n 0 w (mmaCause (coreAt s.dev i.val) (taskAt (coreAt s.dev i.val) n) w) (decide (mmaRows w = 0 ∨ mmaTiles w = 0)))) :=
  onAwake_atWord ha h hfam

theorem exec_vop_atWord (ha : awake s.dev = true) (h : AtWord s.dev i.val n w) (hfam : isFamily .vop w = true) :
    exec (.vop i) s = .next (s.put (issueTo s.dev i.val n 1 w (vopCause s.dev i.val (taskAt (coreAt s.dev i.val) n) w) (decide (vCount w = 0)))) :=
  onAwake_atWord ha h hfam

theorem exec_dma_atWord (ha : awake s.dev = true) (h : AtWord s.dev i.val n w) (hfam : isFamily .dma w = true) :
    exec (.dma i) s = .next (s.put (issueTo s.dev i.val n 5 w (if isLocal s.dev i.val (dmaBase w) then none else some cReach) (decide (dmaN w = 0)))) :=
  onAwake_atWord ha h hfam

theorem vopCause_empty (d : Dev) (i : Nat) (t : Task) {w : Nat} (h : vCount w = 0) : vopCause d i t w = none := if_pos h

theorem issueCtx_atWord {fam : Family} (ha : awake s.dev = true) (h : AtWord s.dev i.val n w) (hfam : isFamily fam w = true)
    (hcause : ctxCause s.dev i.val (taskAt (coreAt s.dev i.val) n) w = none) (hroom : (coreAt s.dev i.val).ctx.length < 8) :
    onAwake (issueCtx fam i) s = .next (s.put (ctxGo i.val (pump (enqueue s.dev i.val n 6 w false)))) := by
  rw [onAwake_awake ha, issueCtx, withWord_atWord h hfam, issueTo_room 6 hcause rfl hroom]

/-- An EMIT whose logits are read marks its task, takes a place in the egress queue and hands the logits on (04 R123). -/
theorem devEmit_accepted {d e : Dev} {data : List Byte} (h : AtWord d i.val n w) (hfam : isFamily .emit w = true)
    (hcause : emitCause d (taskAt (coreAt d i.val) n) i.val w = none) (hroom : (coreAt d i.val).egr.length < 4)
    (hread : unitReadN d i.val n (bits w 119 96) cReach portSeA (bits w 95 88) = (.ok data, e)) :
    devEmit i d = egressTake (enqueue (modTask e i.val n (fun t => { t with emitted := true })) i.val n 7 w true)
      (taskAt (coreAt d i.val) n).req ((Fmt.ofCode (bits w 123 120)).getD .fp32) data := by
  have hq : ¬ unitDepth 7 ≤ (unitQ (coreAt d i.val) 7).length := Nat.not_le.mpr hroom
  rw [devEmit, withWord_atWord h hfam]
  simp only [hcause, if_neg hq, hread]

end

/-! ### TAGOP (04 R121, 07 R186) -/

theorem tagop_passes {d : Dev} {i n w op : Nat} {f : Skein → Nat → Skein} (h : AtWord d i n w) (hfam : isFamily .tagop w = true) (hop : bits w 123 120 = op)
    (hcause : tagopCause (coreAt d i) w = none) (hblock : blockCause d i n = none) :
    tagop op f i d = pump (advance (setSkein d i (bits w 119 114) (f (skeinAt (coreAt d i) (bits w 119 114)) w)) i n) := by
  have hw : (isFamily .tagop w && decide (bits w 123 120 = op)) = true := by rw [hfam, hop, decide_eq_true rfl]; rfl
  rw [tagop, withWord_atWord h hw]
  simp only [hcause, hblock]

/-- A tag that is set or cleared, and no other. -/
theorem full_setTag (k : Skein) (m : Nat) (v : Bool) (j : Nat) : (k.setTag m v).full j = if j = m then v else k.full j := by
  by_cases hjm : j = m
  · subst hjm
    cases v <;> by_cases hb : k.tags.testBit j = true <;> simp [Skein.setTag, Skein.full, hb]
  · have hmj : m ≠ j := Ne.symm hjm
    cases v <;> by_cases hb : k.tags.testBit m = true <;> simp [Skein.setTag, Skein.full, hb, hjm, Nat.testBit_two_pow_of_ne hmj]

theorem full_foldl_setTag_true (l : List Nat) (k : Skein) (j : Nat) : (l.foldl (fun k j => k.setTag j true) k).full j = (k.full j || l.contains j) := by
  induction l generalizing k with
  | nil => simp
  | cons m l ih =>
    rw [List.foldl_cons, ih, full_setTag, List.contains_cons]
    obtain rfl | h := eq_or_ne j m
    · simp
    · simp [h, beq_eq_false_iff_ne.mpr h]

theorem full_foldl_setTag_false (l : List Nat) (k : Skein) (j : Nat) : (l.foldl (fun k j => k.setTag j false) k).full j = (k.full j && !l.contains j) := by
  induction l generalizing k with
  | nil => simp
  | cons m l ih =>
    rw [List.foldl_cons, ih, full_setTag, List.contains_cons]
    obtain rfl | h := eq_or_ne j m
    · simp
    · simp [h, beq_eq_false_iff_ne.mpr h]

end Sys2Proof.Machine
end

section
/-! SUPPORT. The sequencer's own commands, run-ahead, and what completes (04 R102 to R108, R117 to R120; 08 R208, R220, R221): each row in the case of its own, and the context that a started pattern takes. -/

set_option autoImplicit false

namespace Sys2Proof.Machine

/-! ### The sequencer's own commands (04 R102, R106, R107, R117, R118, R120) -/

section
variable {d : Dev} {i : Fin 288} {n w : Nat}

theorem devEnd_atWord (h : AtWord d i.val n w) (hfam : isFamily .end_ w = true)
    (hemit : dRank (taskAt (coreAt d i.val) n).desc ≠ 0 ∨ (taskAt (coreAt d i.val) n).emitted = true) :
    devEnd i d = chooseTask (twinCore i.val (modCore (modTask (advance d i.val n) i.val n (fun t => { t with st := .ending })) i.val (fun c => { c with run := none }))) i.val := by
  rw [devEnd, withWord_atWord h hfam]
  exact if_neg fun ⟨hrank, hnot⟩ => hemit.elim (· hrank) (by rw [hnot]; exact Bool.false_ne_true)

theorem devYield_alone (h : AtWord d i.val n w) (hfam : isFamily .yield w = true) (hnone : bestReady (coreAt (advance d i.val n) i.val) (some n) = none) :
    devYield i d = advance d i.val n := by
  rw [devYield, withWord_atWord h hfam]
  simp only [hnone]

theorem devYield_switches {k : Nat} (h : AtWord d i.val n w) (hfam : isFamily .yield w = true) (hbest : bestReady (coreAt (advance d i.val n) i.val) (some n) = some k) :
    devYield i d = countSwitch (modCore (modTask (advance d i.val n) i.val n (fun t => { t with st := .ready })) i.val
      (fun c => { c with run := some k, last := k, tasks := modAt c.tasks k (fun t => { t with st := .running }) })) i.val := by
  rw [devYield, withWord_atWord h hfam]
  simp only [hbest]

theorem barrierWord_met {fam : Family} {j : Nat} (h : AtWord d j n w) (hfam : isFamily fam w = true) (hblock : blockCause d j n = none) :
    barrierWord fam j d = pump (advance d j n) := by
  rw [barrierWord, withWord_atWord h hfam]
  simp only [hblock]

theorem barrierWord_blocked {fam : Family} {j k : Nat} (h : AtWord d j n w) (hfam : isFamily fam w = true) (hblock : blockCause d j n = some k) :
    barrierWord fam j d = blockTask d j n k := by
  rw [barrierWord, withWord_atWord h hfam]
  simp only [hblock]

theorem devHankwait_bound (h : AtWord d i.val n w) (hfam : isFamily .hankwait w = true)
    (hwaited : (taskAt (coreAt d i.val) n).waited.contains (taskAt (coreAt d i.val) n).issue = true) : devHankwait i d = passHankwait d i.val n w := by
  rw [devHankwait, withWord_atWord h hfam]
  exact if_pos hwaited

theorem devPat_ahead (h : AtWord d i.val n w) (hfam : isFamily .pat w = true)
    (hstarted : (taskAt (coreAt d i.val) n).started.contains (taskAt (coreAt d i.val) n).issue = true) : devPat i d = pump (advance d i.val n) := by
  rw [devPat, withWord_atWord h hfam]
  exact if_pos hstarted

theorem devPat_starts {e : Dev} (h : AtWord d i.val n w) (hfam : isFamily .pat w = true)
    (hnew : (taskAt (coreAt d i.val) n).started.contains (taskAt (coreAt d i.val) n).issue = false)
    (hstart : startPat d i.val n (taskAt (coreAt d i.val) n).issue w = .started e) : devPat i d = pump (advance e i.val n) := by
  rw [devPat, withWord_atWord h hfam]
  simp only [hnew, hstart, Bool.false_eq_true, if_false]

end

/-! ### Run-ahead (04 R105; 07 R200; 08 R208) -/

section
variable {d e : Dev} {i : Fin 288} {n : Fin 8} {pos w : Nat}

theorem devHankwaitStart_starts (hruns : runsAhead d i.val n.val = true) (hahead : aheadOf d i.val n.val = some (pos, w)) (hfam : wFamily w = some .hankwait)
    (hcause : hankwaitCause d (taskAt (coreAt d i.val) n.val) w = none) (hstart : startHankwait d i.val n.val pos w = some e) : devHankwaitStart i n d = pump e := by
  have hbegin : beginHankwait d i.val n.val pos w = .started e := by simp only [beginHankwait, hcause, hstart]
  simp only [devHankwaitStart, hruns, hahead, hfam, hbegin, Bool.not_true, Bool.false_eq_true, ne_eq, not_true_eq_false, if_false]

theorem devPatternStart_starts (hruns : runsAhead d i.val n.val = true) (hahead : aheadOf d i.val n.val = some (pos, w)) (hfam : wFamily w = some .pat)
    (hstart : startPat d i.val n.val pos w = .started e) : devPatternStart i n d = pump e := by
  simp only [devPatternStart, hruns, hahead, hfam, hstart, Bool.not_true, Bool.false_eq_true, ne_eq, not_true_eq_false, if_false]

end

@[simp] theorem coreAt_modCore_same (d : Dev) (i : Nat) (f : Core → Core) : coreAt (modCore d i f) i = f (coreAt d i) := coreAt_setCore_same _ _ _

theorem ctxAt_setCtx_same (d : Dev) (i e x : Nat) (p : PatCtx) : ctxAt (coreAt (setCtx d i e x p) i) e x = p := by
  rw [setCtx, coreAt_modCore_same]
  exact smGet_smSet_same _ _ _ _

theorem ctxAt_modTask (d : Dev) (i n e x : Nat) (f : Task → Task) : ctxAt (coreAt (modTask d i n f) i) e x = ctxAt (coreAt d i) e x := by
  rw [modTask, coreAt_modCore_same]
  rfl

/-! ### The context of a started pattern (08 R207, R208, R223) -/

/-- A skein with the role that a pattern of an engine takes on it: SE_W (2) consumes, the others produce. -/
def takeRole (k : Skein) (e : Nat) (r : Role) : Skein := if e = 2 then { k with cons := some r } else { k with prod := some r }

theorem takeRole_base (k : Skein) (e : Nat) (r : Role) : (takeRole k e r).base = k.base := by unfold takeRole; split <;> rfl

theorem takeRole_cmdLen (k : Skein) (e : Nat) (r : Role) : (takeRole k e r).cmdLen = k.cmdLen := by unfold takeRole; split <;> rfl

theorem taskAt_setSkein (d : Dev) (i k n : Nat) (v : Skein) : taskAt (coreAt (setSkein d i k v) i) n = taskAt (coreAt d i) n := by
  rw [setSkein, coreAt_modCore_same]
  rfl

theorem skeinAt_setSkein (d : Dev) (i k j : Nat) (v : Skein) : skeinAt (coreAt (setSkein d i k v) i) j = if j = k then v else skeinAt (coreAt d i) j := by
  rw [setSkein, coreAt_modCore_same]
  exact smGet_smSet _ _ _ _ _

section
variable (d : Dev) (i k e n : Nat) (r : Role)

/-- The package after a pattern has taken its role on a skein of a core. -/
def withRole : Dev := setSkein d i k (takeRole (skeinAt (coreAt d i) k) e r)

/-- A role moves no skein: the command words of a task stay where they are. -/
theorem cmdSkein_withRole (t : Task) : (cmdSkein (coreAt (withRole d i k e r) i) t).base = (cmdSkein (coreAt d i) t).base ∧
    (cmdSkein (coreAt (withRole d i k e r) i) t).cmdLen = (cmdSkein (coreAt d i) t).cmdLen := by
  rw [withRole, cmdSkein, cmdSkein, skeinAt_setSkein]
  split
  case isTrue hk => rw [hk]; exact ⟨takeRole_base _ _ _, takeRole_cmdLen _ _ _⟩
  case isFalse => exact ⟨rfl, rfl⟩

theorem taskAt_withRole : taskAt (coreAt (withRole d i k e r) i) n = taskAt (coreAt d i) n := taskAt_setSkein ..

theorem peekWord_withRole (pos : Nat) : peekWord (withRole d i k e r) i n pos = peekWord d i n pos := by
  obtain ⟨hbase, hlen⟩ := cmdSkein_withRole d i k e r (taskAt (coreAt d i) n)
  simp only [peekWord, wordIndex, taskAt_withRole, hbase, hlen]
  rfl

theorem pairAfter_withRole (hb fuel pos : Nat) : pairAfter (withRole d i k e r) i n hb fuel pos = pairAfter d i n hb fuel pos := by
  induction fuel generalizing pos with
  | zero => rfl
  | succ fuel ih => simp only [pairAfter, peekWord_withRole, ih]

theorem pairBefore_withRole (hb pos : Nat) : pairBefore (withRole d i k e r) i n hb pos = pairBefore d i n hb pos := by
  induction pos with
  | zero => rfl
  | succ pos ih => simp only [pairBefore, peekWord_withRole, ih]

theorem pairOf_withRole (pos w : Nat) : pairOf (withRole d i k e r) i n pos w = pairOf d i n pos w := by
  simp only [pairOf, taskAt_withRole, (cmdSkein_withRole d i k e r _).2, pairAfter_withRole, pairBefore_withRole]

end

/-- The context of a pattern with BASE_SEL 0 as it starts: running, at its ENTRY, with its registers 0. -/
def plainContext (d : Dev) (i n pos w : Nat) : PatCtx :=
  { st := 1, task := n, pos := pos, skein := bits w 113 108, entry := bits w 121 114, pc := bits w 121 114, base := bits w 104 81, arg := bits w 80 49, hb := bits w 106 105,
    pairPos := (pairOf d i n pos w).getD 0 }

/-- A pattern with BASE_SEL 0 starts in a free context of its engine. -/
theorem startPat_plain {d d' : Dev} {i n pos w : Nat} (h : startPat d i n pos w = .started d') (hsel : w.testBit 107 = false) :
    ∃ x < 8, (ctxAt (coreAt d i) (bits w 123 122) x).st = 0 ∧ ∃ e f, d' = modTask (setCtx e i (bits w 123 122) x (plainContext d i n pos w)) i n f := by
  unfold startPat at h
  by_cases hroom : (!patRoom (coreAt d i) i n w) = true
  · cases (if_pos hroom).symm.trans h
  replace h := (if_neg hroom).symm.trans h
  cases hcause : patCause d i n pos w with
  | some c => simp only [hcause, reduceCtorEq] at h
  | none =>
    simp only [hcause] at h
    by_cases hrole : (if bits w 123 122 = 2 then (skeinAt (coreAt d i) (bits w 113 108)).cons else (skeinAt (coreAt d i) (bits w 113 108)).prod).isSome = true
    · cases (if_pos hrole).symm.trans h
    replace h := (if_neg hrole).symm.trans h
    cases hfree : (List.range 8).find? (fun x => decide ((ctxAt (coreAt d i) (bits w 123 122) x).st = 0)) with
    | none => simp only [hfree, reduceCtorEq] at h
    | some x =>
      simp only [hfree, hsel, Bool.not_false, if_true] at h
      refine ⟨x, List.mem_range.mp (List.mem_of_find?_eq_some hfree), by simpa using List.find?_some hfree,
        withRole d i (bits w 113 108) (bits w 123 122) { site := i, slot := n, unit := 2 + bits w 123 122, pos := pos }, fun t => { t with started := t.started ++ [pos] }, ?_⟩
      rw [plainContext, ← pairOf_withRole d i (bits w 113 108) (bits w 123 122) n { site := i, slot := n, unit := 2 + bits w 123 122, pos := pos }]
      exact (Start.started.inj h).symm

/-! ### Completion (04 R103, R108, R118; 08 R220, R221) -/

theorem devUnitCommandComplete_done {d : Dev} {i : Fin 288} {u : Fin 8} {q : QCmd} {r : List QCmd} (hq : unitQ (coreAt d i.val) u.val = q :: r) (hdone : q.done = true) :
    devUnitCommandComplete i u d = ctxGo i.val (pump (twinCore i.val (setCore d i.val (setUnitQ (coreAt d i.val) u.val r)))) := by
  simp only [devUnitCommandComplete, hq, hdone, if_true]

/-- An instruction that is not reserved runs in the context that its engine serves next. -/
theorem patInstr_atInstr {d : Dev} {i e x w op : Nat} {f : Dev → PatCtx → Nat → Dev} (h : AtInstr d i e x w) (hop : bits w 31 27 = op) :
    patInstr i e x op f d = f (served d i e x) (ctxAt (coreAt d i) e x) w := by
  obtain ⟨hnext, hstuck, hword, hres⟩ := h
  simp only [patInstr, hnext, hstuck, hword, hres, hop, ne_eq, not_true_eq_false, Bool.false_eq_true, or_self, if_false]

theorem devSlotStepComplete_steps {d : Dev} {i : Fin 288} {e : Fin 3} {x : Fin 8} {p : PatCtx} (hp : ctxAt (coreAt d i.val) e.val x.val = p) (hst : p.st ≠ 0) (hstep : p.stepPending = true)
    (hfault : (taskAt (coreAt d i.val) p.task).fault = none) :
    devSlotStepComplete i e x d = pump (setCtx (setSkein d i.val p.skein
      (if e.val = 2 then (skeinAt (coreAt d i.val) p.skein).consStep else (skeinAt (coreAt d i.val) p.skein).prodStep)) i.val e.val x.val { p with stepPending := false }) := by
  subst hp
  have hgo : ¬((ctxAt (coreAt d i.val) e.val x.val).st = 0 ∨ (ctxAt (coreAt d i.val) e.val x.val).stepPending = false ∨
      (taskAt (coreAt d i.val) (ctxAt (coreAt d i.val) e.val x.val).task).fault.isSome = true) := by simp [hst, hstep, hfault]
  exact if_neg hgo

section
variable {d : Dev} {i : Fin 288} {n : Fin 8}

theorem devTaskEndComplete_rank (hst : (taskAt (coreAt d i.val) n.val).st = .ending) (hbusy : anyBusy (coreAt d i.val) n.val = false)
    (hrank : dRank (taskAt (coreAt d i.val) n.val).desc ≠ 0) :
    devTaskEndComplete i n d = ctxAll (pump (freeSlot (twinCore i.val d) i.val n.val)) := by
  simp only [devTaskEndComplete, hst, hbusy, hrank, ne_eq, not_true_eq_false, Bool.false_eq_true, or_self, if_false]

theorem devTaskEndComplete_clean (hst : (taskAt (coreAt d i.val) n.val).st = .ending) (hbusy : anyBusy (coreAt d i.val) n.val = false)
    (hrank : dRank (taskAt (coreAt d i.val) n.val).desc = 0)
    (hclean : (coreAt d i.val).held.find? (fun h => h.claimed && h.dirty && decide (h.slot = n.val) && h.leaving.isNone) = none) :
    devTaskEndComplete i n d = ctxAll (pump (freeSlot (endClaim (twinCore i.val d) (taskAt (coreAt d i.val) n.val).req) i.val n.val)) := by
  simp only [devTaskEndComplete, hst, hbusy, hrank, hclean, ne_eq, not_true_eq_false, Bool.false_eq_true, or_self, if_false, if_true]

end

end Sys2Proof.Machine
end

section
/-! SUPPORT. Faults of tasks (04 R125 to R127; 06 R162; 07 R194): an abort and its record, a deadline, and the two timeouts, each row in the case of its own. -/

set_option autoImplicit false

namespace Sys2Proof.Machine

/-! ### Aborts (04 R125, R129) -/

theorem devTaskAbort_marked {d : Dev} {i : Fin 288} {n : Fin 8} {t : Task} {cause word : Nat} (ht : taskAt (coreAt d i.val) n.val = t) (hfault : t.fault = some (cause, word)) :
    devTaskAbort i n d = ctxAll (pump (freeSlot (recordAbort (groupDecide (takeOff d i.val n.val) t.req i.val cause) i.val n.val t cause word) i.val n.val)) := by
  subst ht
  simp only [devTaskAbort, hfault]

section
variable (d : Dev) (i n : Nat) (t : Task) (cause word : Nat)

theorem rd_recordAbort_pc : rd (recordAbort d i n t cause word) (Reg.CORE_ABORT_PC i) = BitVec.ofNat 32 (word % 2 ^ 24) := by
  rw [recordAbort, rd_elog_ne _ _ _ _ _ _ (show 0x100054 + 4096 * i ≠ 0xb0004 by omega) (show 0x100054 + 4096 * i ≠ 0x14 by omega), inc32,
    rd_wr_ne _ _ (show 0x100054 + 4096 * i ≠ 0x100058 + 4096 * i by omega), rd_wr_same]

theorem rd_recordAbort_count : rd (recordAbort d i n t cause word) (Reg.CORE_ABORT_COUNT i) = rd d (Reg.CORE_ABORT_COUNT i) + 1 := by
  rw [recordAbort, rd_elog_ne _ _ _ _ _ _ (show 0x100058 + 4096 * i ≠ 0xb0004 by omega) (show 0x100058 + 4096 * i ≠ 0x14 by omega), inc32, rd_wr_same,
    rd_wr_ne _ _ (show 0x100058 + 4096 * i ≠ 0x100054 + 4096 * i by omega), rd_wr_ne _ _ (show 0x100058 + 4096 * i ≠ 0x100050 + 4096 * i by omega)]

theorem recordAbort_frame : (recordAbort d i n t cause word).core = d.core ∧ (recordAbort d i n t cause word).rvp = d.rvp ∧ (recordAbort d i n t cause word).mem = d.mem := by
  simp only [recordAbort, inc32, elog_core, elog_rvp, elog_mem, wr_core, wr_rvp, wr_mem, and_self]

end

/-! ### Deadlines (04 R127) -/

section
variable {d : Dev} {h : Nat} {r : Req}

theorem devDeadlineExpiry_early (hr : reqAt d h = some r) (hnow : d.now < r.deadline) : devDeadlineExpiry h d = d := by
  simp only [devDeadlineExpiry, hr, hnow, true_or, if_true]

theorem devDeadlineExpiry_dispatched (hr : reqAt d h = some r) (hdue : ¬(d.now < r.deadline ∨ d.code = stHalted)) (hst : r.st = .dispatched ∨ r.st = .held) (hemit : r.emitted = false) :
    devDeadlineExpiry h d = r.tasks.foldl (fun d t => faultTask d t.2.1 t.2.2 cDeadline (taskAt (coreAt d t.2.1) t.2.2).issue) (fallReqAt d h 1 r.deadline) := by
  obtain hst | hst := hst <;> simp only [devDeadlineExpiry, hr, if_neg hdue, hst, hemit, Bool.false_eq_true, if_false]

theorem devDeadlineExpiry_waiting (hr : reqAt d h = some r) (hdue : ¬(d.now < r.deadline ∨ d.code = stHalted)) (hst : r.st = .queued ∨ r.st = .ready) (hrel : r.released = false)
    (hretry : r.retried = false) : devDeadlineExpiry h d = fallReqAt d h 3 r.deadline := by
  obtain hst | hst := hst <;> simp only [devDeadlineExpiry, hr, if_neg hdue, hst, hrel, hretry, Bool.false_and, Bool.false_eq_true, if_false]

end

/-! ### SKEIN_TIMEOUT (07 R194) -/

/-- The skein's TIMEOUT has passed for a wait that began at a time: it is not the hank skein, and its TIMEOUT is not 0. -/
def waitLate (d : Dev) (since : Nat) (x : Nat × Nat) : Bool :=
  decide (x.2 ≠ 63) && decide ((skeinAt (coreAt d x.1) x.2).timeout ≠ 0) && decide (since + 1000 * (skeinAt (coreAt d x.1) x.2).timeout < d.now)

/-- The package with the TIMEOUT_EVT of a skein set. -/
def setTimeoutEvt (d : Dev) (c k : Nat) : Dev := setSkein d c k { skeinAt (coreAt d c) k with evt := true }

section
variable {d : Dev} {i : Fin 288} {u : TagWaiter} {n pos since c k : Nat}

theorem devSkeinTimeout_early (hhalt : siteHalted d i.val = false) (hwait : waitsOn d i.val u = some ⟨n, pos, since, [(c, k)]⟩) (hlate : waitLate d since (c, k) = false) :
    devSkeinTimeout i u d = d := by
  simp only [waitLate] at hlate
  simp only [devSkeinTimeout, hhalt, hwait, List.filter_cons, List.filter_nil, hlate, Bool.false_eq_true, if_false, List.isEmpty_nil, if_true]

theorem devSkeinTimeout_expired (hhalt : siteHalted d i.val = false) (hwait : waitsOn d i.val u = some ⟨n, pos, since, [(c, k)]⟩) (hlate : waitLate d since (c, k) = true) (hu : u ≠ .dma) :
    devSkeinTimeout i u d = faultTask (setTimeoutEvt d c k) i.val n cSkeinTimeout pos := by
  simp only [waitLate] at hlate
  simp only [devSkeinTimeout, hhalt, hwait, List.filter_cons, List.filter_nil, hlate, Bool.false_eq_true, if_false, if_true, List.isEmpty_cons, List.foldl_cons, List.foldl_nil]
  split
  · exact absurd rfl hu
  · rfl

theorem devSkeinTimeout_dma {q : QCmd} {ring : Nat × Bool} (hhalt : siteHalted d i.val = false) (hwait : waitsOn d i.val .dma = some ⟨n, pos, since, [(c, k)]⟩)
    (hlate : waitLate d since (c, k) = true) (hhead : (coreAt (setTimeoutEvt d c k) i.val).dma.head? = some q) (hring : q.desc.bind (fun y => y.ring) = some ring) :
    devSkeinTimeout i .dma d = dmaFault (setTimeoutEvt d c k) i.val q 10 cSkeinTimeout ring.1 := by
  simp only [waitLate] at hlate
  simp only [setTimeoutEvt] at hhead
  simp only [devSkeinTimeout, hhalt, hwait, List.filter_cons, List.filter_nil, hlate, hhead, hring, Bool.false_eq_true, if_false, if_true, List.isEmpty_cons, List.foldl_cons, List.foldl_nil, setTimeoutEvt, Option.elim_some]

end

/-! ### REMOTE_TIMEOUT (06 R162) -/

theorem devRemoteTimeout_expired {d : Dev} {i target : Fin 288} {u x : Fin 8} {n pos : Nat} (hexec : executing (coreAt d i.val) u.val x.val = some (n, pos)) (htarget : target ≠ i)
    (hservice : inService d target.val = true) (hglobal : dGlobal (taskAt (coreAt d i.val) n).desc = true) (hlate : ∀ a, stuckFor d i.val u.val x.val = some a → a.since + 10000 ≤ d.now) :
    devRemoteTimeout i u x target d =
      disagree (faultTask (clearStuck d (fun a => decide (a.site = i.val) && decide (a.unit = u.val) && decide (a.ctx = x.val))) i.val n cRemote pos) target.val 2 := by
  have hpassed : (stuckFor d i.val u.val x.val).any (fun a => decide (d.now < a.since + 10000)) = false := by
    cases hs : stuckFor d i.val u.val x.val with
    | none => rfl
    | some a => exact decide_eq_false (Nat.not_lt.mpr (hlate a hs))
  simp only [devRemoteTimeout, hexec, htarget, hservice, hglobal, hpassed, Bool.true_eq_false, Bool.false_eq_true, or_self, if_false]

end Sys2Proof.Machine
end

section
/-! SUPPORT. Dispatch, hank delivery and spares (04 R99, R100; 06 R177; 07 R199; 16 R446, R447; 02 R56): each row in the case of its own. -/

set_option autoImplicit false

namespace Sys2Proof.Machine

/-! ### TASK_DISPATCH (04 R99, R100; 16 R446, R447) -/

/-- The package with the group of a request placed and the request dispatched. -/
def placeGroup (d : Dev) (h : Nat) (r : Req) (im : Image) (ms : List Member) : Dev :=
  modReq ((ms.map (fun x => (x, descFor d h r im ms.length x))).foldl (fun d x => placeTask d h x.1 x.2) d) h
    (fun r => { r with st := .dispatched, group := ms.length, tasks := ms.map (fun x => (x.rank, x.site, x.slot)) })

/-- What a dispatch of a FAST model notes: where rank 0 went, and the group's size. -/
def noteGroup (d : Dev) (m : Nat) (ms : List Member) : Dev :=
  setFld (setModel d (m + 1) { modelAt d (m + 1) with lastRank0 := (ms.head?.map (fun y => y.canon + 1)).getD (modelAt d (m + 1)).lastRank0 }) (Reg.DET_MODEL_FAST_G m) 24 16 ms.length

section
variable {d : Dev} {m : Fin 16} {h : Nat} {r : Req} {im : Image} (hhead : headReady d (m.val + 1) = some (h, r)) (hactive : (modelAt d (m.val + 1)).active = some im)
include hhead hactive

theorem devTaskDispatch_misses (hmiss : misses d r im d.now = true) : devTaskDispatch m d = tooLate d h im := by
  simp only [devTaskDispatch, hhead, hactive, hmiss, if_true]

theorem devTaskDispatch_atLimit (hmiss : misses d r im d.now = false) (hlimit : im.cohort ≤ cohortNow d (m.val + 1)) : devTaskDispatch m d = d := by
  simp only [devTaskDispatch, hhead, hactive, hmiss, if_pos hlimit, Bool.false_eq_true, if_false]

section
variable {ms : List Member} (hmiss : misses d r im d.now = false) (hroom : cohortNow d (m.val + 1) < im.cohort)
  (hgroup : (if im.fast then fastGroup d r im else exactGroup d im) = some ms)
include hmiss hroom hgroup

theorem devTaskDispatch_exact (hfast : im.fast = false) : devTaskDispatch m d = placeGroup d h r im ms := by
  simp only [hfast, Bool.false_eq_true, if_false] at hgroup
  simp only [devTaskDispatch, hhead, hactive, hmiss, if_neg (Nat.not_le.mpr hroom), hgroup, hfast, Bool.false_eq_true, if_false, placeGroup]

theorem devTaskDispatch_fast (hfast : im.fast = true) :
    devTaskDispatch m d = (let e := noteGroup (placeGroup d h r im ms) m.val ms
      if ms.length = fastTarget e im then e else evt (cntInc (cntInc e Reg.DET_CHOICE_LO) (Reg.DET_MODEL_CHOICE_LO m.val)) Reg.DET_EVT 0) := by
  simp only [hfast, if_true] at hgroup
  simp only [devTaskDispatch, hhead, hactive, hmiss, if_neg (Nat.not_le.mpr hroom), hgroup, hfast, Bool.false_eq_true, if_false, if_true]
  rfl

end

end

/-! ### HANK_DELIVERY (07 R199) -/

/-- The oldest delivery that waits, for one core alone, leaves the queue. -/
theorem devHankDelivery_last {d : Dev} {i : Fin 288} {x : Delivery} {r : List Delivery} (hq : d.ring.deliver = x :: r) (hsites : x.sites = [i.val]) (hx : x ∉ r) :
    devHankDelivery i d = pump (removedSweep (x.hanks.foldl (fun d h => deliverTo d i.val x.model x.lap h) { d with ring := { d.ring with deliver := r } })) := by
  have hfind : (x :: r).find? (fun y => y.sites.contains i.val) = some x := List.find?_cons_of_pos (by simp [hsites])
  have hrest : r.filterMap (fun y => if y = x then (if (y.sites.filter (fun k => decide (k ≠ i.val))).isEmpty then none else some { y with sites := y.sites.filter (fun k => decide (k ≠ i.val)) }) else some y) = r := by
    refine (List.filterMap_congr fun y hy => ?_).trans List.filterMap_some
    rw [if_neg fun h : y = x => hx (h ▸ hy)]
  have hleft : (x.sites.filter (fun k => decide (k ≠ i.val))).isEmpty = true := by simp [hsites]
  simp only [devHankDelivery, hq, hfind, List.filterMap_cons, hleft, hrest, if_true]

/-! ### Spares (02 R56; 06 R177) -/

section
variable {d : Dev} {i : Fin 288} {c : Nat} {x : SiteInfo} (hx : siteInfo d i.val = x) (hst : x.st = .promoting) (hcanon : x.canon = some c) (hfence : x.mgmtFence = false)
include hx hst hcanon hfence

/-- A refill that ended well and could read every region that its spare needs makes the spare LIVE; one that could not leaves it PROMOTING. -/
theorem devSpareRefillComplete_good {e f : Dev} {whole : Bool}
    (he : setCore (setSite d i.val { x with st := .live, promoted := true }) i.val { skeins := [(63, hankSkeinDef d c)] } = e) (hrefill : refillFrom c (installed e) e = (whole, f)) :
    devSpareRefillComplete i true d = if whole then
        restate (rewriteStore (elog 3 1 0x0104 i.val c (cntInc { f with wdn := { f.wdn with canonSite := smPut c (some i.val) f.wdn.canonSite } } (Reg.WDN_CNT_LO 3))) c)
      else setCore (setSite f i.val x) i.val {} := by
  subst hx
  unfold devSpareRefillComplete
  dsimp only
  split
  next c' _ hc' =>
    obtain rfl : c = c' := Option.some.inj (hcanon.symm.trans hc')
    rw [if_neg (by rw [hfence]; exact Bool.false_ne_true), if_neg (by decide), he, hrefill]
    cases whole <;> rfl
  next hno => exact absurd hcanon (hno c hst)

theorem devSpareRefillComplete_bad : devSpareRefillComplete i false d = fenceSite d i.val 6 false := by
  simp only [devSpareRefillComplete, hx, hst, hcanon, hfence, Bool.not_false, Bool.false_eq_true, if_false, if_true]

end

theorem devSpareTest_passed (i : Fin 288) (d : Dev) : devSpareTest i true d = d := rfl

theorem devSpareTest_spare {d : Dev} {i : Fin 288} (hst : (siteInfo d i.val).st = .spare) :
    devSpareTest i false d = elog 1 1 0x0105 i.val 0 (setSite d i.val { siteInfo d i.val with st := .spareFailed }) := by
  simp only [devSpareTest, hst, Bool.false_eq_true, if_false]

theorem devSpareTest_promoting {d e : Dev} {i : Fin 288} {c : Nat} (hst : (siteInfo d i.val).st = .promoting) (hcanon : (siteInfo d i.val).canon = some c)
    (he : elog 1 1 0x0105 i.val 0 (setSite d i.val { siteInfo d i.val with st := .spareFailed, canon := none }) = e) :
    devSpareTest i false d = promote e c ((siteOfCanon e.part c).getD i.val) := by
  simp only [devSpareTest, hst, hcanon, Bool.false_eq_true, if_false, he]

end Sys2Proof.Machine
end

section
/-! SUPPORT. The actions that clear counters and fault registers (04 R129; 06 R179; 08 R235; 09 R268; 16 R467): the writes that management may make, and what each group of actions leaves. -/

set_option autoImplicit false

namespace Sys2Proof.Machine

/-! ### Writes in a site's frame (02 R52) -/

theorem siteWrite_open {f : Dev → Dev} {d : Dev} {i : Fin 288} (h : mgmtOpen d = true) (hf : isFused d.part i.val = false) : siteWrite i f d = f d := by
  rw [siteWrite, h, hf]
  rfl

theorem siteWrite_fused {f : Dev → Dev} {d : Dev} {i : Fin 288} (hf : isFused d.part i.val = true) : siteWrite i f d = d := by
  rw [siteWrite, hf, Bool.not_true, Bool.and_false]
  rfl

theorem onDev_siteWrite_open {f : Dev → Dev} {s : State} {i : Fin 288} (hlive : live s.dev = true) (hopen : mgmtOpen s.dev = true) (hf : isFused s.dev.part i.val = false) :
    onDev (siteWrite i f) s = .next (s.put (f s.dev)) := by
  rw [onDev_live hlive, siteWrite_open hopen hf]

theorem onDev_siteWrite_fused {f : Dev → Dev} {s : State} {i : Fin 288} (hlive : live s.dev = true) (hf : isFused s.dev.part i.val = true) : onDev (siteWrite i f) s = .next s := by
  rw [onDev_live hlive, siteWrite_fused hf]

theorem onDev_byWrite_open {f : Dev → Dev} {s : State} (hlive : live s.dev = true) (hopen : mgmtOpen s.dev = true) : onDev (byWrite f) s = .next (s.put (f s.dev)) := by
  rw [onDev_live hlive, byWrite_open hopen]

/-! ### Ranges of counters, and pairs of registers -/

/-- The commands that clear `n` 64-bit counters from an address, and nothing else. -/
def ClearsCounters (d : Dev) (c : Instr) (a n : Nat) : Prop :=
  (∃ i : Fin 288, isFused d.part i.val = false ∧ ((c = .clrSwitch i ∧ a = Reg.CORE_SWITCH_LO i.val ∧ n = 1) ∨ (c = .clrStall i ∧ a = Reg.CORE_STALL_LO i.val 0 ∧ n = 6) ∨
    (c = .clrWrFirst i ∧ a = Reg.CORE_SPAD_WR_FIRST_LO i.val ∧ n = 1) ∨ (c = .clrWords i ∧ a = Reg.CORE_SE_WORDS_LO i.val 0 ∧ n = 3) ∨ (c = .clrBytes i ∧ a = Reg.CORE_DMA_BYTES_LO i.val ∧ n = 1))) ∨
  (c = .lapClrCnt ∧ a = Reg.LAP_CNT_LO 0 ∧ n = 13) ∨ (∃ u : Fin 12, c = .xmemClrCnt u ∧ a = xreg u.val 0x080 ∧ n = 10) ∨ (c = .rvpClrCnt ∧ a = Reg.RVP_CNT_LO 0 ∧ n = 17) ∨
  (c = .fcsClrCnt ∧ a = Reg.FCS_CNT_LO 0 ∧ n = 15) ∨ (c = .wdnClrCnt ∧ a = Reg.WDN_CNT_LO 0 ∧ n = 8) ∨ (c = .elogClrCnt ∧ a = Reg.ELOG_CNT_LO 0 ∧ n = 7)

theorem exec_clearsCounters {s : State} {c : Instr} {a n : Nat} (hlive : live s.dev = true) (hopen : mgmtOpen s.dev = true) (h : ClearsCounters s.dev c a n) :
    exec c s = .next (s.put (cntClrN s.dev a n)) := by
  obtain ⟨i, hf, ⟨rfl, rfl, rfl⟩ | ⟨rfl, rfl, rfl⟩ | ⟨rfl, rfl, rfl⟩ | ⟨rfl, rfl, rfl⟩ | ⟨rfl, rfl, rfl⟩⟩ |
    ⟨rfl, rfl, rfl⟩ | ⟨u, rfl, rfl, rfl⟩ | ⟨rfl, rfl, rfl⟩ | ⟨rfl, rfl, rfl⟩ | ⟨rfl, rfl, rfl⟩ | ⟨rfl, rfl, rfl⟩ := h
  iterate 5 exact onDev_siteWrite_open hlive hopen hf
  iterate 6 exact onDev_byWrite_open hlive hopen

/-- The commands that clear two 32-bit registers of a core's frame, and nothing else. -/
def ClearsPair (d : Dev) (c : Instr) (a b : Nat) : Prop :=
  ∃ i : Fin 288, isFused d.part i.val = false ∧ ((c = .clrAbort i ∧ a = Reg.CORE_ABORT_LAST i.val ∧ b = Reg.CORE_ABORT_COUNT i.val) ∨ (c = .clrInfo i ∧ a = Reg.CORE_SPAD_ERR_INFO i.val ∧ b = Reg.CORE_SPAD_ERR_SYN i.val) ∨
    (c = .clrCount i ∧ a = Reg.CORE_SPAD_CE_COUNT i.val ∧ b = Reg.CORE_SPAD_UE_COUNT i.val) ∨ (c = .seClrFault i ∧ a = Reg.CORE_SE_FAULT i.val ∧ b = Reg.CORE_SE_FAULT_ADDR i.val))

theorem exec_clearsPair {s : State} {c : Instr} {a b : Nat} (hlive : live s.dev = true) (hopen : mgmtOpen s.dev = true) (h : ClearsPair s.dev c a b) :
    exec c s = .next (s.put (wr (wr s.dev a 0) b 0)) := by
  obtain ⟨i, hf, ⟨rfl, rfl, rfl⟩ | ⟨rfl, rfl, rfl⟩ | ⟨rfl, rfl, rfl⟩ | ⟨rfl, rfl, rfl⟩⟩ := h
  iterate 4 exact onDev_siteWrite_open hlive hopen hf

/-- Two registers written with 0: both read 0, and no other register changes. -/
theorem rd_wr_zero_pair (d : Dev) (a b : Nat) :
    rd (wr (wr d a 0) b 0) a = 0 ∧ rd (wr (wr d a 0) b 0) b = 0 ∧ ∀ x, x ≠ a → x ≠ b → rd (wr (wr d a 0) b 0) x = rd d x := by
  refine ⟨?_, rd_wr_same _ _ _, fun x ha hb => by rw [rd_wr_ne _ _ hb, rd_wr_ne _ _ ha]⟩
  obtain rfl | hab := eq_or_ne a b
  · exact rd_wr_same _ _ _
  · rw [rd_wr_ne _ _ hab, rd_wr_same]

theorem rd_cntClr (d : Dev) (a b : Nat) : rd (cntClr d a) b = rd d b := rfl

theorem dmaClrFault_spec (i : Nat) (d : Dev) : rd (dmaClrFault i d) (Reg.CORE_DMA_FAULT i) = 0 ∧ cnt (dmaClrFault i d) (Reg.CORE_DMA_FAULT_ADDR_LO i) = 0 ∧
    (∀ x, x ≠ Reg.CORE_DMA_FAULT i → rd (dmaClrFault i d) x = rd d x) ∧ ∀ x, x ≠ Reg.CORE_DMA_FAULT_ADDR_LO i → cnt (dmaClrFault i d) x = cnt d x := by
  simp only [dmaClrFault, rd_cntClr]
  exact ⟨rd_wr_same _ _ _, cnt_cntClr_same _ _, fun x hx => rd_wr_ne _ _ hx, fun x hx => by rw [cnt_cntClr_ne _ hx, cnt_wr]⟩

/-! ### The counters of a link (09 R268) -/

/-- The three counts of a lane cleared. -/
def clearLane (p : Nat) (d : Dev) (n : Nat) : Dev := wr (wr (wr d (Reg.LNK_LANE_CORR p n) 0) (Reg.LNK_LANE_UNCORR p n) 0) (Reg.LNK_LANE_LOL p n) 0

theorem clearLane_same (p : Nat) (d : Dev) (n : Nat) :
    rd (clearLane p d n) (Reg.LNK_LANE_CORR p n) = 0 ∧ rd (clearLane p d n) (Reg.LNK_LANE_UNCORR p n) = 0 ∧ rd (clearLane p d n) (Reg.LNK_LANE_LOL p n) = 0 := by
  have hcu : Reg.LNK_LANE_CORR p n ≠ Reg.LNK_LANE_UNCORR p n := show 0x30104 + 32768 * p + 16 * n ≠ 0x30108 + 32768 * p + 16 * n by omega
  have hcl : Reg.LNK_LANE_CORR p n ≠ Reg.LNK_LANE_LOL p n := show 0x30104 + 32768 * p + 16 * n ≠ 0x3010c + 32768 * p + 16 * n by omega
  have hul : Reg.LNK_LANE_UNCORR p n ≠ Reg.LNK_LANE_LOL p n := show 0x30108 + 32768 * p + 16 * n ≠ 0x3010c + 32768 * p + 16 * n by omega
  exact ⟨by rw [clearLane, rd_wr_ne _ _ hcl, rd_wr_ne _ _ hcu, rd_wr_same], by rw [clearLane, rd_wr_ne _ _ hul, rd_wr_same], rd_wr_same _ _ _⟩

/-- A register below the counts of a lane is not among them. -/
theorem rd_clearLane_below (p : Nat) (d : Dev) {n a : Nat} (h : a < Reg.LNK_LANE_CORR p n) : rd (clearLane p d n) a = rd d a := by
  have h' : a < 0x30104 + 32768 * p + 16 * n := h
  rw [clearLane, rd_wr_ne _ _ (show a ≠ 0x3010c + 32768 * p + 16 * n by omega), rd_wr_ne _ _ (show a ≠ 0x30108 + 32768 * p + 16 * n by omega), rd_wr_ne _ _ (show a ≠ 0x30104 + 32768 * p + 16 * n by omega)]

theorem rd_clearLanes (p : Nat) (d : Dev) {N n : Nat} (h : n < N) : rd ((List.range N).foldl (clearLane p) d) (Reg.LNK_LANE_CORR p n) = 0 ∧
    rd ((List.range N).foldl (clearLane p) d) (Reg.LNK_LANE_UNCORR p n) = 0 ∧ rd ((List.range N).foldl (clearLane p) d) (Reg.LNK_LANE_LOL p n) = 0 := by
  induction N with
  | zero => omega
  | succ N ih =>
    rw [List.range_succ, List.foldl_concat]
    obtain rfl | hlt := Nat.eq_or_lt_of_le (Nat.lt_succ_iff.mp h)
    · exact clearLane_same p _ _
    · rw [rd_clearLane_below _ _ (show 0x30104 + 32768 * p + 16 * n < 0x30104 + 32768 * p + 16 * N by omega), rd_clearLane_below _ _ (show 0x30108 + 32768 * p + 16 * n < 0x30104 + 32768 * p + 16 * N by omega),
        rd_clearLane_below _ _ (show 0x3010c + 32768 * p + 16 * n < 0x30104 + 32768 * p + 16 * N by omega)]
      exact ih hlt

theorem cnt_clearLanes (p : Nat) (d : Dev) (N a : Nat) : cnt ((List.range N).foldl (clearLane p) d) a = cnt d a := foldl_keeps (f := fun d => cnt d a) (g := clearLane p) (fun _ _ => rfl) _ _

theorem ports_clearLanes (p : Nat) (d : Dev) (N : Nat) : ((List.range N).foldl (clearLane p) d).ports = d.ports := foldl_keeps (f := Dev.ports) (g := clearLane p) (fun _ _ => rfl) _ _

theorem lnkClrCnt_spec (p : Nat) (d : Dev) : (∀ k, k < 13 → cnt (lnkClrCnt p d) (Reg.LNK_CNT_LO p k) = 0) ∧
    (∀ n, n < 17 → rd (lnkClrCnt p d) (Reg.LNK_LANE_CORR p n) = 0 ∧ rd (lnkClrCnt p d) (Reg.LNK_LANE_UNCORR p n) = 0 ∧ rd (lnkClrCnt p d) (Reg.LNK_LANE_LOL p n) = 0) ∧
    (lnkClrCnt p d).ports = d.ports := by
  have heq : lnkClrCnt p d = (List.range 17).foldl (clearLane p) (cntClrN d (Reg.LNK_CNT_LO p 0) 13) := rfl
  obtain ⟨hzero, _, ⟨r, hr⟩, _⟩ := cntClrN_spec d (Reg.LNK_CNT_LO p 0) 13
  rw [heq]
  exact ⟨fun k hk => (cnt_clearLanes p _ 17 _).trans (hzero k hk).1, fun n hn => rd_clearLanes p _ hn, (ports_clearLanes p _ 17).trans (by rw [hr])⟩

/-! ### The counters of the determinism block (16 R467) -/

/-- The two counters of a model cleared. -/
def clearModel (d : Dev) (m : Nat) : Dev := cntClr (cntClr d (Reg.DET_MODEL_LATE_LO m)) (Reg.DET_MODEL_CHOICE_LO m)

theorem cnt_clearModel_below (d : Dev) {m a : Nat} (h : a < Reg.DET_MODEL_LATE_LO m) : cnt (clearModel d m) a = cnt d a := by
  have h' : a < 0xa0428 + 32 * m := h
  rw [clearModel, cnt_cntClr_ne _ (show a ≠ 0xa0430 + 32 * m by omega), cnt_cntClr_ne _ (show a ≠ 0xa0428 + 32 * m by omega)]

theorem cnt_clearModels_below (d : Dev) {a : Nat} (h : a < 0xa0428) (N : Nat) : cnt ((List.range N).foldl clearModel d) a = cnt d a :=
  foldl_keeps (f := fun d => cnt d a) (fun d m => cnt_clearModel_below d (show a < 0xa0428 + 32 * m by omega)) _ _

theorem cnt_clearModels (d : Dev) {N m : Nat} (h : m < N) : cnt ((List.range N).foldl clearModel d) (Reg.DET_MODEL_LATE_LO m) = 0 ∧ cnt ((List.range N).foldl clearModel d) (Reg.DET_MODEL_CHOICE_LO m) = 0 := by
  induction N with
  | zero => omega
  | succ N ih =>
    rw [List.range_succ, List.foldl_concat]
    obtain rfl | hlt := Nat.eq_or_lt_of_le (Nat.lt_succ_iff.mp h)
    · rw [clearModel, cnt_cntClr_ne _ (show 0xa0428 + 32 * m ≠ 0xa0430 + 32 * m by omega)]
      exact ⟨cnt_cntClr_same _ _, cnt_cntClr_same _ _⟩
    · rw [cnt_clearModel_below _ (show 0xa0428 + 32 * m < 0xa0428 + 32 * N by omega), cnt_clearModel_below _ (show 0xa0430 + 32 * m < 0xa0428 + 32 * N by omega)]
      exact ih hlt

theorem rd_clearModels (d : Dev) (N a : Nat) : rd ((List.range N).foldl clearModel d) a = rd d a := foldl_keeps (f := fun d => rd d a) (g := clearModel) (fun _ _ => rfl) _ _

theorem det_clearModels (d : Dev) (N : Nat) : ((List.range N).foldl clearModel d).det = d.det := foldl_keeps (f := Dev.det) (g := clearModel) (fun _ _ => rfl) _ _

/-- The counters of the determinism block that are not a model's, cleared. -/
def clearDet (d : Dev) : Dev := wr (cntClrN (cntClrN (cntClr d Reg.DET_CHOICE_LO) (Reg.DET_TIMING_LO 0) 5) (Reg.DET_TWIN_CNT_LO 0) 6) Reg.DET_AUDIT_DROP 0

theorem cnt_clearDet (d : Dev) : cnt (clearDet d) Reg.DET_CHOICE_LO = 0 ∧ (∀ k, k < 5 → cnt (clearDet d) (Reg.DET_TIMING_LO k) = 0) ∧ ∀ k, k < 6 → cnt (clearDet d) (Reg.DET_TWIN_CNT_LO k) = 0 := by
  obtain ⟨htiming, hother, _⟩ := cntClrN_spec (cntClr d Reg.DET_CHOICE_LO) (Reg.DET_TIMING_LO 0) 5
  obtain ⟨htwin, hrest, _⟩ := cntClrN_spec (cntClrN (cntClr d Reg.DET_CHOICE_LO) (Reg.DET_TIMING_LO 0) 5) (Reg.DET_TWIN_CNT_LO 0) 6
  refine ⟨?_, fun k hk => ?_, fun k hk => ?_⟩ <;> rw [clearDet, cnt_wr]
  · rw [hrest _ fun k _ => show 0xa0000 ≠ 0xa0080 + 8 * 0 + 8 * k by omega, hother _ fun k _ => show 0xa0000 ≠ 0xa0040 + 8 * 0 + 8 * k by omega, cnt_cntClr_same]
  · rw [hrest _ fun j _ => show 0xa0040 + 8 * k ≠ 0xa0080 + 8 * 0 + 8 * j by omega]
    exact (htiming k hk).1
  · exact (htwin k hk).1

theorem clearDet_det (d : Dev) : (clearDet d).det = d.det := by
  obtain ⟨_, _, ⟨r, hr⟩, _⟩ := cntClrN_spec (cntClr d Reg.DET_CHOICE_LO) (Reg.DET_TIMING_LO 0) 5
  obtain ⟨_, _, ⟨q, hq⟩, _⟩ := cntClrN_spec (cntClrN (cntClr d Reg.DET_CHOICE_LO) (Reg.DET_TIMING_LO 0) 5) (Reg.DET_TWIN_CNT_LO 0) 6
  rw [clearDet, wr_det, hq, hr]
  rfl

theorem detClrCnt_spec (d : Dev) : cnt (detClrCnt d) Reg.DET_CHOICE_LO = 0 ∧ (∀ k, k < 5 → cnt (detClrCnt d) (Reg.DET_TIMING_LO k) = 0) ∧ (∀ k, k < 6 → cnt (detClrCnt d) (Reg.DET_TWIN_CNT_LO k) = 0) ∧
    rd (detClrCnt d) Reg.DET_AUDIT_DROP = 0 ∧ (∀ m, m < 16 → cnt (detClrCnt d) (Reg.DET_MODEL_LATE_LO m) = 0 ∧ cnt (detClrCnt d) (Reg.DET_MODEL_CHOICE_LO m) = 0) ∧ (detClrCnt d).det = d.det := by
  have heq : detClrCnt d = (List.range 16).foldl clearModel (clearDet d) := rfl
  obtain ⟨hchoice, htiming, htwin⟩ := cnt_clearDet d
  rw [heq]
  refine ⟨(cnt_clearModels_below _ (by decide) 16).trans hchoice, fun k hk => (cnt_clearModels_below _ (show 0xa0040 + 8 * k < 0xa0428 by omega) 16).trans (htiming k hk),
    fun k hk => (cnt_clearModels_below _ (show 0xa0080 + 8 * k < 0xa0428 by omega) 16).trans (htwin k hk), (rd_clearModels _ 16 _).trans (by rw [clearDet, rd_wr_same]),
    fun m hm => cnt_clearModels _ hm, (det_clearModels _ 16).trans (clearDet_det d)⟩

end Sys2Proof.Machine
end

section
/-! SUPPORT. The statements of 04_core_and_commands.md settled: issue and its ends, TAGOPs, the sequencer, run-ahead, completions, faults, dispatch and spares, and the clearing actions. -/

set_option autoImplicit false

namespace Sys2Proof.Machine

/-- Settles O10: each command's issue checks pass and its queue has room. -/
theorem commandsQueued : Obligations.CommandsQueued := by
  refine ⟨fun s i n w ha h hfam hcause hrows htiles hroom => ?mma, fun s i n w ha h hfam hcause hcount hroom => ?vop, fun s i n w ha h hfam hlocal hdesc hroom => ?dma,
    fun s i n w => issueCtx_atWord, fun s i n w => issueCtx_atWord, fun s i n w data d ha h hfam hcause hroom hread => ?emit⟩
  case mma => rw [exec_mma_atWord ha h hfam, issueTo_room 0 hcause (decide_eq_false (not_or.mpr ⟨hrows, htiles⟩)) hroom]
  case vop => rw [exec_vop_atWord ha h hfam, issueTo_room 1 hcause (decide_eq_false hcount) hroom]
  case dma => rw [exec_dma_atWord ha h hfam, issueTo_room 5 (if_pos hlocal) (decide_eq_false hdesc) hroom]
  case emit => rw [exec_emit, onAwake_awake ha, devEmit_accepted h hfam hcause hroom hread]

/-- Settles O11: the checks pass and nothing is queued. -/
theorem emptyCommands : Obligations.EmptyCommands := by
  refine ⟨fun s i n w ha h hfam hcause hempty => ?mma, fun s i n w ha h hfam hcount => ?vop, fun s i n w ha h hfam hlocal hdesc => ?dma⟩
  case mma => rw [exec_mma_atWord ha h hfam, issueTo_empty hcause (decide_eq_true hempty)]
  case vop => rw [exec_vop_atWord ha h hfam, issueTo_empty (vopCause_empty _ _ _ hcount) (decide_eq_true hcount)]
  case dma => rw [exec_dma_atWord ha h hfam, issueTo_empty (if_pos hlocal) (decide_eq_true hdesc)]

/-- Settles O12: the check that fails gives the cause of the abort; a full queue gives that of the block. -/
theorem issueRefused : Obligations.IssueRefused := by
  refine ⟨fun s i n w e ha h hfam hcause => ?mma, fun s i n w e ha h hfam hcause => ?vop, fun s i n w ha h hfam hlocal => ?dma,
    fun s i n w ha h hfam hcause hrows htiles hfull => ?mmaFull, fun s i n w ha h hfam hcause hcount hfull => ?vopFull, fun s i n w ha h hfam hlocal hdesc hfull => ?dmaFull⟩
  case mma => rw [exec_mma_atWord ha h hfam, issueTo_cause hcause]
  case vop => rw [exec_vop_atWord ha h hfam, issueTo_cause hcause]
  case dma => rw [exec_dma_atWord ha h hfam, issueTo_cause (if_neg (by rw [hlocal]; exact Bool.false_ne_true))]
  case mmaFull => rw [exec_mma_atWord ha h hfam, issueTo_full 0 hcause (decide_eq_false (not_or.mpr ⟨hrows, htiles⟩)) hfull]
  case vopFull => rw [exec_vop_atWord ha h hfam, issueTo_full 1 hcause (decide_eq_false hcount) hfull]
  case dmaFull => rw [exec_dma_atWord ha h hfam, issueTo_full 5 (if_pos hlocal) (decide_eq_false hdesc) hfull]

/-- Settles O13: each TAGOP passes with its own change of the tags; setting or clearing tags is by induction on the slots named. -/
theorem tagOps : Obligations.TagOps := by
  refine ⟨fun s i n w ha h hfam hcause hblock => ?_, fun k w j => ⟨full_foldl_setTag_true _ k j, full_foldl_setTag_false _ k j⟩⟩
  have hpass (op : Nat) (f : Skein → Nat → Skein) (hop : bits w 123 120 = op) : onAwake (tagop op f i.val) s =
      .next (s.put (pump (advance (setSkein s.dev i.val (bits w 119 114) (f (skeinAt (coreAt s.dev i.val) (bits w 119 114)) w)) i.val n))) := by
    rw [onAwake_awake ha, tagop_passes h hfam hop hcause hblock]
  exact ⟨hpass 0 _, hpass 1 _, hpass 2 _, hpass 3 _, hpass 4 _⟩

/-- Settles O14: each command at the issue pointer, in the case that its hypotheses name. -/
theorem sequencerCommands : Obligations.SequencerCommands := by
  intro s i n w ha h
  refine ⟨fun hfam hemit => ?end_, fun hfam hnone => ?alone, fun k hfam hbest => ?switch, fun hfam hblock => ?depmark, fun hfam hblock => ?lbar,
    fun k hfam hblock => ?depmarkBlocked, fun k hfam hblock => ?lbarBlocked, fun hfam hwaited => ?hankwait, fun hfam hstarted => ?patAhead, fun d hfam hnew hstart => ?pat⟩
  case end_ => rw [exec_endTask, onAwake_awake ha, devEnd_atWord h hfam hemit]
  case alone => rw [exec_yield, onAwake_awake ha, devYield_alone h hfam hnone]
  case switch => rw [exec_yield, onAwake_awake ha, devYield_switches h hfam hbest]
  case depmark => rw [exec_depmark, onAwake_awake ha, devDepmark, barrierWord_met h hfam hblock]
  case lbar => rw [exec_lbar, onAwake_awake ha, devLbar, barrierWord_met h hfam hblock]
  case depmarkBlocked => rw [exec_depmark, onAwake_awake ha, devDepmark, barrierWord_blocked h hfam hblock]
  case lbarBlocked => rw [exec_lbar, onAwake_awake ha, devLbar, barrierWord_blocked h hfam hblock]
  case hankwait => rw [exec_hankwait, onAwake_awake ha, devHankwaitTwin, devHankwait_bound h hfam hwaited]
  case patAhead => rw [exec_pat, onAwake_awake ha, devPat_ahead h hfam hstarted]
  case pat => rw [exec_pat, onAwake_awake ha, devPat_starts h hfam hnew hstart]

/-- Settles O15: the two rows of run-ahead, and the context that a pattern with BASE_SEL 0 starts in. -/
theorem runAheadStarts : Obligations.RunAheadStarts := by
  refine ⟨fun s i n pos w d ha hruns hahead hfam hcause hstart => ?hankwait, fun s i n pos w d ha hruns hahead hfam hstart => ?pattern, fun d d' i n pos w hstart hsel => ?context⟩
  case hankwait => rw [exec_hankwaitStart, onAwake_awake ha, devHankwaitStartRow, devHankwaitStart_starts hruns hahead hfam hcause hstart]
  case pattern => rw [exec_patternStart, onAwake_awake ha, devPatternStart_starts hruns hahead hfam hstart]
  case context =>
    obtain ⟨x, hx, hfree, e, f, rfl⟩ := startPat_plain hstart hsel
    exact ⟨x, hx, hfree, by rw [ctxAt_modTask, ctxAt_setCtx_same, plainContext]⟩

/-- Settles O16: each completion in the case that its hypotheses name. -/
theorem completions : Obligations.Completions := by
  refine ⟨fun s i u q r ha hq hdone => ?unit, fun s i e x ha h => ?pattern, fun s i e x p ha hp hst hstep hfault => ?slot, fun s i n ha hst hbusy hrank => ?rank,
    fun s i n ha hst hbusy hrank hclean => ?clean⟩
  case unit => rw [exec_unitCommandComplete, onAwake_awake ha, devUnitCommandComplete_done hq hdone]
  case pattern => rw [exec_patternEnd, onAwake_awake ha, devPatternEndTwin, devPatternEnd, patInstr_atInstr h (by decide)]
  case slot => rw [exec_slotStepComplete, onAwake_awake ha, devSlotStepComplete_steps hp hst hstep hfault]
  case rank => rw [exec_taskEndComplete, onAwake_awake ha, devTaskEndComplete_rank hst hbusy hrank]
  case clean => rw [exec_taskEndComplete, onAwake_awake ha, devTaskEndComplete_clean hst hbusy hrank hclean]

/-- Settles O17: the abort and its record; a deadline before and after it has come; each timeout with the instant on which it turns. -/
theorem taskFaults : Obligations.TaskFaults := by
  refine ⟨fun s i n cause word t ha ht hfault => ?abort, fun d i n cause word t _ => ?record, fun s h r hlive hr hdue hcode => ?deadline, fun s h r hlive hr hnow => ?early,
    fun s i u n pos since c k ha hhalt hwait hk htime => ?skein, fun s i target u x n pos ha hexec htarget hservice hglobal hlate => ?remote⟩
  case abort => rw [exec_taskAbort, onAwake_awake ha, devTaskAbort_marked ht hfault]
  case record => exact ⟨rd_recordAbort_pc d i n t cause word, rd_recordAbort_count d i n t cause word, recordAbort_frame d i n t cause word⟩
  case deadline =>
    have hcome : ¬(s.dev.now < r.deadline ∨ s.dev.code = stHalted) := not_or.mpr ⟨Nat.not_lt.mpr hdue, hcode⟩
    refine ⟨fun hst hemit => ?_, fun hst hrel hretry => ?_⟩
    · rw [exec_deadlineExpiry, onDev_live hlive, devDeadlineExpiry_dispatched hr hcome hst hemit]
    · rw [exec_deadlineExpiry, onDev_live hlive, devDeadlineExpiry_waiting hr hcome hst hrel hretry]
  case early => rw [exec_deadlineExpiry, onDev_live hlive, devDeadlineExpiry_early hr hnow]
  case skein =>
    have hlate : waitLate s.dev since (c, k) = decide (since + 1000 * (skeinAt (coreAt s.dev c) k).timeout < s.dev.now) := by
      rw [waitLate, decide_eq_true hk, decide_eq_true htime, Bool.true_and, Bool.true_and]
    refine ⟨fun hwithin => ?_, fun hover hu => ?_, fun q ring hover hu hhead hring => ?_⟩
    · rw [exec_skeinTimeout, onAwake_awake ha, devSkeinTimeout_early hhalt hwait (hlate.trans (decide_eq_false (Nat.not_lt.mpr hwithin)))]
    · rw [exec_skeinTimeout, onAwake_awake ha, devSkeinTimeout_expired hhalt hwait (hlate.trans (decide_eq_true hover)) hu, setTimeoutEvt]
    · subst hu
      rw [exec_skeinTimeout, onAwake_awake ha, devSkeinTimeout_dma hhalt hwait (hlate.trans (decide_eq_true hover)) hhead hring, setTimeoutEvt]
  case remote => rw [exec_remoteTimeout, onAwake_awake ha, devRemoteTimeout_expired hexec htarget hservice hglobal hlate]

/-- Settles O19: each row in the case that its hypotheses name. -/
theorem dispatchAndSpares : Obligations.DispatchAndSpares := by
  refine ⟨fun s m h r im ha hhead hactive => ⟨fun hmiss => ?misses, fun hmiss hlimit => ?limit, fun ms d hmiss hroom hgroup hd => ⟨fun hfast => ?exact, fun e hfast he => ?fast⟩⟩,
    fun s i x r ha hq hsites hx => ?hank, fun s i c x e f whole hlive hx hst hcanon hfence he hrefill => ⟨fun hwhole => ?whole, fun hpart => ?part, ?bad⟩,
    fun s i => ?passed, fun s i hlive => ⟨fun hst => ?spare, fun c hst hcanon => ?promoting⟩⟩
  case misses => rw [exec_taskDispatch, onAwake_awake ha, devTaskDispatch_misses hhead hactive hmiss]
  case limit => rw [exec_taskDispatch, onAwake_awake ha, devTaskDispatch_atLimit hhead hactive hmiss hlimit]
  case exact => rw [exec_taskDispatch, onAwake_awake ha, devTaskDispatch_exact hhead hactive hmiss hroom hgroup hfast, ← hd, placeGroup]
  case fast =>
    have hnote : noteGroup (placeGroup s.dev h r im ms) m.val ms = e := by rw [placeGroup, hd, noteGroup, he]
    rw [exec_taskDispatch, onAwake_awake ha, devTaskDispatch_fast hhead hactive hmiss hroom hgroup hfast, hnote]
    exact ⟨fun hsize => by rw [if_pos hsize], fun hsize => by rw [if_neg hsize]⟩
  case hank => rw [exec_hankDelivery, onAwake_awake ha, devHankDelivery_last hq hsites hx]
  case whole => rw [exec_spareRefillComplete, onDev_live hlive, devSpareRefillComplete_good hx hst hcanon hfence he hrefill, if_pos hwhole]
  case part => rw [exec_spareRefillComplete, onDev_live hlive, devSpareRefillComplete_good hx hst hcanon hfence he hrefill, if_neg (by rw [hpart]; exact Bool.false_ne_true)]
  case bad => rw [exec_spareRefillComplete, onDev_live hlive, devSpareRefillComplete_bad hx hst hcanon hfence]
  case passed => rw [exec_spareTest, onDev]; simp only [devSpareTest_passed, ite_self]
  case spare => rw [exec_spareTest, onDev_live hlive, devSpareTest_spare hst]
  case promoting => rw [exec_spareTest, onDev_live hlive, devSpareTest_promoting hst hcanon rfl]

/-- Settles O50: ranges of counters, pairs of registers, and the actions that clear more than one range. -/
theorem clearActions : Obligations.ClearActions := by
  intro s hlive hopen
  refine ⟨fun c a n h => ?counters, fun c a b h => ?pair, fun i hf => ?dma, fun i hf c hc => ?fused, fun p => ?link, ?det⟩
  case counters =>
    obtain ⟨hzero, hother, ⟨r, hr⟩, hval⟩ := cntClrN_spec s.dev a n
    exact ⟨_, exec_clearsCounters hlive hopen h, hzero, hother, hval, by rw [hr], by rw [hr]⟩
  case pair =>
    obtain ⟨ha, hb, hother⟩ := rd_wr_zero_pair s.dev a b
    exact ⟨_, exec_clearsPair hlive hopen h, ha, hb, hother, rfl, rfl, rfl⟩
  case dma => exact ⟨_, onDev_siteWrite_open hlive hopen hf, dmaClrFault_spec i.val s.dev⟩
  case fused =>
    simp only [List.mem_cons, List.not_mem_nil, or_false] at hc
    obtain rfl | rfl | rfl | rfl | rfl | rfl | rfl | rfl | rfl | rfl := hc
    iterate 10 exact onDev_siteWrite_fused hlive hf
  case link => exact ⟨_, onDev_byWrite_open hlive hopen, lnkClrCnt_spec p.val s.dev⟩
  case det => exact ⟨_, onDev_byWrite_open hlive hopen, detClrCnt_spec s.dev⟩

end Sys2Proof.Machine
end

section
/-! SUPPORT. Cycles of a scratchpad bank (06 R163 to R173): words as the memory holds them, a write with no injection armed, a request alone at its bank, and the scrubber's read. -/

set_option autoImplicit false

namespace Sys2Proof.Machine

/-! ### Runs of bytes read back -/

theorem memRead_eq_map (m : List Host.Cell) (a n : Nat) : memRead m a n = (List.range n).map (fun k => memByte m (a + k)) := by
  induction n generalizing a with
  | zero => rfl
  | succ n ih => simp [memRead, ih, List.range_succ_eq_map, Nat.add_assoc, Nat.add_comm 1]

theorem memRead_memWrite_same (m : List Host.Cell) (a : Nat) (bs : List Byte) : memRead (memWrite m a bs) a bs.length = bs := by
  rw [memRead_eq_map]
  refine List.ext_getElem (by simp) (fun k _ hk => ?_)
  rw [List.getElem_map, List.getElem_range, memByte_memWrite_in m a bs k hk]

theorem memRead_memWrite_disjoint (m : List Host.Cell) {a b n : Nat} {bs : List Byte} (h : b + n ≤ a ∨ a + bs.length ≤ b) : memRead (memWrite m a bs) b n = memRead m b n := by
  simp only [memRead_eq_map]
  refine List.map_congr_left (fun k hk => memByte_memWrite_out m a bs (b + k) ?_)
  have hk := List.mem_range.mp hk
  omega

/-! ### Words of a slice (06 R163, R164, R168) -/

section
variable {d : Dev} {i w : Nat} {data : List Byte}

theorem injectInto_unarmed (weight : Bool) (h : (rd d (Reg.CORE_SPAD_INJECT i)).getLsbD 31 = false) :
    injectInto d i w weight = { d with mem := { d.mem with inj := smSet false d.mem.inj (wordKey i w) false } } := by
  simp only [injectInto, h, Bool.false_and, Bool.false_eq_true, if_false]

/-- A write with no injection armed leaves the memory as `putWord` does, but for the record of injections. -/
theorem storeWord_unarmed (weight : Bool) (h : (rd d (Reg.CORE_SPAD_INJECT i)).getLsbD 31 = false) :
    (storeWord d i w data weight).mem = { (putWord d i w data weight).mem with inj := smSet false d.mem.inj (wordKey i w) false } := by
  simp only [storeWord]
  split <;> exact congrArg Dev.mem (injectInto_unarmed weight (by exact h))

theorem touchHeld_unheld (w : Nat) (h : (coreAt d i).held = []) : touchHeld d i w = d := by
  simp only [touchHeld, h, List.find?_nil]

theorem padTo_length (bs : List Byte) : padTo bs.length bs = bs := by simp [padTo]

/-- A whole word written in a core that holds no flow context, with no injection armed. -/
theorem writeWord_mem (weight : Bool) (hlen : data.length = 64) (hheld : (coreAt d i).held = []) (h : (rd d (Reg.CORE_SPAD_INJECT i)).getLsbD 31 = false) :
    (writeWord d i w data weight).mem = { (putWord d i w data weight).mem with inj := smSet false d.mem.inj (wordKey i w) false } := by
  rw [writeWord, touchHeld_unheld w hheld, ← hlen, padTo_length, storeWord_unarmed weight h]

theorem wordKey_inj {j v : Nat} (hw : w < 32768) (hv : v < 32768) (h : (j, v) ≠ (i, w)) : wordKey j v ≠ wordKey i w := by
  simp only [wordKey, ne_eq, Prod.mk.injEq] at h ⊢
  omega

/-- What a whole word written reads as: its bytes, its class, no error, and every other word as before. -/
theorem writeWord_reads (weight : Bool) (hlen : data.length = 64) (hw : w < 32768) (hheld : (coreAt d i).held = []) (h : (rd d (Reg.CORE_SPAD_INJECT i)).getLsbD 31 = false) :
    rawWord (writeWord d i w data weight) i w = data ∧ isWeight (writeWord d i w data weight) i w = weight ∧ wordErr (writeWord d i w data weight) i w = {} ∧
      ∀ j v, (j, v) ≠ (i, w) → v < 32768 → rawWord (writeWord d i w data weight) j v = rawWord d j v := by
  simp only [rawWord, isWeight, wordErr, writeWord_mem weight hlen hheld h, putWord]
  refine ⟨?bytes, smGet_smSet_same .., smGet_smSet_same .., fun j v hne hv => memRead_memWrite_disjoint _ ?apart⟩
  case bytes => rw [← hlen, memRead_memWrite_same]
  case apart =>
    have hkey := wordKey_inj hw hv hne
    simp only [wordAddr]
    omega

theorem rawWord_congr {e : Dev} (h : e.mem = d.mem) (j v : Nat) : rawWord e j v = rawWord d j v := by rw [rawWord, rawWord, h]

theorem wordErr_congr {e : Dev} (h : e.mem = d.mem) (j v : Nat) : wordErr e j v = wordErr d j v := by rw [wordErr, wordErr, h]

theorem readWord_clean (source cls : Nat) (h : wordErr d i w = {}) : readWord d i w source cls = (some (rawWord d i w), d) := if_pos h

end

/-! ### A request alone at its bank (06 R156, R173) -/

section
variable {d : Dev} {i : Nat} {x : BankReq}

theorem port_ne_scrubber (h : bankReqOk x = true) : x.port ≠ 9 := by
  intro hport
  simp [bankReqOk, hport] at h

theorem poseReqs_alone {c : Core} (hbank : c.bank = []) (hlocked : c.locked = []) (h : bankReqOk x = true) : poseReqs c (bankOf x.word.val) [x] = [x] := by
  simp [poseReqs, hbank, hlocked, h]

theorem chooseReq_alone : chooseReq i [x] none d = (some x, d) := by
  cases hx : x.write with
  | false => simp [chooseReq, pickEqual, hx]
  | true => by_cases hring : x.port = 7 <;> simp [chooseReq, pickEqual, hx, hring]

theorem bankTurn_alone (hbank : (coreAt d i).bank = [x]) (hlocked : (coreAt d i).locked = []) (hwait : (coreAt d i).scrubWait = none) (hport : x.port ≠ 9) :
    bankTurn i (bankOf x.word.val) none d = (false, performReq i x (modCore d i (fun c => { c with bank := [] }))) := by
  have hstarved : scrubStarved d i = false := by simp only [scrubStarved, hwait]
  simp [bankTurn, hlocked, hbank, hstarved, chooseReq_alone, hport, modCore]

/-- A request that arrives at a bank with nothing pending is performed there and then: in a package with the same memories, registers and core. -/
theorem bankCycle_alone (hbank : (coreAt d i).bank = []) (hlocked : (coreAt d i).locked = []) (hwait : (coreAt d i).scrubWait = none) (h : bankReqOk x = true) :
    ∃ e, bankCycle i (bankOf x.word.val) [x] none d = performReq i x e ∧ e.mem = d.mem ∧ e.regs = d.regs ∧ coreAt e i = coreAt d i := by
  have hturn := bankTurn_alone (d := modCore d i (fun c => { c with bank := [x] })) (i := i) (x := x) (by simp) (by simp [hlocked]) (by simp [hwait]) (port_ne_scrubber h)
  refine ⟨modCore (modCore d i (fun c => { c with bank := [x] })) i (fun c => { c with bank := [] }), ?_, rfl, rfl, ?_⟩
  · simp only [bankCycle, modCore, poseReqs_alone hbank hlocked h] at hturn ⊢
    rw [hturn]
  · simp [← hbank]

theorem performReq_write (hrmw : x.rmw = false) (hwrite : x.write = true) : performReq i x d = writeWord d i x.word.val x.data (x.weight || decide (x.port = 7)) := by
  simp only [performReq, hrmw, hwrite, Bool.false_eq_true, if_false, if_true]

theorem performReq_read (hrmw : x.rmw = false) (hwrite : x.write = false) (herr : wordErr d i x.word.val = {}) :
    performReq i x d = modCore d i (fun c => { c with bankOut := c.bankOut.filter (fun y => decide (y.1 ≠ x.port.val)) ++ [(x.port.val, rawWord d i x.word.val)] }) := by
  simp only [performReq, hrmw, hwrite, Bool.false_eq_true, if_false, readWord_clean _ _ herr]

end

/-! ### The scrubber (06 R170) -/

section
variable {d : Dev} {i : Nat}

theorem scrubStep_clean (hwait : (coreAt d i).scrubWait = none) (herr : wordErr d i (scrubNext d i) = {}) :
    scrubStep i d = if scrubNext d i = 32767 then
        setFld (setFld d (Reg.CORE_SPAD_SCRUB i) 31 16 (fld d (Reg.CORE_SPAD_SCRUB i) 31 16 + 1)) (Reg.CORE_SPAD_SCRUB i) 14 0 0
      else setFld d (Reg.CORE_SPAD_SCRUB i) 14 0 (scrubNext d i + 1) := by
  simp only [scrubStep, readWord_clean _ _ herr, hwait, if_true]

theorem scrubRead_idle (h : ∀ x ∈ (coreAt d i).bank ++ (coreAt d i).locked, bankOf x.word.val ≠ bankOf (scrubNext d i)) : scrubRead i d = scrubStep i d :=
  if_neg (by simpa [or_imp, forall_and] using h)

theorem scrubRead_busy {x : BankReq} (hx : x ∈ (coreAt d i).bank) (hbank : bankOf x.word.val = bankOf (scrubNext d i)) (hwait : (coreAt d i).scrubWait = none) :
    scrubRead i d = setCore d i { coreAt d i with scrubWait := some d.now } := by
  have hbusy : ((coreAt d i).bank ++ (coreAt d i).locked).any (fun x => decide (bankOf x.word.val = bankOf (scrubNext d i))) = true :=
    List.any_eq_true.mpr ⟨x, List.mem_append_left _ hx, decide_eq_true hbank⟩
  simp only [scrubRead, hbusy, hwait, if_true]

end

end Sys2Proof.Machine
end

section
/-! SUPPORT. The statements of 06_scratchpad.md settled: a bank's write and read, and the scrubber's read. -/

set_option autoImplicit false

namespace Sys2Proof.Machine

/-- Settles O18: a request alone at its bank is performed in the cycle in which it arrives, and the scrubber reads when the bank is free. -/
theorem scratchpadCycles : Obligations.ScratchpadCycles := by
  refine ⟨fun s i x ha hbank hlocked hheld hwait hok hrmw => ?cycle, fun s i w ha hw hfree hwait herr => ?scrub, fun s i x ha hx hbank hwait => ?busy⟩
  case cycle =>
    obtain ⟨e, hcycle, hmem, hregs, hcore⟩ := bankCycle_alone (d := s.dev) hbank hlocked hwait hok
    have hdev : devBankCycle i ⟨x.word.val % 64, Nat.mod_lt _ (by decide)⟩ [x] none s.dev = performReq i.val x e := hcycle
    rw [exec_bankCycle, onAwake_awake ha, Option.map_none, hdev]
    refine ⟨fun hwrite hlen harm => ⟨_, rfl, ?write⟩, fun hwrite herr => ⟨_, rfl, ?read⟩⟩
    case write =>
      obtain ⟨hraw, hclass, hclean, hother⟩ := writeWord_reads (d := e) (i := i.val) (x.weight || decide (x.port = 7)) hlen x.word.isLt (by rw [hcore, hheld]) (by rw [rd, hregs]; exact harm)
      rw [performReq_write hrmw hwrite]
      exact ⟨hraw, hclass, hclean, fun j v hne hv => (hother j v hne hv).trans (rawWord_congr hmem j v)⟩
    case read =>
      rw [performReq_read hrmw hwrite ((wordErr_congr hmem _ _).trans herr), rawWord_congr hmem]
      exact ⟨by simp, hmem, hregs⟩
  case scrub =>
    have hnext : scrubNext s.dev i.val = w := hw
    subst hnext
    rw [exec_scrubRead, onAwake_awake ha, devScrubRead, scrubRead_idle hfree, scrubStep_clean hwait herr]
    exact ⟨fun hlt => by rw [if_neg (Nat.ne_of_lt hlt)], fun hlast => by rw [if_pos hlast]⟩
  case busy => rw [exec_scrubRead, onAwake_awake ha, devScrubRead, scrubRead_busy hx hbank hwait]

end Sys2Proof.Machine
end

section
/-! SUPPORT. Stream pattern instructions (08 R214 to R222): the instruction at a context's turn, register values, the structure of loops, and what a word, a run, a step and a pad come to. -/

set_option autoImplicit false

namespace Sys2Proof.Machine

/-- An instruction command in a package that is awake does its instruction, at the context whose turn it is. -/
theorem onAwake_patInstr {s : State} {i e x w op : Nat} {p : PatCtx} {f : Dev → PatCtx → Nat → Dev} (ha : awake s.dev = true) (h : AtInstr s.dev i e x w)
    (hp : ctxAt (coreAt s.dev i) e x = p) (hop : bits w 31 27 = op) : onAwake (patInstr i e x op f) s = .next (s.put (f (served s.dev i e x) p w)) := by
  rw [onAwake_awake ha, patInstr_atInstr h hop, hp]

/-! ### Registers (08 R214 to R216) -/

theorem taskAt_served (d : Dev) (i e x n : Nat) : taskAt (coreAt (served d i e x) i) n = taskAt (coreAt d i) n := by
  rw [served, coreAt_modCore_same]
  rfl

theorem mod24_eq (z : Int) : mod24 z = (z % 2 ^ 24).toNat := by norm_num [mod24]

theorem addrStep_one (p : PatCtx) (a s : Nat) : addrStep p a s 1 = (p.a.getD a 0 + p.s.getD s 0) % 2 ^ 24 := by rw [addrStep, Nat.one_mul]

/-- Outside loops the next instruction is at PC + 1. -/
theorem patNext_noLoops (d : Dev) (i e x : Nat) {p : PatCtx} (hloops : p.loops = []) (hpc : p.pc < 255) :
    patNext d i e x p (p.pc + 1) = setCtx d i e x { p with pc := p.pc + 1, st := 1, part := 0 } := by
  have hin : ¬255 < p.pc + 1 := by omega
  simp only [patNext, hloops, loopNext, if_neg hin]

section
variable {s : State} {i : Fin 288} {e : Fin 3} {x : Fin 8} {w : Nat} {p : PatCtx} {v : Int} (ha : awake s.dev = true) (h : AtInstr s.dev i.val e.val x.val w)
  (hp : ctxAt (coreAt s.dev i.val) e.val x.val = p)
include ha h hp

/-- SETC counts exactly, and a result outside 0 to 1,048,575 aborts (08 R216). -/
theorem exec_setc_atInstr (hx : patX p (taskAt (coreAt s.dev i.val) p.task).desc (bits w 24 22) = some v) (hop : bits w 31 27 = 3) :
    exec (.setc i e x) s = .next (s.put (if v + patImm w < 0 ∨ 1048575 < v + patImm w then patFault (served s.dev i.val e.val x.val) i.val e.val x.val p 7 cPatternReserved 0
      else patNext (served s.dev i.val e.val x.val) i.val e.val x.val { p with c := setAt p.c (bits w 26 25) (v + patImm w).toNat } (p.pc + 1))) := by
  rw [exec_setc, devSetc, onAwake_patInstr ha h hp hop]
  simp only [taskAt_served, hx, Option.getD_some]

/-! ### Loops (08 R217) -/

/-- A loop that lies in the store and in every loop around it, on a counter of its own. -/
theorem exec_loop_nested (hop : bits w 31 27 = 6) (hstore : p.pc + 1 + bits w 7 0 ≤ 256) (hctr : ∀ l ∈ p.loops, l.ctr ≠ bits w 26 25)
    (hinside : ∀ l ∈ p.loops, p.pc + 1 + bits w 7 0 ≤ l.stop) :
    exec (.loop i e x) s = .next (s.put (if p.c.getD (bits w 26 25) 0 = 0 then patNext (served s.dev i.val e.val x.val) i.val e.val x.val p (p.pc + 1 + bits w 7 0)
      else setCtx (served s.dev i.val e.val x.val) i.val e.val x.val
        { p with loops := { ctr := bits w 26 25, start := p.pc + 1, stop := p.pc + 1 + bits w 7 0, left := p.c.getD (bits w 26 25) 0 } :: p.loops, pc := p.pc + 1 })) := by
  have hfree : p.loops.any (fun l => decide (l.ctr = bits w 26 25)) = false := List.any_eq_false.mpr fun l hl => by simpa using hctr l hl
  rw [exec_loop, devLoop, onAwake_patInstr ha h hp hop]
  cases hloops : p.loops with
  | nil => simp only [List.any_nil, Bool.false_eq_true, Nat.not_lt.mpr hstore, or_self, if_false]
  | cons l ls =>
    have hinner : ¬l.stop < p.pc + 1 + bits w 7 0 := Nat.not_lt.mpr (hinside l (hloops ▸ List.mem_cons_self))
    simp only [← hloops, hfree, Nat.not_lt.mpr hstore, hinner, decide_false, Bool.false_eq_true, or_self, if_false]

end

/-! ### Emissions (08 R219, R220, R222) -/

section
variable {d d' : Dev} {i e : Nat} {p q : PatCtx}

theorem emitOne_notReady (a : Option Nat) (hf : p.f = 0) (hready : ringReady (skeinAt (coreAt d i) p.skein) e = false) : emitOne d i e p a = .wait := if_pos ⟨hf, hready⟩

/-- Past the first word of a slot, or at a slot that is ready, nothing waits on a tag. -/
theorem not_waits (hready : p.f ≠ 0 ∨ ringReady (skeinAt (coreAt d i) p.skein) e = true) : ¬(p.f = 0 ∧ ringReady (skeinAt (coreAt d i) p.skein) e = false) := by
  rintro ⟨hf, hnot⟩
  exact hready.elim (· hf) (by rw [hnot]; exact Bool.false_ne_true)

theorem emitOne_pastSlot (a : Option Nat) (hf : p.f ≠ 0) (hsize : (skeinAt (coreAt d i) p.skein).size ≤ p.f) : emitOne d i e p a = .fault d p 4 cPatternAddr 0 :=
  (if_neg (not_waits (.inl hf))).trans (if_pos hsize)

theorem emitOne_pad (hready : p.f ≠ 0 ∨ ringReady (skeinAt (coreAt d i) p.skein) e = true) (hsize : p.f < (skeinAt (coreAt d i) p.skein).size) :
    emitOne d i e p none = .ok d { p with f := p.f + 1 } :=
  (if_neg (not_waits hready)).trans (if_neg (Nat.not_le.mpr hsize))

/-- An emission that succeeds advances F by one and changes nothing else of the context. -/
theorem emitOne_ok_ctx {a : Option Nat} (h : emitOne d i e p a = .ok d' q) : q = { p with f := p.f + 1 } := by
  simp only [emitOne] at h
  split at h
  case isTrue => cases h
  split at h
  case isTrue => cases h
  cases a with
  | none => cases h; rfl
  | some a =>
    simp only at h
    split at h
    case isTrue => cases h
    split at h
    case h_1 | h_2 | h_3 => cases h
    case h_4 =>
      split at h
      case isTrue => cases h
      split at h
      case h_1 => split at h <;> cases h
      case h_2 => cases h; rfl

theorem askStep_ready (hready : p.f ≠ 0 ∨ ringReady (skeinAt (coreAt d i) p.skein) e = true) : askStep d i e p = .ok d { p with f := 0, stepPending := true } :=
  if_neg (not_waits hready)

end

section
variable {d d' : Dev} {i e n : Nat} (x : Nat) {p q : PatCtx} {addr : Nat → Option Nat} (last : Emit → Emit)

theorem partWord_more (hemit : emitOne d i e p (addr p.part) = .ok d' q) (hmore : p.part + 1 < n) : partWord i e x n addr last d p = setCtx d' i e x { q with part := p.part + 1 } := by
  simp only [partWord, if_pos (Nat.lt_of_succ_lt hmore), hemit, if_pos hmore]

theorem partWord_last (hemit : emitOne d i e p (addr p.part) = .ok d' q) (hlast : p.part + 1 = n) : partWord i e x n addr last d p = patAfter i e x p d (last (.ok d' q)) := by
  subst hlast
  simp only [partWord, if_pos (Nat.lt_succ_self _), hemit, if_neg (Nat.lt_irrefl _)]

theorem partWord_done (hdone : n ≤ p.part) : partWord i e x n addr last d p = patAfter i e x p d (last (.ok d p)) := if_neg (Nat.not_lt.mpr hdone)

theorem partWord_fault {d' : Dev} {sub cause a : Nat} (hemit : emitOne d i e p (addr p.part) = .fault d' q sub cause a) (hpart : p.part < n) :
    partWord i e x n addr last d p = patFault d' i e x q sub cause a := by
  simp only [partWord, if_pos hpart, hemit, patAfter]

end

/-! ### Emitting instructions (08 R218 to R220) -/

section
variable {s : State} {i : Fin 288} {e : Fin 3} {x : Fin 8} {w : Nat} {p q : PatCtx} {d : Dev} (ha : awake s.dev = true) (h : AtInstr s.dev i.val e.val x.val w)
  (hp : ctxAt (coreAt s.dev i.val) e.val x.val = p)
include ha h hp

/-- A WORD without its step bit that emits: the address register moves on when it asks for that. -/
theorem exec_word_emits (hop : bits w 31 27 = 7) (hstep : w.testBit 21 = false)
    (hemit : emitOne (served s.dev i.val e.val x.val) i.val e.val p (some (p.a.getD (bits w 26 25) 0)) = .ok d q) :
    exec (.word i e x) s = .next (s.put (patNext d i.val e.val x.val
      (if w.testBit 22 then { q with a := setAt q.a (bits w 26 25) ((q.a.getD (bits w 26 25) 0 + q.s.getD (bits w 24 23) 0) % 2 ^ 24) } else q) (q.pc + 1))) := by
  rw [exec_word, devWord, onAwake_patInstr ha h hp hop]
  simp only [hemit, hstep, thenStep, Bool.false_eq_true, if_false, patAfter, addrStep_one]
  cases w.testBit 22 <;> rfl

theorem exec_word_waits (hop : bits w 31 27 = 7) (hf : p.f = 0) (hready : ringReady (skeinAt (coreAt (served s.dev i.val e.val x.val) i.val) p.skein) e.val = false) :
    exec (.word i e x) s = .next (s.put (setCtx (served s.dev i.val e.val x.val) i.val e.val x.val { p with st := 3, since := waitStart (served s.dev i.val e.val x.val) i.val })) := by
  rw [exec_word, devWord, onAwake_patInstr ha h hp hop]
  simp only [emitOne_notReady _ hf hready, patAfter]

theorem exec_run_more (hop : bits w 31 27 = 8) (hmore : p.part + 1 < bits w 12 0)
    (hemit : emitOne (served s.dev i.val e.val x.val) i.val e.val p (some (addrStep p (bits w 26 25) (bits w 24 23) p.part)) = .ok d q) :
    exec (.run i e x) s = .next (s.put (setCtx d i.val e.val x.val { q with part := p.part + 1 })) := by
  rw [exec_run, devRun, onAwake_patInstr ha h hp hop, partWord_more _ _ hemit hmore]

/-- The last word of a RUN without its step bit: the address register moves on by all the strides. -/
theorem exec_run_last (hop : bits w 31 27 = 8) (hstep : w.testBit 21 = false) (hlast : p.part + 1 = bits w 12 0)
    (hemit : emitOne (served s.dev i.val e.val x.val) i.val e.val p (some (addrStep p (bits w 26 25) (bits w 24 23) p.part)) = .ok d q) :
    exec (.run i e x) s = .next (s.put (patNext d i.val e.val x.val { q with a := setAt q.a (bits w 26 25) (addrStep p (bits w 26 25) (bits w 24 23) (bits w 12 0)) } (q.pc + 1))) := by
  rw [exec_run, devRun, onAwake_patInstr ha h hp hop, partWord_last _ _ hemit hlast]
  simp only [hstep, thenStep, Bool.false_eq_true, if_false, patAfter]

theorem exec_step_ready (hop : bits w 31 27 = 9) (hready : p.f ≠ 0 ∨ ringReady (skeinAt (coreAt (served s.dev i.val e.val x.val) i.val) p.skein) e.val = true) :
    exec (.step i e x) s = .next (s.put (patNext (served s.dev i.val e.val x.val) i.val e.val x.val { p with f := 0, stepPending := true } (p.pc + 1))) := by
  rw [exec_step, devStep, onAwake_patInstr ha h hp hop, askStep_ready hready, patAfter]

/-- A PAD is its words, without addresses, and nothing after the last. -/
theorem exec_pad_atInstr (hop : bits w 31 27 = 10) :
    exec (.pad i e x) s = .next (s.put (partWord i.val e.val x.val (bits w 12 0) (fun _ => none) (fun r => r) (served s.dev i.val e.val x.val) p)) := by
  rw [exec_pad, devPad, onAwake_patInstr ha h hp hop]

end

end Sys2Proof.Machine
end

section
/-! SUPPORT. A chain of DMA descriptors (08 R228 to R233): the start of a descriptor that passes its checks, the row of its kind when nothing stops it, and its completion. -/

set_option autoImplicit false

namespace Sys2Proof.Machine

section
variable {d e : Dev} {i : Fin 288} {q : QCmd} {x y : DmaDesc} {src dst : End}

theorem devDmaDescriptorStart_takes {b : List Byte} (hq : dmaHead d i.val = some q) (hnew : q.desc = none) (hlocal : isLocal d i.val (dmaBase q.word.toNat + q.k) = true)
    (hread : spadBytesIn d i.val q.slot ((dmaBase q.word.toNat + q.k) * 64) 64 = (.ok b, e)) (hcrc : dmaCrcOk b = true) (hres : dmaReserved b = false)
    (hends : kindEnds (dmaDesc b).kind = some (src, dst)) (hchecks : (xferRange e i.val q (dmaDesc b) src dst).or (xferRing e (dmaDesc b)) = none) :
    devDmaDescriptorStart i d = setHead (takeRing e i.val q (dmaDesc b)) i.val 5 { q with desc := some { dmaDesc b with finished := decide ((dmaDesc b).total = 0) }, wait := 7 } := by
  simp only [devDmaDescriptorStart, hq, hnew, hlocal, hread, hcrc, hres, hends, hchecks, Option.isSome_none, Bool.not_true, Bool.false_eq_true, if_false]

/-- A row on a descriptor of its own kind that no tag and no access stops: all its bytes are moved, and it is finished. -/
theorem dmaMove_moved {k i : Nat} (hq : dmaHead d i = some q) (hx : q.desc = some x) (hkind : x.kind = k) (hleft : x.finished = false) (hstuck : stuckAt d i 5 0 = false)
    (hends : kindEnds k = some (src, dst)) (hrun : xferRun i q src dst (x.total + 1) d x = .moved e y) :
    dmaMove k i d = pump (setHead e i 5 { q with desc := some { y with finished := true }, wait := 7 }) := by
  simp only [dmaMove, hq, hx, hkind, hleft, hstuck, hends, hrun, ne_eq, not_true_eq_false, Bool.false_eq_true, or_self, if_false]

/-- The row of a kind does nothing on a descriptor of another (DESIGN CHOICE, log entries 1 and 97). -/
theorem dmaMove_otherKind {k i : Nat} (hq : dmaHead d i = some q) (hx : q.desc = some x) (hkind : x.kind ≠ k) : dmaMove k i d = d := by
  cases hends : kindEnds k with
  | none => simp only [dmaMove, hq, hx, hends]
  | some ends => simp only [dmaMove, hq, hx, hends, hkind, ne_eq, not_false_eq_true, true_or, if_true]

theorem devDmaDescriptorComplete_finished (hq : dmaHead d i.val = some q) (hx : q.desc = some x) (hdone : x.finished = true) :
    devDmaDescriptorComplete i d = pump (setHead (dropRoles d (fun r => decide (r = dmaRole i.val q))) i.val 5
      { q with desc := none, k := q.k + 1, done := decide (dmaN q.word.toNat ≤ q.k + 1) }) := by
  simp only [devDmaDescriptorComplete, hq, hx, hdone, Bool.not_true, Bool.false_eq_true, if_false]

end

end Sys2Proof.Machine
end

section
/-! SUPPORT. The statements of 08_stream_patterns.md settled: registers of patterns, loops and emissions, and chains of DMA descriptors. -/

set_option autoImplicit false

namespace Sys2Proof.Machine

/-- Settles O20: each instruction at its context's turn; SETC on both sides of its range. -/
theorem patternRegisters : Obligations.PatternRegisters := by
  refine ⟨fun s i e x w p v ha h hp hx => ⟨fun hop => ?seta, fun hop => ?sets, fun hop hlow hhigh => ?setc, fun hop hout => ?setcFault⟩,
    fun s i e x w p ha h hp => ⟨fun hop => ?mova, fun hop => ?adda⟩, fun d i e x p hloops hpc => patNext_noLoops d i e x hloops hpc⟩
  case seta =>
    rw [exec_seta, devSeta, onAwake_patInstr ha h hp hop]
    simp only [taskAt_served, hx, Option.getD_some, mod24_eq]
  case sets =>
    rw [exec_sets, devSets, onAwake_patInstr ha h hp hop]
    simp only [taskAt_served, hx, Option.getD_some, mod24_eq]
  case setc => rw [exec_setc_atInstr ha h hp hx hop, if_neg (by omega)]
  case setcFault => rw [exec_setc_atInstr ha h hp hx hop, if_pos hout]
  case mova =>
    rw [exec_mova, devMova, onAwake_patInstr ha h hp hop]
    simp only [mod24_eq]
  case adda =>
    rw [exec_adda, devAdda, onAwake_patInstr ha h hp hop]
    simp only [addrStep_one]

/-- Settles O21: each instruction in the case that its hypotheses name, and the two facts about an emission. -/
theorem patternEmission : Obligations.PatternEmission := by
  refine ⟨fun s i e x w p d ha h hp hd => ?_, fun d d' i e p q a => emitOne_ok_ctx, fun d i e p => emitOne_pad⟩
  subst hd
  refine ⟨exec_loop_nested ha h hp, fun f q hop hinc hstep hemit => ?word, fun f q hop hinc hstep hemit => ?wordInc, exec_word_waits ha h hp, fun f q hop hmore hemit => exec_run_more ha h hp hop hmore hemit,
    fun f q hop hstep hlast hemit => exec_run_last ha h hp hop hstep hlast hemit, exec_step_ready ha h hp, fun f q hop hpart hemit => ⟨fun hmore => ?padMore, fun hlast => ?padLast⟩,
    fun hop hzero => ?padNone, fun hop hpart hf hsize => ?padFault⟩
  case word => rw [exec_word_emits ha h hp hop hstep hemit, if_neg (by rw [hinc]; exact Bool.false_ne_true)]
  case wordInc => rw [exec_word_emits ha h hp hop hstep hemit, if_pos hinc]
  case padMore => rw [exec_pad_atInstr ha h hp hop, partWord_more _ _ hemit hmore]
  case padLast => rw [exec_pad_atInstr ha h hp hop, partWord_last _ _ hemit hlast, patAfter]
  case padNone => rw [exec_pad_atInstr ha h hp hop, partWord_done _ _ (by omega), patAfter]
  case padFault => rw [exec_pad_atInstr ha h hp hop, partWord_fault _ _ (emitOne_pastSlot _ hf hsize) hpart]

/-- Settles O22: the start, the row of the descriptor's kind, the completion, and a row of another kind. -/
theorem dmaChain : Obligations.DmaChain := by
  refine ⟨fun s i q b d src dst ha hq hnew hlocal hread hcrc hres hends hchecks => ?start, fun s i q x y d k src dst ha hq hx hkind hleft hstuck hends hrun => ?rows,
    fun s i q x ha hq hx hdone => ?complete, fun s i q x ha hq hx hkind => ?other⟩
  case start => rw [exec_dmaDescriptorStart, onAwake_awake ha, devDmaDescriptorStart_takes hq hnew hlocal hread hcrc hres hends hchecks]
  case rows =>
    have hrow : onAwake (dmaMove k i.val) s = .next (s.put (pump (setHead d i.val 5 { q with desc := some { y with finished := true }, wait := 7 }))) := by
      rw [onAwake_awake ha, dmaMove_moved hq hx hkind hleft hstuck hends hrun]
    refine ⟨?_, ?_, ?_, ?_, ?_, ?_, ?_⟩ <;> (rintro rfl; exact hrow)
  case complete => rw [exec_dmaDescriptorComplete, onAwake_awake ha, devDmaDescriptorComplete_finished hq hx hdone]
  case other => rw [exec_externalToScratchpad, onAwake_awake ha, devExternalToScratchpad, dmaMove_otherKind hq hx hkind]

end Sys2Proof.Machine
end

section
/-! SUPPORT. The ports of the SerBy links (09 R239 to R248, R261, R263, R266): a port and a lane read back, the steps of training, and the lanes lost, degraded and qualified. -/

set_option autoImplicit false

namespace Sys2Proof.Machine

/-! ### A port read back -/

section
variable {d : Dev} {p : Nat}

theorem portAt_setPort_same (x : Port) (h : p < d.ports.length) : portAt (setPort d p x) p = x := setAt_same x {} h

theorem setPort_portAt (d : Dev) (p : Nat) : setPort d p (portAt d p) = d := by
  obtain h | h := Nat.lt_or_ge p d.ports.length
  · rw [setPort, setAt, portAt, List.getD_eq_getElem _ _ h, List.set_getElem_self]
  · rw [setPort, setAt, List.set_eq_of_length_le h]

/-- What a new port has in common with the one that it replaces is unchanged, whether the port exists or not. -/
theorem portAt_setPort_keeps {γ : Type} (f : Port → γ) {x : Port} (h : f x = f (portAt d p)) : f (portAt (setPort d p x) p) = f (portAt d p) := by
  obtain hp | hp := Nat.lt_or_ge p d.ports.length
  · rw [portAt_setPort_same x hp, h]
  · rw [setPort, setAt, List.set_eq_of_length_le hp]

@[simp] theorem portAt_lcnt (q k : Nat) : portAt (lcnt d q k) p = portAt d p := rfl

@[simp] theorem portAt_satAdd (a n : Nat) : portAt (satAdd d a n) p = portAt d p := rfl

theorem modAt_ne {α : Type} (l : List α) {j k : Nat} (f : α → α) (x : α) (h : j ≠ k) : (modAt l k f).getD j x = l.getD j x := by
  rw [modAt, List.getD_eq_getElem?_getD, List.getElem?_modify_ne f l h.symm, List.getD_eq_getElem?_getD]

theorem laneAt_modLane_ne {j k : Nat} (f : Lane → Lane) (h : j ≠ k) : laneAt (portAt (modLane d p k f) p) j = laneAt (portAt d p) j :=
  portAt_setPort_keeps (laneAt · j) (modAt_ne _ f {} h)

end

/-! ### Training (09 R244 to R247) -/

section
variable {d : Dev} {p : Fin 2} {k : Fin 17} {ts : List Byte} {skew : Nat}

theorem devCodewordLock_lit (h : (portAt d p.val).st ≠ 0) : devCodewordLock p k d = modLane d p.val k.val (fun l => { l with signal := true, lock := true }) := if_pos (decide_eq_true h)

theorem devTrainingStart_adapt (h : (portAt d p.val).st = 1) : devTrainingStart p d = setPort d p.val { portAt d p.val with sending := 1 } := if_pos h

theorem devTsTrainStart_sending (hst : (portAt d p.val).st = 1) (hsend : (portAt d p.val).sending = 1) :
    devTsTrainStart p d = setPort d p.val { portAt d p.val with st := 2, sending := 2 } := if_pos ⟨hst, hsend⟩

theorem devRxLocked_held (hst : (portAt d p.val).st = 2) (hheld : 4 ≤ popMask (portAt d p.val).held) :
    devRxLocked p d = setPort d p.val { portAt d p.val with rxLocked := true } := if_pos ⟨hst, hheld⟩

theorem devTrainingTimeout_again (hst : (portAt d p.val).st = 2) (hmore : (portAt d p.val).attempt < 3) :
    devTrainingTimeout p d = startTraining d p.val ((portAt d p.val).attempt + 1) := (if_neg (not_not_intro hst)).trans (if_pos hmore)

theorem devTrainingTimeout_fails (hst : (portAt d p.val).st = 2) (hlast : 3 ≤ (portAt d p.val).attempt) :
    devTrainingTimeout p d = linkDown d p.val 7 0 := (if_neg (not_not_intro hst)).trans (if_neg (Nat.not_lt.mpr hlast))

theorem anyTs_bad (h : tsGood d p.val k.val ts = false) : anyTs d p.val k.val ts skew = tsMiss d p.val k.val := if_pos (by rw [h]; rfl)

/-- A good training set of either KIND is accepted on its lane, and its flags are the partner's. -/
theorem anyTs_good (h : tsGood d p.val k.val ts = true) (hkind : beAt ts 2 1 = 1 ∨ beAt ts 2 1 = 2) :
    anyTs d p.val k.val ts skew = peerFlags (acceptTs d p.val k.val ts skew) p.val ts :=
  (if_neg (by rw [h]; exact Bool.false_ne_true)).trans (if_neg (not_and_or.mpr (hkind.imp not_not_intro not_not_intro)))

/-- A TS_START whose mask is held, at a locked receiver without one, fixes the receive mask and START_LBC. -/
theorem devTsStart_fixes {x : Port} {m : Nat} (h : tsGood d p.val k.val ts = true) (hkind : beAt ts 2 1 = 2)
    (hx : portAt (peerFlags (acceptTs d p.val k.val ts skew) p.val ts) p.val = x) (hm : beAt ts 16 4 % 2 ^ 17 = m) (hst : x.st = 2) (hlocked : x.rxLocked = true)
    (hnone : x.rxMask = 0) (hwidth : 4 ≤ popMask m) (hheld : ∀ l < 17, m.testBit l = true → x.held.testBit l = true) :
    devTsStart p k ts skew d = setPort (peerFlags (acceptTs d p.val k.val ts skew) p.val ts) p.val { x with rxMask := m, startRx := beAt ts 12 4 } := by
  have hall : (List.range 17).all (fun l => !m.testBit l || x.held.testBit l) = true := List.all_eq_true.mpr fun l hl => by
    cases hbit : m.testBit l with
    | false => rfl
    | true => rw [hheld l (List.mem_range.mp hl) hbit]; rfl
  simp only [devTsStart, anyTs_good h (.inr hkind), h, hx, hm, hkind, hst, hlocked, hnone, hwidth, hall, decide_true, Bool.and_self, if_true]

end

/-! ### Lanes lost and degraded (09 R241, R243) -/

section
variable {d : Dev} {p : Fin 2}

theorem devLossOfLock_locked {k : Fin 17} {n : Nat} (signal : Bool) (hst : (portAt d p.val).st ≠ 0) (hlock : (laneAt (portAt d p.val) k.val).lock = true)
    (hlane : (laneAt (portAt d p.val) k.val).logical = some n) :
    devLossOfLock p k signal d = retireLane (modLane (satAdd d (Reg.LNK_LANE_LOL p.val n) 1) p.val k.val
      (fun l => { l with signal := signal, lock := false, ts := if 4 ≤ l.ts then l.ts else 0 })) p.val k.val 1 := by
  simp only [devLossOfLock, portLit, hst, hlock, hlane, ne_eq, not_false_eq_true, decide_true, Bool.not_true, Bool.false_eq_true, if_false]

/-- The error counts of a lane in a period, and the run of periods over LANE_DEGRADE. -/
def countLane (d : Dev) (p k n run corr uncorr : Nat) : Dev :=
  modLane (satAdd (satAdd d (Reg.LNK_LANE_CORR p n) corr) (Reg.LNK_LANE_UNCORR p n) uncorr) p k (fun l => { l with degraded := run })

/-- The run of periods over LANE_DEGRADE that a lane has after one with `corr` corrected symbols. -/
def degradedRun (d : Dev) (p k corr : Nat) : Nat := if fld d (Reg.LNK_CFG p) 7 0 * 1024 < corr then (laneAt (portAt d p) k).degraded + 1 else 0

/-- A period of one lane (R243). -/
def degradeLane (p : Nat) (corr uncorr : List Nat) (d : Dev) (k : Nat) : Dev :=
  match (laneAt (portAt d p) k).logical with
  | none => d
  | some n =>
    let run := degradedRun d p k (corr.getD n 0)
    let e := countLane d p k n run (corr.getD n 0) (uncorr.getD n 0)
    if 3 ≤ run then retireLane e p k 2 else e

theorem fld_laneCounts (d : Dev) (p n corr uncorr : Nat) :
    fld (satAdd (satAdd d (Reg.LNK_LANE_CORR p n) corr) (Reg.LNK_LANE_UNCORR p n) uncorr) (Reg.LNK_CFG p) 7 0 = fld d (Reg.LNK_CFG p) 7 0 := by
  have hcorr : Reg.LNK_CFG p ≠ Reg.LNK_LANE_CORR p n := show 0x30020 + 32768 * p ≠ 0x30104 + 32768 * p + 16 * n by omega
  have huncorr : Reg.LNK_CFG p ≠ Reg.LNK_LANE_UNCORR p n := show 0x30020 + 32768 * p ≠ 0x30108 + 32768 * p + 16 * n by omega
  exact fld_congr 7 0 ((rd_wr_ne _ _ huncorr).trans (rd_wr_ne _ _ hcorr))

theorem degradeLane_unnamed {k q : Nat} (corr uncorr : List Nat) (h : (laneAt (portAt d q) k).logical = none) : degradeLane q corr uncorr d k = d := by
  rw [degradeLane, h]

theorem degradeLane_named {k n q : Nat} (corr uncorr : List Nat) (h : (laneAt (portAt d q) k).logical = some n) :
    degradeLane q corr uncorr d k = if 3 ≤ degradedRun d q k (corr.getD n 0) then retireLane (countLane d q k n (degradedRun d q k (corr.getD n 0)) (corr.getD n 0) (uncorr.getD n 0)) q k 2
      else countLane d q k n (degradedRun d q k (corr.getD n 0)) (corr.getD n 0) (uncorr.getD n 0) := by
  rw [degradeLane, h]

/-- A period of a port is a period of each of its lanes in turn. -/
theorem devLaneDegradeCheck_lit (corr uncorr : List Nat) (h : (portAt d p.val).st ≠ 0) :
    devLaneDegradeCheck p corr uncorr d = (List.range 17).foldl (degradeLane p.val corr uncorr) d := by
  have hlit : portLit d p.val = true := decide_eq_true h
  rw [devLaneDegradeCheck, hlit, Bool.not_true, if_neg Bool.false_ne_true]
  refine congrArg (fun g => (List.range 17).foldl g d) (funext₂ fun e k => ?_)
  cases hlane : (laneAt (portAt e p.val) k).logical with
  | none => simp only [hlane, degradeLane_unnamed corr uncorr hlane]
  | some n =>
    rw [degradeLane_named corr uncorr hlane, degradedRun, ← fld_laneCounts e p.val n (corr.getD n 0) (uncorr.getD n 0)]
    simp only [hlane, countLane]

/-- Lanes without an identity count nothing. -/
theorem foldl_degradeLane_unnamed {q : Nat} (corr uncorr : List Nat) {l : List Nat} (h : ∀ j ∈ l, (laneAt (portAt d q) j).logical = none) : l.foldl (degradeLane q corr uncorr) d = d := by
  induction l with
  | nil => rfl
  | cons j l ih =>
    rw [List.foldl_cons, degradeLane_unnamed corr uncorr (h j List.mem_cons_self)]
    exact ih fun i hi => h i (List.mem_cons_of_mem j hi)

/-- The numbers below `n`, cut at one of them. -/
theorem range_split {k n : Nat} (h : k < n) : ∃ l r, List.range n = l ++ k :: r ∧ (∀ j ∈ l, j < k) ∧ ∀ j ∈ r, k < j ∧ j < n := by
  obtain ⟨l, r, hsplit⟩ := List.append_of_mem (List.mem_range.mpr h)
  have hsorted : (l ++ k :: r).Pairwise (· < ·) := hsplit ▸ List.pairwise_lt_range
  obtain ⟨_, hright, hacross⟩ := List.pairwise_append.mp hsorted
  refine ⟨l, r, hsplit, fun j hj => hacross j hj k List.mem_cons_self, fun j hj => ⟨(List.pairwise_cons.mp hright).1 j hj, ?_⟩⟩
  exact List.mem_range.mp (hsplit ▸ List.mem_append_right l (List.mem_cons_of_mem k hj))

/-- A period in which one lane alone has an identity, and the lanes after it have none when it is done, is the period of that lane. -/
theorem foldl_degradeLane_alone {k q : Nat} (corr uncorr : List Nat) (hk : k < 17) (hbefore : ∀ j < k, (laneAt (portAt d q) j).logical = none)
    (hafter : ∀ j < 17, k < j → (laneAt (portAt (degradeLane q corr uncorr d k) q) j).logical = none) :
    (List.range 17).foldl (degradeLane q corr uncorr) d = degradeLane q corr uncorr d k := by
  obtain ⟨l, r, hsplit, hleft, hright⟩ := range_split hk
  rw [hsplit, List.foldl_append, foldl_degradeLane_unnamed corr uncorr fun j hj => hbefore j (hleft j hj), List.foldl_cons,
    foldl_degradeLane_unnamed corr uncorr fun j hj => hafter j (hright j hj).2 (hright j hj).1]

theorem devLaserBiasFault_lit {n : Fin 17} (h : (portAt d p.val).st ≠ 0) : devLaserBiasFault p n d = elog 1 4 0x0405 (256 * p.val + n.val) 0 d := if_pos (decide_eq_true h)

/-- An UP port goes DOWN and retires no lane (DEDUCED, log entry 124). -/
theorem devSignalLoss_up (h : (portAt d p.val).st = 3) :
    devSignalLoss p d = linkDown (modPort d p.val (fun x => { x with lanes := x.lanes.map (fun l => { l with signal := false, lock := false }) })) p.val 4 0 :=
  (if_neg (by omega)).trans (if_pos h)

/-- In ADAPT or TRAIN the loss of every signal is the loss of lock of each lane (DEDUCED, log entry 124). -/
theorem devSignalLoss_training (h : (portAt d p.val).st = 1 ∨ (portAt d p.val).st = 2) :
    devSignalLoss p d = (List.finRange 17).foldl (fun d k => devLossOfLock p k false d) d := if_pos h

end

/-! ### The spare lane, and a WIDTH_REQ repeated (09 R261, R263) -/

section
variable {d : Dev} {p : Fin 2} {k : Nat} {x : Port} (hx : portAt d p.val = x) (hq : x.qualify = true)
  (hk : (List.range 17).find? (fun k => decide ((laneAt x k).logical = some 16)) = some k)
include hx hq hk

theorem devSpareQualified_joins (hheld : (laneAt x k).retired = false) (hlock : (laneAt x k).lock = true) (hout : (if x.reqOpen then x.reqMask else x.rxMask).testBit 16 = false) :
    devSpareQualified p true d = requestMask (setPort d p.val { x with qualify := false }) p.val ((if x.reqOpen then x.reqMask else x.rxMask) + 2 ^ 16) false := by
  simp only [devSpareQualified, hx, hq, hk, hheld, hlock, hout, Bool.not_true, Bool.or_self, Bool.false_eq_true, if_false, if_true]

theorem devSpareQualified_fails (hheld : (laneAt x k).retired = false) (hlock : (laneAt x k).lock = true) :
    devSpareQualified p false d = retireLane (setPort d p.val { x with qualify := false }) p.val k 2 := by
  simp only [devSpareQualified, hx, hq, hk, hheld, hlock, Bool.not_true, Bool.or_self, Bool.false_eq_true, if_false]

/-- A spare retired or unlocked meanwhile only ends its qualification. -/
theorem devSpareQualified_gone (pass : Bool) (h : (laneAt x k).retired = true ∨ (laneAt x k).lock = false) :
    devSpareQualified p pass d = setPort d p.val { x with qualify := false } := by
  have hgone : ((laneAt x k).retired || !(laneAt x k).lock) = true := by
    obtain h | h := h
    · rw [h, Bool.true_or]
    · rw [h, Bool.not_false, Bool.or_true]
  simp only [devSpareQualified, hx, hq, hk, hgone, Bool.not_true, Bool.false_eq_true, if_false, if_true]

end

theorem devWidthReqRepeat_open {d : Dev} {p : Fin 2} (h : (portAt d p.val).reqOpen = true) : devWidthReqRepeat p d = setPort d p.val { portAt d p.val with reqDue := true } := if_pos h

end Sys2Proof.Machine
end

section
/-! SUPPORT. Flits of the SerBy links (09 R254 to R262, R266): the slots of a transmitter, the checks of a receiver, the link-local flits, and the window. -/

set_option autoImplicit false

namespace Sys2Proof.Machine

/-! ### Flits sent (09 R255) -/

section
variable {d : Dev} {p : Fin 2} {x : Port}

/-- The flit of a slot with nothing due (R255 steps 4 and 5): what is new, into the replay buffer, or IDLE. -/
def sendNew (closed hanks : Bool) (x : Port) (p : Nat) (d : Dev) : Dev :=
  match nextNew closed hanks x with
  | some (f, y) =>
    if f.typ = 0 then putFlit (setPort d p y) p 0 0 0 [] []
    else putFlit (setPort d p { y with replay := y.replay ++ [f] }) p f.typ f.model x.nextSeq f.info f.data
  | none => putFlit d p 0 0 0 [] []

theorem sendNew_none {closed hanks : Bool} (q : Nat) (h : nextNew closed hanks x = none) : sendNew closed hanks x q d = putFlit d q 0 0 0 [] [] := by
  rw [sendNew, h]

theorem sendNew_some {closed hanks : Bool} {f : Flit} {y : Port} (q : Nat) (h : nextNew closed hanks x = some (f, y)) (htyp : f.typ ≠ 0) :
    sendNew closed hanks x q d = putFlit (setPort d q { y with replay := y.replay ++ [f] }) q f.typ f.model x.nextSeq f.info f.data := by
  simp only [sendNew, h, if_neg htyp]

theorem nextNew_barrier (hanks : Bool) {b : List Byte} {r : List (List Byte)} (h : x.bar = b :: r) : nextNew true hanks x = some (⟨0x11, 0, [], b⟩, { x with bar := r }) := by
  simp only [nextNew, h, if_true]

/-- Whether a port sends what a joined link does not: TWIN and HANK (10 R303). -/
def sendsHanks (d : Dev) (p : Nat) : Bool := portClosed d p && !(if p = 0 then d.ring.loopW else d.ring.loopE)

/-- A port in flit mode with room in its window and no replay in progress. -/
structure Sends (d : Dev) (p : Nat) (x : Port) : Prop where
  port : portAt d p = x
  up : x.st = 3
  sending : x.sending = 4
  mask : x.txMask ≠ 0
  fresh : x.replayAt = none
  room : x.replay.length < 2048

/-- A port in flit mode stays in it. -/
theorem Sends.stays (h : Sends d p.val x) : setPort d p.val { x with sending := 4 } = d := by
  have hsame : { x with sending := 4 } = portAt d p.val := by rw [h.port, ← h.sending]
  rw [hsame, setPort_portAt]

/-- It is not DOWN, and has been sent to flit mode with a mask. -/
theorem Sends.running (h : Sends d p.val x) : x.st ≠ 4 ∧ ¬(x.sending < 3 ∨ x.txMask = 0) :=
  ⟨by rw [h.up]; decide, not_or.mpr ⟨by rw [h.sending]; decide, h.mask⟩⟩

/-- Nothing new waits for room or for a replay. -/
theorem Sends.nothingWaits (h : Sends d p.val x) (b : Bool) : (b && (x.replayAt.isSome || decide (2048 ≤ x.replay.length))) = false := by
  rw [h.fresh, decide_eq_false (Nat.not_le.mpr h.room)]
  exact Bool.and_false b

theorem devFlitTransmit_idleDue (h : Sends d p.val x) (hgap : 1023 ≤ x.idleGap) : devFlitTransmit p d = putFlit d p.val 0 0 0 [] [] := by
  obtain ⟨hst, hmode⟩ := h.running
  simp only [devFlitTransmit, h.port, hst, hmode, h.nothingWaits, h.stays, hgap, Bool.false_eq_true, if_false, if_true]

theorem devFlitTransmit_new (h : Sends d p.val x) (hgap : x.idleGap < 1023) (hwidth : x.widthDue = none) (hreq : x.reqDue = false) (hnak : x.nakDue = false) :
    devFlitTransmit p d = sendNew (portClosed d p.val) (sendsHanks d p.val) x p.val d := by
  obtain ⟨hst, hmode⟩ := h.running
  simp only [devFlitTransmit, h.port, hst, hmode, h.nothingWaits, h.stays, Bool.false_eq_true, if_false]
  simp only [Nat.not_le.mpr hgap, hwidth, hreq, hnak, h.fresh, Nat.not_le.mpr h.room, Bool.false_eq_true, if_false]
  rfl

theorem devFlitTransmit_downIdle (hx : portAt d p.val = x) (hst : x.st = 4) (hdue : x.downDue ≠ 0) (hgap : 1023 ≤ x.idleGap) : devFlitTransmit p d = putFlit d p.val 0 0 0 [] [] := by
  simp only [devFlitTransmit, hx, hst, hdue, hgap, if_true, if_false]

theorem devFlitTransmit_down (hx : portAt d p.val = x) (hst : x.st = 4) (hdue : x.downDue ≠ 0) (hgap : x.idleGap < 1023) :
    devFlitTransmit p d = putFlit (setPort d p.val { x with downDue := x.downDue - 1, sending := if x.downDue = 1 then 2 else x.sending }) p.val 4 0 0 [byteOf x.reason] [] := by
  simp only [devFlitTransmit, hx, hst, hdue, Nat.not_le.mpr hgap, if_true, if_false]

end

/-! ### Flits received (09 R254) -/

section
variable {d : Dev} {p : Fin 2} {f : List Byte} {x : Port} (hx : portAt d p.val = x) (hst : x.st = 3) (hmask : x.rxMask ≠ 0) (hdisc : x.discarding = false)
include hst hmask

/-- An UP port with a receive mask is not DOWN, and takes flits. -/
theorem up_takesFlits : x.st ≠ 4 ∧ ¬((x.st ≠ 2 ∧ x.st ≠ 3) ∨ x.rxMask = 0) :=
  ⟨by rw [hst]; decide, not_or.mpr ⟨fun h => h.2 hst, hmask⟩⟩

include hx hdisc

/-- A flit with a bad CRC is counted among those received too (DEDUCED, log entry 33). -/
theorem devFlitReceive_badCrc (h : f.length ≠ 272 ∨ beAt f 268 4 ≠ crc32c (f.take 268)) :
    devFlitReceive p f d = wantNak (lcnt (lcnt d p.val 1) p.val 2) p.val := by
  obtain ⟨hup, htakes⟩ := up_takesFlits hst hmask
  have hbad : (decide (f.length = 272) && decide (beAt f 268 4 = crc32c (f.take 268))) = false := by
    rw [Bool.and_eq_false_iff, decide_eq_false_iff_not, decide_eq_false_iff_not]
    exact h
  simp only [devFlitReceive, hbad, hx, hup, htakes, hdisc, Bool.false_and, Bool.not_false, Bool.false_eq_true, if_false, if_true]

/-- A good link-local flit without an acknowledgement shows the partner UP (DEDUCED, log entry 33) and waits for its row. -/
theorem devFlitReceive_linkLocal (hlen : f.length = 272) (hcrc : beAt f 268 4 = crc32c (f.take 268)) (hack : (beAt f 266 1).testBit 7 = false) (htyp : beAt f 0 1 < 0x10)
    (hres : flitReserved { x with rxUp := true } f = false) (hp : p.val < d.ports.length) :
    devFlitReceive p f d = modPort (modPort (lcnt d p.val 1) p.val (fun x => { x with rxUp := true })) p.val (fun x => { x with ctl := x.ctl ++ [(beAt f 0 1, beAt f 2 2, slice f 4 4)] }) := by
  obtain ⟨hup, htakes⟩ := up_takesFlits hst hmask
  generalize he : modPort (lcnt d p.val 1) p.val (fun x => { x with rxUp := true }) = e
  have hport : portAt e p.val = { x with rxUp := true } := by
    rw [← he, ← hx]
    exact portAt_setPort_same (d := lcnt d p.val 1) _ hp
  have hcheck : checkUp e p.val = e := if_neg fun h => by
    rw [hport] at h
    exact absurd (hst.symm.trans h.1) (by decide)
  have hclear : flitReserved (portAt e p.val) f = false := by rw [hport, hres]
  simp only [devFlitReceive, hlen, hcrc, hx, hup, htakes, hdisc, he, hcheck, hack, hclear, htyp, decide_true, Bool.and_self, Bool.not_true, Bool.false_and, Bool.false_eq_true, if_false, if_true]

end

/-! ### Link-local flits taken (09 R258, R261, R262, R266) -/

section
variable {d e : Dev} {p : Fin 2} {q : Nat} {info : List Byte}

theorem devIdle_taken (h : takeCtl d p.val 0 = some (q, info, e)) : devIdle p d = e := by simp only [devIdle, h]

theorem devNak_taken (h : takeCtl d p.val 1 = some (q, info, e)) : devNak p d = takeNak (lcnt e p.val 7) p.val q := by simp only [devNak, h]

/-- A WIDTH_REQ no newer than the last served acts as a NAK. -/
theorem devWidthReq_older (h : takeCtl d p.val 2 = some (q, info, e))
    (hold : (beAt info 3 1 + 256 - (portAt e p.val).served) % 256 = 0 ∨ 128 ≤ (beAt info 3 1 + 256 - (portAt e p.val).served) % 256) : devWidthReq p d = takeNak e p.val q := by
  simp only [devWidthReq, h]
  refine if_neg ?_
  rw [Bool.and_eq_true, decide_eq_true_eq, decide_eq_true_eq]
  omega

theorem txMask_putFlit (d : Dev) (p typ model seq : Nat) (info data : List Byte) : (portAt (putFlit d p typ model seq info data) p).txMask = (portAt d p).txMask :=
  portAt_setPort_keeps (d := lcnt d p 0) Port.txMask rfl

/-- The rate-matching IDLE that goes last in an epoch, when one is due. -/
def idleLast (d : Dev) (p : Nat) : Dev := if 1023 ≤ (portAt d p).idleGap then putFlit d p 0 0 0 [] [] else d

theorem txMask_idleLast (d : Dev) (p : Nat) : (portAt (idleLast d p) p).txMask = (portAt d p).txMask := by
  rw [idleLast]
  split
  · exact txMask_putFlit d p 0 0 0 [] []
  · rfl

/-- The transmitter's side of a new mask (R262): a new epoch, WIDTH due in it, and the lanes left out retired. -/
def startMask (x : Port) (mask id : Nat) : Port :=
  { x with served := id, txMask := mask, txRetired := x.txRetired ||| maskOf ((List.range 17).filter (fun l => x.txMask.testBit l && !mask.testBit l)), widthDue := some (mask, id),
           epoch := nextEpoch x.epoch (popMask x.txMask) x.number, number := 0 }

theorem devWidthReq_newer {x : Port} (h : takeCtl d p.val 2 = some (q, info, e)) (hnew : 0 < (beAt info 3 1 + 256 - (portAt e p.val).served) % 256)
    (hhalf : (beAt info 3 1 + 256 - (portAt e p.val).served) % 256 < 128) (hx : portAt (idleLast e p.val) p.val = x) :
    devWidthReq p d = restate (takeNak (lcnt (maskEvents (setPort (idleLast e p.val) p.val (startMask x (beAt info 0 3) (beAt info 3 1))) p.val x.txMask (beAt info 0 3)) p.val 11) p.val q) := by
  have htx : (portAt e p.val).txMask = x.txMask := by rw [← hx, txMask_idleLast]
  subst hx
  simp only [devWidthReq, h, hnew, hhalf, decide_true, Bool.and_self, if_true, htx, startMask, idleLast]

theorem devWidth_answers {x : Port} (h : takeCtl d p.val 3 = some (q, info, e)) (hx : portAt e p.val = x) (hopen : x.reqOpen = true) (hid : beAt info 3 1 = x.reqId)
    (hmask : beAt info 0 3 = x.reqMask) :
    devWidth p d = restate (lcnt (maskEvents (setPort e p.val { x with rxMask := x.reqMask, reqOpen := false, reqDue := false, discarding := false }) p.val x.rxMask x.reqMask) p.val 11) := by
  simp only [devWidth, h, hx, hopen, hid, hmask, decide_true, Bool.and_self, if_true]

theorem devDown_taken (h : takeCtl d p.val 4 = some (q, info, e)) (hst : (portAt e p.val).st ≠ 4) : devDown p d = linkDown e p.val 2 (beAt info 0 1) := by
  simp only [devDown, h, if_neg hst]

theorem devDown_again (h : takeCtl d p.val 4 = some (q, info, e)) (hst : (portAt e p.val).st = 4) : devDown p d = modPort e p.val (fun x => { x with peerCode := beAt info 0 1 }) := by
  simp only [devDown, h, if_pos hst]

theorem devNakRepeat_due (hst : (portAt d p.val).st = 2 ∨ (portAt d p.val).st = 3) (hnak : (portAt d p.val).nakSent = true) :
    devNakRepeat p d = setPort d p.val { portAt d p.val with nakDue := true } := if_pos (by rw [hnak, decide_eq_true hst]; rfl)

theorem devReplayTimeout_runs (hst : (portAt d p.val).st = 2 ∨ (portAt d p.val).st = 3) : devReplayTimeout p d = startReplay d p.val := if_pos hst

end

/-! ### The window (09 R256 to R258) -/

section
variable {d : Dev} {p : Nat} {x : Port} (hx : portAt d p = x)
include hx

theorem takeAck_outside {a : Nat} (h : x.replay.length ≤ (a + 65536 - x.oldest) % 65536) : takeAck d p a = lcnt d p 5 := by
  simp only [takeAck, hx, if_neg (Nat.not_lt.mpr h)]

theorem portAt_takeAck {a : Nat} (hp : p < d.ports.length) (h : (a + 65536 - x.oldest) % 65536 < x.replay.length) :
    portAt (takeAck d p a) p = ackFirst x ((a + 65536 - x.oldest) % 65536 + 1) := by
  simp only [takeAck, hx, if_pos h, portAt_setPort_same _ hp]

theorem windowCheck_expected {f : List Byte} (h : beAt f 2 2 = x.expected) : windowCheck d p f = setPort d p (deliverFlit x f) := by
  have hk : (x.expected + 65536 - x.expected) % 65536 = 0 := by omega
  simp only [windowCheck, hx, h, hk, if_true]

theorem windowCheck_ahead {f : List Byte} (h0 : 0 < (beAt f 2 2 + 65536 - x.expected) % 65536) (h : (beAt f 2 2 + 65536 - x.expected) % 65536 < 2048) :
    windowCheck d p f = wantNak (lcnt d p 3) p := by
  simp only [windowCheck, hx, if_neg (Nat.pos_iff_ne_zero.mp h0), if_pos h]

theorem wantNak_first (h : x.nakSent = false) : wantNak d p = setPort d p { x with nakSent := true, nakDue := true } := by
  simp only [wantNak, hx, h, Bool.false_eq_true, if_false]

end

/-- The flits up to one at index `k` acknowledged leave the buffer, and the SEQ that comes next stays. -/
theorem ackFirst_nextSeq {x : Port} {k : Nat} (h : k < x.replay.length) : (ackFirst x (k + 1)).nextSeq = x.nextSeq := by
  simp only [ackFirst, Nat.add_one_ne_zero, if_false, Port.nextSeq, List.length_drop]
  omega

theorem deliverFlit_window (x : Port) (f : List Byte) : (deliverFlit x f).expected = (x.expected + 1) % 65536 ∧ (deliverFlit x f).nakDue = false := by
  rw [deliverFlit]
  split
  · dsimp only
    split <;> exact ⟨rfl, rfl⟩
  · exact ⟨rfl, rfl⟩

end Sys2Proof.Machine
end

section
/-! SUPPORT. Register actions of management (09 R267; 10 R303; 11 R317; 14 R414; 17 R491, R496; 18 R514): what each writes once management may act, and that nothing is written before. -/

set_option autoImplicit false

namespace Sys2Proof.Machine

section
variable {d : Dev} {p : Nat}

theorem retrain_idle (hcode : d.code ≠ stSleep) (hst : (portAt d p).st = 0 ∨ (portAt d p).st = 4) : retrain d p = restate (startTraining d p 1) := if_pos ⟨hcode, hst⟩

theorem retrain_asleep (hcode : d.code = stSleep) : retrain d p = d := if_neg fun h => h.1 hcode

theorem retrain_running (hoff : (portAt d p).st ≠ 0) (hdown : (portAt d p).st ≠ 4) : retrain d p = d := if_neg fun h => h.2.elim hoff hdown

end

/-- Half of a channel's weights replaced by the four bytes of a word (R317). -/
def weightsHalf (w : List Nat) (high : Bool) (v : BitVec 32) : List Nat :=
  if high then w.take 4 ++ (List.range 4).map (fun i => bits v.toNat (8 * i + 7) (8 * i)) else (List.range 4).map (fun i => bits v.toNat (8 * i + 7) (8 * i)) ++ w.drop 4

theorem devWeightWrite_channel {u : Fin 12} {c : Fin 32} (high : Bool) (v : BitVec 32) (d : Dev) (h : hasCh u.val c.val = true) :
    devWeightWrite u (some c) high v d =
      { d with xmem := { d.xmem with weights := smSet defaultWeights d.xmem.weights (chKey u.val c.val) (weightsHalf (chWeights d u.val c.val) high v) } } := if_pos h

/-- RETRAIN, REFORM_REQ, the two selections, weights, single register writes, the controls of a timer, and the actions that clear the counters of a block. -/
def isAction (c : Instr) : Prop :=
  (∃ p, c = .retrain p) ∨ c = .reformReq ∨ (∃ q, c = .elogSel q) ∨ (∃ e, c = .fcsEntrySel e) ∨ (∃ u k h v, c = .weightWrite u k h v) ∨ (∃ a v, c = .registerWrite a v) ∨
    (∃ n r v, c = .timerConfigWrite n r v) ∨ (∃ m v, c = .fastGWrite m v) ∨ (∃ n, c = .timerStart n ∨ c = .timerStop n ∨ c = .timerReset n) ∨ c = .wdnClrCnt ∨ c = .elogClrCnt ∨
    c = .rvpClrCnt ∨ c = .fcsClrCnt ∨ c = .detClrCnt ∨ c = .lapClrCnt

/-- Each of them is a write that management makes, and has no effect beside that write (18 R514). -/
theorem exec_isAction {c : Instr} (h : isAction c) : ∃ f, ∀ s, exec c s = onDev (byWrite f) s := by
  obtain ⟨_, rfl⟩ | rfl | ⟨_, rfl⟩ | ⟨_, rfl⟩ | ⟨_, _, _, _, rfl⟩ | ⟨_, _, rfl⟩ | ⟨_, _, _, rfl⟩ | ⟨_, _, rfl⟩ | ⟨_, rfl | rfl | rfl⟩ | rfl | rfl | rfl | rfl | rfl | rfl := h
  iterate 17 exact ⟨_, fun _ => rfl⟩

theorem onDev_byWrite_shut {f : Dev → Dev} {s : State} (hlive : live s.dev = true) (hshut : mgmtOpen s.dev = false) : onDev (byWrite f) s = .next s := by
  rw [onDev_live hlive, byWrite_shut hshut]

end Sys2Proof.Machine
end

section
/-! SUPPORT. The statements of 09_serby_link.md settled: training, lanes, flits and the window of a link, and the other register actions. -/

set_option autoImplicit false

namespace Sys2Proof.Machine

/-- Settles O23: each row of training in the case that its hypotheses name. -/
theorem linkTraining : Obligations.LinkTraining := by
  intro s p hlive
  refine ⟨fun k hcode hst => ?lock, fun hcode hst => ?start, fun hst hsend => ?tsStart, fun k ts skew hbad => ?bad, fun k ts skew hgood hkind => ?good,
    fun k ts skew m x hgood hkind hx hm hst hlocked hnone hwidth hheld => ?mask, fun hst hheld => ?rxLocked, fun hst hmore => ?again, fun hst hlast => ?fails⟩
  case lock => rw [exec_codewordLock, onAwake_awake (awake_iff.mpr ⟨hlive, hcode⟩), devCodewordLock_lit hst]
  case start => rw [exec_trainingStart, onAwake_awake (awake_iff.mpr ⟨hlive, hcode⟩), devTrainingStart_adapt hst]
  case tsStart => rw [exec_tsTrainStart, onDev_live hlive, devTsTrainStart_sending hst hsend]
  case bad => rw [exec_tsTrain, onDev_live hlive, devTsTrain, anyTs_bad hbad, tsMiss]
  case good => rw [exec_tsTrain, onDev_live hlive, devTsTrain, anyTs_good hgood (.inl hkind)]
  case mask => rw [exec_tsStart, onDev_live hlive, devTsStart_fixes hgood hkind hx hm hst hlocked hnone hwidth hheld]
  case rxLocked => rw [exec_rxLocked, onDev_live hlive, devRxLocked_held hst hheld]
  case again => rw [exec_trainingTimeout, onDev_live hlive, devTrainingTimeout_again hst hmore]
  case fails => rw [exec_trainingTimeout, onDev_live hlive, devTrainingTimeout_fails hst hlast]

/-- Settles O24: a period of the error counts is a fold over the lanes that one lane alone moves; every other row is the case that its hypotheses name. -/
theorem linkLanes : Obligations.LinkLanes := by
  refine ⟨fun s p k signal n hlive hst hlock hlane => ?loss, fun s p corr uncorr hlive hst => ⟨fun hnone => ?noLane, fun k n r x hk hlane hother hr hx => ?period⟩, fun s p n hlive hst => ?laser,
    fun s p hlive hst hp => ?signalUp, fun s p hlive hst => ?signalTraining, fun s p k x hlive hx hq hk => ⟨fun hheld hlock => ⟨fun hout => ?joins, ?spareFails⟩, fun pass hgone => ?spareGone⟩,
    fun s p hlive hopen => ?repeats⟩
  case loss => rw [exec_lossOfLock, onDev_live hlive, devLossOfLock_locked signal hst hlock hlane]
  case noLane => rw [exec_laneDegradeCheck, onDev_live hlive, devLaneDegradeCheck_lit _ _ hst, foldl_degradeLane_unnamed _ _ fun j hj => hnone j (List.mem_range.mp hj)]
  case period =>
    have hrun : degradedRun s.dev p.val k (corr.getD n 0) = r := hr.symm
    have hcount : countLane s.dev p.val k n r (corr.getD n 0) (uncorr.getD n 0) = x := hx.symm
    have hbefore (j : Nat) (hj : j < k) : (laneAt (portAt s.dev p.val) j).logical = none := hother j (hj.trans hk) hj.ne
    have hturn := degradeLane_named corr uncorr hlane
    rw [hrun, hcount] at hturn
    rw [exec_laneDegradeCheck, onDev_live hlive, devLaneDegradeCheck_lit _ _ hst]
    refine ⟨fun hfew => ?_, fun hmany hafter => ?_⟩
    · rw [if_neg (Nat.not_le.mpr hfew)] at hturn
      have hsame (j : Nat) (hj : k < j) : laneAt (portAt x p.val) j = laneAt (portAt s.dev p.val) j := by rw [hx, laneAt_modLane_ne _ hj.ne', portAt_satAdd, portAt_satAdd]
      rw [foldl_degradeLane_alone corr uncorr hk hbefore fun j hj hkj => by rw [hturn, hsame j hkj]; exact hother j hj hkj.ne', hturn]
    · rw [if_pos hmany] at hturn
      rw [foldl_degradeLane_alone corr uncorr hk hbefore fun j hj hkj => by rw [hturn]; exact hafter j hj hkj, hturn]
  case laser => rw [exec_laserBiasFault, onDev_live hlive, devLaserBiasFault_lit hst]
  case signalUp => rw [exec_signalLoss, onDev_live hlive, devSignalLoss_up hst]
  case signalTraining => rw [exec_signalLoss, onDev_live hlive, devSignalLoss_training hst]
  case joins => rw [exec_spareQualified, onDev_live hlive, devSpareQualified_joins hx hq hk hheld hlock hout]
  case spareFails => rw [exec_spareQualified, onDev_live hlive, devSpareQualified_fails hx hq hk hheld hlock]
  case spareGone => rw [exec_spareQualified, onDev_live hlive, devSpareQualified_gone hx hq hk pass hgone]
  case repeats => rw [exec_widthReqRepeat, onDev_live hlive, devWidthReqRepeat_open hopen]

/-- Settles O25: slots of an UP and of a DOWN port, the checks of a received flit, and the row of each link-local flit. -/
theorem linkFlits : Obligations.LinkFlits := by
  refine ⟨fun s p x hlive hx _ hst hsend hmask hfresh hroom => ?up, fun s p x hlive hx hst hdue => ⟨fun hgap => ?downIdle, fun hgap => ?down⟩,
    fun s p f x hlive hx hst hmask hdisc => ⟨fun hbad => ?badCrc, fun hlen hcrc hack htyp hres hp => ?linkLocal⟩, fun s p q info d hlive => ?rows,
    fun s p hlive hst => ⟨fun hnak => ?nakRepeat, ?replay⟩⟩
  case up =>
    have h : Sends s.dev p.val x := ⟨hx, hst, hsend, hmask, hfresh, hroom⟩
    rw [exec_flitTransmit, onDev_live hlive]
    refine ⟨fun hgap => ?_, fun hgap hwidth hreq hnak hanks hhanks => ?_⟩
    · rw [devFlitTransmit_idleDue h hgap]
    · have hh : sendsHanks s.dev p.val = hanks := hhanks
      rw [devFlitTransmit_new h hgap hwidth hreq hnak, hh]
      refine ⟨fun hnone => ?_, fun f y hsome htyp => ?_, fun b r hclosed hbar => ?_⟩
      · rw [sendNew_none _ hnone]
      · rw [sendNew_some _ hsome htyp]
      · rw [hclosed, sendNew_some _ (nextNew_barrier _ hbar) (Nat.succ_ne_zero 0x10)]
  case downIdle => rw [exec_flitTransmit, onDev_live hlive, devFlitTransmit_downIdle hx hst hdue hgap]
  case down => rw [exec_flitTransmit, onDev_live hlive, devFlitTransmit_down hx hst hdue hgap]
  case badCrc => rw [exec_flitReceive, onDev_live hlive, devFlitReceive_badCrc hx hst hmask hdisc hbad]
  case linkLocal => rw [exec_flitReceive, onDev_live hlive, devFlitReceive_linkLocal hx hst hmask hdisc hlen hcrc hack htyp hres hp]
  case rows =>
    refine ⟨fun h => ?_, fun h => ?_, fun h hold => ?_, fun x e h hnew hhalf he hx => ?_, fun x h hx hopen hid hmask => ?_, fun h hst => ?_, fun h hst => ?_⟩
    · rw [exec_idle, onDev_live hlive, devIdle_taken h]
    · rw [exec_nak, onDev_live hlive, devNak_taken h]
    · rw [exec_widthReq, onDev_live hlive, devWidthReq_older h hold]
    · subst he
      rw [exec_widthReq, onDev_live hlive, devWidthReq_newer h hnew hhalf hx, startMask, idleLast]
    · rw [exec_width, onDev_live hlive, devWidth_answers h hx hopen hid hmask]
    · rw [exec_down, onDev_live hlive, devDown_taken h hst]
    · rw [exec_down, onDev_live hlive, devDown_again h hst]
  case nakRepeat => rw [exec_nakRepeat, onDev_live hlive, devNakRepeat_due hst hnak]
  case replay => rw [exec_replayTimeout, onDev_live hlive, devReplayTimeout_runs hst]

/-- Settles O26: the flits up to the one acknowledged leave the buffer; the expected flit is delivered, and one after a gap makes a NAK due. -/
theorem linkWindow : Obligations.LinkWindow := by
  refine ⟨fun d p a k x hx hp hold ha hk => ?_, fun d p f x hx hp hexp hnak => ⟨fun hseq => ?_, fun h0 hgap => ?_⟩⟩
  · subst hk
    refine ⟨fun hin _ => ?_, takeAck_outside hx⟩
    rw [portAt_takeAck hx hp hin]
    refine ⟨?_, rfl, ackFirst_nextSeq hin⟩
    show (x.oldest + ((a + 65536 - x.oldest) % 65536 + 1)) % 65536 = (a + 1) % 65536
    omega
  · rw [windowCheck_expected hx hseq, portAt_setPort_same _ hp]
    exact deliverFlit_window x f
  · have hport : portAt (lcnt d p 3) p = x := hx
    rw [windowCheck_ahead hx h0 hgap, wantNak_first hport hnak, portAt_setPort_same (d := lcnt d p 3) _ hp]
    exact ⟨rfl, rfl, rfl⟩

/-- Settles O51: each action once management may act; before that every one of them is a write that is not made. -/
theorem registerActions : Obligations.RegisterActions := by
  refine ⟨fun s hlive hopen => ⟨fun p => ?retrain, fun hmode => ?reform, fun hmode => ?noRing, fun q => ?elog, fun e => ?entry, fun u c high v hch => ?weight⟩, fun s c hlive hshut hc => ?shut⟩
  case retrain =>
    have hexec : exec (.retrain p) s = .next (s.put (retrain s.dev p.val)) := onDev_byWrite_open hlive hopen
    rw [hexec]
    exact ⟨fun hcode hst => by rw [retrain_idle hcode hst], fun hcode => by rw [retrain_asleep hcode], fun hoff hdown => by rw [retrain_running hoff hdown]⟩
  case reform => rw [exec_reformReq, onDev_byWrite_open hlive hopen, devReformReq, if_neg hmode]
  case noRing => rw [exec_reformReq, onDev_byWrite_open hlive hopen, devReformReq, if_pos hmode]
  case elog => rw [exec_elogSel, onDev_byWrite_open hlive hopen, devElogSel]
  case entry => exact onDev_byWrite_open hlive hopen
  case weight =>
    refine ⟨_, (exec_weightWrite u (some c) high v s).trans (onDev_byWrite_open hlive hopen), ?_⟩
    rw [devWeightWrite_channel high v s.dev hch]
    exact ⟨smGet_smSet_same _ _ _ _, fun u' c' hne => smGet_smSet_ne _ _ _ hne, rfl, rfl⟩
  case shut =>
    obtain ⟨f, hf⟩ := exec_isAction hc
    rw [hf, onDev_byWrite_shut hlive hshut]

end Sys2Proof.Machine
end

section
/-! SUPPORT. What writes of scratchpad words leave alone (06 R163, R169; 14 R401; 18 R528): the images of the models, whatever a write counts, evicts or logs on its way. -/

set_option autoImplicit false

namespace Sys2Proof.Machine

variable (d : Dev) (i w : Nat)

/-! ### Reads and what they count (06 R169, R171) -/

theorem recordErr_model (uncorr weight : Bool) (source seg : Nat) : (recordErr d i w uncorr weight source seg).model = d.model := by
  simp only [recordErr, draw_spec]
  split
  · rfl
  · rw [wr_model, wr_model]

theorem wantFence_model (cause : Nat) : (wantFence d i cause).model = d.model := by
  unfold wantFence
  dsimp only
  split <;> rfl

theorem countCe_model (n : Nat) : (countCe d i n).model = d.model := by
  unfold countCe
  split
  · rfl
  · dsimp only
    split
    · rw [wantFence_model, elog_model]; rfl
    · rfl

theorem countUe_model (weight : Bool) (source cls seg : Nat) : (countUe d i w weight source cls seg).model = d.model := by
  have hlogged (e : Dev) (h : e.model = d.model) : (elog cls 2 0x0201 i w (recordErr e i w true weight source seg)).model = d.model := by
    rw [elog_model, recordErr_model, h]
  unfold countUe
  dsimp only
  split
  · exact hlogged _ rfl
  · split
    · rw [wantFence_model]; exact hlogged _ rfl
    · exact hlogged _ rfl

theorem readWord_model (source cls : Nat) : (readWord d i w source cls).2.model = d.model := by
  unfold readWord
  dsimp only
  split
  · rfl
  · split
    · rw [countUe_model, countCe_model]
    · split
      · dsimp only
        split <;> (split <;> exact countCe_model d i _)
      · show (countCe _ i _).model = d.model
        rw [countCe_model, recordErr_model, countCe_model]

/-! ### Held copies that a write touches (14 R401, R402) -/

theorem copyWords_model (addr k : Nat) (d : Dev) : (copyWords i addr k d).2.model = d.model := by
  induction k generalizing addr d with
  | zero => rfl
  | succ k ih =>
    have hread := readWord_model d i (addr % 32768) 0 2
    unfold copyWords
    split
    next e he => rw [he] at hread; exact hread
    next x e he =>
      rw [he] at hread
      have hrest := ih (addr + 1) e
      split
      next f hf => rw [hf] at hrest; exact hrest.trans hread
      next xs f hf => rw [hf] at hrest; exact hrest.trans hread

theorem yieldCopy_model (h : HeldCtx) : (yieldCopy d i h).2.model = d.model := by
  unfold yieldCopy
  dsimp only
  split
  · split
    · rfl
    · exact copyWords_model i _ _ _
  · rfl

theorem touchHeld_model : (touchHeld d i w).model = d.model := by
  unfold touchHeld
  dsimp only
  split
  · rfl
  next h _ =>
    have hyield := yieldCopy_model d i h
    split
    · rfl
    · split
      next e he => rw [he] at hyield; exact hyield
      next e he => rw [he] at hyield; exact hyield

/-! ### Writes (06 R163, R172) and the items that they clear (18 R528) -/

theorem injectInto_model (weight : Bool) : (injectInto d i w weight).model = d.model := by
  unfold injectInto
  dsimp only
  split
  · split <;> rfl
  · rfl

theorem storeWord_model (data : List Byte) (weight : Bool) : (storeWord d i w data weight).model = d.model := by
  unfold storeWord
  dsimp only
  rw [injectInto_model]
  split <;> rfl

theorem writeWord_model (data : List Byte) (weight : Bool) : (writeWord d i w data weight).model = d.model := by
  rw [writeWord, storeWord_model, touchHeld_model]

theorem clearWords_model (a n : Nat) (d : Dev) : (clearWords a n d).model = d.model := by
  induction n generalizing a d with
  | zero => rfl
  | succ n ih =>
    unfold clearWords
    dsimp only
    rw [ih]
    split
    · exact writeWord_model ..
    · rfl

theorem removeItem_model (x : Nat × Item) : (removeItem d x).model = d.model := by
  unfold removeItem
  dsimp only
  refine (foldl_keeps (f := Dev.model) (fun e (s : Nat × Nat) => clearWords_model s.1 s.2 e) _ _).trans ?_
  split
  · rfl
  · split <;> rfl

theorem uninstall_model (im : Image) (keep : List Image) : (uninstall d im keep).model = d.model :=
  foldl_keeps (f := Dev.model) removeItem_model _ _

end Sys2Proof.Machine
end

section
/-! SUPPORT. What committed barriers do (10 Table LAP-6, R272, R293, R297, R298, R303; 16 R460; 17 R489; 03 R88): each row on the commit that waits first, in the case that it acts. -/

set_option autoImplicit false

namespace Sys2Proof.Machine

section
variable {d e : Dev} {t : Token} {im : Image}

/-! ### FORM and ACTIVATE (10 R272, R297) -/

/-- The closed ring of a FORM: all stations live, ringed lap 0, nothing launched. -/
def formRing (d : Dev) (leader : Nat) : Dev :=
  { d with ring := { d.ring with mode := 1, nLive := ringSize d, leader := leader, rlap := 0, prog := [{}, {}], rRun := false, held := false, interrupted := false } }

theorem devBarrierForm_forming (h : popCommit d 1 = some (t, e)) (hcode : e.code = stForming) :
    devBarrierForm d = restate (setCode (formRing e t.leader) stReady) := by
  simp only [devBarrierForm, h, hcode, if_true, formRing]

theorem devBarrierActivate_staged (h : popCommit d 2 = some (t, e)) (him : (modelAt e t.model).staged = some im) (hgen : im.gen = t.gen) :
    devBarrierActivate d =
      askTwin (setModel e t.model { modelAt e t.model with pend := 1, effLap := some (effectLap e t im.ringed), refused := (0, 0) }) t.model (some im) := by
  simp only [devBarrierActivate, h, him, hgen, ne_eq, not_true_eq_false, if_false]

/-! ### ROLLBACK and REMOVE (10 R298; 18 R528) -/

/-- What the placement of the image that comes back installs: nothing where it has no place. -/
def rollbackInstall (d : Dev) (im : Image) : Dev :=
  match (placement d im).bind (fun vm => (itemsAll d im vm).map (fun its => (vm, its))) with
  | some (vm, its) => { installItems its d with det := { (installItems its d).det with vmap := vm } }
  | none => d

theorem rollbackInstall_noPlace (h : placement d im = none) : rollbackInstall d im = d := by
  rw [rollbackInstall, h, Option.bind_none]

theorem rollbackInstall_placed {vm : SMap (Nat × Nat)} {its : List (Nat × Item)} (h : placement d im = some vm) (hits : itemsAll d im vm = some its) :
    rollbackInstall d im = { installItems its d with det := { (installItems its d).det with vmap := vm } } := by
  rw [rollbackInstall, h, Option.bind_some, hits, Option.map_some]

theorem devBarrierRollback_prev (h : popCommit d 3 = some (t, e)) (him : (modelAt e t.model).prev = some im) (hgen : im.gen = t.gen) :
    devBarrierRollback d =
      askTwin (answerOps (setModel (rollbackInstall e im) t.model { modelAt e t.model with pend := 2, effLap := some (effectLap (rollbackInstall e im) t im.ringed) }) 4 t.model
        { op := 4, model := t.model, status := 9, gen := im.gen }) t.model (some im) := by
  simp only [devBarrierRollback, h, him, hgen, ne_eq, not_true_eq_false, if_false]
  rfl

theorem devBarrierRemove_active {x : Dev} (h : popCommit d 4 = some (t, e)) (him : (modelAt e t.model).active = some im)
    (hx : answerOps (setModel e t.model { modelAt e t.model with pend := 3, effLap := some (effectLap e t im.ringed) }) 3 t.model
      { op := 3, model := t.model, status := 8, gen := im.gen } = x) :
    devBarrierRemove d = removedSweep (if schedRun x im.ringed then x else applySwitch x t.model) := by
  subst hx
  simp only [devBarrierRemove, h, him]

/-! ### JOIN and REFORM (10 R303; 17 R489) -/

/-- The ring that a station joins: closed, under the token's leader. -/
def joinRing (d : Dev) (leader : Nat) : Dev := { d with ring := { d.ring with mode := 1, nLive := ringSize d, leader := leader, joined := true } }

theorem devBarrierJoin_forming (h : popCommit d 5 = some (t, e)) (hcode : e.code = stForming) (hidle : anyActive e = false) :
    devBarrierJoin d = restate (setCode (joinRing e t.leader) stReady) := by
  simp only [devBarrierJoin, h, hcode, hidle, and_self, if_true, joinRing]

/-- Twin comparison asked for every model: of the image that comes where an ACTIVATE waits for its lap, else of the active one. -/
def askTwins (d : Dev) : Dev := d.model.foldl (fun d x => askTwin d x.1 (if x.2.pend = 1 then x.2.staged else x.2.active)) d

theorem devBarrierReform_running (h : popCommit d 6 = some (t, e)) (hrun : e.ring.rRun = true) (hjoined : e.ring.joined = false) :
    devBarrierReform d = askTwins { evt e Reg.LAP_EVT 3 with ring := { e.ring with joinSeen := false, reformAt := some t.leff } } := by
  have hring : (evt e Reg.LAP_EVT 3).ring = e.ring := rfl
  simp only [devBarrierReform, h, hring, hrun, hjoined, Bool.false_eq_true, if_false, if_true, askTwins]

/-! ### TWIN_SYNC and SLEEP (16 R460; 03 R88, R89) -/

theorem devBarrierTwinSync_named (h : popCommit d 7 = some (t, e)) (hme : (t.arg.getD 0 0).toNat = stationNo e ∨ (t.arg.getD 1 0).toNat = stationNo e) :
    devBarrierTwinSync d = evt (setModel e (t.arg.getD 2 0).toNat { modelAt e (t.arg.getD 2 0).toNat with twinOn := true }) Reg.DET_EVT 4 := by
  simp only [devBarrierTwinSync, h, hme, if_true]

/-- The station asleep, its SLEEP request answered and the wake event that came meanwhile spent. -/
def sleepNow (d : Dev) : Dev := enterSleep (answerSleep { d with pwr := { d.pwr with wakeDue := false } } msSuccess)

theorem devBarrierSleep_commit (h : popCommit d 8 = some (t, e)) : devBarrierSleep d = if e.pwr.wakeDue then wakeUp (sleepNow e) else sleepNow e := by
  simp only [devBarrierSleep, h, sleepNow]

end

end Sys2Proof.Machine
end

section
/-! SUPPORT. The timers of the ring (10 R272, R278, R294 to R303; 18 R528): barriers started, timed out and forgotten, laps launched, and what a model leaves behind. -/

set_option autoImplicit false

namespace Sys2Proof.Machine

/-! ### A barrier started with nothing before it (10 R272, R292) -/

section
variable {d e : Dev} {t : Token}

/-- A vote may draw a free value, and changes nothing else. -/
theorem voteOf_eq (d : Dev) (t : Token) : ∃ n, (voteOf d t).2 = { d with free := n } := by
  unfold voteOf
  split
  · exact ⟨_, rfl⟩
  · split
    case h_6 =>
      unfold voteReform
      split
      · exact ⟨_, rfl⟩
      · split <;> exact ⟨_, rfl⟩
    all_goals exact ⟨_, rfl⟩

/-- The way out of a station goes by its ports and its neighbours. -/
theorem exitOf_congr (q : Pass) (hports : e.ports = d.ports) (hnbr : e.ring.nbr = d.ring.nbr) : exitOf e q = exitOf d q := by
  have hturns (q : Pass) : turnsMsg e q = turnsMsg d q := by
    rw [turnsMsg, turnsMsg, portClosed, portClosed, portAt, portAt, hports, hnbr]
  rw [exitOf, exitOf, hturns, hturns]

theorem castVote_ports (d : Dev) (t : Token) : (castVote d t).2.ports = d.ports := by
  obtain ⟨n, hn⟩ := voteOf_eq d t
  show (voteOf d t).2.ports = d.ports
  rw [hn]

theorem castVote_nbr (d : Dev) (t : Token) : (castVote d t).2.ring.nbr = d.ring.nbr := by
  obtain ⟨n, hn⟩ := voteOf_eq d t
  show (voteOf d t).2.ring.nbr = d.ring.nbr
  rw [hn]

/-- A barrier started that leaves the station is in flight. -/
theorem startToken_flies {p : Nat} (hexit : exitOf d .east = some p) : ((startToken d t).ring.flight).isSome = true := by
  unfold startToken
  dsimp only
  split
  · rfl
  next hnone =>
    rw [exitOf_congr (d := d) .east, hexit] at hnone
    · cases hnone
    · exact castVote_ports _ _
    · exact castVote_nbr _ _

theorem serveBarriers_flying (n : Nat) (h : d.ring.flight.isSome = true) : serveBarriers n d = d := by
  obtain ⟨f, hf⟩ := Option.isSome_iff_exists.mp h
  cases n with
  | zero => rfl
  | succ n => simp only [serveBarriers, hf]

/-- A package with another queue of barriers. -/
def withQueue (d : Dev) (l : List Token) : Dev := { d with ring := { d.ring with queue := l } }

theorem exitOf_withQueue (q : Pass) (l : List Token) : exitOf (withQueue d l) q = exitOf d q := exitOf_congr q rfl rfl

theorem withQueue_self {l : List Token} (h : d.ring.queue = l) : withQueue d l = d := by rw [withQueue, ← h]

theorem serveBarriers_starts (n : Nat) {r : List Token} (hflight : d.ring.flight = none) (hqueue : d.ring.queue = t :: r) (hdue : t.due = true) (hlead : isLeader d = true) :
    serveBarriers (n + 1) d = serveBarriers n (startToken (withQueue d r) t) := by
  simp only [serveBarriers, hflight, hqueue, takeFirst, hdue, hlead, if_true, withQueue]

/-- The one barrier of a leader's queue starts, and the queue is looked at no more while it is in flight. -/
theorem pumpBarriers_one {p : Nat} (hflight : d.ring.flight = none) (hqueue : d.ring.queue = [t]) (hdue : t.due = true) (hlead : isLeader d = true) (hexit : exitOf d .east = some p) :
    pumpBarriers d = startToken (withQueue d []) t := by
  rw [pumpBarriers, hqueue, List.length_singleton, serveBarriers_starts 1 hflight hqueue hdue hlead,
    serveBarriers_flying 1 (startToken_flies ((exitOf_withQueue .east []).trans hexit))]

theorem enqueueBarrier_form {p : Nat} (hflight : d.ring.flight = none) (hqueue : d.ring.queue = []) (hlead : isLeader d = true) (hexit : exitOf d .east = some p) :
    enqueueBarrier d 0 1 0 0 = startToken d { kind := 1 } := by
  have hasks : enqueueBarrier d 0 1 0 0 = pumpBarriers (withQueue d [{ kind := 1 }]) := by
    simp [enqueueBarrier, hqueue, hflight, alreadyDone, withQueue]
  rw [hasks, pumpBarriers_one (d := withQueue d [{ kind := 1 }]) hflight rfl rfl hlead ((exitOf_withQueue .east _).trans hexit)]
  exact congrArg (fun d => startToken d { kind := 1 }) (withQueue_self hqueue)

theorem devFormBarrierStart_asks (hcode : d.code = stForming) (hlead : isLeader d = true) (hzero : stationNo d = 0) (hclosed : bothClosed d = true) (hup : ringIsUp d = false)
    (hsize : ringSize d ≤ 64) : devFormBarrierStart d = enqueueBarrier d 0 1 0 0 :=
  if_pos (by simp only [hcode, hlead, hzero, hclosed, hup, hsize, decide_true, Bool.not_false, Bool.and_self])

/-! ### Barriers timed out and forgotten (10 R294) -/

theorem devBarrierTimeout_collecting (hflight : d.ring.flight = some t) (hphase : t.phase = 1) (hlead : isLeader d = true) :
    devBarrierTimeout d = pumpBarriers (releaseToken d t false) := by
  simp only [devBarrierTimeout, hflight, hphase, hlead, and_self, if_true]

theorem devBarrierDiscard_voted (hvoted : d.ring.voted = some t) (hlead : t.leader ≠ stationNo d) (hkind : t.kind ≠ 8) :
    devBarrierDiscard d = { d with ring := { d.ring with voted := none } } := by
  simp only [devBarrierDiscard, hvoted, hlead, hkind, if_false]

end

/-! ### Folds, laps and requests (10 R278, R296, R300, R303) -/

section
variable {d : Dev}

/-- A ring reported SPLIT: no lap runs and nothing is adopted. -/
def reportSplit (d : Dev) : Dev :=
  restate (elog 5 5 0x0505 0 0xFF (evt { d with ring := { d.ring with mode := 3, adopted := none, rRun := false } } Reg.LAP_EVT 6))

/-- The requests that have no ringed lap fall back at once (DESIGN CHOICE, log entry 93). -/
theorem devFoldNoticeTimeout_oneEnd (hmode : d.ring.mode = 2) (hone : d.ring.noticeW.isSome ≠ d.ring.noticeE.isSome) : devFoldNoticeTimeout d = splitSweep (reportSplit d) :=
  if_pos ⟨hmode, hone⟩

/-- LAP_LAUNCH is the launch of one hank iterated (DEDUCED, log entry 88). -/
theorem devLapLaunch_iterate (west : Bool) (n : Nat) {pinned : Bool} (hopen : pinned = true ∨ ringOpen d = true) (hformed : 5 ≤ d.code) (hlost : d.code ≠ stLost) (hsleep : d.code ≠ stSleep) :
    devLapLaunch pinned west n d = (launchNext (!pinned) (if west then 1 else 0))^[n] (if pinned then d else removedSweep (endLap d true)) := by
  have hmay : ¬((!pinned && !ringOpen d) || decide (d.code < 5) || decide (d.code = stLost) || decide (d.code = stSleep)) = true := by
    rcases hopen with h | h <;> simp [h, hlost, hsleep, hformed]
  rw [devLapLaunch, if_neg hmay, List.foldl_const, List.length_range]

theorem devActivateRequestTimer_one {k : Nat} {x : ModelSt} {im : Image} (hmode : d.ring.mode ≠ 0) (hjoined : d.ring.joined = false) (hmodel : d.model = [(k, x)])
    (him : x.staged = some im) (hpend : x.pend ≠ 1) (hlast : (askBarrier d 2 k im.gen).ring.lastKind ≠ 7) : devActivateRequestTimer d = askBarrier d 2 k im.gen := by
  simp only [devActivateRequestTimer, hmode, hjoined, hmodel, List.foldl_cons, List.foldl_nil, him, hpend, hlast, Bool.false_eq_true, false_and, if_false]

theorem devAutoReform_signal {p : Fin 2} (hsleep : d.code ≠ stSleep) (hst : (portAt d p.val).st = 4) (hauto : (rd d Reg.LAP_CFG).getLsbD 31 = true)
    (hlanes : 4 ≤ ((portAt d p.val).lanes.filter (fun l => l.signal)).length) : devAutoReform p d = restate (startTraining d p.val 1) := by
  rw [← retrain_idle hsleep (.inr hst)]
  exact if_pos (by simp only [hst, hauto, hlanes, decide_true, Bool.and_self])

/-- REFORM_TIMER asks for both barriers (DEDUCED, log entry 90). -/
theorem devReformTimer_joined (hlead : isLeader d = true) (hjoin : d.ring.joinSeen = true) :
    devReformTimer d = enqueueBarrier (enqueueBarrier d (stationNo d) 5 0 0) (stationNo d) 6 0 0 := if_pos (by rw [hlead, hjoin]; rfl)

end

/-! ### What a model leaves behind (10 R298; 18 R528) -/

section
variable {d : Dev} {m : Fin 16} {im : Image}

theorem devModelCleanup_nothing (h : ((modelAt d (m.val + 1)).going).filter (fun im => !imageBusy d im) = []) : devModelCleanup m d = d := by
  simp only [devModelCleanup, h, List.isEmpty_nil, if_true]

/-- The generations of a model that keep their copies: of its active, staged and previous image, and of images left behind. -/
def keptGens (x : ModelSt) : List Nat := [x.active, x.staged, x.prev].filterMap (fun y => y.map (fun im => im.gen)) ++ x.going.map (fun im => im.gen)

/-- The copies of a model in external memory, and its places of the hank store, of generations no longer kept given up. -/
def dropUnkept (d : Dev) (id : Nat) (kept : List Nat) : Dev :=
  { d with xmem := { d.xmem with copies := d.xmem.copies.filter (fun c => decide (c.model ≠ id) || kept.contains c.gen) },
           ring := { d.ring with store := d.ring.store.filter (fun e => decide (e.model ≠ id) || kept.contains e.gen) } }

theorem modelAt_dropUnkept (d : Dev) (id : Nat) (kept : List Nat) (k : Nat) : modelAt (dropUnkept d id kept) k = modelAt d k := rfl

theorem dropUnkept_fcs (d : Dev) (id : Nat) (kept : List Nat) : (dropUnkept d id kept).fcs = d.fcs := rfl

theorem dropUnkept_copies {id : Nat} {kept : List Nat} {c : ImgCopy} (hc : c ∈ (dropUnkept d id kept).xmem.copies) (hid : c.model = id) : c.gen ∈ kept := by
  have hkept := (List.mem_filter.mp hc).2
  rw [Bool.or_eq_true, decide_eq_true_eq, List.contains_iff_mem] at hkept
  exact hkept.resolve_left (not_not_intro hid)

/-- The resources of an image left behind given up, with the places of virtual cores that no installed image uses. -/
def giveUp (d : Dev) (im : Image) : Dev := prunePlacement (uninstall d im (installed d)) (installed d)

theorem modelAt_giveUp (d : Dev) (im : Image) (id : Nat) : modelAt (giveUp d im) id = modelAt d id :=
  congrArg (fun l => smGet ({} : ModelSt) l id) (uninstall_model d im (installed d))

/-- One image left behind that no task uses, of a model that stays. -/
theorem devModelCleanup_one {e : Dev} (hgoing : (modelAt d (m.val + 1)).going = [im]) (hidle : imageBusy d im = false) (hactive : (modelAt d (m.val + 1)).active.isSome = true)
    (he : setModel d (m.val + 1) { modelAt d (m.val + 1) with going := [] } = e) :
    devModelCleanup m d = dropUnkept (giveUp e im) (m.val + 1) (keptGens (modelAt e (m.val + 1))) := by
  have hgone : [im].filter (fun im => !imageBusy d im) = [im] := by rw [List.filter_singleton, hidle]; rfl
  have hleft : [im].filter (fun x => !([im].contains x)) = [] := by simp
  have hstays : (modelAt e (m.val + 1)).active.isNone = false := by
    rw [← he, modelAt_setModel_same, Option.isNone_eq_false_iff]
    exact hactive
  have hmodel : modelAt (prunePlacement (uninstall e im (installed e)) (installed e)) (m.val + 1) = modelAt e (m.val + 1) := modelAt_giveUp e im _
  simp only [devModelCleanup, hgoing, hgone, hleft, he, List.isEmpty_cons, Bool.false_eq_true, if_false, List.foldl_cons, List.foldl_nil, hmodel, hstays]
  rfl

end

end Sys2Proof.Machine
end

section
/-! SUPPORT. What arrives from the ring (10 R270 to R275, R279, R286 to R292, R299; 09 R252; 16 R462): hanks, tokens, messages, twin entries and IDENTs, each row on what waits first. -/

set_option autoImplicit false

namespace Sys2Proof.Machine

/-! ### Hanks (10 R275, R279, R286) -/

section
variable {d e : Dev} {p : Fin 2} {ps : List HankPart} {r : List (List HankPart)} {h body : List Byte} {im : Image}

/-- A closed ring takes hanks on every pass. -/
theorem closedRing_takes (hmode : d.ring.mode = 1) (turns : Prop) : ¬(d.ring.mode = 0 ∨ (d.ring.mode = 2 ∧ turns)) := by
  rw [hmode]
  rintro (h | ⟨h, -⟩) <;> cases h

theorem devHank_forming (overflow : Bool) (hq : (portAt d p.val).hanks = ps :: r) (hmode : d.ring.mode = 0) :
    devHank p overflow d = protoErr (modPort d p.val (fun x => { x with hanks := r })) p.val 0x10 := by
  have hring : (modPort d p.val (fun x => { x with hanks := r })).ring.mode = 0 := hmode
  simp only [devHank, hq, hring, true_or, if_true]

/-- The station that launches a hank of an image: 256 for one that the image does not have. -/
def hankOrigin (d : Dev) (im : Image) (index : Nat) : Nat :=
  if index < im.hanks.length then launcherOf d (originOf (max 1 (ringSize d)) (index % 2) (blockNo (positions im) (max 1 (ringSize d)) (index / 2))) else 256

/-- A good hank on its own pass: mirrored and passed to the schedule here, and relayed towards its origin (DEDUCED, log entries 89 and 113). -/
theorem devHank_good {d1 : Dev} {m index lap : Nat} {which : Image} (overflow : Bool) (hq : (portAt d p.val).hanks = ps :: r) (hmode : d.ring.mode = 1)
    (he : cntInc (modPort d p.val (fun x => { x with hanks := r })) (Reg.LAP_CNT_LO 0) = e) (hh : headerOfParts ps = h) (hbody : (ps.map (fun q => q.data)).flatten = body)
    (hgood : headerGood ps h = true) (hrepair : (beAt h 1 1).testBit 1 = false) (hm : beAt h 0 1 = m) (hindex : beAt h 12 4 = index) (hlap : beAt h 16 4 = lap)
    (him : hankImage e m (beAt h 4 4) lap = some im) (hcrc : bodyCrc im.gen { layer := beAt h 8 2, hank := beAt h 10 2, crc := 0 } index body = beAt h 20 4)
    (hwhich : ((modelAt e m).imageOf lap).orElse (fun _ => (modelAt e m).active) = some which) (hown : index % 2 = p.val)
    (hd1 : passHank (mirrorTake e which index body) true lap m index (some body) = d1) :
    devHank p overflow d = relayHank d1 p.val overflow (hankOrigin d1 which index) (index % 2) m index ps (fun d => passHank d true lap m index (some body)) := by
  have hring : (modPort d p.val (fun x => { x with hanks := r })).ring.mode = 1 := hmode
  have hpass : passFrom p.val = if index % 2 = 0 then Pass.east else Pass.west := by rw [hown, passFrom]
  simp only [devHank, hq, closedRing_takes hring, hh, hbody, he, hgood, hrepair, hm, hindex, hlap, him, hcrc, identify, hwhich, ← hpass, hd1, decide_true, Bool.and_self, Bool.and_false,
    Bool.false_eq_true, if_false, if_true, hankOrigin]

/-- A hank whose header is bad and that nothing identifies: counted, and relayed with no origin of its own (DEDUCED, log entry 89). -/
theorem devHank_unknown (overflow : Bool) (hq : (portAt d p.val).hanks = ps :: r) (hmode : d.ring.mode = 1) (hh : headerOfParts ps = h) (hbad : headerGood ps h = false)
    (he : evt (cntInc (cntInc (modPort d p.val (fun x => { x with hanks := r })) (Reg.LAP_CNT_LO 0)) (Reg.LAP_CNT_LO 1)) Reg.LAP_EVT 1 = e) (hnone : identify e p.val false h = none) :
    devHank p overflow d = relayHank e p.val overflow 256 p.val (beAt h 0 1) (beAt h 12 4) ps id := by
  have hring : (modPort d p.val (fun x => { x with hanks := r })).ring.mode = 1 := hmode
  have hclosed : e.ring.mode = 1 := by rw [← he]; exact hmode
  simp only [devHank, hq, closedRing_takes hring, hh, hbad, Bool.false_and, Bool.false_eq_true, if_false, he, hnone, hclosed, if_true]

end

/-! ### Tokens, messages and twin entries (10 R289, R293; 09 R252; 16 R462) -/

section
variable {d e : Dev} {p : Fin 2} {b : List Byte}

theorem devBarrier_token {t : Token} (h : takeSeq d p.val 0x11 = some (b, e)) (ht : tokenOf b = some t) : devBarrier p d = tokenAt e (passFrom p.val) t := by
  simp only [devBarrier, h, ht]

theorem devBarrier_malformed (h : takeSeq d p.val 0x11 = some (b, e)) (ht : tokenOf b = none) : devBarrier p d = protoErr e p.val 0x11 := by
  simp only [devBarrier, h, ht]

/-- The message that a payload spells, with the port at which it arrived. -/
def msgOf (p : Nat) (b : List Byte) : RingMsg := { kind := beAt b 0 1, src := beAt b 1 1, dst := beAt b 2 1, ttl := beAt b 3 1, body := slice b 8 8, port := p }

theorem devRingMsg_mine (h : takeSeq d p.val 0x12 = some (b, e)) (hres : msgReserved b = false) (hme : beAt b 2 1 = stationNo e) (hall : beAt b 2 1 ≠ 0xFF) :
    devRingMsg p d = { e with ring := { e.ring with msgs := e.ring.msgs ++ [msgOf p.val b] } } := by
  have hnone : stationNo e ≠ 0xFF := hme ▸ hall
  simp only [devRingMsg, h, hres, hme, hnone, Bool.false_eq_true, if_false, if_true, msgOf]

theorem devTwin_off (h : takeRx d p.val 0x13 = some (b, e)) (hoff : twinMode e p.val = false) : devTwin p d = protoErr e p.val 0x13 := by
  simp only [devTwin, h, hoff, Bool.not_false, if_true]

/-- The entry of a payload that holds one: compared where it is wanted, else counted unmatched. -/
theorem devTwin_one {x : TwinEntry} (h : takeRx d p.val 0x13 = some (b, e)) (hon : twinMode e p.val = true) (hn : beAt b 0 2 = 1) (hx : x = { twinEntryOf (slice b 8 22) with time := e.now }) :
    devTwin p d = if twinWanted (twinCnt e 1 1) p.val x then compareEntry (twinCnt e 1 1) x else twinCnt (twinCnt e 1 1) 5 1 := by
  have hrange : List.range (min 11 1) = [0] := rfl
  subst hx
  simp only [devTwin, h, hon, hn, hrange, Bool.not_true, Bool.false_eq_true, if_false, List.foldl_cons, List.foldl_nil, Nat.mul_zero, Nat.add_zero]

end

/-! ### IDENT (10 R270, R271) -/

section
variable {d e : Dev} {p : Fin 2} {b : List Byte}

theorem devIdentTimer_up (h : (portAt d p.val).st = 3) : devIdentTimer p d = modPort d p.val (fun x => { x with ident := x.ident ++ [identBytes d p.val] }) := if_pos h

/-- The neighbour that an IDENT shows once it has passed its checks. -/
def nbrOf (b : List Byte) : Nbr :=
  { seen := true, ok := true, peerOk := (beAt b 8 1).testBit 0, ringId := beAt b 4 1 % 128, station := beAt b 5 1, reason := 0, state := beAt b 36 1,
    twin := if (beAt b 8 1).testBit 1 then some (beAt b 9 1) else none }

/-- A station without a twin partner has nothing to check of a twin. -/
theorem twinCheck_alone (q : Nat) (old : Nbr) (h : twinPartner d = none) : twinCheck d q old b = d := by
  simp only [twinCheck, h]

theorem devIdent_passes (h : takeSeq d p.val 0x14 = some (b, e)) (hcheck : identCheck e p.val b = 0) (halone : twinPartner e = none) (hloopW : e.ring.loopW = false)
    (hloopE : e.ring.loopE = false) : devIdent p d = { e with ring := { e.ring with nbr := setAt e.ring.nbr p.val (nbrOf b) } } := by
  simp only [devIdent, h, hcheck, decide_true, Bool.true_and, ne_eq, not_true_eq_false, false_and, if_false, if_true]
  rw [twinCheck_alone]
  · simp only [hloopW, hloopE, ite_self, Bool.and_false, Bool.false_eq_true, if_false, nbrOf]
  · exact halone

end

/-! ### Ring messages taken (10 R286, R287, R292, R299) -/

section
variable {d e : Dev} {m : RingMsg} {im : Image}

theorem devReissue_noModel (h : popMsg d 1 = some (m, e)) (him : (modelAt e (beAt m.body 0 1)).active = none) : devReissue d = protoErr e m.port 0x12 := by
  simp only [devReissue, h, him]

/-- The hank that a REISSUE asks for, and its lap. -/
def reissueKey (m : RingMsg) : Nat × Nat × Nat := (beAt m.body 0 1, beAt m.body 1 4, beAt m.body 5 3)

/-- A hank noted as checked in its lap. -/
def noteChecked (d : Dev) (k : Nat × Nat × Nat) : Dev := { d with ring := { d.ring with checked := d.ring.checked ++ [k] } }

/-- The block of a hank of an image in the ring's schedule. -/
def ringBlock (d : Dev) (im : Image) (index : Nat) : Nat := blockNo (positions im) (max 1 (ringSize d)) (index / 2)

/-- A REISSUE waits for a hank, of an active ringed image, that this station launches for its origin `o`. -/
structure ReissueAsked (d e : Dev) (m : RingMsg) (im : Image) (o : Nat) : Prop where
  pop : popMsg d 1 = some (m, e)
  image : (modelAt e (beAt m.body 0 1)).active = some im
  ringed : im.ringed = true
  index : beAt m.body 1 4 < im.hanks.length
  origin : originOf (max 1 (ringSize e)) (beAt m.body 1 4 % 2) (ringBlock e im (beAt m.body 1 4)) = o
  mine : launcherOf e o = stationNo e

/-- The stored copy of an origin checked, and rewritten from the golden copy when it is bad. -/
def checkStored (d : Dev) (model : Nat) (im : Image) (block index : Nat) : Dev :=
  match storeAt d model im.gen index with
  | none => d
  | some e =>
    let (b, d) := readPlace d e.canon e.place
    if b.any (fun b => bodyGood im index b) then d
    else
      match goldenHank d im index with
      | (some g, d) => storeHank (cntInc d (Reg.LAP_CNT_LO 5)) im block index g
      | (none, d) => { d with ring := { d.ring with store := d.ring.store.map (fun x => if x = e then { x with bad := true } else x) } }

/-- A REISSUE asked of this station counts, and its hank is checked once: what was checked before stays as it is, and only the origin itself has a stored copy to check. -/
theorem devReissue_asked {o : Nat} (h : ReissueAsked d e m im o) :
    devReissue d =
      if (cntInc e (Reg.LAP_CNT_LO 4)).ring.checked.contains (reissueKey m) then cntInc e (Reg.LAP_CNT_LO 4)
      else if o ≠ stationNo (cntInc e (Reg.LAP_CNT_LO 4)) then noteChecked (cntInc e (Reg.LAP_CNT_LO 4)) (reissueKey m)
      else checkStored (noteChecked (cntInc e (Reg.LAP_CNT_LO 4)) (reissueKey m)) (beAt m.body 0 1) im (ringBlock e im (beAt m.body 1 4)) (beAt m.body 1 4) := by
  obtain ⟨hpop, him, hringed, hindex, rfl, hmine⟩ := h
  rw [ringBlock] at hmine ⊢
  simp only [devReissue, hpop, him, hringed, Nat.not_le.mpr hindex, hmine, ne_eq, not_true_eq_false, decide_false, Bool.not_true, Bool.or_self, Bool.false_eq_true, if_false]
  rfl

theorem checkStored_rewrites {d d1 d2 : Dev} {model block index : Nat} {x : StoreEnt} {b : Option (List Byte)} {g : List Byte} (hstore : storeAt d model im.gen index = some x)
    (hread : readPlace d x.canon x.place = (b, d1)) (hbad : b.any (fun b => bodyGood im index b) = false) (hgold : goldenHank d1 im index = (some g, d2)) :
    checkStored d model im block index = storeHank (cntInc d2 (Reg.LAP_CNT_LO 5)) im block index g := by
  simp only [checkStored, hstore, hread, hbad, hgold, Bool.false_eq_true, if_false]

theorem devMirrorReq_sends {f : Dev} {b : List Byte} (h : popMsg d 2 = some (m, e)) (hclosed : portClosed e 0 = true) (hloop : e.ring.loopW = false)
    (him : (modelAt e (beAt m.body 0 1)).imageOf e.ring.rlap = some im) (hmirror : mirrorHank e im (beAt m.body 1 4) = (some b, f)) :
    devMirrorReq d = modPort f 0 (fun x => { x with hankQ := x.hankQ ++ [hankParts (beAt m.body 0 1) (hankHeader im (beAt m.body 1 4) f.ring.rlap (some m.src)) b] }) := by
  simp only [devMirrorReq, h, hclosed, hloop, him, hmirror, Bool.not_false, Bool.and_self, if_true]

/-- What a FOLD_NOTICE of an end of the line not known before starts, once the end is noted. -/
def foldAgain (d : Dev) : Dev := pumpBarriers (removedSweep (endLap (splitSweep (foldDecide d)) true))

theorem devFoldNotice_west (h : popMsg d 3 = some (m, e)) (hmode : e.ring.mode ≠ 0) (hend : beAt m.body 0 1 = 0) (hnew : e.ring.mode = 1 ∨ e.ring.noticeW ≠ some m.src) :
    devFoldNotice d = foldAgain { foldBegin true e with ring := { (foldBegin true e).ring with noticeW := some m.src } } := by
  have hknown : ¬(e.ring.mode ≠ 1 ∧ e.ring.noticeW = some m.src) := fun ⟨h1, h2⟩ => hnew.elim h1 (· h2)
  simp only [devFoldNotice, h, hmode, hend, hknown, decide_true, if_false, if_true, foldAgain]

theorem devFoldNotice_east (h : popMsg d 3 = some (m, e)) (hmode : e.ring.mode ≠ 0) (hend : beAt m.body 0 1 ≠ 0) (hnew : e.ring.mode = 1 ∨ e.ring.noticeE ≠ some m.src) :
    devFoldNotice d = foldAgain { foldBegin true e with ring := { (foldBegin true e).ring with noticeE := some m.src } } := by
  have hknown : ¬(e.ring.mode ≠ 1 ∧ e.ring.noticeE = some m.src) := fun ⟨h1, h2⟩ => hnew.elim h1 (· h2)
  simp only [devFoldNotice, h, hmode, hend, hknown, decide_false, Bool.false_eq_true, if_false, foldAgain]

/-- A notice known already ends the barriers in flight and interrupts no lap (DEDUCED, log entry 90). -/
theorem devFoldNotice_known (h : popMsg d 3 = some (m, e)) (hmode : e.ring.mode ≠ 0) (hend : beAt m.body 0 1 = 0) (hopen : e.ring.mode ≠ 1) (hknown : e.ring.noticeW = some m.src) :
    devFoldNotice d = pumpBarriers (foldBegin false e) := by
  simp only [devFoldNotice, h, hmode, hend, hopen, hknown, ne_eq, not_false_eq_true, and_self, decide_true, if_false, if_true]

theorem devBarrierReq_queued (h : popMsg d 4 = some (m, e)) (hlead : isLeader e = true) (hkind : beAt m.body 0 1 ≠ 1) :
    devBarrierReq d = enqueueBarrier e m.src (beAt m.body 0 1) (beAt m.body 1 1) (beAt m.body 2 4) := by
  simp only [devBarrierReq, h, hlead, hkind, ne_eq, not_false_eq_true, decide_true, Bool.and_self, if_true]

end

end Sys2Proof.Machine
end

section
/-! SUPPORT. The statements of 10_ring_operation.md settled: what arrives from the ring, the commits of barriers, and the ring's timers. -/

set_option autoImplicit false

namespace Sys2Proof.Machine

/-- Settles O27: each arrival on the row that takes it, in the case that its hypotheses name. -/
theorem ringArrivals : Obligations.RingArrivals := by
  refine ⟨fun s p overflow ps r hlive hq hmode => ?forming, fun s p overflow ps r d d1 h body m index lap o im which hlive hq hmode he hh hbody hgood hrepair hm hindex hlap him hcrc hwhich hown hd1 ho => ?good,
    fun s p overflow ps r d h hlive hq hmode hh hbad he hnone => ?unknown, fun s p b d t hlive h => ⟨fun ht => ?token, fun ht => ?malformed⟩, fun s p b d hlive h hres hme hall => ?message,
    fun s p b d hlive h => ⟨fun hoff => ?twinOff, fun e hon hn he => ?twin⟩, fun s p hlive hup => ?identTimer, fun s p b d hlive h hcheck halone _ hloopW hloopE => ?ident,
    fun s m d hlive h him => ?noModel, fun s m d d1 im o hlive h him hringed hindex ho hmine hd1 => ?reissue, fun s m d f im b hlive h hclosed hloop him hmirror => ?mirror,
    fun s m d hlive h hmode hend => ⟨fun hnew => ?west, fun hopen hknown => ?known⟩, fun s m d hlive h hmode hend hnew => ?east, fun s m d hlive h hlead hkind => ?barrierReq⟩
  case forming => rw [exec_hank, onDev_live hlive, devHank_forming overflow hq hmode]
  case good =>
    subst ho
    rw [exec_hank, onDev_live hlive, devHank_good overflow hq hmode he hh hbody hgood hrepair hm.symm hindex.symm hlap.symm him hcrc hwhich hown hd1, hankOrigin]
  case unknown => rw [exec_hank, onDev_live hlive, devHank_unknown overflow hq hmode hh hbad he hnone]
  case token => rw [exec_barrier, onDev_live hlive, devBarrier_token h ht]
  case malformed => rw [exec_barrier, onDev_live hlive, devBarrier_malformed h ht]
  case message => rw [exec_ringMsg, onDev_live hlive, devRingMsg_mine h hres hme hall, msgOf]
  case twinOff => rw [exec_twin, onDev_live hlive, devTwin_off h hoff]
  case twin =>
    rw [exec_twin, onDev_live hlive, devTwin_one h hon hn he]
    exact ⟨fun hwanted => by rw [if_pos hwanted], fun hnot => by rw [if_neg (ne_true_of_eq_false hnot)]⟩
  case identTimer => rw [exec_identTimer, onDev_live hlive, devIdentTimer_up hup]
  case ident => rw [exec_ident, onDev_live hlive, devIdent_passes h hcheck halone hloopW hloopE, nbrOf]
  case noModel => rw [exec_reissue, onDev_live hlive, devReissue_noModel h him]
  case reissue =>
    have hasked : ReissueAsked s.dev d m im o := ⟨h, him, hringed, hindex, ho, hmine⟩
    rw [exec_reissue, onDev_live hlive, devReissue_asked hasked, hd1]
    refine ⟨fun hknown => ?_, fun hnew hother => ?_, fun d2 d3 d4 e b g hnew hme hd2 hstore hread hbad hgold => ?_⟩
    · rw [reissueKey, if_pos hknown]
    · rw [reissueKey, if_neg (ne_true_of_eq_false hnew), if_pos hother, noteChecked]
    · have hblock : ringBlock d im (beAt m.body 1 4) = blockNo (positions im) (max 1 (ringSize d)) (beAt m.body 1 4 / 2) := rfl
      have hnoted : noteChecked d1 (reissueKey m) = d2 := hd2
      rw [hnoted, reissueKey, if_neg (ne_true_of_eq_false hnew), if_neg (not_not_intro hme), checkStored_rewrites hstore hread hbad hgold, hblock]
  case mirror => rw [exec_mirrorReq, onDev_live hlive, devMirrorReq_sends h hclosed hloop him hmirror]
  case west => rw [exec_foldNotice, onDev_live hlive, devFoldNotice_west h hmode hend hnew, foldAgain]
  case known => rw [exec_foldNotice, onDev_live hlive, devFoldNotice_known h hmode hend hopen hknown]
  case east => rw [exec_foldNotice, onDev_live hlive, devFoldNotice_east h hmode hend hnew, foldAgain]
  case barrierReq => rw [exec_barrierReq, onDev_live hlive, devBarrierReq_queued h hlead hkind]

/-- Settles O28: each commit on the command that it waits for. -/
theorem barrierCommits : Obligations.BarrierCommits := by
  intro s t d hlive
  refine ⟨fun h hcode => ?form, fun im h him hgen => ?activate, fun im h him hgen hplace => ?rollback, fun im vm its h him hgen hplace hits => ?install, fun im x h him hx => ?remove,
    fun h hcode hidle => ?join, fun h hrun hjoined => ?reform, fun h hme => ?twin, fun h => ?sleep⟩
  case form => rw [exec_barrierForm, onDev_live hlive, devBarrierForm_forming h hcode, formRing]
  case activate => rw [exec_barrierActivate, onDev_live hlive, devBarrierActivate_staged h him hgen, effectLap]
  case rollback => rw [exec_barrierRollback, onDev_live hlive, devBarrierRollback_prev h him hgen, rollbackInstall_noPlace hplace]
  case install => rw [exec_barrierRollback, onDev_live hlive, devBarrierRollback_prev h him hgen, rollbackInstall_placed hplace hits]
  case remove => rw [exec_barrierRemove, onDev_live hlive, devBarrierRemove_active h him hx]
  case join => rw [exec_barrierJoin, onDev_live hlive, devBarrierJoin_forming h hcode hidle, joinRing]
  case reform => rw [exec_barrierReform, onDev_live hlive, devBarrierReform_running h hrun hjoined, askTwins]
  case twin => rw [exec_barrierTwinSync, onDev_live hlive, devBarrierTwinSync_named h hme]
  case sleep => rw [exec_barrierSleep, onDev_live hlive, devBarrierSleep_commit h, sleepNow]

/-- Settles O29: each timer in the case that its hypotheses name; what a clean-up drops is what the model no longer keeps. -/
theorem ringTimers : Obligations.RingTimers := by
  refine ⟨fun s hlive hcode hlead hzero hclosed hup hsize => ?form, fun s t hlive hflight hphase hlead => ?timeout, fun s t hlive hvoted hlead hkind => ?discard, fun s hlive hmode hone => ?split,
    fun s pinned west n hlive hopen hformed hlost hsleep => ?launch, fun s k x im hlive hmode hjoined hmodel him hpend _ hlast => ?activate, fun s p hawake hst hauto hlanes => ?auto,
    fun s hlive hlead hjoin => ?reform, fun s m hlive hnone => ?nothing, fun s m im d hlive hgoing hidle hactive hd => ?cleanup⟩
  case form =>
    have hasks : exec .formBarrierStart s = .next (s.put (enqueueBarrier s.dev 0 1 0 0)) := by
      rw [exec_formBarrierStart, onDev_live hlive, devFormBarrierStart_asks hcode hlead hzero hclosed hup hsize]
    exact ⟨hasks, fun p hflight hqueue hexit => by rw [hasks, enqueueBarrier_form hflight hqueue hlead hexit]⟩
  case timeout => rw [exec_barrierTimeout, onDev_live hlive, devBarrierTimeout_collecting hflight hphase hlead]
  case discard => rw [exec_barrierDiscard, onDev_live hlive, devBarrierDiscard_voted hvoted hlead hkind]
  case split => rw [exec_foldNoticeTimeout, onDev_live hlive, devFoldNoticeTimeout_oneEnd hmode hone, reportSplit]
  case launch => rw [exec_lapLaunch, onDev_live hlive, devLapLaunch_iterate west n hopen hformed hlost hsleep]
  case activate => rw [exec_activateRequestTimer, onDev_live hlive, devActivateRequestTimer_one hmode hjoined hmodel him hpend hlast]
  case auto =>
    obtain ⟨hlive, hsleep⟩ := awake_iff.mp hawake
    rw [exec_autoReform, onDev_live hlive, devAutoReform_signal hsleep hst hauto hlanes]
  case reform => rw [exec_reformTimer, onDev_live hlive, devReformTimer_joined hlead hjoin]
  case nothing => rw [exec_modelCleanup, onDev_live hlive, devModelCleanup_nothing hnone]
  case cleanup =>
    have hleft : (modelAt d (m.val + 1)).going = [] := by rw [← hd, modelAt_setModel_same]
    refine ⟨dropUnkept (giveUp d im) (m.val + 1) (keptGens (modelAt d (m.val + 1))), ?_, hleft, dropUnkept_fcs _ _ _, fun c hc hid => ?_⟩
    · rw [exec_modelCleanup, onDev_live hlive, devModelCleanup_one hgoing hidle hactive hd]
    · have hkept := dropUnkept_copies hc hid
      rw [keptGens, hleft, List.map_nil, List.append_nil] at hkept
      rw [modelAt_dropUnkept, modelAt_giveUp]
      exact hkept

end Sys2Proof.Machine
end

section
/-! SUPPORT. The memory controllers (11 R317 to R328): each command on a channel in service, the rebuild of a copy by its kind and its source, and the runs of a traffic generator. -/

set_option autoImplicit false

namespace Sys2Proof.Machine

section
variable {d : Dev} {u : Fin 12} {c : Fin 32}

/-! ### A unit started (11 R317 to R319) -/

/-- The choice of a channel among the classes with a unit ready, with its credits after the choice. -/
def channelChoice (d : Dev) (u c : Nat) (ready : List (Fin 8)) : Option Nat × List Int :=
  chooseClass (chWeights d u c) (chCredits d u c) (smGet 7 d.xmem.last (chKey u c)) ready (if smGet 0 d.xmem.inReq (chKey u c) = 0 then none else some (smGet 0 d.xmem.inReq (chKey u c) - 1))

/-- The request in progress after a unit of the class chosen: none after a request's last unit, and as it was when no class has a unit ready. -/
def openRequest (best : Option Nat) (final : Bool) (going : Nat) : Nat :=
  match best with
  | some b => if final then 0 else b + 1
  | none => going

/-- What the choice of a class leaves of a channel: its credits, the request in progress, and the last class served that has weight 0. -/
def takeUnit (d : Dev) (u c : Nat) (best : Option Nat) (cr : List Int) (final : Bool) : Dev :=
  { d with xmem := { d.xmem with credits := smSet (List.replicate 8 0) d.xmem.credits (chKey u c) cr,
                                 inReq := smSet 0 d.xmem.inReq (chKey u c) (openRequest best final (smGet 0 d.xmem.inReq (chKey u c))),
                                 last := match best with | some b => (if (chWeights d u c).getD b 0 = 0 then smSet 7 d.xmem.last (chKey u c) b else d.xmem.last) | none => d.xmem.last } }

/-- On a channel in service the class is the one chosen; a request in progress keeps its class (log entry 115). -/
theorem devChannelUnitStart_inService {ready : List (Fin 8)} {best : Option Nat} {cr : List Int} (final : Bool) (n : Fin 17) (hch : hasCh u.val c.val = true) (hgone : chGone d u.val c.val = false)
    (hbest : channelChoice d u.val c.val ready = (best, cr)) :
    devChannelUnitStart u c ready final n d = cntAdd (xcnt (takeUnit d u.val c.val best cr final) u.val 7 n.val) (Reg.DET_TIMING_LO 3) n.val := by
  rw [channelChoice] at hbest
  simp only [devChannelUnitStart, hch, hgone, Bool.not_true, Bool.or_self, Bool.false_eq_true, if_false, hbest]
  rfl

/-- Such a start charges the credits, keeps the request open until its last unit, and changes no weight, memory or 32-bit register. -/
theorem devChannelUnitStart_spec {ready : List (Fin 8)} {best : Option Nat} {cr : List Int} (final : Bool) (n : Fin 17) (hch : hasCh u.val c.val = true) (hgone : chGone d u.val c.val = false)
    (hbest : channelChoice d u.val c.val ready = (best, cr)) :
    let e := devChannelUnitStart u c ready final n d
    chCredits e u.val c.val = cr ∧
      smGet 0 e.xmem.inReq (chKey u.val c.val) = openRequest best final (smGet 0 d.xmem.inReq (chKey u.val c.val)) ∧
      e.xmem.weights = d.xmem.weights ∧ e.mem = d.mem ∧ e.regs.val = d.regs.val := by
  rw [devChannelUnitStart_inService final n hch hgone hbest]
  exact ⟨smGet_smSet_same .., smGet_smSet_same .., rfl, rfl, rfl⟩

/-! ### Refresh (11 R320, R321) -/

theorem devRefresh_hot {temp : BitVec 8} (n : Nat) (hch : hasCh u.val c.val = true) (hgone : chGone d u.val c.val = false) (htemp : 85 < temp.toInt) :
    devRefresh u c temp n d = xcnt (setFld (setFld d (xreg u.val 0) 31 24 temp.toNat) (xreg u.val 0) 23 23 1) u.val 6 n := by
  simp only [devRefresh, hch, hgone, Bool.not_true, Bool.or_self, Bool.false_eq_true, if_false, if_pos htemp]

theorem devRefresh_cool {temp : BitVec 8} (n : Nat) (hch : hasCh u.val c.val = true) (hgone : chGone d u.val c.val = false) (htemp : temp.toInt < 80) :
    devRefresh u c temp n d = xcnt (setFld (setFld d (xreg u.val 0) 31 24 temp.toNat) (xreg u.val 0) 23 23 0) u.val 6 n := by
  have hnot : ¬ 85 < temp.toInt := by omega
  simp only [devRefresh, hch, hgone, Bool.not_true, Bool.or_self, Bool.false_eq_true, if_false, if_neg hnot, if_pos htemp]

/-- From 80 to 85 °C the refresh rate stays what it is. -/
theorem devRefresh_between {temp : BitVec 8} (n : Nat) (hch : hasCh u.val c.val = true) (hgone : chGone d u.val c.val = false) (hlow : 80 ≤ temp.toInt) (hhigh : temp.toInt ≤ 85) :
    devRefresh u c temp n d = xcnt (setFld d (xreg u.val 0) 31 24 temp.toNat) u.val 6 n := by
  simp only [devRefresh, hch, hgone, Bool.not_true, Bool.or_self, Bool.false_eq_true, if_false, if_neg (Int.not_lt.mpr hhigh), if_neg (Int.not_lt.mpr hlow)]

/-! ### Errors and map-out (11 R322 to R324) -/

section
variable {a : Fin (2 ^ 40)}

/-- What `k` retries leave: counted, with their event, the cause and the count of the channel, and those of the running second. -/
def noteRetries (d : Dev) (u c code k : Nat) : Dev :=
  let st := xreg u (0x200 + 4 * c)
  let e := evt (xcnt d u 2 k) (xreg u 0x00C) 2
  { setFld (setFld e st 27 24 (code + 1)) st 15 0 (min (fld e st 15 0 + k) 0xffff) with
      xmem := { d.xmem with retryWin := smSet 0 d.xmem.retryWin (chKey u c) (smGet 0 d.xmem.retryWin (chKey u c) + k) } }

/-! Rewritten and not by `rfl`: on a package whose registers were just set, the kernel would compare the register files too. -/

@[simp] theorem setFld_xmem (d : Dev) (a hi lo n : Nat) : (setFld d a hi lo n).xmem = d.xmem := by rw [setFld, wr_xmem]
@[simp] theorem evt_xmem (d : Dev) (a bit : Nat) : (evt d a bit).xmem = d.xmem := by rw [evt, wr_xmem]
@[simp] theorem xcnt_xmem (d : Dev) (u k n : Nat) : (xcnt d u k n).xmem = d.xmem := by rw [xcnt, cntAdd, cntSet_xmem]

/-- An access that reaches a channel that is UP, at an address of that channel. -/
structure AccessUp (d : Dev) (u : Fin 12) (c : Fin 32) (a : Fin (2 ^ 40)) : Prop where
  has : hasCh u.val c.val = true
  up : chState d u.val c.val = 0
  ctl : ctlOf d a.val = some u.val
  chan : chOf u.val a.val = c.val

variable (h : AccessUp d u c a) (covered : Nat)
include h

theorem devChannelError_corrected : devChannelError u c a .corrected covered d = xcnt d u.val 4 1 := by
  simp [devChannelError, h.has, h.up, h.ctl, h.chan]

theorem devChannelError_uncorrectable (hu : u.val < 4) :
    devChannelError u c a .uncorrectable covered d = { d with mem := { d.mem with extErr := smSet 0 d.mem.extErr (a.val / 64) 1 } } := by
  simp [devChannelError, h.has, h.up, h.ctl, h.chan, hu]

/-- Retries are counted whether they cure the error or not; at least one cured it, and all four failed. -/
theorem devChannelError_retried (code : Fin 3) (n : Fin 5) (good : Bool) {k : Nat} {e : Dev} (hk : k = if good then max 1 n.val else 4) (he : noteRetries d u.val c.val code.val k = e) :
    devChannelError u c a (.retried code n good) covered d =
      if good = false then becomeFailing (xcnt e u.val 3 1) u.val c.val 1 a.val covered
      else if fld e (xreg u.val 0x014) 31 16 < smGet 0 d.xmem.retryWin (chKey u.val c.val) + k then becomeFailing e u.val c.val 2 a.val covered
      else e := by
  subst hk he
  cases good <;>
    simp only [devChannelError, h.has, h.up, h.ctl, h.chan, noteRetries, setFld_xmem, evt_xmem, xcnt_xmem, Bool.not_true, Bool.not_false, ne_eq, not_true_eq_false, decide_false,
      Bool.or_self, Bool.false_eq_true, Bool.true_eq_false, if_false, if_true]

end

theorem devChannelMapOut_failing (hch : hasCh u.val c.val = true) (hst : chState d u.val c.val = 1) :
    devChannelMapOut u c d = mapOut d u.val c.val (smGet 0 d.xmem.why (chKey u.val c.val)) := by
  rw [devChannelMapOut, hch, hst]
  rfl

theorem devChannelMapOut_notFailing (hst : chState d u.val c.val ≠ 1) : devChannelMapOut u c d = d := by
  rw [devChannelMapOut, decide_eq_false hst, Bool.and_false, if_neg Bool.false_ne_true]

end

/-! ### Rebuilds (11 R326) -/

section
variable {d e : Dev} {m : Fin 16} {g : BitVec 32} {k : Fin 8} {c o : ImgCopy} {im : Image}

/-- A copy of the image that a rebuild ends, found with its image. -/
structure RebuildOf (d : Dev) (m : Fin 16) (g : BitVec 32) (k : Fin 8) (c : ImgCopy) (im : Image) : Prop where
  copy : copyAt d (m.val + 1) g.toNat k.val = some c
  image : imageByGen d (m.val + 1) g.toNat = some im

/-- The kinds of the pinned and the image copies are no kinds of shards. -/
theorem notShard (h : k.val < 2 ∨ 6 ≤ k.val) : (decide (2 ≤ k.val) && decide (k.val ≤ 5)) = false := by
  rw [Bool.and_eq_false_iff, decide_eq_false_iff_not, decide_eq_false_iff_not]
  omega

theorem devRebuildComplete_whole (h : RebuildOf d m g k c im) (hwhole : c.damaged = false) : devRebuildComplete m g k d = d := by
  simp only [devRebuildComplete, h.copy, h.image, hwhole, Bool.not_false, if_true]

section
variable (h : RebuildOf d m g k c im) (hdam : c.damaged = true)
include h hdam

/-- With fewer free granules than the copy took there is no rebuild (log entry 92). -/
theorem devRebuildComplete_noRoom (hkind : k.val < 2 ∨ 6 ≤ k.val) (hfull : (freeGranules d c.stack).length < c.granules.length) : devRebuildComplete m g k d = rebuildFailed d c := by
  simp only [devRebuildComplete, h.copy, h.image, hdam, notShard hkind, hfull, Bool.not_true, Bool.false_eq_true, if_false, if_true]

section
variable (hroom : c.granules.length ≤ (freeGranules d c.stack).length) (ho : copyAt d (m.val + 1) im.gen (if k.val < 2 then 1 - k.val else 13 - k.val) = some o)
include hroom ho

/-- The source is the copy of the other kind, which lies on the other stack. -/
theorem devRebuildComplete_badSource (hkind : k.val < 2 ∨ 6 ≤ k.val) (hbad : o.damaged = true) : devRebuildComplete m g k d = rebuildFailed d c := by
  simp only [devRebuildComplete, h.copy, h.image, hdam, notShard hkind, Nat.not_lt.mpr hroom, ho, hbad, Bool.not_true, Bool.false_eq_true, if_false, if_true]

theorem devRebuildComplete_pinned {hs ns : List Nat} {all : Bool} (hgood : o.damaged = false) (hpin : k.val < 2)
    (hwrote : rebuildPinned im (1 - k.val) c.stack c.hanks ((freeGranules d c.stack).take c.granules.length) d = (hs, ns, all, e)) :
    devRebuildComplete m g k d =
      if all then replaceCopy e c { c with hanks := hs, granules := ns } else rebuildFailed (replaceCopy e c { c with hanks := hs, granules := ns }) c := by
  rw [if_pos hpin] at ho
  simp only [devRebuildComplete, h.copy, h.image, hdam, notShard (.inl hpin), Nat.not_lt.mpr hroom, ho, hgood, hpin, hwrote, Bool.not_true, Bool.false_eq_true, if_false, if_true]

theorem devRebuildComplete_program {b : List Byte} {f : Dev} (hgood : o.damaged = false) (hprog : 6 ≤ k.val)
    (hread : readGranules o.stack 0 o.granules d = (some b, e)) (hwrite : writeGranules c.stack ((freeGranules d c.stack).take c.granules.length) b e = some f) :
    devRebuildComplete m g k d =
      replaceCopy (xcnt f c.stack 9 (2048 * ((freeGranules d c.stack).take c.granules.length).length)) c { c with granules := (freeGranules d c.stack).take c.granules.length } := by
  have hpin : ¬ k.val < 2 := by omega
  rw [if_neg hpin] at ho
  simp only [devRebuildComplete, h.copy, h.image, hdam, notShard (.inr hprog), Nat.not_lt.mpr hroom, ho, hgood, hpin, hread, hwrite, Option.map_some, Option.getD_some, Bool.not_true, Bool.false_eq_true, if_false]

end

/-- A shard is rebuilt hank by hank beside the damaged copy, and takes its place once none is missing. -/
theorem devRebuildComplete_shard {b : ImgCopy} (hlow : 2 ≤ k.val) (hhigh : k.val ≤ 5)
    (hroom : 32 * (c.hanks.countP (fun i => !(((copyAt d (m.val + 1) im.gen (k.val + 10)).map (fun b => b.hanks)).getD []).contains i)) ≤ (freeGranules d c.stack).length)
    (he : (if k.val < 4 then rebuildShard d im c else d) = e) (hb : copyAt e (m.val + 1) im.gen (k.val + 10) = some b) :
    devRebuildComplete m g k d = if ∀ i ∈ c.hanks, i ∈ b.hanks then replaceCopy e c b else e := by
  have hall : (c.hanks.all fun i => b.hanks.contains i) = true ↔ ∀ i ∈ c.hanks, i ∈ b.hanks := by
    simp only [List.all_eq_true, List.contains_iff_mem]
  simp only [devRebuildComplete, h.copy, h.image, hdam, hlow, hhigh, Nat.not_lt.mpr hroom, he, hb, hall, decide_true, Bool.and_self, Bool.not_true, Bool.false_eq_true, if_false, if_true]

end

end

/-! ### Runs of the traffic generator (11 R327, R328) -/

section
variable {d : Dev} {u : Fin 12} {c : Fin 32}

theorem tgReg_inj {u c off off' : Nat} (h : tgReg u c off = tgReg u c off') : off = off' := by
  unfold tgReg xreg at h
  omega

/-- START on a generator that may run sets it RUNNING, with no errors counted and no failure recorded (log entry 23). -/
theorem devTgStart_runs (hch : hasCh u.val c.val = true) (hgone : chGone d u.val c.val = false) (hidle : fld d (tgReg u.val c.val 0x18) 31 30 ≠ 1) (hcode : d.code ≠ stSleep)
    (hcount : rdn d (tgReg u.val c.val 0x14) ≠ 0) :
    rd (devTgStart u c d) (tgReg u.val c.val 0x18) = 0x40000000#32 ∧ rd (devTgStart u c d) (tgReg u.val c.val 0x1C) = 0 ∧ cnt (devTgStart u c d) (tgReg u.val c.val 0x20) = 0 := by
  have hne {x y : Nat} (h : x ≠ y) : tgReg u.val c.val x ≠ tgReg u.val c.val y := fun he => h (tgReg_inj he)
  have hblocks : (rd d (tgReg u.val c.val 0x14)).toNat ≠ 0 := hcount
  simp [devTgStart, hch, hgone, tgRunning, hidle, hcode, rdn, hblocks, hne]

theorem devTgStop_running (n : Nat) (hch : hasCh u.val c.val = true) (hrun : fld d (tgReg u.val c.val 0x18) 31 30 = 1) :
    devTgStop u c n d = setFld (tgRun d u.val c.val (min n (rdn d (tgReg u.val c.val 0x14)))) (tgReg u.val c.val 0x18) 31 30 3 := by
  rw [devTgStop, tgRunning, hch, decide_eq_true hrun, Bool.and_self, if_pos rfl]

theorem devTgRunComplete_running (hch : hasCh u.val c.val = true) (hrun : fld d (tgReg u.val c.val 0x18) 31 30 = 1) :
    devTgRunComplete u c d = setFld (tgRun d u.val c.val (rdn d (tgReg u.val c.val 0x14))) (tgReg u.val c.val 0x18) 31 30 2 := by
  rw [devTgRunComplete, tgRunning, hch, decide_eq_true hrun, Bool.and_self, if_pos rfl]

end

end Sys2Proof.Machine
end

section
/-! SUPPORT. The statement of 11_external_memory.md settled: the memory controllers. -/

set_option autoImplicit false

namespace Sys2Proof.Machine

/-- Settles O30: each command of a memory controller in the case that its hypotheses name. -/
theorem memoryControllers : Obligations.MemoryControllers := by
  refine ⟨fun s u c hawake hch hgone => ?service, fun s u c a st covered hawake hch hup hctl hchan hst => ?error, fun s u c hlive hch => ⟨fun hst => ?mapOut, fun hst => ?notFailing⟩,
    fun s m g k c im gs hawake hcopy him hgs => ?rebuild, fun s u c hawake hch => ?generator⟩
  case service =>
    refine ⟨fun ready final n going best cr hgoing hbest => ?unit, fun temp n htemp => ?hot, fun temp n htemp => ?cool, fun temp n hlow hhigh => ?between⟩
    case unit =>
      subst hgoing
      exact ⟨_, (exec_channelUnitStart u c ready ⟨final, n⟩ s).trans (onAwake_awake hawake), devChannelUnitStart_spec final n hch hgone hbest⟩
    case hot => rw [exec_refresh, onAwake_awake hawake, devRefresh_hot n hch hgone htemp]
    case cool => rw [exec_refresh, onAwake_awake hawake, devRefresh_cool n hch hgone htemp]
    case between => rw [exec_refresh, onAwake_awake hawake, devRefresh_between n hch hgone hlow hhigh]
  case error =>
    have h : AccessUp s.dev u c a := ⟨hch, hup, hctl, hchan⟩
    refine ⟨?_, fun hu => ?_, fun code n good k d e hk hd he => ?_⟩
    · rw [exec_channelError, onAwake_awake hawake, devChannelError_corrected h]
    · rw [exec_channelError, onAwake_awake hawake, devChannelError_uncorrectable h covered hu]
    · subst hd hst
      rw [exec_channelError, onAwake_awake hawake, devChannelError_retried h covered code n good hk he]
      refine ⟨fun hgood => ?_, fun hgood hover => ?_, fun hgood hwithin => ?_⟩
      · rw [if_pos hgood]
      · rw [if_neg (ne_false_of_eq_true hgood), if_pos hover]
      · rw [if_neg (ne_false_of_eq_true hgood), if_neg (Nat.not_lt.mpr hwithin)]
  case mapOut => rw [exec_channelMapOut, onDev_live hlive, devChannelMapOut_failing hch hst]
  case notFailing => rw [exec_channelMapOut, onDev_live hlive, devChannelMapOut_notFailing hst]
  case rebuild =>
    have h : RebuildOf s.dev m g k c im := ⟨hcopy, him⟩
    subst hgs
    rw [exec_rebuildComplete, onAwake_awake hawake]
    refine ⟨fun hwhole => ?_, fun hdam hkind => ⟨fun hfull => ?_, fun o hroom ho => ⟨fun hbad => ?_, fun hs ns d hgood hpin hwrote => ?_, fun hs ns d hgood hpin hwrote => ?_,
      fun b d e hgood hprog hread hwrite => ?_⟩⟩, fun d b hdam hlow hhigh hroom hd hb => ⟨fun hall => ?_, fun ⟨i, hi, hmissing⟩ => ?_⟩⟩
    · rw [devRebuildComplete_whole h hwhole]
    · rw [devRebuildComplete_noRoom h hdam hkind hfull, rebuildFailed]
    · rw [devRebuildComplete_badSource h hdam hroom ho hkind hbad, rebuildFailed]
    · rw [devRebuildComplete_pinned h hdam hroom ho hgood hpin hwrote, if_pos rfl]
    · rw [devRebuildComplete_pinned h hdam hroom ho hgood hpin hwrote, if_neg Bool.false_ne_true]
    · rw [devRebuildComplete_program h hdam hroom ho hgood hprog hread hwrite]
    · rw [devRebuildComplete_shard h hdam hlow hhigh hroom hd hb, if_pos hall]
    · rw [devRebuildComplete_shard h hdam hlow hhigh hroom hd hb, if_neg fun hall => hmissing (hall i hi)]
  case generator =>
    obtain ⟨hlive, hcode⟩ := awake_iff.mp hawake
    refine ⟨fun hopen hgone hidle hcount => ?start, fun hrun => ⟨?complete, fun n hopen => ?stop⟩⟩
    case start =>
      refine ⟨s.put (devTgStart u c s.dev), ?_, devTgStart_runs hch hgone hidle hcode hcount⟩
      rw [exec_tgStart, onDev_live hlive, byWrite_open hopen]
    case complete => rw [exec_tgRunComplete, onAwake_awake hawake, devTgRunComplete_running hch hrun]
    case stop => rw [exec_tgStop, onDev_live hlive, byWrite_open hopen, devTgStop_running n hch hrun]

end Sys2Proof.Machine
end

section
/-! SUPPORT. Ethernet sub-ports (12 R334 to R342): the link and its events, and what becomes of a received frame. -/

set_option autoImplicit false

namespace Sys2Proof.Machine

/-! ### Validity of a reference (15 R422, Table TIME-2) -/

theorem refCheck_eq (d : Dev) : ∃ t : Tim, refCheck d = { d with tim := t } ∧ t.ptp = d.tim.ptp ∧ t.valid = d.tim.valid := by
  simp only [refCheck]
  split
  · exact ⟨_, rfl, rfl, rfl⟩
  · split
    · split
      · exact ⟨d.tim, rfl, rfl, rfl⟩
      · exact ⟨_, rfl, rfl, rfl⟩
    · exact ⟨_, rfl, rfl, rfl⟩

/-- A reference that goes changes the time base alone, and is not valid after. -/
theorem refDown_eq (d : Dev) (r : Nat) : ∃ t : Tim, refDown d r = { d with tim := t } ∧ t.ptp = d.tim.ptp ∧ t.valid.getD r false = false := by
  unfold refDown
  split
  case isTrue =>
    obtain ⟨t, h, hptp, hvalid⟩ := refCheck_eq { d with tim := { d.tim with valid := setAt d.tim.valid r false, requal := if d.tim.requal = some (r + 1) then none else d.tim.requal } }
    refine ⟨t, h, hptp, ?_⟩
    rw [hvalid]
    by_cases hr : r < d.tim.valid.length
    · exact setAt_same _ _ hr
    · simp [setAt, List.getD_eq_getElem?_getD, hr]
  case isFalse h => exact ⟨d.tim, rfl, rfl, by simpa using h⟩

/-! ### The link of a sub-port (12 R334, R335) -/

/-- A sub-port whose link is set, with the event of a change. -/
def linkSet (d : Dev) (n s : Nat) (up an : Bool) : Dev :=
  let e := setSp d n s { spAt d n s with up := up, an := an }
  if (spAt d n s).up = up then e else evt e (Reg.ETH_EVT n) 0

/-- Beyond that, a link changes only the time base, for which its loss on PTP_SP takes a reference away. -/
theorem setLink_eq (d : Dev) (n s : Nat) (up an : Bool) : ∃ t : Tim, setLink d n s up an = { linkSet d n s up an with tim := t } := by
  show ∃ t : Tim, (if (spAt d n s).up && !up && decide (s = ptpSp (linkSet d n s up an) n) then refDown (linkSet d n s up an) n else linkSet d n s up an) = _
  split
  · obtain ⟨t, h, -⟩ := refDown_eq (linkSet d n s up an) n
    exact ⟨t, h⟩
  · exact ⟨_, rfl⟩

theorem spAt_setLink (d : Dev) (n s : Nat) (up an : Bool) : spAt (setLink d n s up an) n s = { spAt d n s with up := up, an := an } := by
  obtain ⟨t, h⟩ := setLink_eq d n s up an
  rw [h, linkSet]
  show spAt (ite _ _ _) n s = _
  split
  · exact spAt_setSp_same ..
  · exact spAt_setSp_same ..

/-- A change of the link sets LINK_EVT. -/
theorem rd_setLink_changed (d : Dev) (n s : Nat) {up : Bool} (an : Bool) (h : (spAt d n s).up ≠ up) : (rd (setLink d n s up an) (Reg.ETH_EVT n)).getLsbD 0 = true := by
  obtain ⟨t, ht⟩ := setLink_eq d n s up an
  rw [ht, linkSet, if_neg h]
  exact evt_getLsbD _ _ 0 (by decide)

/-- What neither the sub-ports, nor events, nor the time base hold, a change of the link keeps. -/
theorem setLink_keeps {γ : Type} {f : Dev → γ} (hsp : ∀ d n s p, f (setSp d n s p) = f d) (hevt : ∀ d a b, f (evt d a b) = f d) (htim : ∀ (d : Dev) t, f { d with tim := t } = f d)
    (d : Dev) (n s : Nat) (up an : Bool) : f (setLink d n s up an) = f d := by
  obtain ⟨t, h⟩ := setLink_eq d n s up an
  rw [h, htim, linkSet]
  show f (ite _ _ _) = f d
  split
  · exact hsp ..
  · rw [hevt, hsp]

theorem setLink_core (d : Dev) (n s : Nat) (up an : Bool) : (setLink d n s up an).core = d.core := setLink_keeps (fun _ _ _ _ => rfl) (fun _ _ _ => rfl) (fun _ _ => rfl) d n s up an
theorem setLink_mem (d : Dev) (n s : Nat) (up an : Bool) : (setLink d n s up an).mem = d.mem := setLink_keeps (fun _ _ _ _ => rfl) (fun _ _ _ => rfl) (fun _ _ => rfl) d n s up an
theorem setLink_rvp (d : Dev) (n s : Nat) (up an : Bool) : (setLink d n s up an).rvp = d.rvp := setLink_keeps (fun _ _ _ _ => rfl) (fun _ _ _ => rfl) (fun _ _ => rfl) d n s up an

section
variable {d : Dev} {n : Fin 2} {p : Fin 8}

/-- A sub-port of the port's MODE that is down and whose lanes may run. -/
structure LinkTries (d : Dev) (n : Fin 2) (p : Fin 8) : Prop where
  allowed : ethAllowed d n.val = true
  inMode : p.val < subPorts d n.val
  down : (spAt d n.val p.val).up = false

theorem LinkTries.tries (h : LinkTries d n p) : (!ethAllowed d n.val || (spAt d n.val p.val).up || decide (subPorts d n.val ≤ p.val)) = false := by
  simp [h.allowed, h.down, h.inMode]

theorem devLinkRetry_module (h : LinkTries d n p) (locks : Bool) (hmodule : (rd d (Reg.ETH_CFG n.val)).getLsbD 4 = false) :
    devLinkRetry n p locks d = setLink d n.val p.val locks false := by
  simp only [devLinkRetry, h.tries, hmodule, Bool.false_eq_true, if_false]

theorem devLinkRetry_copper (h : LinkTries d n p) (locks : Bool) (hcopper : (rd d (Reg.ETH_CFG n.val)).getLsbD 4 = true) {e : Dev} (he : setLink d n.val p.val false false = e) :
    devLinkRetry n p locks d = setSp e n.val p.val { spAt e n.val p.val with page := some (ethAdvert e n.val) } := by
  simp only [devLinkRetry, h.tries, hcopper, he, Bool.false_eq_true, if_false, if_true]

theorem devAutonegComplete_copper (h : LinkTries d n p) (partner : BitVec 4) (trained : Bool) (hcopper : (rd d (Reg.ETH_CFG n.val)).getLsbD 4 = true) :
    devAutonegComplete n p partner trained d =
      if (ethAdvert d n.val).1 &&& partner ≠ 0 then setLink d n.val p.val trained true else evt (setLink d n.val p.val false false) (Reg.ETH_EVT n.val) 1 := by
  simp only [devAutonegComplete, h.tries, hcopper, Bool.not_true, Bool.or_self, Bool.false_eq_true, if_false]

/-! ### A received frame (12 R336 to R342) -/

theorem devFrameReceive_down {fr : List Byte} {fec : List (Fin 8 × BitVec 16 × BitVec 16)} (h : (spAt d n.val p.val).up = false) : devFrameReceive n p fr fec d = d := by
  simp only [devFrameReceive, h, Bool.not_false, Bool.true_or, if_true]

/-- A frame counted with its bytes and with the codewords of its lanes, before any check (log entry 30). -/
def frameCounted (d : Dev) (n s : Nat) (fr : List Byte) (fec : List (Fin 8 × BitVec 16 × BitVec 16)) : Dev := ecnt (ecnt (fecCount d n s fec) n s 0 1) n s 1 fr.length

/-- A datagram at its consumer. -/
def handOver (d : Dev) (n s who : Nat) (x : RxDgram) : Dev :=
  match who with
  | 0 => pfcCheck { d with rvp := { d.rvp with rx := d.rvp.rx ++ [x] } } n s
  | 1 => if ptpTaken d n x.data then pfcCheck { d with eth := { d.eth with ptp := d.eth.ptp ++ [x] } } n s else ecnt d n s 12 1
  | 2 => pfcCheck { d with eth := { d.eth with arp := d.eth.arp ++ [x] } } n s
  | _ => pfcCheck { d with eth := { d.eth with nd := d.eth.nd ++ [x] } } n s

section
variable {fr : List Byte} {fec : List (Fin 8 × BitVec 16 × BitVec 16)} {e : Dev} (hup : (spAt d n.val p.val).up = true) (hin : p.val < subPorts d n.val)
include hup hin

theorem devFrameReceive_drops {k : Nat} (h : rxCheck (frameCounted d n.val p.val fr fec) n.val p.val fr = (.drop k, e)) : devFrameReceive n p fr fec d = ecnt e n.val p.val k 1 := by
  rw [frameCounted] at h
  simp only [devFrameReceive, hup, Bool.not_true, decide_eq_false (Nat.not_le.mpr hin), Bool.or_self, Bool.false_eq_true, if_false, h]

/-- A frame that passes goes to its consumer with the time at which it came. -/
theorem devFrameReceive_gives {who prio udp : Nat} {ip data : List Byte} (h : rxCheck (frameCounted d n.val p.val fr fec) n.val p.val fr = (.give who prio ip udp data, e)) :
    devFrameReceive n p fr fec d =
      handOver e n.val p.val who { port := n.val, sp := p.val, mac := slice fr 6 6, ip := ip, udp := udp, time := frameTime d n.val, flen := fr.length, prio := prio, data := data } := by
  rw [frameCounted] at h
  simp only [devFrameReceive, hup, Bool.not_true, decide_eq_false (Nat.not_le.mpr hin), Bool.or_self, Bool.false_eq_true, if_false, h]
  rfl

end

end

section
variable (d : Dev) (n s : Nat) {fr : List Byte}

theorem rxCheck_badFcs (hfcs : leAt fr (fr.length - 4) 4 ≠ crc32 (fr.take (fr.length - 4))) : rxCheck d n s fr = (.drop 2, d) := by
  simp only [rxCheck, if_pos (Or.inr hfcs)]

theorem rxCheck_short (hlen : 4 ≤ fr.length) (hfcs : leAt fr (fr.length - 4) 4 = crc32 (fr.take (fr.length - 4))) (hshort : fr.length < 64) : rxCheck d n s fr = (.drop 3, d) := by
  simp only [rxCheck, if_neg (not_or.mpr ⟨Nat.not_lt.mpr hlen, not_not_intro hfcs⟩), if_pos hshort]

theorem rxCheck_long (hfcs : leAt fr (fr.length - 4) 4 = crc32 (fr.take (fr.length - 4))) (hlong : 9216 < fr.length) : rxCheck d n s fr = (.drop 4, d) := by
  have hlen : ¬ fr.length < 4 := by omega
  have hshort : ¬ fr.length < 64 := by omega
  simp only [rxCheck, if_neg (not_or.mpr ⟨hlen, not_not_intro hfcs⟩), if_neg hshort, if_pos hlong]

/-- The codewords of one lane are counted when the lane is one of the sub-port's. -/
theorem fecCount_lane (l : Fin 8) (c u : BitVec 16) :
    fecCount d n s [(l, c, u)] = if l.val / (8 / subPorts d n) = s then satAdd (satAdd d (Reg.ETH_LANE_FEC n l.val 0) c.toNat) (Reg.ETH_LANE_FEC n l.val 1) u.toNat else d := rfl

end

end Sys2Proof.Machine
end

section
/-! SUPPORT. What a sub-port sends of itself (12 R339, R341, R347): pauses repeated and expired, answers to address resolution and neighbour discovery, and frames that wait for a transmit SA. -/

set_option autoImplicit false

namespace Sys2Proof.Machine

/-! ### Byte strings -/

theorem length_leBytes (k x : Nat) : (leBytes k x).length = k := by
  induction k generalizing x with
  | zero => rfl
  | succ k ih => rw [leBytes, List.length_cons, ih]

theorem length_beBytes (k x : Nat) : (beBytes k x).length = k := by rw [beBytes, List.length_reverse, length_leBytes]

/-- A part of a string between two others. -/
theorem slice_between {a m r : List Byte} {i k : Nat} (hi : a.length = i) (hk : m.length = k) : slice (a ++ (m ++ r)) i k = m := by
  rw [slice, List.drop_left' hi, List.take_left' hk]

section
variable {d e : Dev} {n : Fin 2} {p : Fin 8}

/-! ### Pauses (12 R339) -/

theorem devPfcRepeat_one {k : Nat} (hup : (spAt d n.val p.val).up = true) (habove : (spAt d n.val p.val).xoff.filter (aboveXoff d n.val p.val) = [k]) :
    devPfcRepeat n p d = sendPfc d n.val p.val k 0xffff := by
  rw [devPfcRepeat, if_pos hup, habove, List.foldl_cons, List.foldl_nil]

theorem devPfcRepeat_none (h : (spAt d n.val p.val).up = false ∨ (spAt d n.val p.val).xoff.filter (aboveXoff d n.val p.val) = []) : devPfcRepeat n p d = d := by
  rcases h with hdown | hnone
  · rw [devPfcRepeat, if_neg (ne_true_of_eq_false hdown)]
  · rw [devPfcRepeat, hnone, List.foldl_nil, ite_self]

theorem txGo_empty {s k : Nat} (h : (spAt d k s).queue = []) : txGo d k s = d := by
  simp only [txGo, txDrain, txOne, h]

theorem devPfcPauseExpiry_idle (k : Fin 8) (h : (spAt d n.val p.val).queue = []) :
    devPfcPauseExpiry n p k d = setSp d n.val p.val { spAt d n.val p.val with paused := (spAt d n.val p.val).paused.filter (fun x => x != k.val) } :=
  txGo_empty (by rw [spAt_setSp_same]; exact h)

/-! ### Address resolution and neighbour discovery (12 R341) -/

/-- A message that waits for a sub-port. -/
def waitsFor (n s : Nat) (x : RxDgram) : Bool := decide (x.port = n) && decide (x.sp = s)

section
variable {x : RxDgram} {rest : List RxDgram}

section
variable (htake : takeFirst (waitsFor n.val p.val) d.eth.arp = some (x, rest)) (he : pfcCheck { d with eth := { d.eth with arp := rest } } n.val p.val = e)
include htake he

theorem devArpRequest_taken : devArpRequest n p d =
    if x.data.take 8 = [0, 1, 8, 0, 6, 4, 0, 1] ∧ slice x.data 24 4 = spIp4 e n.val p.val ∧ ipSet (spIp4 e n.val p.val) = true then
      txFrame e n.val p.val (slice x.data 8 6) ([0x08, 0x06, 0, 1, 8, 0, 6, 4, 0, 2] ++ spMac e n.val p.val ++ spIp4 e n.val p.val ++ slice x.data 8 10) false
    else e := by
  subst he
  unfold waitsFor at htake
  simp only [devArpRequest, htake]

end

/-- A Neighbor Advertisement that answers one who has an address, with its checksum field. -/
def advertisement (d : Dev) (n s c : Nat) : List Byte := [136, 0] ++ beBytes 2 c ++ [0x60, 0, 0, 0] ++ spIp6 d n s ++ [2, 1] ++ spMac d n s

/-- The checksum of an advertisement to an address. -/
def advertSum (d : Dev) (n s : Nat) (dst : List Byte) : Nat := inetCsum (pseudo (spIp6 d n s) dst 58 32 ++ advertisement d n s 0)

section
variable (htake : takeFirst (waitsFor n.val p.val) d.eth.nd = some (x, rest)) (he : pfcCheck { d with eth := { d.eth with nd := rest } } n.val p.val = e)
include htake he

theorem devNeighborSolicitation_mine (hme : slice x.data 8 16 = spIp6 e n.val p.val) (hknown : ipSet x.ip = true) :
    devNeighborSolicitation n p d =
      txFrame e n.val p.val x.mac (ipPacket e n.val p.val (spIp6 e n.val p.val) x.ip 58 255 (advertisement e n.val p.val (advertSum e n.val p.val x.ip))) false := by
  subst he
  unfold waitsFor at htake
  simp only [devNeighborSolicitation, htake, if_pos hme, hknown, if_true]
  rfl

theorem devNeighborSolicitation_other (hother : slice x.data 8 16 ≠ spIp6 e n.val p.val) : devNeighborSolicitation n p d = e := by
  subst he
  unfold waitsFor at htake
  simp only [devNeighborSolicitation, htake, if_neg hother]

end

end

/-- The fields of an advertisement: its type, its flags, its target and its link-layer address. -/
theorem advertisement_fields (d : Dev) (n s c : Nat) :
    (advertisement d n s c).take 2 = [136, 0] ∧ slice (advertisement d n s c) 4 4 = [0x60, 0, 0, 0] ∧ slice (advertisement d n s c) 8 16 = spIp6 d n s ∧
      slice (advertisement d n s c) 24 8 = [2, 1] ++ spMac d n s := by
  have hhead : ([136, 0] ++ beBytes 2 c).length = 4 := by rw [List.length_append, length_beBytes]; rfl
  have hflags : ([136, 0] ++ beBytes 2 c ++ [0x60, 0, 0, 0]).length = 8 := by rw [List.length_append, hhead]; rfl
  have hip : (spIp6 d n s).length = 16 := length_beBytes 16 _
  have htarget : ([136, 0] ++ beBytes 2 c ++ [0x60, 0, 0, 0] ++ spIp6 d n s).length = 24 := by rw [List.length_append, hflags, hip]
  have hlink : ([2, 1] ++ spMac d n s).length = 8 := by rw [List.length_append, spMac, length_beBytes]; rfl
  refine ⟨?_, ?_, ?_, ?_⟩
  · rfl
  · rw [advertisement, List.append_assoc, List.append_assoc, List.append_assoc]
    exact slice_between hhead rfl
  · rw [advertisement, List.append_assoc, List.append_assoc]
    exact slice_between hflags hip
  · rw [advertisement, List.append_assoc, ← List.append_nil ([2, 1] ++ spMac d n s)]
    exact slice_between htarget hlink

/-! ### Frames that wait for a transmit SA (12 R347) -/

theorem devTxSaWaitExpiry_spent {a : Sa} {left : List TxFrame} (hsa : txSa (spAt d n.val p.val) = some a) (hon : macsecOn d n.val p.val = true) (hspent : 2 ^ 64 - 1 ≤ a.pn)
    (hleft : left = (spAt d n.val p.val).queue.filter (fun f => decide (d.now < f.time + 1000000))) :
    devTxSaWaitExpiry n p d =
      ecnt (setSp d n.val p.val { spAt d n.val p.val with queue := left }) n.val p.val 19 ((spAt d n.val p.val).queue.length - left.length) := by
  subst hleft
  simp only [devTxSaWaitExpiry, hsa, if_pos (And.intro hon hspent)]

theorem devTxSaWaitExpiry_clear (hoff : macsecOn d n.val p.val = false) : devTxSaWaitExpiry n p d = d := by
  simp only [devTxSaWaitExpiry, hoff, Bool.false_eq_true, false_and, if_false]
  split <;> rfl

end

end Sys2Proof.Machine
end

section
/-! SUPPORT. MACsec keys (12 R346; 19 R544): the checks of SA_INSTALL in their order, SA_DELETE, and what ZEROISE leaves. -/

set_option autoImplicit false

namespace Sys2Proof.Machine

/-! ### SA_INSTALL -/

/-- The SA that a body and its unwrapped keys spell. -/
def saOf (b pl : List Byte) : Sa :=
  { an := leAt b 4 1, sci := slice b 8 8, ssci := slice b 16 4, key := pl.take 32, salt := slice pl 32 12, pn := leAt b 20 8, low := leAt b 20 8 }

/-- The SAs of the SC that a body names but for those of its AN. -/
def saOthers (p : SubPort) (b : List Byte) : List Sa := (saList p b).filter (fun a => decide (a.an ≠ leAt b 4 1))

/-- The sub-port with that SA in place of those of its AN, in use when the body says so. -/
def saInstalled (p : SubPort) (b pl : List Byte) : SubPort :=
  let q := saPut p b (saOthers p b ++ [saOf b pl])
  if leAt b 5 1 = 1 then { q with txAn := some (leAt b 4 1) } else q

section
variable {d : Dev} {q : VReq} {b : List Byte} (fz : Fuses) (hcur : d.mgmt.cur = some q) (hbody : q.body = b)
include hcur hbody

section
variable (hcmd : q.cmd = 0x50) (hflags : leAt b 5 1 < 2) (hrsvd : leAt b 6 2 = 0)
include hcmd hflags hrsvd

theorem devSaInstall_badSelector (hsel : saSelOk d b = false) : devSaInstall fz d = finish d q msReservedEncoding [] := by
  subst hbody
  rw [devSaInstall, runCmd_current _ hcur hcmd]
  simp only [if_neg (not_or.mpr ⟨Nat.not_le.mpr hflags, not_not_intro hrsvd⟩), hsel, Bool.not_false, Bool.true_or, if_true]

section
variable {fz} (hsel : saSelOk d b = true) (hdir : leAt b 2 1 = 0)
include hsel hdir

theorem devSaInstall_noKey (hkwk : fz.kwk = none) : devSaInstall fz d = finish d q msState [] := by
  subst hbody
  rw [devSaInstall, runCmd_current _ hcur hcmd]
  simp [not_le.mpr hflags, hrsvd, hsel, hdir, hkwk]

variable {k pl : List Byte} (hkwk : fz.kwk = some k)
include hkwk

theorem devSaInstall_badWrap (hwrap : keyUnwrap k (slice b 28 56) = none) : devSaInstall fz d = finish d q msAuthFail [] := by
  subst hbody
  rw [devSaInstall, runCmd_current _ hcur hcmd]
  simp [not_le.mpr hflags, hrsvd, hsel, hdir, hkwk, hwrap]

variable (hwrap : keyUnwrap k (slice b 28 56) = some pl)
include hwrap

theorem devSaInstall_badPad (hpad : allZero (pl.drop 44) = false) : devSaInstall fz d = finish d q msAuthFail [] := by
  subst hbody
  rw [devSaInstall, runCmd_current _ hcur hcmd]
  simp [not_le.mpr hflags, hrsvd, hsel, hdir, hkwk, hwrap, hpad]

variable (hpad : allZero (pl.drop 44) = true)
include hpad

theorem devSaInstall_inUse (huse : saInUse (spAt d (leAt b 0 1) (leAt b 1 1)) b = true) : devSaInstall fz d = finish d q msUnitBusy [] := by
  subst hbody
  rw [devSaInstall, runCmd_current _ hcur hcmd]
  simp [not_le.mpr hflags, hrsvd, hsel, hdir, hkwk, hwrap, hpad, huse]

theorem devSaInstall_installs (huse : saInUse (spAt d (leAt b 0 1) (leAt b 1 1)) b = false) (hroom : (saOthers (spAt d (leAt b 0 1) (leAt b 1 1)) b).length < 2) :
    devSaInstall fz d = finish (txGo (pnNear (setSp d (leAt b 0 1) (leAt b 1 1) (saInstalled (spAt d (leAt b 0 1) (leAt b 1 1)) b pl)) (leAt b 0 1)
      (decide (leAt b 5 1 = 1) && decide (pnNearFrom ≤ leAt b 20 8))) (leAt b 0 1) (leAt b 1 1)) q 0 [] := by
  subst hbody
  unfold saOthers at hroom
  rw [devSaInstall, runCmd_current _ hcur hcmd]
  simp only [if_neg (not_or.mpr ⟨Nat.not_le.mpr hflags, not_not_intro hrsvd⟩), hsel, hdir, Nat.zero_ne_one, hkwk, hwrap, hpad, huse, if_neg (Nat.not_le.mpr hroom), false_and,
    decide_false, Bool.not_true, Bool.or_self, Bool.false_eq_true, if_false]
  rfl

end

end

/-! ### SA_DELETE and ZEROISE -/

theorem devSaDelete_named (hcmd : q.cmd = 0x51) (hrsvd : allZero (slice b 5 3) = true) (hsel : saSelOk d b = true) :
    devSaDelete d = if saInUse (spAt d (leAt b 0 1) (leAt b 1 1)) b = true then finish d q msUnitBusy []
      else finish (setSp d (leAt b 0 1) (leAt b 1 1) (saPut (spAt d (leAt b 0 1) (leAt b 1 1)) b (saOthers (spAt d (leAt b 0 1) (leAt b 1 1)) b))) q 0 [] := by
  subst hbody
  rw [devSaDelete, runCmd_current _ hcur hcmd]
  simp only [hrsvd, hsel, Bool.not_true, Bool.false_eq_true, if_false]
  split <;> rfl

end

/-- An answer is registers and the state of management alone. -/
theorem finish_eq (d : Dev) (q : VReq) (st : Nat) (body : List Byte) : ∃ r m, finish d q st body = { d with regs := r, mgmt := m } := by
  have hcount (e : Dev) : ∃ r, (if st = 0 then e else cntInc e (Reg.MGT_MSG_CNT_LO 1)) = { e with regs := r } := by split <;> exact ⟨_, rfl⟩
  obtain ⟨r, hr⟩ := hcount { d with mgmt := { d.mgmt with cur := none } }
  simp only [finish, answer, hr]
  split
  case isTrue => split <;> exact ⟨_, _, rfl⟩
  case isFalse => split <;> exact ⟨_, _, rfl⟩

/-- A map with each value changed reads as the change of what it read. -/
theorem smFind_map {α : Type} (f : α → α) (m : SMap α) (k : Nat) : smFind k (m.map (fun x => (x.1, f x.2))) = (smFind k m).map f := by
  induction m with
  | nil => rfl
  | cons x r ih =>
    by_cases hx : x.1 = k
    · simp only [List.map_cons, smFind, if_pos hx, Option.map_some]
    · simp only [List.map_cons, smFind, if_neg hx, ih]

/-- A sub-port with its SAs cleared. -/
def withoutSas (p : SubPort) : SubPort := { p with tx := [], txAn := none, rxSc := [[], [], [], [], [], [], [], []] }

theorem spAt_clearSas (d : Dev) (n s : Nat) : spAt (clearSas d) n s = withoutSas (spAt d n s) := by
  have h : smFind (8 * n + s) (clearSas d).eth.sp = (smFind (8 * n + s) d.eth.sp).map withoutSas := smFind_map withoutSas d.eth.sp _
  rw [spAt, spAt, smGet, smGet, h]
  cases smFind (8 * n + s) d.eth.sp with
  | none => rfl
  | some p => rfl

end Sys2Proof.Machine
end

section
/-! SUPPORT. The PTP clock of a port (12 R349, R350; IEEE 1588-2019, log entry 13): the master selected, each message of it that comes, and the Delay_Req that the clock sends. -/

set_option autoImplicit false

namespace Sys2Proof.Machine

/-! ### The clock of a port -/

theorem ptpAt_setPtp_same {d : Dev} {n : Nat} (c : PtpClock) (h : n < d.tim.ptp.length) : ptpAt (setPtp d n c) n = c := setAt_same _ _ h

theorem ptpAt_refCheck (d : Dev) (n : Nat) : ptpAt (refCheck d) n = ptpAt d n := by
  obtain ⟨t, h, hptp, -⟩ := refCheck_eq d
  rw [h, ptpAt, hptp, ptpAt]

theorem ptpAt_refDown (d : Dev) (r n : Nat) : ptpAt (refDown d r) n = ptpAt d n := by
  obtain ⟨t, h, hptp, -⟩ := refDown_eq d r
  rw [h, ptpAt, hptp, ptpAt]

theorem valid_refDown (d : Dev) (r : Nat) : (refDown d r).tim.valid.getD r false = false := by
  obtain ⟨t, h, -, hvalid⟩ := refDown_eq d r
  rw [h]
  exact hvalid

/-- The instant at which an event message leaves is the one kept. -/
theorem reqAt_noteSent {d : Dev} {n : Nat} {f : TxFrame} (h : n < d.tim.ptp.length) (hevent : f.event = true) : (ptpAt (noteSent d n f) n).reqAt = frameTime d n := by
  rw [noteSent, if_pos hevent, ptpAt_setPtp_same _ h]

/-! ### The master (12 R349) -/

/-- The better of a master and one found before it. -/
def betterMaster (b : Option PtpMaster) (f : PtpForeign) : Option PtpMaster :=
  match b with
  | none => some f.data
  | some x => if lexLt (masterKey f.data) (masterKey x) then some f.data else b

/-- The masters of a port that still announce themselves and qualify. -/
def goodMasters (d : Dev) (n : Nat) : List PtpForeign := (ptpAt d n).foreign.filter (fun f => f.heard d.now && f.qualified)

section
variable {d : Dev} {n : Nat}

theorem ptpSelect_eq : ptpSelect n d =
    let best := (goodMasters d n).foldl betterMaster none
    let e := setPtp d n { ptpAt d n with foreign := (ptpAt d n).foreign.filter (PtpForeign.heard d.now), master := best }
    if best.isNone then refDown e n else if best = (ptpAt d n).master then e else refCheck e := by
  have hgood : ((ptpAt d n).foreign.filter (PtpForeign.heard d.now)).filter PtpForeign.qualified = goodMasters d n := by
    rw [List.filter_filter, goodMasters]
    simp only [Bool.and_comm]
  rw [← hgood]
  rfl

theorem master_ptpSelect (h : n < d.tim.ptp.length) : (ptpAt (ptpSelect n d) n).master = (goodMasters d n).foldl betterMaster none := by
  rw [ptpSelect_eq]
  dsimp only
  split
  · rw [ptpAt_refDown, ptpAt_setPtp_same _ h]
  · split
    · rw [ptpAt_setPtp_same _ h]
    · rw [ptpAt_refCheck, ptpAt_setPtp_same _ h]

/-- With no master the reference is not valid. -/
theorem valid_ptpSelect_none (h : goodMasters d n = []) : (ptpSelect n d).tim.valid.getD n false = false := by
  rw [ptpSelect_eq, h]
  exact valid_refDown ..

end

section
variable {d e : Dev} {n : Fin 2} {x : RxDgram}

/-! ### Messages of a master (12 R349) -/

/-- The master that an Announce describes. -/
def announced (m : List Byte) : PtpMaster :=
  { port := slice m 20 10, prio1 := beAt m 47 1, clsAcc := beAt m 48 2, variance := beAt m 50 2, prio2 := beAt m 52 1, gm := slice m 53 8, steps := beAt m 61 2 }

/-- A clock that has heard an Announce: its sender's record is the newest. -/
def heardAnnounce (c : PtpClock) (x : RxDgram) : PtpClock :=
  { c with foreign := c.foreign.filter (fun f => decide (f.data.port ≠ (announced x.data).port)) ++
      [{ data := announced x.data, logInt := beAt x.data 33 1, last := x.time, prev := (c.foreign.find? (fun f => decide (f.data.port = (announced x.data).port))).map (fun o => o.last) }] }

theorem devAnnounce_taken (h : takePtp d n.val 11 = some (x, e)) : devAnnounce n d = ptpSelect n.val (setPtp e n.val (heardAnnounce (ptpAt e n.val) x)) := by
  simp only [devAnnounce, h]
  rfl

/-- A clock that has noted a Sync. -/
def notedSync (c : PtpClock) (x : RxDgram) : PtpClock := { c with syncSeq := beAt x.data 30 2, syncRx := x.time }

theorem devSync_taken (h : takePtp (ptpSelect n.val d) n.val 0 = some (x, e)) : devSync n d =
    if fromMaster (ptpAt e n.val) x.data = true then
      if (beAt x.data 6 1).testBit 1 = true then setPtp e n.val { notedSync (ptpAt e n.val) x with twoStep := true, corr := ptpCorr x.data }
      else ptpSample e n.val (notedSync (ptpAt e n.val) x) (ptpStamp x.data 34 + ptpCorr x.data)
    else e := by
  simp only [devSync, h]
  rfl

theorem devFollowUp_waited (h : takePtp (ptpSelect n.val d) n.val 8 = some (x, e)) (hmaster : fromMaster (ptpAt e n.val) x.data = true) (htwo : (ptpAt e n.val).twoStep = true) :
    devFollowUp n d =
      if (ptpAt e n.val).syncSeq = beAt x.data 30 2 then ptpSample e n.val (ptpAt e n.val) (ptpStamp x.data 34 + ptpCorr x.data + (ptpAt e n.val).corr) else e := by
  simp only [devFollowUp, h, hmaster, htwo, Bool.and_self, Bool.true_and, decide_eq_true_eq]

theorem devDelayResp_answers (h : takePtp (ptpSelect n.val d) n.val 9 = some (x, e)) (hmaster : fromMaster (ptpAt e n.val) x.data = true) (hout : (ptpAt e n.val).reqOut = true)
    (hme : slice x.data 44 10 = clockId e n.val) (hseq : beAt x.data 30 2 = (ptpAt e n.val).reqSeq) :
    devDelayResp n d = setPtp e n.val { ptpAt e n.val with
      reqOut := false, interval := some (beAt x.data 33 1),
      delay := (((ptpAt e n.val).t2 - (ptpAt e n.val).t1) + (ptpStamp x.data 34 - ptpCorr x.data - (ptpAt e n.val).reqAt)) / 2 } := by
  simp only [devDelayResp, h, hmaster, hout, decide_eq_true hme, decide_eq_true hseq, Bool.and_self, if_true]

/-! ### Delay_Req (12 R349, R350) -/

/-- Whether the interval that the master has set for Delay_Req still runs. -/
def reqEarly (c : PtpClock) (now : Nat) : Bool :=
  match c.reqLast, c.interval with
  | some t, some b => decide (now < t + logInterval b)
  | _, _ => false

theorem reqEarly_eq_false {c : PtpClock} {now : Nat} (h : ∀ t b, c.reqLast = some t → c.interval = some b → t + logInterval b ≤ now) : reqEarly c now = false := by
  rw [reqEarly]
  split
  · exact decide_eq_false (Nat.not_lt.mpr (h _ _ ‹_› ‹_›))
  · rfl

/-- A Delay_Req with a sequence number. -/
def delayReqBytes (d : Dev) (n seq : Nat) : List Byte :=
  [1, 2, 0, 44, byteOf (fld d (Reg.ETH_CFG n) 31 24), 0, 0, 0] ++ List.replicate 12 0 ++ clockId d n ++ beBytes 2 seq ++ [1, 0x7f] ++ List.replicate 10 0

/-- A clock that has sent its next Delay_Req. -/
def askedDelay (c : PtpClock) (now : Nat) : PtpClock := { c with reqSeq := (c.reqSeq + 1) % 65536, reqLast := some now, reqOut := true }

/-- A Delay_Req on a transport: layer 2, UDP over IPv4 or UDP over IPv6. -/
def sendDelayReq (trans : Nat) (d : Dev) (n s : Nat) (m : List Byte) : Dev :=
  match trans with
  | 0 => txFrameAs true d n s [0x01, 0x1b, 0x19, 0, 0, 0] ([0x88, 0xf7] ++ m) false
  | 1 => udpSendAs true d n s [0x01, 0x00, 0x5e, 0, 0x01, 0x81] [224, 0, 1, 129] 319 319 m false
  | _ => udpSendAs true d n s [0x33, 0x33, 0, 0, 0x01, 0x81] [0xff, 0x0e, 0, 0, 0, 0, 0, 0, 0, 0, 0, 0, 0, 0, 0x01, 0x81] 319 319 m false

theorem devDelayReq_eq : devDelayReq n d =
    let e := ptpSelect n.val d
    let c := ptpAt e n.val
    if c.master.isNone || !(spAt e n.val (ptpSp e n.val)).up || reqEarly c e.now then e
    else sendDelayReq (ptpTrans e n.val) (setPtp e n.val (askedDelay c e.now)) n.val (ptpSp e n.val) (delayReqBytes e n.val ((c.reqSeq + 1) % 65536)) := rfl

variable (he : ptpSelect n.val d = e)
include he

theorem devDelayReq_noMaster (h : (ptpAt e n.val).master = none) : devDelayReq n d = e := by
  rw [devDelayReq_eq, he]
  exact if_pos (by rw [h]; rfl)

theorem devDelayReq_early {t b : Nat} (hlast : (ptpAt e n.val).reqLast = some t) (hint : (ptpAt e n.val).interval = some b) (h : e.now < t + logInterval b) : devDelayReq n d = e := by
  rw [devDelayReq_eq, he]
  exact if_pos (by rw [reqEarly, hlast, hint]; simp [h])

theorem devDelayReq_sends (hmaster : (ptpAt e n.val).master.isSome = true) (hup : (spAt e n.val (ptpSp e n.val)).up = true)
    (hdue : ∀ t b, (ptpAt e n.val).reqLast = some t → (ptpAt e n.val).interval = some b → t + logInterval b ≤ e.now) :
    devDelayReq n d = sendDelayReq (ptpTrans e n.val) (setPtp e n.val (askedDelay (ptpAt e n.val) e.now)) n.val (ptpSp e n.val)
      (delayReqBytes e n.val (((ptpAt e n.val).reqSeq + 1) % 65536)) := by
  have hnone : (ptpAt e n.val).master.isNone = false := Option.isNone_eq_false_iff.mpr hmaster
  rw [devDelayReq_eq, he]
  exact if_neg (by simp [hnone, hup, reqEarly_eq_false hdue])

end

end Sys2Proof.Machine
end

section
/-! SUPPORT. The statements of 12_ethernet_ports.md settled: links and frames, what a sub-port answers, PTP messages, and MACsec keys. -/

set_option autoImplicit false

namespace Sys2Proof.Machine

/-- Settles O31: each row on a sub-port in the case that its hypotheses name, and what a change of the link leaves alone. -/
theorem ethLinksAndFrames : Obligations.EthLinksAndFrames := by
  refine ⟨fun s n p hlive hallowed hin hdown => ⟨fun locks hmodule => ?module, fun hcopper => ⟨fun locks d hd => ?copper, fun partner trained hshared => ?shared, fun partner trained hnone => ?unshared⟩⟩,
    fun s n p hlive => ?linkDown, fun d n p up an => ⟨spAt_setLink d n p up an, rd_setLink_changed d n p an, setLink_core d n p up an, setLink_mem d n p up an, setLink_rvp d n p up an⟩,
    fun s n p fr fec hlive => ⟨fun hdown => ?down, fun d hup hin hd => ?received⟩, fun d n p l c u => ?lane⟩
  case module => rw [exec_linkRetry, onDev_live hlive, devLinkRetry_module ⟨hallowed, hin, hdown⟩ locks hmodule]
  case copper => rw [exec_linkRetry, onDev_live hlive, devLinkRetry_copper ⟨hallowed, hin, hdown⟩ locks hcopper hd, ethAdvert]
  case shared => rw [exec_autonegComplete, onDev_live hlive, devAutonegComplete_copper ⟨hallowed, hin, hdown⟩ partner trained hcopper, ethAdvert, if_pos hshared]
  case unshared => rw [exec_autonegComplete, onDev_live hlive, devAutonegComplete_copper ⟨hallowed, hin, hdown⟩ partner trained hcopper, ethAdvert, if_neg (not_not_intro hnone)]
  case linkDown => rw [exec_linkDown, onDev_live hlive, devLinkDown]
  case down => rw [exec_frameReceive, onDev_live hlive, devFrameReceive_down hdown]
  case received =>
    have hcounted : frameCounted s.dev n.val p.val fr fec = d := hd
    rw [exec_frameReceive, onDev_live hlive]
    refine ⟨fun _ hfcs => ?_, fun hlen hfcs hshort => ?_, fun hfcs hlong => ?_, fun who prio ip udp data e x hpass hx => ?_⟩
    · rw [devFrameReceive_drops hup hin (rxCheck_badFcs _ _ _ hfcs), hcounted]
    · rw [devFrameReceive_drops hup hin (rxCheck_short _ _ _ hlen hfcs hshort), hcounted]
    · rw [devFrameReceive_drops hup hin (rxCheck_long _ _ _ hfcs hlong), hcounted]
    · rw [← hcounted] at hpass
      rw [devFrameReceive_gives hup hin hpass, ← hx]
      refine ⟨fun hwho => ?_, fun hwho htaken => ?_, fun hwho hother => ?_, fun hwho => ?_, fun hwho => ?_⟩
      · rw [hwho, handOver]
      · rw [hwho, handOver, hx, if_pos htaken]
      · rw [hwho, handOver, hx, if_neg (ne_true_of_eq_false hother)]
      · rw [hwho, handOver]
      · subst hwho; rfl
  case lane =>
    rw [fecCount_lane]
    exact ⟨fun hown => if_pos hown, fun hother => if_neg hother⟩

/-- Settles O32: what each row sends on a sub-port in the case that its hypotheses name. -/
theorem ethAnswers : Obligations.EthAnswers := by
  refine fun s n p hlive => ⟨⟨fun k hup habove => ?pause, fun hnone => ?noPause⟩, fun k hidle => ?expiry, fun x rest d htake hd => ?arp, fun x rest d htake hd => ?solicitation,
    fun a left hsa hon hspent hleft => ?spent, fun hoff => ?clear⟩
  case pause => rw [exec_pfcRepeat, onDev_live hlive, devPfcRepeat_one hup habove]
  case noPause => rw [exec_pfcRepeat, onDev_live hlive, devPfcRepeat_none hnone]
  case expiry => rw [exec_pfcPauseExpiry, onDev_live hlive, devPfcPauseExpiry_idle k hidle]
  case arp =>
    rw [exec_arpRequest, onDev_live hlive, devArpRequest_taken htake hd]
    exact ⟨fun hask hme hset => by rw [if_pos ⟨hask, hme, hset⟩], fun hother => by rw [if_neg fun h => hother h.2.1]⟩
  case solicitation =>
    rw [exec_neighborSolicitation, onDev_live hlive]
    refine ⟨fun hme hknown => ⟨_, ?_, advertisement_fields d n.val p.val (advertSum d n.val p.val x.ip)⟩, fun hother => ?_⟩
    · rw [devNeighborSolicitation_mine htake hd hme hknown]
    · rw [devNeighborSolicitation_other htake hd hother]
  case spent => rw [exec_txSaWaitExpiry, onDev_live hlive, devTxSaWaitExpiry_spent hsa hon hspent hleft]
  case clear => rw [exec_txSaWaitExpiry, onDev_live hlive, devTxSaWaitExpiry_clear hoff]

/-- Settles O33: each message in the case that its hypotheses name, the instant that is kept, and the choice among the masters that qualify. -/
theorem ptpMessages : Obligations.PtpMessages := by
  refine ⟨fun s n hlive => ⟨fun x d a c htake hc ha => ?announce, fun x d c htake hc => ?sync, fun x d c htake hc hmaster htwo => ?followUp,
    fun x d c htake hc hmaster hout hme hseq => ?delayResp, fun d c hd hc => ?delayReq⟩, fun d n f hn hevent => reqAt_noteSent hn hevent, fun d n l hn hl => ?select⟩
  case announce =>
    subst ha hc
    rw [exec_announce, onDev_live hlive, devAnnounce_taken htake, heardAnnounce, announced]
  case sync =>
    subst hc
    rw [exec_sync, onDev_live hlive, devSync_taken htake]
    refine ⟨fun hother => ?_, fun hmaster htwo => ?_, fun hmaster hone => ?_⟩
    · rw [if_neg (ne_true_of_eq_false hother)]
    · rw [if_pos hmaster, if_pos htwo, notedSync]
    · rw [if_pos hmaster, if_neg (ne_true_of_eq_false hone), notedSync]
  case followUp =>
    subst hc
    rw [exec_followUp, onDev_live hlive, devFollowUp_waited htake hmaster htwo]
    exact ⟨fun hseq => by rw [if_pos hseq], fun hseq => by rw [if_neg hseq]⟩
  case delayResp =>
    subst hc
    rw [exec_delayResp, onDev_live hlive, devDelayResp_answers htake hmaster hout hme hseq]
  case delayReq =>
    subst hc
    rw [exec_delayReq, onDev_live hlive]
    refine ⟨fun hnone => ?_, fun t b hlast hint hearly => ?_, fun e m hmaster hup hdue he hm => ?_⟩
    · rw [devDelayReq_noMaster hd hnone]
    · rw [devDelayReq_early hd hlast hint hearly]
    · have hasked : setPtp d n.val (askedDelay (ptpAt d n.val) d.now) = e := he
      have hbytes : delayReqBytes d n.val (((ptpAt d n.val).reqSeq + 1) % 65536) = m := hm.symm
      rw [devDelayReq_sends hd hmaster hup hdue, hasked, hbytes]
      refine ⟨fun htrans => ?_, fun htrans => ?_, fun htrans => ?_⟩
      · rw [htrans, sendDelayReq]
      · rw [htrans, sendDelayReq]
      · obtain ⟨k, hk⟩ := Nat.exists_eq_add_of_le' htrans
        rw [hk]
        rfl
  case select =>
    have hgood : goodMasters d n = l := hl
    rw [master_ptpSelect hn, hgood]
    refine ⟨fun hnone => ?_, fun f hone => ?_, fun f g htwo => ?_⟩
    · subst hnone
      exact ⟨rfl, valid_ptpSelect_none hgood⟩
    · rw [hone]; rfl
    · rw [htwo]
      show (if lexLt (masterKey g.data) (masterKey f.data) = true then some g.data else some f.data) = _
      split <;> rfl

/-- Settles O47: SA_INSTALL by the check at which it ends, SA_DELETE by the use of the SA, and ZEROISE on every sub-port. -/
theorem macsecKeys : Obligations.MacsecKeys := by
  refine fun s q b p hlive hcur hbody hp => ⟨fun hcmd hflags hrsvd => ⟨fun hsel => ?selector, fun hsel hdir => ⟨fun hkwk => ?noKey, fun k hkwk huse => ?inUse, fun k hkwk huse hroom => ?install⟩⟩,
    fun hcmd hrsvd hsel => ?delete, fun hcmd => ?zeroise⟩
  case selector => rw [exec_saInstall, onDev_live hlive, devSaInstall_badSelector s.fuse hcur hbody hcmd hflags hrsvd hsel]
  case noKey => rw [exec_saInstall, onDev_live hlive, devSaInstall_noKey hcur hbody hcmd hflags hrsvd hsel hdir hkwk]
  case inUse =>
    subst hp
    rw [exec_saInstall, onDev_live hlive]
    cases hwrap : keyUnwrap k (slice b 28 56) with
    | none => rw [devSaInstall_badWrap hcur hbody hcmd hflags hrsvd hsel hdir hkwk hwrap]; rfl
    | some pl =>
      cases hpad : allZero (pl.drop 44) with
      | false => rw [devSaInstall_badPad hcur hbody hcmd hflags hrsvd hsel hdir hkwk hwrap hpad, Option.any_some, hpad]; rfl
      | true => rw [devSaInstall_inUse hcur hbody hcmd hflags hrsvd hsel hdir hkwk hwrap hpad huse, Option.any_some, hpad]; rfl
  case install =>
    subst hp
    rw [exec_saInstall, onDev_live hlive]
    cases hwrap : keyUnwrap k (slice b 28 56) with
    | none =>
      rw [devSaInstall_badWrap hcur hbody hcmd hflags hrsvd hsel hdir hkwk hwrap]
      exact ⟨fun _ => rfl, fun _ => rfl⟩
    | some pl =>
      cases hpad : allZero (pl.drop 44) with
      | false =>
        rw [devSaInstall_badPad hcur hbody hcmd hflags hrsvd hsel hdir hkwk hwrap hpad]
        exact ⟨fun _ => by simp only [hpad, if_true], fun _ => by simp only [hpad, if_true]⟩
      | true =>
        have htx : saOthers (spAt s.dev (leAt b 0 1) (leAt b 1 1)) b = (spAt s.dev (leAt b 0 1) (leAt b 1 1)).tx.filter (fun a => decide (a.an ≠ leAt b 4 1)) := by
          rw [saOthers, saList, if_pos hdir]
        rw [devSaInstall_installs hcur hbody hcmd hflags hrsvd hsel hdir hkwk hwrap hpad huse (htx ▸ hroom), saInstalled, htx, saPut, if_pos hdir]
        refine ⟨fun hkeep => ?_, fun huseNow => ?_⟩
        · simp only [hkeep, hpad]; rfl
        · simp only [huseNow, hpad]; rfl
  case delete =>
    subst hp
    rw [exec_saDelete, onDev_live hlive, devSaDelete_named hcur hbody hcmd hrsvd hsel]
    exact ⟨fun huse => by rw [if_pos huse], fun hfree => by rw [if_neg (ne_true_of_eq_false hfree), saOthers]⟩
  case zeroise =>
    refine ⟨_, (exec_zeroise s).trans (onDev_live hlive), ?_⟩
    obtain ⟨r, m, h⟩ := finish_eq (clearSas s.dev) q 0 []
    rw [devZeroise, runCmd_current _ hcur hcmd, h]
    refine ⟨fun n k => ?_, rfl, rfl⟩
    have hsp : spAt { clearSas s.dev with regs := r, mgmt := m } n k = withoutSas (spAt s.dev n k) := spAt_clearSas s.dev n k
    rw [hsp]
    exact ⟨rfl, rfl, rfl⟩

end Sys2Proof.Machine
end

section
/-! SUPPORT. RVP frames and sessions (13 R353 to R361): the checks of a received frame in their order, and a session as it is opened, closed and timed out. -/

set_option autoImplicit false

namespace Sys2Proof.Machine

/-! ### RVP_FRAME_RECEIVE (13 R353 to R355) -/

/-- A station in a state that hears RVP frames. -/
structure HearsRvp (d : Dev) : Prop where
  started : 4 ≤ d.code
  notLost : d.code ≠ stLost
  notHalted : d.code ≠ stHalted
  notSleep : d.code ≠ stSleep

theorem HearsRvp.not_deaf {d : Dev} (h : HearsRvp d) : ¬(d.code < 4 ∨ d.code = stLost ∨ d.code = stHalted ∨ d.code = stSleep) := by
  rintro (hlow | hlost | hhalted | hsleep)
  · exact absurd h.started (Nat.not_le.mpr hlow)
  · exact h.notLost hlost
  · exact h.notHalted hhalted
  · exact h.notSleep hsleep

/-- A version other than 1 is the first error of a header. -/
theorem rvpStep1_version {b : List Byte} (h : beAt b 0 1 ≠ 1) : rvpStep1 b = some (eVersion, 0) := if_pos h

/-- A frame that has passed its checks waits for the command of its type. -/
def letWait (d : Dev) (x : RxDgram) : Dev := { d with rvp := { d.rvp with body := d.rvp.body ++ [x] } }

@[simp] theorem letWait_body (d : Dev) (x : RxDgram) : (letWait d x).rvp.body = d.rvp.body ++ [x] := rfl
@[simp] theorem sessAt_letWait (d : Dev) (x : RxDgram) (n : Nat) : sessAt (letWait d x) n = sessAt d n := rfl

/-- A frame that comes from the sub-port and the address at which a session was opened. -/
structure FromPartner (x : RxDgram) (y : Session) : Prop where
  port : y.port = x.port
  sp : y.sp = x.sp
  ip : y.ip = x.ip
  udp : y.udp = x.udp

section
variable {d e : Dev} {x : RxDgram} {rest : List RxDgram} (hrx : d.rvp.rx = x :: rest) (he : rcnt (pfcCheck { d with rvp := { d.rvp with rx := rest } } x.port x.sp) 0 1 = e)
include hrx he

theorem devRvpFrameReceive_u7Only (htype : u7Only (beAt x.data 1 1) = true) : devRvpFrameReceive d = rcnt e 14 1 := by
  simp only [devRvpFrameReceive, hrx, he, if_pos htype]

variable (htype : u7Only (beAt x.data 1 1) = false) (hhears : HearsRvp e)
include htype hhears

theorem devRvpFrameReceive_version (hversion : beAt x.data 0 1 ≠ 1) : devRvpFrameReceive d = errNone e x eVersion (beAt x.data 1 1) 0 := by
  simp only [devRvpFrameReceive, hrx, he, if_neg (ne_true_of_eq_false htype), if_neg hhears.not_deaf, rvpStep1_version hversion, if_true]

variable (hheader : rvpStep1 x.data = none) (hformed : e.code ≠ stForming)
include hheader hformed

theorem devRvpFrameReceive_open (hopen : beAt x.data 1 1 = 1) : devRvpFrameReceive d = letWait e x := by
  simp only [devRvpFrameReceive, hrx, he, if_neg (ne_true_of_eq_false htype), if_neg hhears.not_deaf, hheader, if_neg hformed, if_pos hopen, letWait]

theorem devRvpFrameReceive_noSession (hother : beAt x.data 1 1 ≠ 1) (hfree : sessAt e (beAt x.data 2 2) = none) : devRvpFrameReceive d = rcnt e 9 1 := by
  simp only [devRvpFrameReceive, hrx, he, if_neg (ne_true_of_eq_false htype), if_neg hhears.not_deaf, hheader, if_neg hformed, if_neg hother, hfree]

theorem devRvpFrameReceive_session {y : Session} (hother : beAt x.data 1 1 ≠ 1) (hsess : sessAt e (beAt x.data 2 2) = some y) (htoken : y.token = beAt x.data 4 4) (hfrom : FromPartner x y) :
    devRvpFrameReceive d = letWait (putSess e (beAt x.data 2 2) (some { y with idleFrom := e.now })) x := by
  simp only [devRvpFrameReceive, hrx, he, if_neg (ne_true_of_eq_false htype), if_neg hhears.not_deaf, hheader, if_neg hformed, if_neg hother, hsess,
    htoken, hfrom.port, hfrom.sp, hfrom.ip, hfrom.udp, decide_true, Bool.and_self, if_true, letWait]

end

/-! ### SESSION_OPEN (13 R357, R358) -/

/-- A SESSION_OPEN whose fields are good. -/
structure GoodOpen (b : List Byte) : Prop where
  length : b.length = 32
  noNumber : beAt b 2 2 = 0
  noToken : beAt b 4 4 = 0
  role : beAt b 28 1 = 1 ∨ beAt b 28 1 = 2
  fallbackLow : 1 ≤ beAt b 29 1
  fallbackHigh : beAt b 29 1 ≤ 3
  reserved : beAt b 30 2 = 0

theorem GoodOpen.firstFail {b : List Byte} (h : GoodOpen b) :
    firstFail [(decide (b.length ≠ 32), eFormat, 8), (decide (beAt b 2 2 ≠ 0), eReserved, 2), (decide (beAt b 4 4 ≠ 0), eReserved, 4),
      (decide (beAt b 28 1 ≠ 1 ∧ beAt b 28 1 ≠ 2), eReserved, 28), (decide (beAt b 29 1 = 0 ∨ 3 < beAt b 29 1), eReserved, 29), (decide (beAt b 30 2 ≠ 0), eReserved, 30)] = none := by
  have hrole : ¬(beAt b 28 1 ≠ 1 ∧ beAt b 28 1 ≠ 2) := fun hr => h.role.elim hr.1 hr.2
  have hfallback : ¬(beAt b 29 1 = 0 ∨ 3 < beAt b 29 1) := fun hf => hf.elim (Nat.one_le_iff_ne_zero.mp h.fallbackLow) (Nat.not_lt.mpr h.fallbackHigh)
  simp only [Machine.firstFail, h.length, h.noNumber, h.noToken, h.reserved, decide_eq_false hrole, decide_eq_false hfallback, ne_eq, not_true_eq_false, decide_false,
    Bool.false_eq_true, if_false]

/-- The session that a SESSION_OPEN opens, with a token and a grant. -/
def openedSession (x : RxDgram) (tok g now : Nat) : Session :=
  { st := 1, partner := beAt x.data 16 8, nonce := beAt x.data 24 4, role := 1, fallback := beAt x.data 29 1, port := x.port, sp := x.sp, mac := x.mac, ip := x.ip, udp := x.udp,
    token := tok, grant := g, idleFrom := now, limitSent := g, rise := now }

/-- With no session open, the lowest number of any range that holds one is free. -/
theorem lowestFree_noSessions {d : Dev} (h : d.rvp.sess = []) (n : Nat) : ((List.range (n + 2)).drop 1).find? (fun k => (sessAt d k).isNone) = some 1 := by
  have hfree : (sessAt d 1).isNone = true := by rw [sessAt, h]; rfl
  rw [List.range_succ_eq_map, List.drop_one, List.tail_cons, List.range_succ_eq_map, List.map_cons]
  exact List.find?_cons_of_pos hfree

section
variable {d e : Dev} {x : RxDgram} (htake : takeBody d 1 = some (x, e)) (hgood : GoodOpen x.data)
include htake hgood

theorem devSessionOpen_loadRefused (hrole : beAt x.data 28 1 = 2) (hallowed : loadAllowed e x.port x.sp = false) : devSessionOpen d = errNone e x eRole 1 0 := by
  simp only [devSessionOpen, htake, hgood.firstFail, if_pos (And.intro hrole hallowed)]

variable (hrole : beAt x.data 28 1 = 1)
include hrole

/-- The same opening again finds the session it opened. -/
theorem devSessionOpen_again {n : Nat} {y : Session} (hsess : e.rvp.sess = [(n, y)]) (hfrom : FromPartner x y) (hpartner : y.partner = beAt x.data 16 8) (hnonce : y.nonce = beAt x.data 24 4) : devSessionOpen d = sendOpen e n y := by
  simp only [devSessionOpen, htake, hgood.firstFail]
  simp only [hrole, OfNat.one_ne_ofNat, false_and, if_false, hsess, hfrom.port, hfrom.sp, hfrom.ip, hfrom.udp, hpartner, hnonce, decide_true, Bool.and_self, List.find?_cons]

/-- The first session takes number 1, and the port's retention up to the default; a port that cannot grant 64 blocks refuses. -/
theorem devSessionOpen_first {g tok : Nat} {f : Dev} (hsess : e.rvp.sess = []) (hg : g = min (fld e Reg.RVP_CREDIT_CFG 31 16) (retUsable e x.port)) (htok : newToken e 1 = (tok, f)) :
    devSessionOpen d =
      if g < 64 then errNone e x eNoCredit 1 0 else sendOpen (putSess f 1 (some (openedSession x tok g f.now))) 1 (openedSession x tok g f.now) := by
  have hgranted : retGranted e x.port = 0 := by rw [retGranted, hsess]; rfl
  have hlowest : ((List.range 4097).drop 1).find? (fun k => (sessAt e k).isNone) = some 1 := lowestFree_noSessions hsess 4095
  simp only [devSessionOpen, htake, hgood.firstFail]
  simp only [hrole, OfNat.one_ne_ofNat, false_and, if_false, hsess, List.find?_nil, List.filter_nil, List.foldl_nil, List.length_nil, Nat.reduceLeDiff, hgranted, Nat.sub_zero, if_true, ← hg,
    true_and, hlowest, htok, openedSession]

end

/-! ### SESSION_CLOSE and SESSION_IDLE_TIMEOUT (13 R359 to R361) -/

section
variable {d e : Dev} {x : RxDgram} {y : Session} (htake : takeBody d 2 = some (x, e)) (hlength : x.data.length = 24) (hreason : beAt x.data 16 1 = 1) (hreserved : beAt x.data 18 6 = 0)
  (hmode : beAt x.data 17 1 ≤ 1) (hsess : sessAt e (beAt x.data 2 2) = some y)
include htake hlength hreason hreserved hmode hsess

/-- A good SESSION_CLOSE is ignored while its session drains, and else abandons the session or lets it drain. -/
theorem devSessionClose_good : devSessionClose d =
    if y.st = 2 then e
    else if beAt x.data 17 1 = 1 then endSession e (beAt x.data 2 2) 1
    else drainDone (putSess e (beAt x.data 2 2) (some { y with st := 2 })) (beAt x.data 2 2) := by
  simp only [devSessionClose, htake, firstFail, hlength, hreason, hreserved, Nat.not_lt.mpr hmode, ne_eq, not_true_eq_false, decide_false, Bool.false_eq_true, if_false, hsess]

end

theorem devSessionIdleTimeout_open {d : Dev} {n : Nat} {y : Session} (hsess : sessAt d n = some y) :
    devSessionIdleTimeout n d = if y.idleFrom + fld d Reg.RVP_CFG 31 16 * 1000000000 ≤ d.now ∧ d.code ≠ stHalted then endSession d n 3 else d := by
  simp only [devSessionIdleTimeout, hsess, Bool.and_eq_true, decide_eq_true_eq]

end Sys2Proof.Machine
end

section
/-! SUPPORT. Credits and requests (13 R363 to R371): a session's CREDITs, the checks of a REQUEST in their order and its acceptance, the frames of a request in reassembly, and its time-out. -/

set_option autoImplicit false

namespace Sys2Proof.Machine

/-! ### Credits (13 R366) -/

/-- A good CREDIT is answered with the session's own. -/
theorem devCredit_good {d e : Dev} {x : RxDgram} {y : Session} (htake : takeBody d 3 = some (x, e)) (hlength : x.data.length = 32) (hzero : ∀ k, k < 16 → beAt x.data (16 + k) 1 = 0)
    (hsess : sessAt e (beAt x.data 2 2) = some y) : devCredit d = sendCredit e (beAt x.data 2 2) y := by
  have hgood : (List.range 16).find? (fun k => decide (beAt x.data (16 + k) 1 ≠ 0)) = none :=
    List.find?_eq_none.mpr fun k hk => by simp [hzero k (List.mem_range.mp hk)]
  simp only [devCredit, htake, hlength, hgood, hsess, ne_eq, not_true_eq_false, if_false]

theorem devCreditUpdateTimer_open {d : Dev} {n : Nat} {y : Session} (hsess : sessAt d n = some y) :
    devCreditUpdateTimer n d = if y.limit ≠ y.limitSent ∧ y.rise + 50000 ≤ d.now then putSess (sendCredit d n y) n (some { y with limitSent := y.limit }) else d := by
  simp only [devCreditUpdateTimer, hsess]

/-! ### REQUEST (13 R369) -/

/-- The request that a REQUEST frame begins in a session, for an image and with its retention blocks. -/
def begunReq (x : RxDgram) (y : Session) (im : Image) (blocks : List Nat) : Req :=
  { st := .reasm, sess := beAt x.data 2 2, reqId := beAt x.data 16 8, model := beAt x.data 24 1, flow := (beAt x.data 25 1).testBit 0, flowEnd := decide (beAt x.data 25 1 = 3),
    fallback := beAt x.data 26 1, sessFb := y.fallback, frames := beAt x.data 28 2, metaLen := beAt x.data 30 2, payLen := beAt x.data 32 4, deadlineUs := beAt x.data 36 4,
    flowKey := slice x.data 40 16, port := y.port, sp := y.sp, cost := costOf (beAt x.data 32 4), blocks := blocks, budget := im.budget, defDl := im.defDeadline,
    got := [(0, 0, x.data.length - 64)], opened := x.time }

/-- The session charged with the cost of a request. -/
def charged (d : Dev) (x : RxDgram) (y : Session) : Dev := putSess d (beAt x.data 2 2) (some { y with used := (y.used + costOf (beAt x.data 32 4)) % 2 ^ 32 })

/-- A request accepted: its session is charged, it takes the next handle, and a divergence noted for its id is forgotten. -/
def accepted (d : Dev) (x : RxDgram) (y : Session) (r : Req) : Dev :=
  { charged d x y with
    rvp := { (charged d x y).rvp with reqs := smPut d.rvp.nextReq (some r) d.rvp.reqs, nextReq := d.rvp.nextReq + 1 },
    det := { d.det with diverged := d.det.diverged.filter (fun q => decide (q ≠ beAt x.data 16 8)) } }

section
variable {d e : Dev} {x : RxDgram} {y : Session} (htake : takeBody d 4 = some (x, e)) (hsess : sessAt e (beAt x.data 2 2) = some y)
include htake hsess

theorem devRequest_role (hrole : y.role ≠ 1) : devRequest d = errSess e (beAt x.data 2 2) eRole 4 0 (beAt x.data 16 8) := by
  simp only [devRequest, htake, hsess, if_pos hrole]

variable (hrole : y.role = 1)
include hrole

theorem devRequest_closing (hclosing : y.st ≠ 1) : devRequest d = errSess e (beAt x.data 2 2) eSessionClosing 4 0 (beAt x.data 16 8) := by
  simp only [devRequest, htake, hsess, if_neg (not_not_intro hrole), if_pos hclosing]

/-- A REQUEST that passes every check is accepted and its first bytes are retained; one of a single frame is complete. -/
theorem devRequest_accepted {im : Image} {blocks : List Nat} (hopen : y.st = 1) (hformat : requestFormat x.data = none) (hmodel : requestModel e (beAt x.data 2 2) x.data = .ok im)
    (hcredit : (y.limit + 2 ^ 33 - y.used - costOf (beAt x.data 32 4)) % 2 ^ 32 < 2 ^ 31) (hblocks : takeBlocks e y.port (costOf (beAt x.data 32 4)) = some blocks) :
    devRequest d =
      let f := retWrite y.port blocks 65 0 (x.data.drop 64) (rcnt (accepted e x y (begunReq x y im blocks)) 1 1)
      if beAt x.data 28 2 = 1 then completeReq f e.rvp.nextReq x.time (x.data.drop 64) else f := by
  simp only [devRequest, htake, hsess, if_neg (not_not_intro hrole), if_neg (not_not_intro hopen), hformat, hmodel, if_neg (Nat.not_le.mpr hcredit), hblocks, List.length_drop]
  rfl

end

/-! ### REQUEST_CONT (13 R370) -/

/-- A frame of a continuation that passes the checks of its form. -/
structure GoodCont (b : List Byte) : Prop where
  long : 32 < b.length
  reserved : beAt b 26 2 = 0

theorem GoodCont.firstFail {b : List Byte} (h : GoodCont b) :
    firstFail [(decide (b.length < 32), eFormat, 8), (decide (beAt b 26 2 ≠ 0), eReserved, 26), (decide (b.length = 32), eFormat, 32)] = none := by
  simp only [Machine.firstFail, h.reserved, Nat.not_lt.mpr h.long.le, h.long.ne', ne_eq, not_true_eq_false, decide_false, Bool.false_eq_true, if_false]

/-- A continuation whose index is one of the request's and new to it. -/
structure NewIndex (r : Req) (idx : Nat) : Prop where
  low : idx < r.frames
  fresh : ∀ g ∈ r.got, g.1 ≠ idx

section
variable {r : Req} {idx : Nat} (h : NewIndex r idx)
include h

theorem NewIndex.any_eq_false : r.got.any (fun g => decide (g.1 = idx)) = false := List.any_eq_false.mpr fun g hg => by simpa using h.fresh g hg

theorem NewIndex.notHeld (off len : Nat) : r.got.contains (idx, off, len) = false :=
  Bool.eq_false_iff.mpr fun hheld => h.fresh _ (List.contains_iff_mem.mp hheld) rfl

theorem NewIndex.not_le : decide (r.frames ≤ idx) = false := decide_eq_false (Nat.not_le.mpr h.low)

end

section
variable {d e : Dev} {x : RxDgram} {y : Session} (htake : takeBody d 5 = some (x, e)) (hsess : sessAt e (beAt x.data 2 2) = some y) (hrole : y.role = 1) (hgood : GoodCont x.data)
include htake hsess hrole hgood

theorem devRequestCont_stray (hnone : inReasm e (beAt x.data 2 2) (beAt x.data 16 8) = none) : devRequestCont d = rcnt e 10 1 := by
  simp only [devRequestCont, htake, hsess, if_neg (not_not_intro hrole), hgood.firstFail, hnone]

variable {h : Nat} {r : Req} (hreq : inReasm e (beAt x.data 2 2) (beAt x.data 16 8) = some (h, r))
include hreq

theorem devRequestCont_repeated (hidx : beAt x.data 24 2 ≠ 0) (hheld : (beAt x.data 24 2, beAt x.data 28 4, x.data.length - 32) ∈ r.got) : devRequestCont d = rcnt e 11 1 := by
  simp only [devRequestCont, htake, hsess, if_neg (not_not_intro hrole), hgood.firstFail, hreq, List.length_drop, List.contains_iff_mem.mpr hheld, decide_eq_true hidx, Bool.and_self, if_true]

variable (hnew : NewIndex r (beAt x.data 24 2))
include hnew

/-- A continuation that goes beyond its request's payload discards the request. -/
theorem devRequestCont_beyond (hbeyond : r.payLen < beAt x.data 28 4 + (x.data.length - 32)) :
    devRequestCont d = drainDone (discardReq (errSess e (beAt x.data 2 2) eFormat 5 28 (beAt x.data 16 8)) h) (beAt x.data 2 2) := by
  simp only [devRequestCont, htake, hsess, if_neg (not_not_intro hrole), hgood.firstFail, hreq, List.length_drop, hnew.notHeld, hnew.not_le, hnew.any_eq_false, decide_eq_true hbeyond,
    Bool.false_and, Bool.or_self, Bool.false_or, Bool.true_or, Bool.false_eq_true, if_false, if_true]

/-- A continuation that fits among the frames held, and is not the last that the request waits for, is retained and noted. -/
theorem devRequestCont_fits (hinside : beAt x.data 28 4 + (x.data.length - 32) ≤ r.payLen)
    (hapart : ∀ g ∈ r.got, g.2.1 + g.2.2 ≤ beAt x.data 28 4 ∨ beAt x.data 28 4 + (x.data.length - 32) ≤ g.2.1) (hmore : r.got.length + 1 ≠ r.frames) :
    devRequestCont d = retWrite r.port r.blocks 65 (beAt x.data 28 4) (x.data.drop 32)
      (modReq e h (fun r => { r with got := r.got ++ [(beAt x.data 24 2, beAt x.data 28 4, x.data.length - 32)] })) := by
  have hclear : r.got.any (fun g => decide (beAt x.data 28 4 < g.2.1 + g.2.2) && decide (g.2.1 < beAt x.data 28 4 + (x.data.length - 32))) = false :=
    List.any_eq_false.mpr fun g hg => by
      have hg := hapart g hg
      simp only [Bool.and_eq_true, decide_eq_true_eq]
      omega
  simp only [devRequestCont, htake, hsess, if_neg (not_not_intro hrole), hgood.firstFail, hreq, List.length_drop, hnew.notHeld, hnew.not_le, hnew.any_eq_false,
    decide_eq_false (Nat.not_lt.mpr hinside), hclear, decide_eq_false hmore, Bool.false_and, Bool.or_self, Bool.false_eq_true, if_false]

end

/-! ### REASM_TIMEOUT (13 R370) -/

theorem devReasmTimeout_known {d : Dev} {h : Nat} {r : Req} (hreq : reqAt d h = some r) :
    devReasmTimeout h d =
      if (r.st = .reasm ∧ r.released = false) ∧ r.opened + 10000 * fld d Reg.RVP_CFG 15 0 ≤ d.now then
        drainDone (discardReq (errSess (evt (rcnt d 12 1) Reg.RVP_EVT 3) r.sess eIncomplete 4 0 r.reqId) h) r.sess
      else d := by
  simp only [devReasmTimeout, hreq, Bool.and_eq_true, decide_eq_true_eq, Bool.not_eq_true']

end Sys2Proof.Machine
end

section
/-! SUPPORT. Model loading (13 R384 to R387; 18 R524 to R527): what a good MODEL_LOAD of each operation does, and how a load leaves VERIFYING and STORING. -/

set_option autoImplicit false

namespace Sys2Proof.Machine

/-! ### Chunks out of order (13 R385) -/

/-- A chunk of the load at another offset than NEXT changes nothing within 100 µs of the last answer. -/
theorem chunkAt_early {d : Dev} {k : Nat} {l : Load} {b : List Byte} (hgen : beAt b 24 4 = l.gen) (hsize : beAt b 40 8 = l.size) (hoff : beAt b 32 8 ≠ l.next) (hack : l.lastAck ≠ 0)
    (hearly : d.now < l.lastAck + 100000) : chunkAt d k l b = d := by
  have hquiet : ¬(l.lastAck = 0 ∨ l.lastAck + 100000 ≤ d.now) := not_or.mpr ⟨hack, Nat.not_le.mpr hearly⟩
  simp only [chunkAt, if_neg (not_not_intro hgen), if_neg (not_not_intro hsize), if_pos (Or.inl hoff : beAt b 32 8 ≠ l.next ∨ l.size < beAt b 32 8 + beAt b 20 2), if_neg hquiet]

/-! ### The operations of a MODEL_LOAD (13 R384, R385, R387) -/

/-- A good MODEL_LOAD is the first frame that waits, in a LOAD session. -/
structure TakesLoad (d : Dev) (x : RxDgram) (e : Dev) (y : Session) : Prop where
  take : takeBody d 7 = some (x, e)
  sess : sessAt e (beAt x.data 2 2) = some y
  role : y.role = 2
  format : loadFormat x.data = none

section
variable {d e : Dev} {x : RxDgram} {y : Session} (h : TakesLoad d x e y)
include h

/-- A good MODEL_LOAD is acted on by the row of its operation. -/
theorem loadRow_good {op : Nat} (act : Dev → Nat → List Byte → Dev) (hop : beAt x.data 16 1 = op) : loadRow op act d = act e (beAt x.data 2 2) x.data := by
  simp only [loadRow, h.take, h.sess, if_neg (not_not_intro h.role), h.format, if_pos hop]

/-- The load that a first chunk starts. -/
def startedLoad (b : List Byte) : Load := { model := beAt b 17 1, sess := beAt b 2 2, gen := beAt b 24 4, size := beAt b 40 8 }

/-- A first chunk starts a load in the first register block. -/
theorem devChunk_starts (hop : beAt x.data 16 1 = 1) (hnone : loadOf e (beAt x.data 17 1) = none) (hoff : beAt x.data 32 8 = 0) (hstaged : (modelAt e (beAt x.data 17 1)).staged = none)
    (hfree : e.rvp.loads = [none, none]) (hsize : beAt x.data 40 8 ≤ stageLimit e) :
    devChunk d = chunkAt (evt (putLoad e 0 (startedLoad x.data)) Reg.RVP_EVT 4) 0 (startedLoad x.data) x.data := by
  have hblock : (List.range 2).find? (fun k => !(([none, none] : List (Option Load)).getD k none).any (fun l => l.busy)) = some 0 := rfl
  rw [devChunk, loadRow_good h _ hop]
  simp only [hnone, if_neg (not_not_intro hoff), hstaged, Option.isSome_none, Bool.false_eq_true, if_false, hfree, hblock, if_neg (Nat.not_lt.mpr hsize), startedLoad]

theorem devChunk_owner {k : Nat} {l : Load} (hop : beAt x.data 16 1 = 1) (hload : loadOf e (beAt x.data 17 1) = some (k, l)) (howned : l.owned = true) (howner : l.sess = beAt x.data 2 2) :
    devChunk d = chunkAt e k l x.data := by
  rw [devChunk, loadRow_good h _ hop]
  simp only [hload, howned, decide_eq_true howner, Bool.and_self, if_true]

/-- ABORT ends the session's own load; one that is not yet STORING has no copies to drop. -/
theorem devAbort_owner {k : Nat} {l : Load} (hop : beAt x.data 16 1 = 2) (hload : loadOf e (beAt x.data 17 1) = some (k, l)) (howned : l.owned = true) (howner : l.sess = beAt x.data 2 2)
    (hstatus : l.status ≠ 3) :
    devAbort d = loadAck (evt (putLoad e k { l with status := 7, busy := false, bytes := [] }) Reg.RVP_EVT 4) (beAt x.data 2 2)
      { op := 2, model := beAt x.data 17 1, status := 7, gen := l.gen, next := l.next } := by
  rw [devAbort, loadRow_good h _ hop]
  simp only [hload, howned, decide_eq_true howner, Bool.and_self, if_true, if_neg hstatus]

theorem devAbort_nothing (hop : beAt x.data 16 1 = 2) (hnone : loadOf e (beAt x.data 17 1) = none) (hstaged : (modelAt e (beAt x.data 17 1)).staged = none) :
    devAbort d = loadAck e (beAt x.data 2 2) { op := 2, model := beAt x.data 17 1, status := 6, reason := eLoadState } := by
  rw [devAbort, loadRow_good h _ hop]
  simp only [hnone, hstaged]

section
variable {op : Nat} (kind : Nat) {gen : ModelSt → Option Nat} (hop : beAt x.data 16 1 = op) (hnone : loadOf e (beAt x.data 17 1) = none)
include hop hnone

/-- An operation that the model's state allows is noted for its session, and asks for its barrier. -/
theorem barrierOp_asks {g : Nat} (hgen : gen (modelAt e (beAt x.data 17 1)) = some g) (hnew : (op, beAt x.data 17 1, beAt x.data 2 2) ∉ e.rvp.reqOps) :
    barrierOp op kind gen d = askBarrier { e with rvp := { e.rvp with reqOps := e.rvp.reqOps ++ [(op, beAt x.data 17 1, beAt x.data 2 2)] } } kind (beAt x.data 17 1) g := by
  rw [barrierOp, loadRow_good h _ hop]
  simp only [hnone, Option.isSome_none, Bool.false_eq_true, if_false, hgen, if_neg (mt List.contains_iff_mem.mp hnew)]

theorem barrierOp_refused (hgen : gen (modelAt e (beAt x.data 17 1)) = none) :
    barrierOp op kind gen d = loadAck e (beAt x.data 2 2) { op := op, model := beAt x.data 17 1, status := 6, reason := eLoadState } := by
  rw [barrierOp, loadRow_good h _ hop]
  simp only [hnone, Option.isSome_none, Bool.false_eq_true, if_false, hgen]

end

section
variable (hop : beAt x.data 16 1 = 5) (hnone : loadOf e (beAt x.data 17 1) = none) (hstaged : (modelAt e (beAt x.data 17 1)).staged = none)
include hop hnone hstaged

theorem devQuery_active {im : Image} (hactive : (modelAt e (beAt x.data 17 1)).active = some im) :
    devQuery d = loadAck e (beAt x.data 2 2) { op := 5, model := beAt x.data 17 1, status := 5, gen := im.gen } := by
  rw [devQuery, loadRow_good h _ hop]
  simp only [hnone, hstaged, hactive]

theorem devQuery_none (hactive : (modelAt e (beAt x.data 17 1)).active = none) :
    devQuery d = loadAck e (beAt x.data 2 2) { op := 5, model := beAt x.data 17 1, status := 0xA } := by
  rw [devQuery, loadRow_good h _ hop]
  simp only [hnone, hstaged, hactive]

end

end

/-! ### LOAD_VERIFY and LOAD_STORE_COMPLETE (13 R386; 18 R524 to R527) -/

section
variable {d : Dev} {k : Fin 2} {l : Load} (hload : d.rvp.loads.getD k.val none = some l) (hbusy : l.busy = true)
include hload hbusy

section
variable (hstatus : l.status = 2)
include hstatus

theorem devLoadVerify_bad {c : Nat} (hverify : verifyImage d l.model l.size l.bytes = .error c) : devLoadVerify k d = loadStatus d k.val l 6 c := by
  simp only [devLoadVerify, hload, hbusy, decide_eq_true hstatus, Bool.and_self, if_true, hverify]

/-- An image that passes every check goes to STORING when its generation is the one announced. -/
theorem devLoadVerify_good {im : Image} {r : Nat × SMap (Nat × Nat) × List (Nat × Item)} (hverify : verifyImage d l.model l.size l.bytes = .ok (im, r)) :
    devLoadVerify k d = if im.gen = l.gen then loadStatus d k.val l 3 0 else loadStatus d k.val l 6 eLoadImage := by
  simp only [devLoadVerify, hload, hbusy, decide_eq_true hstatus, Bool.and_self, if_true, hverify, ne_eq, ite_not]

end

/-- The package with an image's items installed under a placement. -/
def placedIn (d : Dev) (vm : SMap (Nat × Nat)) (its : List (Nat × Item)) : Dev := { installItems its d with det := { (installItems its d).det with vmap := vm } }

/-- The model of an image that a load has stored, with the image staged and owned by the load's session. -/
def stagedBy (d : Dev) (l : Load) (im : Image) : ModelSt :=
  { modelAt d im.id with staged := some im, owner := if l.owned then (sessAt d l.sess).map (fun y => (l.sess, y.token)) else none, refused := (0, 0) }

variable (hstatus : l.status = 3)
include hstatus

theorem devLoadStoreComplete_unparsed (hparse : parseImage l.bytes = none) : devLoadStoreComplete k d = loadStatus d k.val l 6 eLoadImage := by
  simp only [devLoadStoreComplete, hload, hbusy, decide_eq_true hstatus, Bool.and_self, if_true, hparse]

variable {im : Image} {off : Nat} {vm : SMap (Nat × Nat)} {its : List (Nat × Item)} (hparse : parseImage l.bytes = some (im, off)) (hplace : placement d im = some vm)
  (hitems : itemsAll d im vm = some its)
include hparse hplace hitems

theorem devLoadStoreComplete_noCapacity (hcap : capacityOk d im vm its off = false) : devLoadStoreComplete k d = loadStatus d k.val l 6 eLoadCapacity := by
  simp only [devLoadStoreComplete, hload, hbusy, decide_eq_true hstatus, Bool.and_self, if_true, hparse, hplace, hitems, Option.bind_some, Option.map_some, hcap, Bool.not_false]

variable (hcap : capacityOk d im vm its off = true)
include hcap

theorem devLoadStoreComplete_noRoom (hstore : storeCopies im l.bytes off d = none) :
    devLoadStoreComplete k d = loadStatus (dropImgCopies d im.id im.gen) k.val l 6 eLoadCapacity := by
  simp only [devLoadStoreComplete, hload, hbusy, decide_eq_true hstatus, Bool.and_self, if_true, hparse, hplace, hitems, Option.bind_some, Option.map_some, hcap, Bool.not_true,
    Bool.false_eq_true, if_false, hstore]

/-- An image whose copies are stored is installed as its model's staged image, and the load is STAGED. -/
theorem devLoadStoreComplete_stored {e : Dev} (hstore : storeCopies im l.bytes off d = some e) :
    devLoadStoreComplete k d = loadStatus (seedStaged (restate (setModel (placedIn e vm its) im.id (stagedBy (placedIn e vm its) l im))) im) k.val l 4 0 := by
  simp only [devLoadStoreComplete, hload, hbusy, decide_eq_true hstatus, Bool.and_self, if_true, hparse, hplace, hitems, Option.bind_some, Option.map_some, hcap, Bool.not_true,
    Bool.false_eq_true, if_false, hstore, placedIn, stagedBy]

end

end Sys2Proof.Machine
end

section
/-! SUPPORT. Conditioning and release (13 R372 to R375, R381; 15 R437): the input slot of the oldest queued request of a model, and what a beat releases. -/

set_option autoImplicit false

namespace Sys2Proof.Machine

/-! ### CONDITIONING_START (13 R373, R375) -/

/-- The oldest queued request of an active model, of no flow, whose deadline the next lap still meets. -/
structure NextToCondition (d : Dev) (m : Fin 16) (h : Nat) (r : Req) (im : Image) : Prop where
  head : headQueued d (m.val + 1) = some (h, r)
  active : (modelAt d (m.val + 1)).active = some im
  meets : misses d r im d.now = false
  noFlow : r.flow = false

/-- A request of no flow waits for no claim. -/
theorem resolveReq_noFlow (d : Dev) (h : Nat) {r : Req} (im : Image) (hflow : r.flow = false) : resolveReq d h r im = (some d, d) := by
  simp only [resolveReq, hflow, Bool.not_false, Bool.true_or, if_true]

section
variable {d : Dev} {m : Fin 16} {h : Nat} {r : Req} {im : Image} (hnext : NextToCondition d m h r im)
include hnext

/-- A request without payload is ready at once, and takes no slot. -/
theorem devConditioningStart_noPayload (hpay : r.payLen = 0) :
    devConditioningStart m d = modReq d h (fun r => { r with st := .ready, inBase := 0, inWords := 0, slotGen := im.gen }) := by
  simp only [devConditioningStart, hnext.head, hnext.active, hnext.meets, Bool.false_eq_true, if_false, resolveReq_noFlow d h im hnext.noFlow, if_pos hpay]

variable (hpay : r.payLen ≠ 0) (hslot : r.slot = none)
include hpay hslot

theorem devConditioningStart_slot {k : Nat} (hin : k < inputSlots im) (hfree : k ∉ slotsUsed d (m.val + 1) im.gen) (hlowest : ∀ j, j < k → j ∈ slotsUsed d (m.val + 1) im.gen) :
    devConditioningStart m d = conditionReq d h r im k := by
  have hfind : (List.range (inputSlots im)).find? (fun k => !(slotsUsed d (m.val + 1) im.gen).contains k) = some k :=
    List.find?_range_eq_some.mpr ⟨by simpa using hfree, List.mem_range.mpr hin, fun j hj => by simpa using hlowest j hj⟩
  simp only [devConditioningStart, hnext.head, hnext.active, hnext.meets, Bool.false_eq_true, if_false, resolveReq_noFlow d h im hnext.noFlow, if_neg hpay, hslot, ite_self, hfind]

/-- With no free slot a request waits, and is counted once. -/
theorem devConditioningStart_full (hfull : ∀ k, k < inputSlots im → k ∈ slotsUsed d (m.val + 1) im.gen) :
    devConditioningStart m d = if r.waited = true then d else rcnt (modReq d h (fun r => { r with waited := true })) 16 1 := by
  have hfind : (List.range (inputSlots im)).find? (fun k => !(slotsUsed d (m.val + 1) im.gen).contains k) = none :=
    List.find?_eq_none.mpr fun k hk => by simpa using hfull k (List.mem_range.mp hk)
  simp only [devConditioningStart, hnext.head, hnext.active, hnext.meets, Bool.false_eq_true, if_false, resolveReq_noFlow d h im hnext.noFlow, if_neg hpay, hslot, ite_self, hfind]

end

/-! ### RELEASE_BEAT (15 R437) -/

/-- The package with its beat consumed. -/
def beatTaken (d : Dev) : Dev := { d with tim := { d.tim with beat := false } }

@[simp] theorem beatsIgnored_beatTaken (d : Dev) : beatsIgnored (beatTaken d) = beatsIgnored d := rfl
@[simp] theorem dueReqs_beatTaken (d : Dev) : dueReqs (beatTaken d) = dueReqs d := rfl

theorem devReleaseBeat_noBeat {d : Dev} (h : d.tim.beat = false) : devReleaseBeat d = d := if_pos (by rw [h]; rfl)

/-- A beat releases every held verdict that is due, or is missed in a state that ignores beats. -/
theorem devReleaseBeat_beat {d : Dev} (h : d.tim.beat = true) :
    devReleaseBeat d = if beatsIgnored d = true then missBeat (beatTaken d) else releaseAll (dueReqs d) (beatTaken d) := by
  rw [← beatsIgnored_beatTaken, ← dueReqs_beatTaken]
  exact if_neg (by rw [h]; exact Bool.false_ne_true)

end Sys2Proof.Machine
end

section
/-! SUPPORT. The statements of 13_rvp.md settled: frames and sessions, requests and credits, model loading, conditioning and release. -/

set_option autoImplicit false

namespace Sys2Proof.Machine

/-- Settles O34: each row by the check at which it ends. -/
theorem rvpSessions : Obligations.RvpSessions := by
  refine ⟨fun s x rest d hlive hrx hd => ⟨fun htype => ?u7Only, fun htype hstarted hlost hhalted hsleep => ?received⟩,
    fun s x d hlive htake hlength hnumber htoken hlow hhigh hreserved => ⟨fun hrole hallowed => ?load, fun n y hrole hsess hport hsp hip hudp hpartner hnonce => ?again,
      fun g tok e hrole hsess hg hroom htok _ => ?opens, fun g hrole hsess hg hfull => ?noCredit⟩,
    fun s x d y hlive htake hlength hreason hreserved hsess => ⟨fun hdraining hmode => ?draining, fun hopen hmode => ?abandon, fun hopen hmode => ?drain⟩,
    fun s n y hlive hsess => ⟨fun hsilent hrunning => ?silent, fun hheard => ?heard⟩⟩
  case u7Only => rw [exec_rvpFrameReceive, onDev_live hlive, devRvpFrameReceive_u7Only hrx hd htype]
  case received =>
    have hhears : HearsRvp d := ⟨hstarted, hlost, hhalted, hsleep⟩
    rw [exec_rvpFrameReceive, onDev_live hlive]
    refine ⟨fun hversion => ?_, fun hheader hformed hopen => ?_, fun hheader hformed hother hfree => ?_, fun y hheader hformed hother hsess htoken hport hsp hip hudp => ⟨_, rfl, ?_⟩⟩
    · rw [devRvpFrameReceive_version hrx hd htype hhears hversion]
    · rw [devRvpFrameReceive_open hrx hd htype hhears hheader hformed hopen, letWait]
    · rw [devRvpFrameReceive_noSession hrx hd htype hhears hheader hformed hother hfree]
    · rw [devRvpFrameReceive_session hrx hd htype hhears hheader hformed hother hsess htoken ⟨hport, hsp, hip, hudp⟩]
      exact ⟨(sessAt_letWait _ x _).trans (sessAt_putSess_same d _ _), letWait_body _ x⟩
  case load =>
    have hgood : GoodOpen x.data := ⟨hlength, hnumber, htoken, .inr hrole, hlow, hhigh, hreserved⟩
    rw [exec_sessionOpen, onDev_live hlive, devSessionOpen_loadRefused htake hgood hrole hallowed]
  case again =>
    have hgood : GoodOpen x.data := ⟨hlength, hnumber, htoken, .inl hrole, hlow, hhigh, hreserved⟩
    rw [exec_sessionOpen, onDev_live hlive, devSessionOpen_again htake hgood hrole hsess ⟨hport, hsp, hip, hudp⟩ hpartner hnonce]
  case opens =>
    have hgood : GoodOpen x.data := ⟨hlength, hnumber, htoken, .inl hrole, hlow, hhigh, hreserved⟩
    rw [exec_sessionOpen, onDev_live hlive, devSessionOpen_first htake hgood hrole hsess hg htok, if_neg (Nat.not_lt.mpr hroom), openedSession]
  case noCredit =>
    have hgood : GoodOpen x.data := ⟨hlength, hnumber, htoken, .inl hrole, hlow, hhigh, hreserved⟩
    rw [exec_sessionOpen, onDev_live hlive, devSessionOpen_first htake hgood hrole hsess hg rfl, if_pos hfull]
  case draining => rw [exec_sessionClose, onDev_live hlive, devSessionClose_good htake hlength hreason hreserved hmode hsess, if_pos hdraining]
  case abandon => rw [exec_sessionClose, onDev_live hlive, devSessionClose_good htake hlength hreason hreserved hmode.le hsess, if_neg hopen, if_pos hmode]
  case drain =>
    rw [exec_sessionClose, onDev_live hlive, devSessionClose_good htake hlength hreason hreserved (by rw [hmode]; exact Nat.zero_le 1) hsess, if_neg hopen,
      if_neg (by rw [hmode]; exact Nat.zero_ne_one)]
  case silent => rw [exec_sessionIdleTimeout, onDev_live hlive, devSessionIdleTimeout_open hsess, if_pos ⟨hsilent, hrunning⟩]
  case heard => rw [exec_sessionIdleTimeout, onDev_live hlive, devSessionIdleTimeout_open hsess, if_neg fun h => Nat.not_le.mpr hheard h.1]

/-- Settles O35: each row in the case that its hypotheses name. -/
theorem rvpRequests : Obligations.RvpRequests := by
  refine ⟨fun s x d y hlive htake hlength hzero hsess => ?credit, fun s n y hlive hsess => ⟨fun hrisen hdue => ?risen, fun hquiet => ?quiet⟩,
    fun s x d y hlive htake hsess => ⟨fun hrole => ?role, fun hrole hclosing => ?closing, fun im blocks r e hrole hopen hformat hmodel hcredit hblocks hr he => ?accepted⟩,
    fun s x d y hlive htake hsess hrole hlong hreserved => ⟨fun hnone => ?stray, fun h r hreq => ⟨fun hidx hheld => ?repeated, fun hfresh hlow hbeyond => ?beyond,
      fun hfresh hlow hinside hapart hmore => ?fits⟩⟩,
    fun s h r hlive hreq => ⟨fun hreasm hunreleased hlate => ?late, fun hyoung => ?young⟩⟩
  case credit => rw [exec_credit, onDev_live hlive, devCredit_good htake hlength hzero hsess]
  case risen => rw [exec_creditUpdateTimer, onDev_live hlive, devCreditUpdateTimer_open hsess, if_pos ⟨hrisen, hdue⟩]
  case quiet =>
    have hnone : ¬(y.limit ≠ y.limitSent ∧ y.rise + 50000 ≤ s.dev.now) := fun h => hquiet.elim h.1 (Nat.not_lt.mpr h.2)
    rw [exec_creditUpdateTimer, onDev_live hlive, devCreditUpdateTimer_open hsess, if_neg hnone]
  case role => rw [exec_request, onDev_live hlive, devRequest_role htake hsess hrole]
  case closing => rw [exec_request, onDev_live hlive, devRequest_closing htake hsess hrole hclosing]
  case accepted =>
    have hbegun : begunReq x y im blocks = r := hr.symm
    have haccepted : accepted d x y r = e := he
    rw [exec_request, onDev_live hlive, devRequest_accepted htake hsess hrole hopen hformat hmodel hcredit hblocks, hbegun, haccepted]
    exact ⟨fun hmany => by rw [if_neg hmany], fun hone => by rw [if_pos hone]⟩
  case stray => rw [exec_requestCont, onDev_live hlive, devRequestCont_stray htake hsess hrole ⟨hlong, hreserved⟩ hnone]
  case repeated => rw [exec_requestCont, onDev_live hlive, devRequestCont_repeated htake hsess hrole ⟨hlong, hreserved⟩ hreq hidx hheld]
  case beyond => rw [exec_requestCont, onDev_live hlive, devRequestCont_beyond htake hsess hrole ⟨hlong, hreserved⟩ hreq ⟨hlow, hfresh⟩ hbeyond]
  case fits => rw [exec_requestCont, onDev_live hlive, devRequestCont_fits htake hsess hrole ⟨hlong, hreserved⟩ hreq ⟨hlow, hfresh⟩ hinside hapart hmore]
  case late => rw [exec_reasmTimeout, onDev_live hlive, devReasmTimeout_known hreq, if_pos ⟨⟨hreasm, hunreleased⟩, hlate⟩]
  case young => rw [exec_reasmTimeout, onDev_live hlive, devReasmTimeout_known hreq, if_neg fun h => Nat.not_le.mpr hyoung h.2]

/-- Settles O36: a MODEL_LOAD by its operation, and a load by the check at which VERIFYING or STORING ends. -/
theorem modelLoads : Obligations.ModelLoads := by
  refine ⟨fun s x d y n m hlive htake hn hm hsess hrole hformat => ?operations, fun s k l hlive hload hbusy => ⟨fun hstatus => ?verify, fun hstatus => ⟨fun hparse => ?unparsed,
    fun im off vm its hparse hplace hitems => ?store⟩⟩⟩
  case operations =>
    subst hn hm
    have h : TakesLoad s.dev x d y := ⟨htake, hsess, hrole, hformat⟩
    refine ⟨fun hop hnone hoff hstaged hfree hsize => ?_, fun k l hop hload howned howner hgen hsize hoff hack hearly => ?_, fun k l hop hload howned howner hstatus => ?_,
      fun hop hnone hstaged => ?_, fun im hop hnone hactive hnew => ?_, fun hop hnone hactive => ?_, fun im hop hnone hprev hnew => ?_, fun hop hnone hprev => ?_,
      fun im hop hnone hstaged hactive => ?_, fun hop hnone hstaged hactive => ?_⟩
    · rw [exec_chunk, onDev_live hlive, devChunk_starts h hop hnone hoff hstaged hfree hsize, startedLoad]
    · rw [exec_chunk, onDev_live hlive, devChunk_owner h hop hload howned howner, chunkAt_early hgen hsize hoff hack hearly]
    · rw [exec_abort, onDev_live hlive, devAbort_owner h hop hload howned howner hstatus]
    · rw [exec_abort, onDev_live hlive, devAbort_nothing h hop hnone hstaged]
    · rw [exec_remove, onDev_live hlive, devRemove, barrierOp_asks h 4 hop hnone (by rw [hactive]; rfl) hnew]
    · rw [exec_remove, onDev_live hlive, devRemove, barrierOp_refused h 4 hop hnone (by rw [hactive]; rfl)]
    · rw [exec_rollback, onDev_live hlive, devRollback, barrierOp_asks h 3 hop hnone (by rw [hprev]; rfl) hnew]
    · rw [exec_rollback, onDev_live hlive, devRollback, barrierOp_refused h 3 hop hnone (by rw [hprev]; rfl)]
    · rw [exec_query, onDev_live hlive, devQuery_active h hop hnone hstaged hactive]
    · rw [exec_query, onDev_live hlive, devQuery_none h hop hnone hstaged hactive]
  case verify =>
    rw [exec_loadVerify, onDev_live hlive]
    cases hverify : verifyImage s.dev l.model l.size l.bytes with
    | error c => rw [devLoadVerify_bad hload hbusy hstatus hverify]
    | ok r => rw [devLoadVerify_good hload hbusy hstatus hverify]
  case unparsed => rw [exec_loadStoreComplete, onDev_live hlive, devLoadStoreComplete_unparsed hload hbusy hstatus hparse]
  case store =>
    rw [exec_loadStoreComplete, onDev_live hlive]
    cases hcap : capacityOk s.dev im vm its off with
    | false => rw [devLoadStoreComplete_noCapacity hload hbusy hstatus hparse hplace hitems hcap, if_pos rfl]
    | true =>
      rw [if_neg Bool.true_eq_false_eq_False]
      cases hstore : storeCopies im l.bytes off s.dev with
      | none => rw [devLoadStoreComplete_noRoom hload hbusy hstatus hparse hplace hitems hcap hstore]
      | some e =>
        rw [devLoadStoreComplete_stored hload hbusy hstatus hparse hplace hitems hcap hstore]
        rfl

/-- Settles O37: conditioning by the slots in use, and a beat by whether the state heeds it. -/
theorem conditionAndRelease : Obligations.ConditionAndRelease := by
  refine ⟨fun s m h r im hlive hhead hactive hmeets hflow => ?condition, fun s hlive => ⟨fun hnone => ?noBeat, fun hbeat hignored => ?missed, fun hbeat hheeded => ?released⟩⟩
  case condition =>
    have hnext : NextToCondition s.dev m h r im := ⟨hhead, hactive, hmeets, hflow⟩
    rw [exec_conditioningStart, onDev_live hlive]
    refine ⟨fun hpay => ?_, fun k hpay hslot hin hfree hlowest => ?_, fun hpay hslot hfull => ?_⟩
    · rw [devConditioningStart_noPayload hnext hpay]
    · rw [devConditioningStart_slot hnext hpay hslot hin hfree hlowest]
    · rw [devConditioningStart_full hnext hpay hslot hfull]
      exact ⟨fun hwaited => by rw [if_pos hwaited], fun hfirst => by rw [if_neg (ne_true_of_eq_false hfirst)]⟩
  case noBeat => rw [exec_releaseBeat, onDev_live hlive, devReleaseBeat_noBeat hnone]
  case missed => rw [exec_releaseBeat, onDev_live hlive, devReleaseBeat_beat hbeat, if_pos hignored, beatTaken]
  case released => rw [exec_releaseBeat, onDev_live hlive, devReleaseBeat_beat hbeat, if_neg (ne_true_of_eq_false hheeded), beatTaken]

end Sys2Proof.Machine
end

section
/-! SUPPORT. What a command can do to the fuses and to the flash (18 R501, R509, R510; 19 R545, R546): one case for each of them, what each case keeps, and that every command answers a next state with its queue. -/

set_option autoImplicit false

namespace Sys2Proof.Machine

/-! ### The commands that reach the fuses or the flash -/

/-- The commands that may blow a fuse. -/
def burnsFuses : Instr → Bool
  | .keySlotProgram | .keySlotRevoke | .kwkSet | .minSvn => true
  | _ => false

/-- The commands that may change the flash: the two flash commands, and the resets that may cut one of them short. -/
def reachesFlash : Instr → Bool
  | .flashErase | .flashWrite | .pwrgdFall | .pinReset _ | .por _ => true
  | _ => false

/-- Every other command changes the package alone. -/
theorem exec_put {c : Instr} (s : State) (hfuse : burnsFuses c = false) (hflash : reachesFlash c = false) : ∃ d, exec c s = .next (s.put d) := by
  cases c with
  | keySlotProgram | keySlotRevoke | kwkSet | minSvn => cases hfuse
  | flashErase | flashWrite | pwrgdFall | pinReset | por => cases hflash
  | _ => exact ⟨_, rfl⟩

/-- What a command can do to the fuses: nothing, or blow those that it names. -/
inductive FuseStep (a : Fuses) : Instr → Fuses → Prop
  | kept (c : Instr) : FuseStep a c a
  | program (k : Nat) (hash : List Byte) (hnew : (a.keys.getD k {}).provisioned = false) (hlen : hash.length = 48) :
      FuseStep a .keySlotProgram { a with keys := setAt a.keys k { a.keys.getD k {} with hash := hash, provisioned := true } }
  | revoke (k : Nat) (hprov : (a.keys.getD k {}).provisioned = true) :
      FuseStep a .keySlotRevoke { a with keys := setAt a.keys k { a.keys.getD k {} with revoked := true } }
  | wrapKey (key : List Byte) (hnew : a.kwk = none) (hlen : key.length = 32) : FuseStep a .kwkSet { a with kwk := some key }
  | raise (n : Nat) (hlow : a.minSvn < n) (hhigh : n ≤ 63) : FuseStep a .minSvn { a with minSvn := n }

/-- What a command can do to the flash: nothing, or erase or program bytes of a slot that is not the one selected at this boot. -/
inductive FlashStep (d : Dev) (fl : List Host.Cell) (c : Instr) : List Host.Cell → Prop
  | kept : FlashStep d fl c fl
  | erase (k n : Nat) (hc : reachesFlash c = true) (hslot : k ≤ 1) (hfree : slotInUse d k = false) (hin : n ≤ 0x400000) : FlashStep d fl c (flashErase fl k n)
  | program (k off : Nat) (bs : List Byte) (hc : reachesFlash c = true) (hslot : k ≤ 1) (hfree : slotInUse d k = false) (hin : off + bs.length ≤ 0x400000) :
      FlashStep d fl c (flashProgram fl (slotBase k + off) bs)

/-! ### The rows that reach them -/

theorem length_padTo (n : Nat) (bs : List Byte) : (padTo n bs).length = n := by
  rw [padTo, List.length_append, List.length_take, List.length_replicate]
  omega

/-- A request of another row leaves the machine; one of this row changes it and is answered. -/
theorem runState_cases (cmd : Nat) (f : VReq → State → (Nat × List Byte) × State) (s : State) :
    runState cmd f s = s ∨ ∃ q, s.dev.mgmt.cur = some q ∧ runState cmd f s = (f q s).2.put (finish (f q s).2.dev q (f q s).1.1 (f q s).1.2) := by
  cases hcur : s.dev.mgmt.cur with
  | none => exact .inl (by simp only [runState, hcur])
  | some q =>
    by_cases hcmd : q.cmd = cmd
    · exact .inr ⟨q, rfl, by simp only [runState, hcur, if_pos hcmd, State.put]⟩
    · exact .inl (by simp only [runState, hcur, if_neg hcmd])

/-- KEY_SLOT with an OP that is not revoke programs a slot that is not programmed, or nothing. -/
theorem keySlot_program {b : List Byte} (a : Fuses) (hop : leAt b 0 1 ≠ 2) : FuseStep a .keySlotProgram (keySlot b a).2 := by
  simp only [keySlot, hop]
  split
  · exact .kept _
  split
  · exact .kept _
  split
  · split
    · exact .kept _
    · next hprov => exact .program _ _ (Bool.eq_false_iff.mpr hprov) (length_padTo 48 _)
  · next hrsvd hop1 => exact absurd (.inl ⟨hop1, hop⟩) hrsvd

/-- KEY_SLOT with OP revoke revokes a slot that is programmed, or nothing. -/
theorem keySlot_revoke {b : List Byte} (a : Fuses) (hop : leAt b 0 1 = 2) : FuseStep a .keySlotRevoke (keySlot b a).2 := by
  simp only [keySlot, hop, Nat.reduceEqDiff, if_false]
  split
  · exact .kept _
  split
  · exact .kept _
  split
  · exact .kept _
  split
  · exact .kept _
  split
  · exact .kept _
  · next hprov _ _ => exact .revoke _ (by simpa using hprov)

/-- The status of a flash command is success for a slot that is not in use alone, and for bytes within it. -/
theorem flashStatus_success {d : Dev} {write : Bool} {b : List Byte} (h : flashStatus d write b = 0) :
    leAt b 0 1 ≤ 1 ∧ slotInUse d (leAt b 0 1) = false ∧ (write = true → leAt b 4 4 + leAt b 8 2 ≤ 0x400000) := by
  simp only [flashStatus] at h
  split at h
  · cases h
  split at h
  · cases h
  split at h
  · cases h
  next _ hrange huse =>
    simp only [Bool.or_eq_true, decide_eq_true_eq, Bool.and_eq_true, not_or, not_and] at hrange
    obtain ⟨hslot, hfit⟩ := hrange
    exact ⟨by omega, Bool.eq_false_iff.mpr huse, fun hw => Nat.not_lt.mp (hfit hw).2⟩

theorem length_flashData (b : List Byte) : (flashData b).length ≤ leAt b 8 2 := by
  rw [flashData, List.length_take]
  exact Nat.min_le_left _ _

/-- What each of these rows leaves: the package aside, the fuses and the flash by one of the cases, and the queue. -/
structure Persists (c : Instr) (s t : State) : Prop where
  fuse : FuseStep s.fuse c t.fuse
  flash : FlashStep s.dev s.flash c t.flash
  pending : t.pending = s.pending

theorem Persists.put (c : Instr) (s : State) (d : Dev) : Persists c s (s.put d) := ⟨.kept c, .kept, rfl⟩

/-- A row of the fuses that blows what one of the cases allows. -/
theorem persists_runState_fuse {c : Instr} {cmd : Nat} {f : VReq → State → (Nat × List Byte) × State} {s : State}
    (h : ∀ q, s.dev.mgmt.cur = some q → ∃ r fz, f q s = (r, { s with fuse := fz }) ∧ FuseStep s.fuse c fz) : Persists c s (runState cmd f s) := by
  obtain hidle | ⟨q, hcur, hrun⟩ := runState_cases cmd f s
  · rw [hidle]; exact .put c s s.dev
  · obtain ⟨r, fz, hf, hstep⟩ := h q hcur
    rw [hrun, hf]
    exact ⟨hstep, .kept, rfl⟩

/-- A row of the flash that changes what one of the cases allows. -/
theorem persists_runState_flash {c : Instr} {cmd : Nat} {f : VReq → State → (Nat × List Byte) × State} {s : State}
    (h : ∀ q, ∃ r fl, f q s = (r, { s with flash := fl }) ∧ FlashStep s.dev s.flash c fl) : Persists c s (runState cmd f s) := by
  obtain hidle | ⟨q, -, hrun⟩ := runState_cases cmd f s
  · rw [hidle]; exact .put c s s.dev
  · obtain ⟨r, fl, hf, hstep⟩ := h q
    rw [hrun, hf]
    exact ⟨.kept c, hstep, rfl⟩

theorem stKeySlotProgram_persists (s : State) : Persists .keySlotProgram s (stKeySlotProgram s) := by
  rw [stKeySlotProgram]
  split
  · next q hcur =>
    split
    · exact .put _ s s.dev
    · next hop =>
      refine persists_runState_fuse fun q' hcur' => ?_
      obtain rfl : q = q' := Option.some.inj (hcur.symm.trans hcur')
      exact ⟨_, _, rfl, keySlot_program s.fuse hop⟩
  · exact .put _ s s.dev

theorem stKeySlotRevoke_persists (s : State) : Persists .keySlotRevoke s (stKeySlotRevoke s) := by
  rw [stKeySlotRevoke]
  split
  · next q hcur =>
    split
    · next hop =>
      refine persists_runState_fuse fun q' hcur' => ?_
      obtain rfl : q = q' := Option.some.inj (hcur.symm.trans hcur')
      exact ⟨_, _, rfl, keySlot_revoke s.fuse hop⟩
    · exact .put _ s s.dev
  · exact .put _ s s.dev

theorem stKwkSet_persists (s : State) : Persists .kwkSet s (stKwkSet s) := by
  refine persists_runState_fuse fun q _ => ?_
  split
  · exact ⟨_, _, rfl, .kept _⟩
  · next hnew => exact ⟨_, _, rfl, .wrapKey _ (by simpa using hnew) (length_padTo 32 _)⟩

theorem stMinSvn_persists (s : State) : Persists .minSvn s (stMinSvn s) := by
  refine persists_runState_fuse fun q _ => ?_
  dsimp only
  split
  · exact ⟨_, _, rfl, .kept _⟩
  split
  · exact ⟨_, _, rfl, .kept _⟩
  split
  · exact ⟨_, _, rfl, .kept _⟩
  · next _ hne hlimits => exact ⟨_, _, rfl, .raise _ (by omega) (by omega)⟩

theorem stFlashErase_persists (s : State) : Persists .flashErase s (stFlashErase s) := by
  refine persists_runState_flash fun q => ?_
  dsimp only
  split
  · next hok =>
    obtain ⟨hslot, hfree, -⟩ := flashStatus_success hok
    exact ⟨_, _, rfl, .erase _ _ rfl hslot hfree le_rfl⟩
  · exact ⟨_, _, rfl, .kept⟩

theorem stFlashWrite_persists (s : State) : Persists .flashWrite s (stFlashWrite s) := by
  refine persists_runState_flash fun q => ?_
  dsimp only
  split
  · next hok =>
    obtain ⟨hslot, hfree, hfit⟩ := flashStatus_success hok
    exact ⟨_, _, rfl, .program _ _ _ rfl hslot hfree ((Nat.add_le_add_left (length_flashData _) _).trans (hfit rfl))⟩
  · exact ⟨_, _, rfl, .kept⟩

/-- A reset stops a flash command after a part of what it was to do (18 R499). -/
theorem cutFlash_persists {c : Instr} (s : State) (hc : reachesFlash c = true) : Persists c s (cutFlash s) := by
  unfold cutFlash draw
  split
  · dsimp only
    split
    · next hok =>
      obtain ⟨hslot, hfree, -⟩ := flashStatus_success hok.2
      exact ⟨.kept c, .erase _ _ hc hslot hfree (Nat.le_of_lt_succ (Nat.mod_lt _ (Nat.succ_pos _))), rfl⟩
    split
    · next hok =>
      obtain ⟨hslot, hfree, hfit⟩ := flashStatus_success hok.2
      exact ⟨.kept c, .program _ _ _ hc hslot hfree ((Nat.add_le_add_left ((List.length_take_le' _ _).trans (length_flashData _)) _).trans (hfit rfl)), rfl⟩
    · exact .put c s s.dev
  · exact .put c s s.dev

theorem Persists.putAfter {c : Instr} {s t : State} (h : Persists c s t) (d : Dev) : Persists c s (t.put d) := ⟨h.fuse, h.flash, h.pending⟩

theorem onState_persists {c : Instr} {f : State → State} {s : State} (h : Persists c s (f s)) : ∃ t, onState f s = .next t ∧ Persists c s t := by
  refine ⟨_, rfl, ?_⟩
  split
  · exact h
  · exact .put c s s.dev

/-- Every command answers a next state, with the queue as it was, and with the fuses and the flash changed by one of the cases at most. -/
theorem exec_persists (c : Instr) (s : State) : ∃ t, exec c s = .next t ∧ Persists c s t := by
  cases hfuse : burnsFuses c with
  | false =>
    cases hflash : reachesFlash c with
    | false =>
      obtain ⟨d, hd⟩ := exec_put s hfuse hflash
      exact ⟨_, hd, .put c s d⟩
    | true =>
      cases c with
      | flashErase => exact onState_persists (stFlashErase_persists s)
      | flashWrite => exact onState_persists (stFlashWrite_persists s)
      | por vaon => exact ⟨_, rfl, (cutFlash_persists s rfl).putAfter _⟩
      | pwrgdFall => exact ⟨_, rfl, (cutFlash_persists s rfl).putAfter _⟩
      | pinReset lowNs =>
        refine ⟨_, rfl, ?_⟩
        rw [stPinReset]
        split
        · exact .put _ s s.dev
        · exact (cutFlash_persists s rfl).putAfter _
      | _ => cases hflash
  | true =>
    cases c with
    | keySlotProgram => exact onState_persists (stKeySlotProgram_persists s)
    | keySlotRevoke => exact onState_persists (stKeySlotRevoke_persists s)
    | kwkSet => exact onState_persists (stKwkSet_persists s)
    | minSvn => exact onState_persists (stMinSvn_persists s)
    | _ => cases hfuse

/-- With no command waiting a step is one idle cycle. -/
theorem step_nil {s : State} (h : s.pending = []) : step s = .next (s.put (idleTick s.dev)) := by
  rw [step]
  split
  · rfl
  · next hq => rw [h] at hq; cases hq

/-- A step is that of the command at the front of the queue, or an idle cycle, which changes the package alone. -/
theorem step_cases {s t : State} (h : step s = .next t) : (∃ d, t = s.put d) ∨ ∃ c rest, s.pending = c :: rest ∧ Persists c { s with pending := rest } t := by
  cases hq : s.pending with
  | nil =>
    rw [step_nil hq] at h
    cases h
    exact .inl ⟨_, rfl⟩
  | cons c rest =>
    obtain ⟨u, hu, hp⟩ := exec_persists c { s with pending := rest }
    rw [step_cons s c rest hq, hu] at h
    cases h
    exact .inr ⟨c, rest, rfl, hp⟩

/-- What holds of every case of the fuses holds of every step, with the command at the front of the queue. -/
theorem step_fuse {s t : State} (h : step s = .next t) : ∃ c, FuseStep s.fuse c t.fuse ∧ (s.fuse ≠ t.fuse → s.pending.head? = some c) := by
  obtain ⟨d, rfl⟩ | ⟨c, rest, hq, hp⟩ := step_cases h
  · exact ⟨.por true, .kept _, fun hne => absurd rfl hne⟩
  · exact ⟨c, hp.fuse, fun _ => by rw [hq]; rfl⟩

theorem step_flash {s t : State} (h : step s = .next t) : ∃ c, FlashStep s.dev s.flash c t.flash := by
  obtain ⟨d, rfl⟩ | ⟨c, rest, -, hp⟩ := step_cases h
  · exact ⟨.por true, .kept⟩
  · exact ⟨c, hp.flash⟩

/-! ### What the cases of the fuses keep -/

/-- A slot changed reads as changed where it lies in the table, and every other slot as it was. -/
theorem keySlot_of_setAt {l : List KeySlot} {k j : Nat} (v : KeySlot) (P : KeySlot → Prop) (hv : j = k → P v) (hold : P (l.getD j {})) : P ((setAt l k v).getD j {}) := by
  by_cases hj : j = k
  · by_cases hk : k < l.length
    · rw [hj, setAt_same v {} hk]; exact hv hj
    · rwa [setAt, List.set_eq_of_length_le (Nat.not_lt.mp hk)]
  · rwa [setAt_ne l v {} hj]

section
variable {a b : Fuses} {c : Instr} (h : FuseStep a c b)
include h

theorem FuseStep.eq_of_not_burns (hc : burnsFuses c = false) : b = a := by
  cases h with
  | kept => rfl
  | program | revoke | wrapKey | raise => cases hc

/-- Each fuse is one way (18 R509, R510; 19 R545). -/
theorem FuseStep.le : FusesLe a b := by
  cases h with
  | kept => exact ⟨fun _ hp => ⟨hp, rfl⟩, fun _ hr => hr, le_rfl, fun _ hk => hk⟩
  | program k hash hnew hlen =>
    refine ⟨fun j hp => keySlot_of_setAt _ (fun x => x.provisioned = true ∧ x.hash = _) (fun hj => ?_) ⟨hp, rfl⟩,
      fun j hr => keySlot_of_setAt _ (fun x => x.revoked = true) (fun hj => hj ▸ hr) hr, le_rfl, fun _ hk => hk⟩
    rw [hj, hnew] at hp
    cases hp
  | revoke k hprov =>
    exact ⟨fun j hp => keySlot_of_setAt _ (fun x => x.provisioned = true ∧ x.hash = _) (fun hj => hj ▸ ⟨hp, rfl⟩) ⟨hp, rfl⟩,
      fun j hr => keySlot_of_setAt _ (fun x => x.revoked = true) (fun _ => rfl) hr, le_rfl, fun _ hk => hk⟩
  | wrapKey key hnew hlen => exact ⟨fun _ hp => ⟨hp, rfl⟩, fun _ hr => hr, le_rfl, fun k hk => by rw [hnew] at hk; cases hk⟩
  | raise n hlow hhigh => exact ⟨fun _ hp => ⟨hp, rfl⟩, fun _ hr => hr, hlow.le, fun _ hk => hk⟩

/-- Only MIN_SVN changes the minimum security version, and not above 63. -/
theorem FuseStep.minSvn_le (h63 : a.minSvn ≤ 63) : b.minSvn ≤ 63 := by
  cases h with
  | kept | program | revoke | wrapKey => exact h63
  | raise n hlow hhigh => exact hhigh

theorem FuseStep.minSvn_changes (hne : b.minSvn ≠ a.minSvn) : c = .minSvn := by
  cases h with
  | kept | program | revoke | wrapKey => exact absurd rfl hne
  | raise => rfl

/-- The fuses keep their form. -/
theorem FuseStep.wf (hwf : fusesWf a = true) : fusesWf b = true := by
  simp only [fusesWf, Bool.and_eq_true, decide_eq_true_eq, List.all_eq_true] at hwf ⊢
  obtain ⟨⟨⟨hlen, hkeys⟩, hsvn⟩, hkwk⟩ := hwf
  have hset : ∀ k v, keySlotWf v = true → ∀ x ∈ setAt a.keys k v, keySlotWf x = true := fun k v hv x hx =>
    (List.mem_or_eq_of_mem_set hx).elim (hkeys x) fun hxv => hxv ▸ hv
  refine ⟨⟨⟨?_, ?_⟩, h.minSvn_le hsvn⟩, ?_⟩
  · cases h with
    | kept | wrapKey | raise => exact hlen
    | program | revoke => exact (List.length_set ..).trans hlen
  · cases h with
    | kept | wrapKey | raise => exact hkeys
    | program k hash hnew hlen48 => exact hset k _ (by simp [keySlotWf, hlen48])
    | revoke k hprov =>
      have hk : k < a.keys.length := by
        by_contra hk
        rw [List.getD_eq_default _ _ (Nat.not_lt.mp hk)] at hprov
        cases hprov
      have hold := hkeys _ (List.getElem_mem hk)
      rw [← List.getD_eq_getElem a.keys {} hk] at hold
      exact hset k _ hold
  · cases h with
    | kept | program | revoke | raise => exact hkwk
    | wrapKey key hnew hlen32 => simp [hlen32]

end

/-! ### What the cases of the flash keep -/

/-- Erasing reads 0xFF where it erases and as before elsewhere. -/
theorem smGet_flashErase (fl : List Host.Cell) (k n a : Nat) :
    smGet flashDefault (flashErase fl k n) a = if slotBase k ≤ a ∧ a < slotBase k + n then flashDefault else smGet flashDefault fl a := by
  have hfilter := smFind_filter_key (fun x => decide (x < slotBase k) || decide (slotBase k + n ≤ x)) fl a
  simp only [flashErase, smGet, hfilter, Bool.or_eq_true, decide_eq_true_eq]
  by_cases hin : slotBase k ≤ a ∧ a < slotBase k + n
  · rw [if_pos hin, if_neg (by omega), Option.getD_none]
  · rw [if_neg hin, if_pos (by omega)]

/-- Programming leaves every byte outside those programmed. -/
theorem smGet_flashProgram_out (fl : List Host.Cell) (a : Nat) (bs : List Byte) (x : Nat) (h : x < a ∨ a + bs.length ≤ x) :
    smGet flashDefault (flashProgram fl a bs) x = smGet flashDefault fl x := by
  induction bs generalizing fl a with
  | nil => rfl
  | cons b bs ih =>
    rw [List.length_cons] at h
    rw [flashProgram, ih _ _ (by omega), smGet_smSet_ne _ _ _ (by omega)]

/-- Programming clears bits and sets none. -/
theorem smGet_flashProgram_in (fl : List Host.Cell) (a : Nat) (bs : List Byte) (i : Nat) (h : i < bs.length) :
    smGet flashDefault (flashProgram fl a bs) (a + i) = smGet flashDefault fl (a + i) &&& bs.getD i 0 := by
  induction bs generalizing fl a i with
  | nil => cases h
  | cons b bs ih =>
    rw [flashProgram]
    cases i with
    | zero => rw [smGet_flashProgram_out _ _ _ _ (by omega), Nat.add_zero, smGet_smSet_same]; rfl
    | succ i =>
      rw [show a + (i + 1) = a + 1 + i by omega, ih _ _ i (Nat.lt_of_succ_lt_succ h), smGet_smSet_ne _ _ _ (by omega)]
      rfl

/-- The canonical form within the two slots, taken apart. -/
theorem flashWf_iff (fl : List Host.Cell) : flashWf fl = true ↔ smWf 0xFF fl = true ∧ ∀ x ∈ fl, x.1 < 0x800000 := by
  simp only [flashWf, Bool.and_eq_true, List.all_eq_true, decide_eq_true_eq]

theorem flashWf_flashErase {fl : List Host.Cell} (k n : Nat) (h : flashWf fl = true) : flashWf (flashErase fl k n) = true := by
  obtain ⟨hwf, hin⟩ := (flashWf_iff fl).mp h
  exact (flashWf_iff _).mpr ⟨smWf_filter _ _ _ hwf, fun x hx => hin x (List.mem_of_mem_filter hx)⟩

/-- A write to a map lists at most the key written beside those listed. -/
theorem mem_smSet {d : Byte} {m : List Host.Cell} {k : Nat} {v : Byte} {x : Nat × Byte} (h : x ∈ smSet d m k v) : x.1 = k ∨ x ∈ m := by
  simp only [smSet, smPut] at h
  split at h
  · exact .inr (List.mem_of_mem_filter h)
  · obtain rfl | h := mem_smInsert h
    · exact .inl rfl
    · exact .inr h

theorem flashWf_flashProgram {fl : List Host.Cell} {a : Nat} {bs : List Byte} (h : flashWf fl = true) (hin : a + bs.length ≤ 0x800000) :
    flashWf (flashProgram fl a bs) = true := by
  induction bs generalizing fl a with
  | nil => exact h
  | cons b bs ih =>
    rw [List.length_cons] at hin
    obtain ⟨hwf, hlow⟩ := (flashWf_iff fl).mp h
    refine ih ((flashWf_iff _).mpr ⟨smWf_smSet _ _ _ _ hwf, fun x hx => ?_⟩) (by omega)
    obtain hx | hx := mem_smSet hx
    · omega
    · exact hlow x hx

section
variable {d : Dev} {fl fl' : List Host.Cell} {c : Instr} (h : FlashStep d fl c fl')
include h

theorem FlashStep.eq_of_not_reaches (hc : reachesFlash c = false) : fl' = fl := by
  cases h with
  | kept => rfl
  | erase k n hc' => rw [hc] at hc'; cases hc'
  | program k off bs hc' => rw [hc] at hc'; cases hc'

/-- The flash keeps its form. -/
theorem FlashStep.wf (hwf : flashWf fl = true) : flashWf fl' = true := by
  cases h with
  | kept => exact hwf
  | erase k n => exact flashWf_flashErase k n hwf
  | program k off bs hc hslot hfree hin => exact flashWf_flashProgram hwf (by rw [slotBase]; omega)

/-- The slot selected at this boot keeps its bytes: the slot that changes is another. -/
theorem FlashStep.keeps_slotInUse {k a : Nat} (huse : slotInUse d k = true) (hlow : slotBase k ≤ a) (hhigh : a < slotBase k + 0x400000) :
    smGet flashDefault fl' a = smGet flashDefault fl a := by
  have hother : ∀ {j}, slotInUse d j = false → j ≠ k := fun hj hjk => by rw [hjk, huse] at hj; cases hj
  rw [slotBase] at hlow hhigh
  cases h with
  | kept => rfl
  | erase j n hc hslot hfree hin =>
    have hj := hother hfree
    rw [smGet_flashErase, if_neg (by rw [slotBase]; omega)]
  | program j off bs hc hslot hfree hin =>
    have hj := hother hfree
    exact smGet_flashProgram_out _ _ _ _ (by rw [slotBase]; omega)

end

end Sys2Proof.Machine
end

section
/-! SUPPORT. The statements of 95_what_each_step_holds.md settled: a step and its command, the frame and the forms of the fuses and the flash over all commands, and what acts on a quiet package. -/

set_option autoImplicit false

namespace Sys2Proof.Machine

/-- Settles O1: the queue's front decides. -/
theorem stepRunsFront : Obligations.StepRunsFront := step_cons

/-- Settles O2: with an empty queue one idle cycle passes, and none for a package that is quiet or asleep. -/
theorem idleStep : Obligations.IdleStep := by
  intro s hq
  refine ⟨step_nil hq, fun hquiet => ?_⟩
  have hstill : idleTick s.dev = s.dev := by
    obtain hdead | hsleep := hquiet
    · rw [idleTick, hdead, Bool.false_and, if_neg Bool.false_ne_true]
    · rw [idleTick, hsleep, if_neg (by simp)]
  rw [step_nil hq, State.put, hstill]

/-- Settles O3: every command answers a next state and keeps the queue. -/
theorem noCommandStops : Obligations.NoCommandStops := by
  intro c s
  obtain ⟨t, ht, hp⟩ := exec_persists c s
  exact ⟨t, ht, hp.pending⟩

/-- Settles O4: each case of the flash and of the fuses keeps their form. -/
theorem persistWfKept : Obligations.PersistWfKept := by
  intro s t ⟨hflash, hfuse⟩ h
  obtain ⟨c, hf⟩ := step_flash h
  obtain ⟨c', hb, -⟩ := step_fuse h
  exact ⟨hf.wf hflash, hb.wf hfuse⟩

/-- Settles O5: an erased flash and unprogrammed fuses have the form. -/
theorem persistWfReset : Obligations.PersistWfReset := ⟨rfl, rfl⟩

/-- Settles O6: each case of the fuses is one way. -/
theorem fusesOneWay : Obligations.FusesOneWay := by
  intro s t h
  obtain ⟨c, hb, -⟩ := step_fuse h
  exact hb.le

/-- Settles O7: each case of the flash changes a slot that is not in use. -/
theorem selectedSlotKept : Obligations.SelectedSlotKept := by
  intro s t k a _ huse hlow hhigh h
  obtain ⟨c, hf⟩ := step_flash h
  exact hf.keeps_slotInUse huse hlow hhigh

/-- Settles O8: a command outside the two lists changes the package alone. -/
theorem persistFrame : Obligations.PersistFrame := by
  intro c s t h
  obtain ⟨u, hu, hp⟩ := exec_persists c s
  rw [hu] at h
  cases h
  refine ⟨fun ⟨hprogram, hrevoke, hkwk, hsvn⟩ => hp.fuse.eq_of_not_burns ?_, fun ⟨herase, hwrite, hfall, hpin, hpor⟩ => hp.flash.eq_of_not_reaches ?_⟩
  · cases c with
    | keySlotProgram => exact absurd rfl hprogram
    | keySlotRevoke => exact absurd rfl hrevoke
    | kwkSet => exact absurd rfl hkwk
    | minSvn => exact absurd rfl hsvn
    | _ => rfl
  · cases c with
    | flashErase => exact absurd rfl herase
    | flashWrite => exact absurd rfl hwrite
    | pwrgdFall => exact absurd rfl hfall
    | pinReset n => exact absurd rfl (hpin n)
    | por v => exact absurd rfl (hpor v)
    | _ => rfl

/-- Settles O9: what is not in the list of log entry 2 leaves a quiet package. -/
theorem quietFabric : Obligations.QuietFabric := by
  intro c s hquiet hpor hpin hfall hrelease htap hidcode hsample hextest hclamp hhighz hbypass htherm hsysref hserref hoptref hxt
  refine exec_quiet hquiet ?_
  cases c with
  | por v => exact absurd rfl (hpor v)
  | pinReset n => exact absurd rfl (hpin n)
  | pwrgdFall => exact absurd rfl hfall
  | resetRelease x => exact absurd rfl (hrelease x)
  | tapReset => exact absurd rfl htap
  | idcode => exact absurd rfl hidcode
  | samplePreload v => exact absurd rfl (hsample v)
  | extest => exact absurd rfl hextest
  | clamp => exact absurd rfl hclamp
  | highz => exact absurd rfl hhighz
  | bypass => exact absurd rfl hbypass
  | thermtrip k => exact absurd rfl (htherm k)
  | sysrefLoss => exact absurd rfl hsysref
  | serrefLoss n p => exact absurd rfl (hserref n p)
  | optrefLoss n p => exact absurd rfl (hoptref n p)
  | xt32kLoss => exact absurd rfl hxt
  | _ => rfl

/-- Settles O56: of the cases of the fuses only MIN_SVN's touches the minimum security version, and it raises it to 63 at most. -/
theorem minSvnRises : Obligations.MinSvnRises := by
  intro s t h h63
  obtain ⟨c, hb, hfront⟩ := step_fuse h
  refine ⟨hb.minSvn_le h63, hb.le.2.2.1, fun hne => ?_⟩
  rw [hfront fun he => hne (by rw [he]), hb.minSvn_changes hne]

end Sys2Proof.Machine
end

section
/-! SUPPORT. Fuses, flash and the debug unlock by management (18 R509, R510, R518; 19 R545, R546): each request in the case of its own. -/

set_option autoImplicit false

namespace Sys2Proof.Machine

section
variable {s : State} {q : VReq} (hcur : s.dev.mgmt.cur = some q)
include hcur

/-- A row of the fuses or the flash runs the request being executed and answers it. -/
theorem runState_current {cmd : Nat} (f : VReq → State → (Nat × List Byte) × State) (hcmd : q.cmd = cmd) :
    runState cmd f s = (f q s).2.put (finish (f q s).2.dev q (f q s).1.1 (f q s).1.2) := by
  simp only [runState, hcur, if_pos hcmd, State.put]

/-! ### Key slots (18 R509) -/

theorem stKeySlotProgram_current (hcmd : q.cmd = 0x60) (hop : leAt q.body 0 1 ≠ 2) :
    stKeySlotProgram s = { s with dev := finish s.dev q (keySlot q.body s.fuse).1 [], fuse := (keySlot q.body s.fuse).2 } := by
  simp only [stKeySlotProgram, hcur, if_neg hop]
  exact runState_current hcur _ hcmd

theorem stKeySlotRevoke_current (hcmd : q.cmd = 0x60) (hop : leAt q.body 0 1 = 2) :
    stKeySlotRevoke s = { s with dev := finish s.dev q (keySlot q.body s.fuse).1 [], fuse := (keySlot q.body s.fuse).2 } := by
  simp only [stKeySlotRevoke, hcur, if_pos hop]
  exact runState_current hcur _ hcmd

end

section
variable {b : List Byte} {a : Fuses} (hrsvd : leAt b 2 2 = 0) (hslot : leAt b 1 1 < 4)
include hrsvd hslot

/-- OP 1 on a slot of the table goes by whether the slot is programmed. -/
theorem keySlot_op1 (hop : leAt b 0 1 = 1) :
    keySlot b a = if (a.keys.getD (leAt b 1 1) {}).provisioned then (msRefused, a)
      else (msSuccess, { a with keys := setAt a.keys (leAt b 1 1) { a.keys.getD (leAt b 1 1) {} with hash := padTo 48 (slice b 4 48), provisioned := true } }) := by
  simp [keySlot, hrsvd, hop, Nat.not_lt.2 (Nat.le_of_lt_succ hslot)]

/-- OP 2 on a programmed slot of the table goes by whether it is revoked, and else by whether another is left. -/
theorem keySlot_op2 (hop : leAt b 0 1 = 2) (hzero : allZero (slice b 4 48) = true) (hprov : (a.keys.getD (leAt b 1 1) {}).provisioned = true) :
    keySlot b a = if (a.keys.getD (leAt b 1 1) {}).revoked then (msSuccess, a)
      else if (a.keys.filter (fun x => x.provisioned && !x.revoked)).length ≤ 1 then (msRefused, a)
      else (msSuccess, { a with keys := setAt a.keys (leAt b 1 1) { a.keys.getD (leAt b 1 1) {} with revoked := true } }) := by
  simp [keySlot, hrsvd, hop, hzero, hprov, -List.getD_eq_getElem?_getD, Nat.not_lt.2 (Nat.le_of_lt_succ hslot)]

end

/-! ### The key-wrap key and MIN_SVN (18 R510; 19 R545) -/

section
variable {s : State} {q : VReq} (hcur : s.dev.mgmt.cur = some q)
include hcur

theorem stKwkSet_fuses (hcmd : q.cmd = 0x61) (hnew : s.fuse.kwk = none) (hlen : q.body.length = 32) :
    stKwkSet s = { s with dev := finish s.dev q 0 [], fuse := { s.fuse with kwk := some q.body } } := by
  have hpad : padTo 32 q.body = q.body := hlen ▸ padTo_length q.body
  rw [stKwkSet, runState_current hcur _ hcmd]
  simp only [hnew, Option.isSome_none, Bool.false_eq_true, if_false, hpad]

theorem stKwkSet_refused (hcmd : q.cmd = 0x61) (hset : s.fuse.kwk.isSome = true) : stKwkSet s = s.put (finish s.dev q msRefused []) := by
  rw [stKwkSet, runState_current hcur _ hcmd]
  simp only [if_pos hset]

section
variable (hcmd : q.cmd = 0x62) (hrsvd : allZero (slice q.body 1 3) = true)
include hcmd hrsvd

theorem stMinSvn_same (hsame : leAt q.body 0 1 = s.fuse.minSvn) : stMinSvn s = s.put (finish s.dev q 0 []) := by
  rw [stMinSvn, runState_current hcur _ hcmd]
  simp only [hrsvd, Bool.not_true, Bool.false_eq_true, if_false, if_pos hsame]

theorem stMinSvn_raises (hlow : s.fuse.minSvn < leAt q.body 0 1) (h63 : leAt q.body 0 1 ≤ 63) (hsel : leAt q.body 0 1 ≤ selectedSvn s.dev) :
    stMinSvn s = { s with dev := finish s.dev q 0 [], fuse := { s.fuse with minSvn := leAt q.body 0 1 } } := by
  have hok : ¬(leAt q.body 0 1 < s.fuse.minSvn ∨ 63 < leAt q.body 0 1 ∨ selectedSvn s.dev < leAt q.body 0 1) := by omega
  rw [stMinSvn, runState_current hcur _ hcmd]
  simp only [hrsvd, Bool.not_true, Bool.false_eq_true, if_false, if_neg hlow.ne', if_neg hok]

theorem stMinSvn_refused (hne : leAt q.body 0 1 ≠ s.fuse.minSvn)
    (hout : leAt q.body 0 1 < s.fuse.minSvn ∨ 63 < leAt q.body 0 1 ∨ selectedSvn s.dev < leAt q.body 0 1) : stMinSvn s = s.put (finish s.dev q msRefused []) := by
  rw [stMinSvn, runState_current hcur _ hcmd]
  simp only [hrsvd, Bool.not_true, Bool.false_eq_true, if_false, if_neg hne, if_pos hout]

end

/-! ### The flash (19 R546) -/

theorem stFlashErase_current (hcmd : q.cmd = 0x70) :
    stFlashErase s = if flashStatus s.dev false q.body = 0 then { s with dev := finish s.dev q 0 [], flash := flashErase s.flash (leAt q.body 0 1) 0x400000 }
      else s.put (finish s.dev q (flashStatus s.dev false q.body) []) := by
  rw [stFlashErase, runState_current hcur _ hcmd]
  dsimp only
  split <;> rfl

theorem stFlashWrite_current (hcmd : q.cmd = 0x71) :
    stFlashWrite s = if flashStatus s.dev true q.body = 0 then
        { s with dev := finish s.dev q 0 [], flash := flashProgram s.flash (slotBase (leAt q.body 0 1) + leAt q.body 4 4) (flashData q.body) }
      else s.put (finish s.dev q (flashStatus s.dev true q.body) []) := by
  rw [stFlashWrite, runState_current hcur _ hcmd]
  dsimp only
  split <;> rfl

end

section
variable {d : Dev} {b : List Byte} (hrsvd : allZero (slice b 1 3) = true) (hslot : leAt b 0 1 ≤ 1)
include hrsvd hslot

/-- A well-formed erase goes by whether its slot is in use. -/
theorem flashStatus_erase : flashStatus d false b = if slotInUse d (leAt b 0 1) then msUnitBusy else msSuccess := by
  simp [flashStatus, hrsvd, Nat.not_lt.2 hslot]

/-- A well-formed write within its slot goes by whether the slot is in use. -/
theorem flashStatus_write (hpad : leAt b 10 2 = 0) (hlen : leAt b 8 2 ≤ 512) (hfit : leAt b 4 4 + leAt b 8 2 ≤ 0x400000) :
    flashStatus d true b = if slotInUse d (leAt b 0 1) then msUnitBusy else msSuccess := by
  simp [flashStatus, hrsvd, hpad, Nat.not_lt.2 hslot, Nat.not_lt.2 hlen, Nat.not_lt.2 hfit]

end

/-- The data of a write whose body has its length: what stands from byte 12 on. -/
theorem flashData_whole {b : List Byte} (hlen : b.length = 12 + leAt b 8 2) : flashData b = b.drop 12 :=
  List.take_of_length_le (by rw [List.length_drop]; omega)

theorem getD_drop (b : List Byte) (k i : Nat) : (b.drop k).getD i 0 = b.getD (k + i) 0 := by
  rw [List.getD_eq_getElem?_getD, List.getElem?_drop, ← List.getD_eq_getElem?_getD]

/-! ### The debug unlock (18 R518) -/

section
variable {d : Dev} {q : VReq} (hcur : d.mgmt.cur = some q) (hcmd : q.cmd = 0x63)
include hcur hcmd

theorem devDebugUnlock_locked (hpolicy : fld d Reg.BOOT_STATUS 29 28 = 0) : devDebugUnlock d = finish d q msState [] := by
  rw [devDebugUnlock, runCmd_current _ hcur hcmd]
  simp only [hpolicy, true_or, if_true]

theorem devDebugUnlock_token (hpolicy : fld d Reg.BOOT_STATUS 29 28 = 1) (hfails : rdn d Reg.BOOT_DEBUG < 3) :
    devDebugUnlock d = if sigOk (slice (cfgSection d.boot.image 6) 8 96) (tokenMessage d) q.body = true then finish (setFld d Reg.BOOT_STATUS 30 30 1) q 0 []
      else finish (newChallenge (setFld d Reg.BOOT_DEBUG 1 0 (rdn d Reg.BOOT_DEBUG + 1))) q msAuthFail [] := by
  have hopen : ¬(1 = 0 ∨ 3 ≤ rdn d Reg.BOOT_DEBUG) := by omega
  rw [devDebugUnlock, runCmd_current _ hcur hcmd]
  simp only [hpolicy, if_neg hopen, OfNat.one_ne_ofNat, if_false]
  split <;> rfl

end

end Sys2Proof.Machine
end

section
/-! SUPPORT. The statement on fuses, flash and the debug unlock settled (18, 19). -/

set_option autoImplicit false

namespace Sys2Proof.Machine

/-- Settles O48: each request by the checks of its row. -/
theorem fusesAndFlash : Obligations.FusesAndFlash := by
  rintro s q b hlive hcur rfl
  refine ⟨fun hcmd hrsvd hslot => ⟨fun hop => ?program, fun hop hzero hprov => ?revoke⟩, fun hcmd => ?wrapKey, fun hcmd hrsvd => ?minSvn, fun hcmd => ?unlock,
    fun hcmd hrsvd hslot => ?erase, fun hcmd hrsvd hpad hslot hlen h512 hfit => ?write⟩
  case program =>
    rw [exec_keySlotProgram, onState_live hlive, stKeySlotProgram_current hcur hcmd (by omega), keySlot_op1 hrsvd hslot hop]
    exact ⟨fun hprov => by rw [if_pos hprov], fun hnew => by rw [if_neg (ne_true_of_eq_false hnew)]; rfl⟩
  case revoke =>
    rw [exec_keySlotRevoke, onState_live hlive, stKeySlotRevoke_current hcur hcmd hop, keySlot_op2 hrsvd hslot hop hzero hprov]
    refine ⟨fun hrev => by rw [if_pos hrev], fun hnot => ?_⟩
    rw [if_neg (ne_true_of_eq_false hnot)]
    exact ⟨fun hlast => by rw [if_pos hlast], fun hleft => by rw [if_neg (Nat.not_le.2 hleft)]; rfl⟩
  case wrapKey =>
    rw [exec_kwkSet, onState_live hlive]
    exact ⟨fun hnew hlen => by rw [stKwkSet_fuses hcur hcmd hnew hlen], fun hset => by rw [stKwkSet_refused hcur hcmd hset]⟩
  case minSvn =>
    rw [exec_minSvn, onState_live hlive]
    refine ⟨fun hsame => ?_, fun hlow h63 hsel => ?_, fun hout => ?_⟩
    · rw [stMinSvn_same hcur hcmd hrsvd hsame]
    · rw [stMinSvn_raises hcur hcmd hrsvd hlow h63 hsel]
    · rw [stMinSvn_refused hcur hcmd hrsvd (by omega) (by omega)]
  case unlock =>
    rw [exec_debugUnlock, onDev_live hlive]
    exact ⟨fun hpolicy => by rw [devDebugUnlock_locked hcur hcmd hpolicy], fun hpolicy hfails => by rw [devDebugUnlock_token hcur hcmd hpolicy hfails]⟩
  case erase =>
    rw [exec_flashErase, onState_live hlive, stFlashErase_current hcur hcmd, flashStatus_erase hrsvd hslot]
    refine ⟨fun huse => by rw [huse]; rfl, fun hfree => ?_⟩
    rw [hfree]
    refine ⟨_, rfl, rfl, rfl, fun a hlow hhigh => ?_, fun a hout => ?_⟩
    · exact (smGet_flashErase _ _ _ _).trans (if_pos ⟨hlow, hhigh⟩)
    · exact (smGet_flashErase _ _ _ _).trans (if_neg (by omega))
  case write =>
    have hdata := flashData_whole hlen
    have hcount : (q.body.drop 12).length = leAt q.body 8 2 := by rw [List.length_drop]; omega
    rw [exec_flashWrite, onState_live hlive, stFlashWrite_current hcur hcmd, flashStatus_write hrsvd hslot hpad h512 hfit, hdata]
    refine ⟨fun huse => by rw [huse]; rfl, fun hfree => ?_⟩
    rw [hfree]
    refine ⟨_, rfl, rfl, rfl, fun i hi => ?_, fun a hout => ?_⟩
    · exact (smGet_flashProgram_in _ _ _ i (hi.trans_eq hcount.symm)).trans (by rw [getD_drop])
    · exact smGet_flashProgram_out _ _ _ a (by rwa [hcount])

end Sys2Proof.Machine
end

section
/-! SUPPORT. The management transport (19 R530 to R535): a packet that is refused, a message in one packet, the queue of vendor requests, and the first control request that waits. -/

set_option autoImplicit false

namespace Sys2Proof.Machine

variable {d : Dev}

/-! ### Packets (DSP0237) -/

section
variable {b : List Byte} (hdead : d.wdn.dead = false) (hlow : 9 ≤ b.length) (haddr : leAt b 0 1 = 2 * smbAddr d) (hcmd : leAt b 1 1 = 0x0F)
include hdead hlow haddr hcmd

/-- A block write to this address with the command code of MCTP is a packet. -/
theorem isPacket : ¬(d.wdn.dead = true ∨ b.length < 3 ∨ leAt b 0 1 ≠ 2 * smbAddr d ∨ leAt b 1 1 ≠ 0x0F) := by
  rw [hdead, haddr, hcmd]
  simp only [Bool.false_eq_true, ne_eq, not_true_eq_false, or_false, false_or]
  omega

theorem devMctpPacket_badPec (hpec : crc8 (b.take (b.length - 1)) ≠ leAt b (b.length - 1) 1) : devMctpPacket b d = cntInc d (Reg.MGT_MSG_CNT_LO 2) := by
  simp only [devMctpPacket, if_neg (isPacket hdead hlow haddr hcmd), if_pos (Or.inr hpec)]

theorem devMctpPacket_taken (hhigh : b.length ≤ 73) (hcount : leAt b 2 1 + 4 = b.length) (hpec : crc8 (b.take (b.length - 1)) = leAt b (b.length - 1) 1)
    (hver : leAt b 4 1 % 16 = 1) (hdest : destOk d (leAt b 5 1) = true) (hto : (leAt b 7 1).testBit 3 = true) :
    devMctpPacket b d = assemble d (leAt b 5 1) (leAt b 6 1) (leAt b 7 1 % 8) (leAt b 7 1) (slice b 8 (b.length - 9)) := by
  have hgood : ¬(leAt b 2 1 + 4 ≠ b.length ∨ crc8 (b.take (b.length - 1)) ≠ leAt b (b.length - 1) 1) := by simp only [hcount, hpec, ne_eq, not_true_eq_false, or_self, not_false_eq_true]
  have hsize : ¬(b.length < 9 ∨ 73 < b.length) := by omega
  have hform : ¬(leAt b 4 1 % 16 ≠ 1 ∨ destOk d (leAt b 5 1) = false ∨ (leAt b 7 1).testBit 3 = false) := by simp [hver, hdest, hto]
  simp only [devMctpPacket, if_neg (isPacket hdead hlow haddr hcmd), if_neg hgood, if_neg hsize, if_neg hform]

end

/-- A packet that starts and ends a message of a sender without a message in assembly is that message. -/
theorem assemble_single (dst eid tag : Nat) {flags : Nat} (pay : List Byte) (hsom : flags.testBit 7 = true) (heom : flags.testBit 6 = true)
    (hparts : ∀ p ∈ d.mgmt.parts, p.eid ≠ eid) : assemble d dst eid tag flags pay = takeMessage d dst eid tag pay := by
  have hrest : d.mgmt.parts.filter (fun p => !(decide (p.eid = eid) && decide (p.tag = tag))) = d.mgmt.parts :=
    List.filter_eq_self.mpr fun p hp => by simp [hparts p hp]
  simp only [assemble, hsom, heom, hrest, if_true, le_refl, decide_true, ne_eq, not_true_eq_false, decide_false, Bool.not_true, Bool.or_false, Bool.false_eq_true, if_false,
    List.nil_append]

/-! ### Messages (19 R533, R534) -/

/-- A vendor message to this endpoint is a request for the queue. -/
theorem takeMessage_vendor {dst : Nat} (eid tag : Nat) {m : List Byte} (htype : leAt m 0 1 = 0x7F) (heid : d.mgmt.eid = some dst) (hlow : 13 ≤ m.length) (hhigh : m.length ≤ 1037)
    (hiana : slice m 1 4 = [0x00, 0x00, 0xD7, 0xA2]) (hresp : (m.getD 7 0).getLsbD 7 = false) :
    takeMessage d dst eid tag m = enqueueReq d { eid := eid, tag := tag, version := leAt m 5 1, cmd := leAt m 6 1, flags := leAt m 7 1, rsvd := leAt m 8 1, seq := leAt m 9 2, status := leAt m 11 2, body := m.drop 13 } := by
  simp only [takeMessage, htype, heid, takeVendor, decide_eq_false (Nat.not_lt.2 hlow), decide_eq_false (Nat.not_lt.2 hhigh), hiana, hresp, OfNat.ofNat_ne_zero, and_self, if_true, if_false,
    ne_eq, not_true_eq_false, decide_false, Bool.or_self, Bool.false_eq_true]

theorem enqueueReq_room (q : VReq) (hcur : d.mgmt.cur = none) (hroom : d.mgmt.queue.length < 8) :
    enqueueReq d q = { cntInc d (Reg.MGT_MSG_CNT_LO 0) with mgmt := { d.mgmt with queue := d.mgmt.queue ++ [q] } } := by
  have hless : ¬8 ≤ (cntInc d (Reg.MGT_MSG_CNT_LO 0)).mgmt.queue.length + (if (cntInc d (Reg.MGT_MSG_CNT_LO 0)).mgmt.cur.isSome = true then 1 else 0) := by
    show ¬8 ≤ d.mgmt.queue.length + (if d.mgmt.cur.isSome = true then 1 else 0)
    rw [hcur]
    exact Nat.not_le.2 hroom
  simp only [enqueueReq, if_neg hless]
  rfl

theorem enqueueReq_full (q : VReq) (hfull : 8 ≤ d.mgmt.queue.length) :
    enqueueReq d q = answer (cntInc (cntInc d (Reg.MGT_MSG_CNT_LO 0)) (Reg.MGT_MSG_CNT_LO 3)) q msUnitBusy [] :=
  if_pos (Nat.le_add_right_of_le hfull)

/-! ### Control requests (DSP0236) -/

/-- The first control request that waits, of the row's command and with data of its length, is taken and answered by the row. -/
theorem onControl_first {cmd len : Nat} (f : Dev → CtlReq → Dev) {q : CtlReq} {rest : List CtlReq} (hctl : d.mgmt.ctl = q :: rest) (hcmd : q.cmd = cmd) (hlen : q.data.length = len) :
    onControl cmd len f d = f { d with mgmt := { d.mgmt with ctl := rest } } q := by
  simp only [onControl, hctl, if_pos hcmd, if_pos hlen]

end Sys2Proof.Machine
end

section
/-! SUPPORT. The statement on the management transport settled (19 R530 to R535). -/

set_option autoImplicit false

namespace Sys2Proof.Machine

/-- Settles O42: packets, messages, control requests, and what times out. -/
theorem mctpTransport : Obligations.MctpTransport := by
  refine ⟨fun s b hlive hdead hlow hhigh haddr hcmd => ?packet, fun d dst eid tag m htype heid hlow hhigh hiana hresp q hq => ?message,
    fun s q rest d hlive hctl hd => ?control, fun s hlive => ?timeout⟩
  case packet =>
    rw [exec_mctpPacket, onDev_live hlive]
    refine ⟨fun hpec => ?_, fun hcount hpec hver hdest hto heom hsom hparts => ?_⟩
    · rw [devMctpPacket_badPec hdead hlow haddr hcmd hpec]
    · rw [devMctpPacket_taken hdead hlow haddr hcmd hhigh hcount hpec hver hdest hto, assemble_single _ _ _ _ hsom heom hparts]
  case message =>
    rw [takeMessage_vendor eid tag htype heid hlow hhigh hiana hresp, ← hq]
    exact ⟨enqueueReq_room q, enqueueReq_full q⟩
  case control =>
    subst hd
    refine ⟨fun hcmd hlen hop => ?_, fun hcmd hnil => ?_, fun hcmd hnil => ?_, fun hcmd hzero => ?_, fun hcmd hnil => ?_, fun hcmd hzero => ?_⟩
    · rw [exec_setEndpointId, onDev_live hlive, devSetEndpointId, onControl_first _ hctl hcmd hlen]
      refine ⟨fun hnull hbroadcast => ?_, fun hbad => ?_⟩
      · have hok : ¬(2 ≤ leAt q.data 0 1 % 4 ∨ leAt q.data 1 1 = 0 ∨ leAt q.data 1 1 = 0xFF) := by omega
        simp only [if_neg hok]
      · simp only [if_pos (Or.inr hbad)]
    · rw [exec_getEndpointId, onDev_live hlive, devGetEndpointId, onControl_first _ hctl hcmd (by rw [hnil]; rfl)]
    · rw [exec_getEndpointUuid, onDev_live hlive, devGetEndpointUuid, onControl_first _ hctl hcmd (by rw [hnil]; rfl)]
    · rw [exec_getMctpVersionSupport, onDev_live hlive, devGetMctpVersionSupport, onControl_first _ hctl hcmd (by rw [hzero]; rfl), hzero]
      rfl
    · rw [exec_getMessageTypeSupport, onDev_live hlive, devGetMessageTypeSupport, onControl_first _ hctl hcmd (by rw [hnil]; rfl)]
    · rw [exec_getVendorDefinedMessageSupport, onDev_live hlive, devGetVendorDefinedMessageSupport, onControl_first _ hctl hcmd (by rw [hzero]; rfl), hzero]
      rfl
  case timeout =>
    exact ⟨fun e t => by rw [exec_dsp0237Timeout, onDev_live hlive]; rfl, by rw [exec_dsp0237Timeout, onDev_live hlive]; rfl⟩

end Sys2Proof.Machine
end

section
/-! SUPPORT. FENCE (19 R541; 17 R476): when it waits for a decision, and the fence of each kind of unit. -/

set_option autoImplicit false

namespace Sys2Proof.Machine

variable {d : Dev}

/-! ### A fence at once, and one that waits -/

section
variable {q : VReq} (hcur : d.mgmt.cur = some q) (hcmd : q.cmd = 0x10) (hrsvd : leAt q.body 1 1 = 0)
include hcur hcmd hrsvd

/-- With no decision pending on the unit the fence is performed and answered. -/
theorem devFence_now (hpend : decisionPending d (leAt q.body 0 1) (leAt q.body 2 2) = false) :
    devFence d = finish (fenceUnit d (leAt q.body 0 1) (leAt q.body 2 2)).2 q (fenceUnit d (leAt q.body 0 1) (leAt q.body 2 2)).1 [] := by
  have hwaits : fenceWaits d = none := by simp only [fenceWaits, hcur, hcmd, hrsvd, hpend, and_false, Bool.false_eq_true, if_false]
  rw [devFence, hwaits]
  dsimp only
  rw [devFence.fenceNow, runCmd_current _ hcur hcmd]
  simp only [hrsvd, ne_eq, not_true_eq_false, if_false]

/-- With a decision pending the fence is marked on the unit. -/
theorem devFence_waits (hpend : decisionPending d (leAt q.body 0 1) (leAt q.body 2 2) = true) : devFence d = markFence d (leAt q.body 0 1) (leAt q.body 2 2) := by
  have hwaits : fenceWaits d = some (leAt q.body 0 1, leAt q.body 2 2) := by simp only [fenceWaits, hcur, hcmd, hrsvd, hpend, and_self, if_true]
  rw [devFence, hwaits]

end

theorem markFence_site {k : Nat} (h : (siteInfo d k).mgmtFence = false) : markFence d 1 k = countFence (setSite d k { siteInfo d k with mgmtFence := true, cause := 5 }) := by
  simp only [markFence, fenceMarked, h, if_true, Bool.false_and, Bool.false_eq_true, if_false]

theorem markFence_seam {k : Nat} (h : (seamAt d k).mgmtFence = false) : markFence d 2 k = countFence (setSeam d k { seamAt d k with mgmtFence := true }) := by
  simp only [markFence, fenceMarked, h, OfNat.ofNat_ne_one, Bool.false_eq_true, if_false]

/-! ### Sites -/

theorem decisionPending_site_out {k : Nat} (h : 288 ≤ k) : decisionPending d 1 k = false := by simp [decisionPending, h]

theorem decisionPending_site_fused {k : Nat} (h : isFused d.part k = true) : decisionPending d 1 k = false := by simp [decisionPending, h]

theorem decisionPending_site_settled {k : Nat} (h : (siteInfo d k).st = .suspect → (siteInfo d k).deciding = false) : decisionPending d 1 k = false := by
  by_cases hst : (siteInfo d k).st = .suspect
  · simp [decisionPending, h hst]
  · simp [decisionPending, hst]

theorem fenceUnit_site_out {k : Nat} (h : 288 ≤ k) : fenceUnit d 1 k = (msReservedEncoding, d) := if_pos h

theorem fenceUnit_site_fused {k : Nat} (h : k < 288) (hf : isFused d.part k = true) : fenceUnit d 1 k = (msUnitAbsent, d) := by
  simp only [fenceUnit, if_neg (Nat.not_le.2 h), if_pos hf]

theorem fenceUnit_site_fenced {k : Nat} (h : k < 288) (hf : isFused d.part k = false) (hst : (siteInfo d k).st = .fenced) : fenceUnit d 1 k = (msSuccess, d) := by
  simp only [fenceUnit, if_neg (Nat.not_le.2 h), hf, Bool.false_eq_true, if_false, hst]

/-- A site of the part that is not out of service is fenced, whatever its state. -/
theorem fenceUnit_site {k : Nat} (h : k < 288) (hf : isFused d.part k = false)
    (hst : (siteInfo d k).st = .live ∨ (siteInfo d k).st = .spare ∨ (siteInfo d k).st = .promoting ∨ (siteInfo d k).st = .suspect) :
    fenceUnit d 1 k = (msSuccess, fenceSite (countFence d) k 5 true) := by
  obtain hst | hst | hst | hst := hst
  all_goals simp only [fenceUnit, if_neg (Nat.not_le.2 h), hf, Bool.false_eq_true, if_false, hst]

/-! ### Seams -/

theorem decisionPending_seam_settled {k : Nat} (h : (seamAt d k).st = .suspect → (seamAt d k).deciding = false) : decisionPending d 2 k = false := by
  by_cases hst : (seamAt d k).st = .suspect
  · simp [decisionPending, h hst]
  · simp [decisionPending, hst]

theorem fenceUnit_seam {k : Nat} (h : k < 4) :
    fenceUnit d 2 k = if (seamAt d k).st = .lost then (msSuccess, d) else (msSuccess, loseSeam (countFence d) k true) := by
  simp only [fenceUnit, if_neg (Nat.not_le.2 h)]

/-! ### Channels, ports, the package -/

theorem fenceUnit_hbm {k : Nat} (h : k < 128) : fenceUnit d 3 k = fenceChannel d (k / 32) (k % 32) := if_neg (Nat.not_le.2 h)

theorem fenceUnit_lpx {k : Nat} (h : k < 32) : fenceUnit d 4 k = fenceChannel d (4 + k / 4) (k % 4) := if_neg (Nat.not_le.2 h)

theorem fenceChannel_gone {u c : Nat} (h : chState d u c ≠ 0) : fenceChannel d u c = (msSuccess, d) := if_pos h

theorem fenceChannel_idle {u c : Nat} (h : chState d u c = 0) (hrun : tgRunning d u c = false) :
    fenceChannel d u c = (msSuccess, countFence (becomeFailing d u c (2 ^ 31) (addrOfLocal u c (64 * rdn d (tgReg u c 0x10))) 0)) := by
  simp only [fenceChannel, h, ne_eq, not_true_eq_false, if_false, hrun, Bool.false_eq_true, Nat.zero_min, Nat.add_zero]

theorem fenceUnit_port {k : Nat} (h : k < 2) (hup : (portAt d k).st = 3) : fenceUnit d 5 k = (msSuccess, linkDownAs (2 ^ 31 + 6) (countFence d) k 6 0) := by
  have hopen : ¬((portAt d k).st = 0 ∨ (portAt d k).st = 4) := by omega
  simp only [fenceUnit, if_neg (Nat.not_le.2 h), if_neg hopen]

theorem fenceUnit_package (h : d.code ≠ stLost) : fenceUnit d 6 0 = (msSuccess, enterLost d.wdn.active 7 true (countFence d)) := by
  simp only [fenceUnit, ne_eq, not_true_eq_false, if_false, if_neg h]

theorem fenceUnit_reserved {kind : Nat} (k : Nat) (h : kind = 0 ∨ 6 < kind) : fenceUnit d kind k = (msReservedEncoding, d) := by
  rw [fenceUnit] <;> omega

/-- A decision pends on sites and seams alone. -/
theorem decisionPending_other {kind : Nat} (k : Nat) (hsite : kind ≠ 1) (hseam : kind ≠ 2) : decisionPending d kind k = false := by
  rw [decisionPending] <;> assumption

end Sys2Proof.Machine
end

section
/-! SUPPORT. The statement on FENCE settled (19 R541). -/

set_option autoImplicit false

namespace Sys2Proof.Machine

/-- Settles O46: each kind of unit by its state, at once unless a decision pends on it. -/
theorem fenceCommand : Obligations.FenceCommand := by
  rintro s q k hlive hcur hcmd hrsvd rfl
  have hnow := fun hpend => devFence_now hcur hcmd hrsvd hpend
  rw [exec_fence, onDev_live hlive]
  refine ⟨fun hkind => ?site, fun hkind hk => ?seam, fun hkind hk => ?hbm, fun hkind hk => ?lpx, fun hkind hk hup => ?port, fun hkind hk hcode => ?package, fun hkind => ?reserved⟩
  case site =>
    rw [hkind] at hnow
    refine ⟨fun hout => ?_, fun hk hf => ?_, fun hk hf hst => ?_, fun hk hf hst => ?_, fun hk hf hst hdec hnot => ?_⟩
    · rw [hnow (decisionPending_site_out hout), fenceUnit_site_out hout]
    · rw [hnow (decisionPending_site_fused hf), fenceUnit_site_fused hk hf]
    · rw [hnow (decisionPending_site_settled (by simp [hst])), fenceUnit_site_fenced hk hf hst]
    · have hdec : (siteInfo s.dev (leAt q.body 2 2)).st = .suspect → (siteInfo s.dev (leAt q.body 2 2)).deciding = false := fun h => by simpa [h] using hst
      rw [hnow (decisionPending_site_settled hdec), fenceUnit_site hk hf (hst.imp_right (Or.imp_right (Or.imp_right And.left)))]
    · have hpend : decisionPending s.dev (leAt q.body 0 1) (leAt q.body 2 2) = true := by simp [hkind, decisionPending, hk, hf, hst, hdec]
      rw [devFence_waits hcur hcmd hrsvd hpend, hkind, markFence_site hnot]
  case seam =>
    rw [hkind] at hnow
    refine ⟨fun hst => ?_, fun hst hdec => ?_, fun hst hdec hnot => ?_⟩
    · rw [hnow (decisionPending_seam_settled (by simp [hst])), fenceUnit_seam hk, if_pos hst]
    · rw [hnow (decisionPending_seam_settled hdec), fenceUnit_seam hk, if_neg hst]
    · have hpend : decisionPending s.dev (leAt q.body 0 1) (leAt q.body 2 2) = true := by simp [hkind, decisionPending, hk, hst, hdec]
      rw [devFence_waits hcur hcmd hrsvd hpend, hkind, markFence_seam hnot]
  case hbm =>
    rw [hnow (decisionPending_other _ (by omega) (by omega)), hkind, fenceUnit_hbm hk]
    exact ⟨fun hgone => by rw [fenceChannel_gone hgone], fun hch hrun => by rw [fenceChannel_idle hch hrun]⟩
  case lpx =>
    rw [hnow (decisionPending_other _ (by omega) (by omega)), hkind, fenceUnit_lpx hk]
    exact ⟨fun hgone => by rw [fenceChannel_gone hgone], fun hch hrun => by rw [fenceChannel_idle hch hrun]⟩
  case port => rw [hnow (decisionPending_other _ (by omega) (by omega)), hkind, fenceUnit_port hk hup]
  case package => rw [hnow (decisionPending_other _ (by omega) (by omega)), hkind, hk, fenceUnit_package hcode]
  case reserved => rw [hnow (decisionPending_other _ (by omega) (by omega)), fenceUnit_reserved _ hkind]

end Sys2Proof.Machine
end

section
/-! SUPPORT. The TAP and debug (19 R547 to R550): the instructions on a locked and on an unlocked station, groups halted and resumed, the requests of MEM_ACCESS, and the Alert Response Address. -/

set_option autoImplicit false

namespace Sys2Proof.Machine

variable {d : Dev}

/-! ### Instructions (19 R548) -/

/-- The package with an instruction at the TAP. -/
def withInstr (d : Dev) (code dr : Nat) : Dev := { d with mgmt := { d.mgmt with tap := { d.mgmt.tap with instr := code, dr := dr } } }

theorem tapSelect_free {code : Nat} (dr : Nat) (h : code = 0x01 ∨ code = 0x02) : tapSelect code dr d = withInstr d code dr := by
  obtain rfl | rfl := h <;> rfl

theorem tapSelect_open (code dr : Nat) (h : debugOpen d = true) : tapSelect code dr d = withInstr d code dr := by
  simp only [tapSelect, h, Bool.or_true, if_true, withInstr]

theorem tapSelect_locked {code : Nat} (dr : Nat) (hid : code ≠ 0x01) (hsample : code ≠ 0x02) (h : debugOpen d = false) : tapSelect code dr d = withInstr d 0xFF 0 := by
  simp only [tapSelect, hid, hsample, h, decide_false, Bool.or_self, Bool.false_eq_true, if_false, withInstr]

theorem tapSelect_halted (code dr : Nat) : (tapSelect code dr d).halted = d.halted := by
  rw [tapSelect]
  split <;> rfl

theorem devExtest_locked (h : debugOpen d = false) : devExtest d = withInstr d 0xFF 0 := by
  rw [devExtest, h]
  exact tapSelect_locked 0 (by decide) (by decide) h

theorem devExtest_open (h : debugOpen d = true) :
    devExtest d = { d with mgmt := { d.mgmt with tap := { d.mgmt.tap with instr := 0x03, dr := 0, extest := true } } } := by
  rw [devExtest, h, tapSelect_open _ _ h]
  rfl

/-! ### The waits of a group held and resumed (07 R196) -/

/-- What turning the waits of each core keeps, turning those of the groups keeps. -/
theorem flipGroups_keeps {γ : Type} {f : Dev → γ} (h : ∀ d i, f (flipWaits d i) = f d) (d : Dev) (gs : List Nat) : f (flipGroups d gs) = f d := by
  refine foldl_keeps (fun b i => ?_) _ _
  split
  · exact h b i
  · rfl

/-- A task with the time that it has waited in place of the start of its wait, or the other way. -/
def flipTask (now : Nat) (t : Task) : Task := if t.st = .blocked then { t with since := now - t.since } else t

theorem tasks_flipWaits (d : Dev) (i : Nat) : (coreAt (flipWaits d i) i).tasks = (coreAt d i).tasks.map (flipTask d.now) := by
  simp only [flipWaits, modCore, coreAt, setCore, smGet_smSet_same]
  rfl

/-- A blocked task keeps the time that it has waited; no other task changes. -/
theorem taskAt_flipWaits (d : Dev) (i n : Nat) : taskAt (coreAt (flipWaits d i) i) n = flipTask d.now (taskAt (coreAt d i) n) := by
  rw [taskAt, tasks_flipWaits]
  exact List.getD_map (coreAt d i).tasks ({} : Task) (flipTask d.now)

/-! ### Debug groups (19 R549) -/

theorem mem_groupsOf (m : BitVec 8) (k : Nat) : k ∈ groupsOf m ↔ k < 8 ∧ m.getLsbD k = true := by
  rw [groupsOf, List.mem_filter, List.mem_range]

/-- The groups of a mask halted beside those that are. -/
def haltGroups (m : BitVec 8) (d : Dev) : Dev := { d with halted := (List.range 8).filter (fun k => d.halted.contains k || (groupsOf m).contains k) }

/-- The groups of a mask no longer halted. -/
def resumeGroups (m : BitVec 8) (d : Dev) : Dev := { d with halted := d.halted.filter (fun k => !(groupsOf m).contains k) }

theorem mem_haltGroups (m : BitVec 8) (d : Dev) {k : Nat} (hk : k < 8) : k ∈ (haltGroups m d).halted ↔ k ∈ d.halted ∨ m.getLsbD k = true := by
  simp only [haltGroups, List.mem_filter, List.mem_range, hk, true_and, Bool.or_eq_true, List.contains_iff_mem, mem_groupsOf]

theorem devDebugHalt_locked (m : BitVec 8) (h : debugOpen d = false) : devDebugHalt m d = withInstr d 0xFF 0 := by
  simp only [devDebugHalt, h, Bool.not_false, if_true]
  exact tapSelect_locked _ (by decide) (by decide) h

theorem devDebugResume_locked (m : BitVec 8) (h : debugOpen d = false) : devDebugResume m d = withInstr d 0xFF 0 := by
  simp only [devDebugResume, h, Bool.not_false, if_true]
  exact tapSelect_locked _ (by decide) (by decide) h

/-- DEBUG_HALT on an unlocked station: the waits of the groups newly halted are held, the groups halted, and a station that served with one of them is HALTED. -/
theorem devDebugHalt_open (m : BitVec 8) {e : Dev} (h : debugOpen d = true)
    (he : flipGroups (tapSelect 0x40 (256 * maskOf d.halted) d) ((groupsOf m).filter (fun k => !d.halted.contains k)) = e) :
    devDebugHalt m d = if isServing (haltGroups m e) && (groupsOf m).any (groupServes (haltGroups m e)) then setCode (haltGroups m e) stHalted else haltGroups m e := by
  simp only [devDebugHalt, h, Bool.not_true, Bool.false_eq_true, if_false, tapSelect_halted, he]
  rfl

/-- DEBUG_RESUME on an unlocked station: the waits of the groups that were halted go on and the groups resume; with no group of cores left a HALTED station serves again. -/
theorem devDebugResume_open (m : BitVec 8) {e : Dev} (h : debugOpen d = true)
    (he : flipGroups (tapSelect 0x40 (256 * maskOf d.halted) d) ((groupsOf m).filter (fun k => d.halted.contains k)) = e) :
    devDebugResume m d = if decide (e.code = stHalted) && (resumeGroups m e).halted.all (fun k => decide (4 ≤ k)) then
        pump (resumeReleases (((setCode (resumeGroups m e) (servingCode (resumeGroups m e))).rvp.reqs.map (fun x => x.1)).foldl (fun d h => devDeadlineExpiry h d)
          (setCode (resumeGroups m e) (servingCode (resumeGroups m e)))))
      else pump (resumeGroups m e) := by
  simp only [devDebugResume, h, Bool.not_true, Bool.false_eq_true, if_false, tapSelect_halted, he]
  rfl

/-- No group of cores is left when the mask names each of them that is halted. -/
theorem resumeGroups_noCores {m : BitVec 8} (h : ∀ k ∈ d.halted, k < 4 → m.getLsbD k = true) : (resumeGroups m d).halted.all (fun k => decide (4 ≤ k)) = true := by
  rw [List.all_eq_true]
  intro k hk
  simp only [resumeGroups, List.mem_filter, Bool.not_eq_true', ← Bool.not_eq_true, List.contains_iff_mem, mem_groupsOf, not_and] at hk
  obtain ⟨hhalted, hstays⟩ := hk
  by_contra hcores
  have hlow : k < 4 := by simpa using hcores
  exact hstays (by omega) (h k hhalted hlow)

/-! ### MEM_ACCESS (19 R550) -/

theorem devMemAccessRead_locked (a : BitVec 32) (h : debugOpen d = false) : devMemAccessRead a d = withInstr d 0xFF 0 := by
  simp only [devMemAccessRead, h, Bool.false_eq_true, if_false]
  exact tapSelect_locked _ (by decide) (by decide) h

theorem devMemAccessWrite_locked (a v : BitVec 32) (h : debugOpen d = false) : devMemAccessWrite a v d = withInstr d 0xFF 0 := by
  simp only [devMemAccessWrite, h, Bool.false_eq_true, if_false]
  exact tapSelect_locked _ (by decide) (by decide) h

/-- The package with MEM_ACCESS at the TAP and its access pending. -/
def memPending (d : Dev) : Dev := { d with mgmt := { d.mgmt with tap := { d.mgmt.tap with instr := 0x41, dr := d.mgmt.tap.memStatus, memStatus := 1 } } }

theorem devMemAccessRead_open (a : BitVec 32) (h : debugOpen d = true) :
    devMemAccessRead a d = enqueueReq (memPending d) { cmd := 1, body := leBytes 4 a.toNat ++ [1, 0, 0, 0], jtag := true } := by
  simp only [devMemAccessRead, h, if_true, tapSelect_open _ _ h]
  rfl

theorem devMemAccessWrite_open (a v : BitVec 32) (h : debugOpen d = true) :
    devMemAccessWrite a v d = enqueueReq (memPending d) { cmd := 2, body := leBytes 4 a.toNat ++ [1, 0, 0, 0] ++ leBytes 4 v.toNat, jtag := true } := by
  simp only [devMemAccessWrite, h, if_true, tapSelect_open _ _ h]
  rfl

/-! ### ALERT_N (19 R547) -/

theorem devAlertResponse_released (w : Bool) (h : d.alertN = true) : devAlertResponse w d = d := if_pos h

theorem devAlertResponse_asserted (w : Bool) (h : d.alertN = false) :
    devAlertResponse w d = { d with mgmt := { d.mgmt with ara := d.mgmt.ara ++ [smbAddr d] }, alertN := w } := by
  simp only [devAlertResponse, h, Bool.false_eq_true, if_false]
  cases w with
  | true => rfl
  | false => rw [if_neg Bool.false_ne_true, ← h]

end Sys2Proof.Machine
end

section
/-! SUPPORT. The statement on the TAP, debug and the alert response settled (19 R547 to R550). -/

set_option autoImplicit false

namespace Sys2Proof.Machine

/-- Settles O49: each instruction by whether the station is unlocked. -/
theorem tapAndDebug : Obligations.TapAndDebug := by
  intro s
  refine ⟨⟨_, _, exec_tapReset s, rfl, exec_idcode s, rfl, rfl, rfl, rfl, rfl⟩, exec_bypass s, fun vals => ?sample, fun d hd hlocked => ?locked, fun hopen => ?unlocked,
    fun hlive => ?alert, fun d gs => ?frame, taskAt_flipWaits⟩
  case sample => exact ⟨_, exec_samplePreload vals s, rfl, rfl, rfl, rfl⟩
  case locked =>
    have hbypass : withInstr s.dev 0xFF 0 = d := hd
    refine ⟨?_, ?_, ?_, fun hlive m a v => ⟨?_, ?_, ?_, ?_⟩⟩
    · rw [exec_extest, onAny, devExtest_locked hlocked, hbypass]
    · rw [exec_clamp, onAny, devClamp, tapSelect_locked _ (by decide) (by decide) hlocked, hbypass]
    · rw [exec_highz, onAny, devHighz, tapSelect_locked _ (by decide) (by decide) hlocked, hbypass]
    · rw [exec_debugHalt, onDev_live hlive, devDebugHalt_locked m hlocked, hbypass]
    · rw [exec_debugResume, onDev_live hlive, devDebugResume_locked m hlocked, hbypass]
    · rw [exec_memAccessRead, onDev_live hlive, devMemAccessRead_locked a hlocked, hbypass]
    · rw [exec_memAccessWrite, onDev_live hlive, devMemAccessWrite_locked a v hlocked, hbypass]
  case unlocked =>
    refine ⟨?_, ?_, ?_, fun hlive => ⟨fun m d hd => ?halt, fun m d hd => ?resume, fun hcur hroom => ⟨fun a => ?_, fun a v => ?_⟩⟩⟩
    · rw [exec_extest, onAny, devExtest_open hopen]
      exact ⟨_, rfl, rfl, rfl⟩
    · rw [exec_clamp, onAny, devClamp, tapSelect_open _ _ hopen]
      exact ⟨_, rfl, rfl⟩
    · rw [exec_highz, onAny, devHighz, tapSelect_open _ _ hopen]
      exact ⟨_, rfl, rfl⟩
    case halt =>
      rw [exec_debugHalt, onDev_live hlive, devDebugHalt_open m hopen hd]
      refine ⟨_, rfl, ?_⟩
      dsimp only
      split
      · obtain ⟨r, a, t, md, h⟩ := setCode_eq (haltGroups m d) stHalted
        rw [h]
        exact ⟨fun k hk => mem_haltGroups m d hk, rfl, rfl, rfl⟩
      · exact ⟨fun k hk => mem_haltGroups m d hk, rfl, rfl, rfl⟩
    case resume =>
      rw [exec_debugResume, onDev_live hlive, devDebugResume_open m hopen hd]
      refine ⟨fun hcode => ?_, fun e hcode hcores he => ?_⟩
      · rw [decide_eq_false hcode, Bool.false_and, if_neg Bool.false_ne_true, resumeGroups]
      · rw [decide_eq_true hcode, resumeGroups_noCores hcores, Bool.and_self, if_pos rfl, resumeGroups, he]
    · rw [exec_memAccessRead, onDev_live hlive, devMemAccessRead_open a hopen, enqueueReq_room (d := memPending s.dev) _ hcur hroom]
      exact ⟨_, rfl, rfl, rfl, rfl⟩
    · rw [exec_memAccessWrite, onDev_live hlive, devMemAccessWrite_open a v hopen, enqueueReq_room (d := memPending s.dev) _ hcur hroom]
      exact ⟨_, rfl, rfl, rfl⟩
  case alert =>
    exact ⟨fun h w => by rw [exec_alertResponse, onDev_live hlive, devAlertResponse_released w h], fun h w => by rw [exec_alertResponse, onDev_live hlive, devAlertResponse_asserted w h]⟩
  case frame =>
    exact ⟨flipGroups_keeps (fun _ _ => rfl) d gs, flipGroups_keeps (fun _ _ => rfl) d gs, flipGroups_keeps (fun _ _ => rfl) d gs, flipGroups_keeps (fun _ _ => rfl) d gs,
      flipGroups_keeps (fun _ _ => rfl) d gs⟩

end Sys2Proof.Machine
end

section
/-! SUPPORT. The error log (17 R490 to R495): an event merged into the last entry like it, and an event that makes an entry. -/

set_option autoImplicit false

namespace Sys2Proof.Machine

variable {d : Dev}

/-! ### The last entry that matches -/

theorem mergeLast_append {p : ElogEntry → Bool} (pre : List ElogEntry) {e : ElogEntry} {post : List ElogEntry} (he : p e = true) (hpost : ∀ x ∈ post, p x = false) :
    mergeLast p (pre ++ e :: post) = pre ++ e.more :: post := by
  have hrev : (pre ++ e :: post).reverse = post.reverse ++ e :: pre.reverse := by simp
  have hskip : ∀ x ∈ post.reverse, (!p x) = true := fun x hx => by simp [hpost x (List.mem_reverse.mp hx)]
  have hspan : (pre ++ e :: post).reverse.span (fun x => !p x) = (post.reverse, e :: pre.reverse) := by
    rw [hrev, List.span_eq_takeWhile_dropWhile, List.takeWhile_append_of_pos hskip, List.dropWhile_append_of_pos hskip,
      List.takeWhile_cons_of_neg (by simp [he]), List.dropWhile_cons_of_neg (by simp [he]), List.append_nil]
  simp only [mergeLast, hspan]
  simp

/-! ### The counters of the log -/

theorem elogCnt_ne {j k : Nat} (h : j ≠ k) : Reg.ELOG_CNT_LO j ≠ Reg.ELOG_CNT_LO k := by
  show 0xb0080 + 8 * j ≠ 0xb0080 + 8 * k
  omega

/-- The package with the class of an event counted. -/
def elogClassed (cls : Nat) (d : Dev) : Dev := cntInc d (Reg.ELOG_CNT_LO (cls - 1))

theorem cnt_elogTell (cls a : Nat) (d : Dev) : cnt (elogTell cls d) a = cnt d a := by
  rw [elogTell]
  split <;> split <;> simp

theorem elogTell_wdn (cls : Nat) (d : Dev) : (elogTell cls d).wdn = d.wdn := by
  obtain ⟨r, a, h⟩ := elogTell_eq d cls
  rw [h]

theorem elogRoom_short (h : d.wdn.elog.length ≠ 1024) : elogRoom d = d := by
  simp [elogRoom, elogLoses, h]

theorem elogPush_short (e : ElogEntry) (h : d.wdn.elog.length ≠ 1024) : (elogPush e d).wdn.elog = d.wdn.elog ++ [e] := by
  simp [elogPush, h]

/-! ### An event merged, and an event that makes an entry -/

/-- An event like an entry is merged. -/
theorem elog_merged {cls block code unit : Nat} (detail : Nat) {e : ElogEntry} (hmem : e ∈ d.wdn.elog) (he : elogSame d block code unit e = true) :
    elog cls block code unit detail d = elogMerge (elogSame d block code unit) (elogClassed cls d) :=
  if_pos (List.any_eq_true.mpr ⟨e, hmem, he⟩)

theorem elogMerge_elog (p : ElogEntry → Bool) (d : Dev) : (elogMerge p d).wdn.elog = mergeLast p d.wdn.elog := rfl

theorem elogMerge_spill (p : ElogEntry → Bool) (d : Dev) : (elogMerge p d).wdn.spill = mergeLast p d.wdn.spill := rfl

theorem elogMerge_elogSeq (p : ElogEntry → Bool) (d : Dev) : (elogMerge p d).wdn.elogSeq = d.wdn.elogSeq := rfl

theorem cnt_elogMerge (p : ElogEntry → Bool) (d : Dev) (a : Nat) : cnt (elogMerge p d) a = cnt (cntInc d (Reg.ELOG_CNT_LO 5)) a := rfl

theorem elogClassed_wdn (cls : Nat) (d : Dev) : (elogClassed cls d).wdn = d.wdn := rfl

theorem cnt_elogClassed_same (cls : Nat) (d : Dev) : cnt (elogClassed cls d) (Reg.ELOG_CNT_LO (cls - 1)) = cnt d (Reg.ELOG_CNT_LO (cls - 1)) + 1 := cnt_cntInc_same d _

theorem cnt_elogClassed_ne (d : Dev) {cls k : Nat} (h : k ≠ cls - 1) : cnt (elogClassed cls d) (Reg.ELOG_CNT_LO k) = cnt d (Reg.ELOG_CNT_LO k) := cnt_cntInc_ne d (elogCnt_ne h)

/-- The entry that an event makes. -/
def elogEntry (cls block code unit detail : Nat) (d : Dev) : ElogEntry :=
  { time := d.now, seq := d.wdn.elogSeq, boot := d.wdn.bootId, cls := cls, block := block, code := code, unit := unit, detail := detail, spilled := spillOn d }

theorem elog_eq_if (cls block code unit detail : Nat) (d : Dev) :
    elog cls block code unit detail d = if d.wdn.elog.any (elogSame d block code unit) then elogMerge (elogSame d block code unit) (elogClassed cls d)
      else elogTell cls (elogPush (elogEntry cls block code unit detail d) (elogRoom (elogClassed cls d))) := rfl

/-- An event like no entry makes one. -/
theorem elog_new (cls detail : Nat) {block code unit : Nat} (h : ∀ x ∈ d.wdn.elog, elogSame d block code unit x = false) :
    elog cls block code unit detail d = elogTell cls (elogPush (elogEntry cls block code unit detail d) (elogRoom (elogClassed cls d))) :=
  have hany : ¬ d.wdn.elog.any (elogSame d block code unit) = true := by simpa using h
  if_neg hany

/-! ### Counters that the log does not count in -/

theorem cnt_elogPush (e : ElogEntry) (d : Dev) (a : Nat) : cnt (elogPush e d) a = cnt d a := rfl

theorem cnt_elogRoom_ne {a : Nat} (d : Dev) (h : a ≠ Reg.ELOG_CNT_LO 6) : cnt (elogRoom d) a = cnt d a := by
  rw [elogRoom]
  split
  · rw [cnt_cntInc_ne _ h, cnt_evt]
  · rfl

/-- The error log counts in its own counters. -/
theorem cnt_elog_ne (cls block code unit detail : Nat) {a : Nat} (d : Dev) (h : ∀ k, a ≠ Reg.ELOG_CNT_LO k) : cnt (elog cls block code unit detail d) a = cnt d a := by
  have hclass : cnt (elogClassed cls d) a = cnt d a := cnt_cntInc_ne d (h _)
  rw [elog_eq_if]
  split
  · rw [cnt_elogMerge, cnt_cntInc_ne _ (h 5), hclass]
  · rw [cnt_elogTell, cnt_elogPush, cnt_elogRoom_ne _ (h 6), hclass]

end Sys2Proof.Machine
end

section
/-! SUPPORT. The statement on merging in the error log settled (17 R492). -/

set_option autoImplicit false

namespace Sys2Proof.Machine

/-- Settles O57: the event is merged into the last entry like it on die and in the spill, or makes an entry. -/
theorem elogMerges : Obligations.ElogMerges := by
  intro d cls block code unit detail hlow hhigh
  have hclass : cls - 1 ≠ 5 := by omega
  refine ⟨fun pre e post hlog he hpost => ?_, fun hnone hshort => ?_⟩
  · have hmem : e ∈ d.wdn.elog := by simp [hlog]
    rw [elog_merged detail hmem he]
    refine ⟨?_, ?_, ?_, ?_, fun sp y sq hspill hy hsq => ?_⟩
    · rw [elogMerge_elog, elogClassed_wdn, hlog]
      exact mergeLast_append pre he hpost
    · rw [elogMerge_elogSeq, elogClassed_wdn]
    · rw [cnt_elogMerge, cnt_cntInc_same, cnt_elogClassed_ne d hclass.symm]
    · rw [cnt_elogMerge, cnt_cntInc_ne _ (elogCnt_ne hclass), cnt_elogClassed_same]
    · rw [elogMerge_spill, elogClassed_wdn, hspill]
      exact mergeLast_append sp hy hsq
  · have hlen : (elogClassed cls d).wdn.elog.length ≠ 1024 := Nat.ne_of_lt hshort
    rw [elog_new cls detail hnone, elogRoom_short hlen, elogTell_wdn, cnt_elogTell, elogPush_short _ hlen]
    exact ⟨elogEntry cls block code unit detail d, rfl, rfl, rfl, rfl, rfl, rfl, rfl, cnt_elogClassed_same cls d⟩

end Sys2Proof.Machine
end

section
/-! SUPPORT. The warden's commands (17 R462 to R484): reports at gates, decisions, failover, and twin entries that wait too long. -/

set_option autoImplicit false

namespace Sys2Proof.Machine

variable {d : Dev}

/-- A report at the gate of a site in service, or of one that is not fenced. -/
theorem devDisagree_site {i : Fin 288} (who : Option GateReq) (cured : Bool) (hcode : d.code ≠ stReset) (hst : (siteInfo d i.val).st ≠ .fenced) :
    devDisagree (.site i) who cured d = disagree d i.val 2 := by
  simp only [devDisagree, hcode, hst, if_false]

theorem devDisagree_site_fenced {i : Fin 288} (who : Option GateReq) (cured : Bool) (hcode : d.code ≠ stReset) (hst : (siteInfo d i.val).st = .fenced) :
    devDisagree (.site i) who cured d = gateDrop d (.site i) := by
  simp only [devDisagree, hcode, hst, if_false, if_true]

theorem devDisagree_seam_lost {k : Fin 4} (who : Option GateReq) (cured : Bool) (hcode : d.code ≠ stReset) (hst : (seamAt d k.val).st = .lost) :
    devDisagree (.seam k) who cured d = gateDrop d (.seam k) := by
  simp only [devDisagree, hcode, hst, if_false, if_true]

/-- A seam repeat that succeeds is counted and delays no one. -/
theorem devDisagree_seam_cured {k : Fin 4} (who : Option GateReq) (hcode : d.code ≠ stReset) (hst : (seamAt d k.val).st ≠ .lost) :
    devDisagree (.seam k) who true d = cntInc d (Reg.ELOG_CNT_LO 0) := by
  simp only [devDisagree, hcode, hst, if_false, if_true]

theorem devDisagree_seam_failed {k : Fin 4} (who : Option GateReq) (hcode : d.code ≠ stReset) (hst : (seamAt d k.val).st ≠ .lost) :
    devDisagree (.seam k) who false d = disagreeSeam (noteStuck d (288 + k.val) who d.now) k.val := by
  simp only [devDisagree, hcode, hst, if_false, Bool.false_eq_true, gateNum]

/-! ### Sites that disagree (17 R474, R475) -/

theorem disagree_closed {i : Nat} (detail : Nat) (h : inService d i = false) : disagree d i detail = d := by
  refine if_pos ⟨fun hst => ?_, fun hst => ?_⟩
  all_goals simp [inService, hst] at h

/-- The record of a site that has disagreed once more. -/
def disagreed (d : Dev) (i : Nat) : SiteInfo :=
  { siteInfo d i with st := .suspect, deciding := true, disagrees := min 255 ((siteInfo d i).disagrees + 1),
                      suspects := d.now :: (siteInfo d i).suspects.filter (fun t => decide (d.now < t + 1000000000)) }

theorem disagree_open {i : Nat} (detail : Nat) (h : (siteInfo d i).st = .live ∨ (siteInfo d i).st = .suspect) :
    disagree d i detail = elog 1 1 0x0101 i detail (evt (cntInc (setSite d i (disagreed d i)) (Reg.WDN_CNT_LO 0)) Reg.WDN_EVT 0) :=
  if_neg (by tauto)

/-- What the warden keeps of a site comes from its records and the part alone. -/
theorem siteInfo_congr {d e : Dev} (i : Nat) (hsites : d.wdn.sites = e.wdn.sites) (hpart : d.part = e.part) : siteInfo d i = siteInfo e i := by
  rw [siteInfo, siteInfo, hsites, hpart]

theorem siteInfo_disagree {i : Nat} (detail j : Nat) (h : (siteInfo d i).st = .live ∨ (siteInfo d i).st = .suspect) :
    siteInfo (disagree d i detail) j = siteInfo (setSite d i (disagreed d i)) j := by
  rw [disagree_open detail h]
  exact siteInfo_congr j (elog_sites _ _ _ _ _ _) (elog_part _ _ _ _ _ _)

theorem wdnCnt_ne_elogCnt {j : Nat} (h : j < 8) (k : Nat) : Reg.WDN_CNT_LO j ≠ Reg.ELOG_CNT_LO k := by
  show 0x10040 + 8 * j ≠ 0xb0080 + 8 * k
  omega

/-! ### Seams that disagree (17 R474) -/

/-- The record of a seam that has disagreed once more. -/
def disagreedSeam (d : Dev) (k : Nat) : SeamInfo :=
  { seamAt d k with st := .suspect, deciding := true, suspects := d.now :: (seamAt d k).suspects.filter (fun t => decide (d.now < t + 1000000000)) }

theorem disagreeSeam_open {k : Nat} (h : (seamAt d k).st = .up ∨ (seamAt d k).st = .suspect) :
    disagreeSeam d k = elog 1 3 0x0301 k 0 (evt (cntInc (setSeam d k (disagreedSeam d k)) (Reg.WDN_CNT_LO 0)) Reg.WDN_EVT 0) := by
  obtain h | h := h
  all_goals simp only [disagreeSeam, h, disagreedSeam]

theorem seamAt_disagreeSeam {k : Nat} (hk : k < d.wdn.seams.length) (h : (seamAt d k).st = .up ∨ (seamAt d k).st = .suspect) :
    seamAt (disagreeSeam d k) k = disagreedSeam d k := by
  rw [disagreeSeam_open h, seamAt, elog_seams]
  exact setAt_same _ _ hk

/-! ### Gate watchdogs (17 R474) -/

theorem devGateWatchdog_site_open {i : Fin 288} (who : Option GateReq) (hcode : d.code ≠ stReset) (h : inService d i.val = true) :
    devGateWatchdog (.site i) who d = disagree (noteStuck d i.val who (d.now - 1000 * fld d Reg.WDN_CFG 31 16)) i.val 1 := by
  simp only [devGateWatchdog, hcode, if_false, gateOpen, h, if_true, gateNum]

theorem devGateWatchdog_site_closed {i : Fin 288} (who : Option GateReq) (hcode : d.code ≠ stReset) (h : inService d i.val = false) :
    devGateWatchdog (.site i) who d = d := by
  simp only [devGateWatchdog, hcode, if_false, gateOpen, h, Bool.false_eq_true]
  exact disagree_closed 1 h

theorem devGateWatchdog_seam_open {k : Fin 4} (who : Option GateReq) (hcode : d.code ≠ stReset) (h : (seamAt d k.val).st ≠ .lost) :
    devGateWatchdog (.seam k) who d = disagreeSeam (noteStuck d (288 + k.val) who (d.now - 1000 * fld d Reg.WDN_CFG 31 16)) k.val := by
  simp only [devGateWatchdog, hcode, if_false, gateOpen, decide_eq_true h, if_true, gateNum]

/-! ### Decisions (17 R476) -/

section
variable {i : Fin 288} (hst : (siteInfo d i.val).st = .suspect ∨ (siteInfo d i.val).st = .promoting) (hdec : (siteInfo d i.val).deciding = true)
include hst hdec

/-- A fence that waited for the decision on a site is performed, and answered when management asked for it. -/
theorem devWardenDecision_site_fence (pass : Bool) (h : (siteInfo d i.val).mgmtFence = true) :
    devWardenDecision (.site i) pass d =
      if (siteInfo d i.val).cause = 5 then answerFence (fenceSite d i.val 5 true) 1 i.val else fenceSite d i.val (siteInfo d i.val).cause false := by
  rw [devWardenDecision]
  exact (if_neg (by rw [hdec]; tauto)).trans (if_pos h)

/-- The decision on a site that no fence waits for. -/
theorem devWardenDecision_site (pass : Bool) (h : (siteInfo d i.val).mgmtFence = false) :
    devWardenDecision (.site i) pass d =
      if overLimit d (siteInfo d i.val).suspects then fenceSite d i.val 2 false
      else if pass then
        pump (elog 1 1 0x0102 i.val 0 (cntInc (setSite (clearStuck d (fun a => decide (a.gate = i.val))) i.val { siteInfo d i.val with st := .live, deciding := false }) (Reg.WDN_CNT_LO 1)))
      else fenceSite d i.val 1 false := by
  rw [devWardenDecision]
  exact (if_neg (by rw [hdec]; tauto)).trans (if_neg (by rw [h]; decide))

end

theorem devWardenDecision_site_settled {i : Fin 288} (pass : Bool) (h : (siteInfo d i.val).deciding = false) : devWardenDecision (.site i) pass d = d := if_pos (.inr h)

section
variable {k : Fin 4} (hst : (seamAt d k.val).st = .suspect) (hdec : (seamAt d k.val).deciding = true)
include hst hdec

theorem devWardenDecision_seam_fence (pass : Bool) (h : (seamAt d k.val).mgmtFence = true) :
    devWardenDecision (.seam k) pass d = answerFence (loseSeam d k.val true) 2 k.val := by
  rw [devWardenDecision]
  exact (if_neg (by rw [hdec]; tauto)).trans (if_pos h)

theorem devWardenDecision_seam (pass : Bool) (h : (seamAt d k.val).mgmtFence = false) :
    devWardenDecision (.seam k) pass d =
      if overLimit d (seamAt d k.val).suspects || !pass then loseSeam d k.val false
      else pump (cntInc (cntInc (setSeam (clearStuck d (fun a => decide (a.gate = 288 + k.val))) k.val { seamAt d k.val with st := .up, deciding := false }) (Reg.WDN_CNT_LO 1)) (Reg.ELOG_CNT_LO 0)) := by
  rw [devWardenDecision]
  exact (if_neg (by rw [hdec]; tauto)).trans (if_neg (by rw [h]; decide))

end

theorem devWardenDecision_seam_settled {k : Fin 4} (pass : Bool) (h : (seamAt d k.val).deciding = false) : devWardenDecision (.seam k) pass d = d := if_pos (.inr h)

/-! ### Failover (17 R482 to R484) -/

section
variable (hcode : d.code ≠ stReset) (hstandby : d.wdn.standby = 0)
include hcode hstandby

theorem devHeartbeat_received : devHeartbeat true d = { d with wdn := { d.wdn with missed := 0 } } := by
  simp only [devHeartbeat, hstandby, hcode, ne_eq, not_true_eq_false, or_self, if_false, if_true]

theorem devHeartbeat_missed :
    devHeartbeat false d = if 2 ≤ d.wdn.missed then takeOver d 1 else { d with wdn := { d.wdn with missed := d.wdn.missed + 1 } } := by
  simp only [devHeartbeat, hstandby, hcode, ne_eq, not_true_eq_false, or_self, if_false, Bool.false_eq_true]

theorem devTakeover_standby (why : Fin 3) :
    devTakeover why d = restate (elog 3 8 0x0801 1 (why.val + 1) (evt (cntInc { d with wdn := { d.wdn with active := 1, standby := 1, missed := 0 } } (Reg.WDN_CNT_LO 6)) Reg.WDN_EVT 3)) :=
  (if_neg hcode).trans (if_pos hstandby)

theorem devStandbyAckTimeout_standby :
    devStandbyAckTimeout d = restate (elog 3 8 0x0802 1 0 (evt { d with wdn := { d.wdn with standby := 2 } } Reg.WDN_EVT 4)) :=
  if_neg (by tauto)

end

theorem devHeartbeat_alone (received : Bool) (h : d.wdn.standby ≠ 0) : devHeartbeat received d = d := if_pos (.inl h)

theorem devStandbyAckTimeout_alone (h : d.wdn.standby ≠ 0) : devStandbyAckTimeout d = d := if_pos (.inl h)

/-- Without a standby a takeover loses the package. -/
theorem devTakeover_alone (why : Fin 3) (hcode : d.code ≠ stReset) (h : d.wdn.standby ≠ 0) : devTakeover why d = enterLost d.wdn.active 2 false d :=
  (if_neg hcode).trans (if_neg h)

/-! ### Twin entries that wait too long (16 R462) -/

/-- Whether a twin entry has waited longer than TWIN_WAIT. -/
def twinOld (d : Dev) (e : TwinEntry) : Bool := decide (e.time + 1000 * fld d Reg.DET_TWIN_CFG 15 0 < d.now)

theorem cnt_devTwinWaitExpiry (d : Dev) :
    cnt (devTwinWaitExpiry d) (Reg.DET_TWIN_CNT_LO 5) = cnt d (Reg.DET_TWIN_CNT_LO 5) + BitVec.ofNat 64 (d.det.store.filter (twinOld d)).length :=
  cnt_cntAdd_same d (Reg.DET_TWIN_CNT_LO 5) _

theorem store_devTwinWaitExpiry (d : Dev) : (devTwinWaitExpiry d).det.store = d.det.store.filter (fun e => !twinOld d e) := rfl

/-- The entries dropped and those that stay are all that were held. -/
theorem length_filter_old (p : TwinEntry → Bool) (l : List TwinEntry) : (l.filter p).length = l.length - (l.filter (fun e => !p e)).length := by
  have hsplit := List.length_eq_length_filter_add (l := l) p
  omega

end Sys2Proof.Machine
end

section
/-! SUPPORT. The statement on the warden's commands settled (17 R462 to R484). -/

set_option autoImplicit false

namespace Sys2Proof.Machine

/-- Settles O41: a lemma of the warden's layer for each report, decision and failover. -/
theorem wardenCommands : Obligations.WardenCommands := by
  refine ⟨fun s i who cured hlive => ?_, fun d i detail hst => ?_, fun s k who hlive => ?_, fun d k hk hst => ?_, fun s i x hlive hx hst hdec => ?_,
    fun s k x hlive hx hst hdec => ?_, fun s hlive => ?_⟩
  · have hcode := code_ne_reset_of_live hlive
    rw [exec_disagree, exec_gateWatchdog, onDev_live hlive, onDev_live hlive]
    refine ⟨fun h => ?_, fun h => ?_, fun h => ?_, fun h => ?_⟩
    · rw [devDisagree_site who cured hcode h]
    · rw [devDisagree_site_fenced who cured hcode h, gateDrop]
    · rw [devGateWatchdog_site_open who hcode h]
    · rw [devGateWatchdog_site_closed who hcode h]
  · have hsite : siteInfo (disagree d i detail) i = disagreed d i := (siteInfo_disagree detail i hst).trans (siteInfo_setSite_same d i _)
    refine ⟨by rw [hsite, disagreed], by rw [hsite, disagreed], by rw [hsite, disagreed], ?_, ?_, ?_, fun j hj => ?_⟩
    · rw [disagree_open detail hst, cnt_elog_ne _ _ _ _ _ _ (wdnCnt_ne_elogCnt (by decide)), cnt_evt, cnt_cntInc_same]
      rfl
    · rw [disagree_open detail hst, elog_core]
      rfl
    · rw [disagree_open detail hst, elog_mem]
      rfl
    · rw [siteInfo_disagree detail j hst, siteInfo_setSite_ne d _ hj]
  · have hcode := code_ne_reset_of_live hlive
    simp only [exec_disagree, exec_gateWatchdog, onDev_live hlive]
    refine ⟨fun h => ⟨?_, ?_, ?_⟩, fun h cured => ?_⟩
    · rw [devDisagree_seam_cured who hcode h]
    · rw [devDisagree_seam_failed who hcode h]
    · rw [devGateWatchdog_seam_open who hcode h]
    · rw [devDisagree_seam_lost who cured hcode h, gateDrop]
  · have hseam := seamAt_disagreeSeam hk hst
    refine ⟨by rw [hseam, disagreedSeam], by rw [hseam, disagreedSeam], ?_, ?_⟩
    · rw [disagreeSeam_open hst, elog_core]
      rfl
    · rw [disagreeSeam_open hst, elog_mem]
      rfl
  · subst hx
    simp only [exec_wardenDecision, onDev_live hlive]
    refine ⟨fun hfence pass => ⟨fun h => ?_, fun h => ?_⟩, fun hfence => ⟨fun h pass => ?_, fun h => ⟨?_, ?_⟩⟩⟩
    · rw [devWardenDecision_site_fence hst hdec pass hfence, if_pos h]
    · rw [devWardenDecision_site_fence hst hdec pass hfence, if_neg h]
    · rw [devWardenDecision_site hst hdec pass hfence, if_pos h]
    · rw [devWardenDecision_site hst hdec false hfence, h, if_neg Bool.false_ne_true, if_neg Bool.false_ne_true]
    · rw [devWardenDecision_site hst hdec true hfence, h, if_neg Bool.false_ne_true, if_pos rfl]
  · subst hx
    simp only [exec_wardenDecision, onDev_live hlive]
    refine ⟨fun hfence pass => ?_, fun hfence => ⟨?_, fun h => ?_, fun h => ?_⟩⟩
    · rw [devWardenDecision_seam_fence hst hdec pass hfence]
    · rw [devWardenDecision_seam hst hdec false hfence, Bool.not_false, Bool.or_true, if_pos rfl]
    · rw [devWardenDecision_seam hst hdec true hfence, h, Bool.true_or, if_pos rfl]
    · rw [devWardenDecision_seam hst hdec true hfence, h, Bool.not_true, Bool.or_self, if_neg Bool.false_ne_true]
  · have hcode := code_ne_reset_of_live hlive
    simp only [exec_wardenDecision, exec_heartbeat, exec_takeover, exec_standbyAckTimeout, exec_twinWaitExpiry, onDev_live hlive]
    refine ⟨fun u pass h => ?_, fun hstandby => ⟨?_, fun h => ?_, fun h => ?_, fun why => ?_, ?_⟩, fun hstandby => ⟨fun b => ?_, ?_, fun why => ?_⟩, _, rfl, ?_, ?_, ?_⟩
    · cases u with
      | site i => rw [devWardenDecision_site_settled pass h]
      | seam k => rw [devWardenDecision_seam_settled pass h]
    · rw [devHeartbeat_received hcode hstandby]
    · rw [devHeartbeat_missed hcode hstandby, if_neg (by omega)]
    · rw [devHeartbeat_missed hcode hstandby, if_pos h]
    · rw [devTakeover_standby hcode hstandby why]
    · rw [devStandbyAckTimeout_standby hcode hstandby]
    · rw [devHeartbeat_alone b hstandby]
    · rw [devStandbyAckTimeout_alone hstandby]
    · rw [devTakeover_alone why hcode hstandby]
    · exact store_devTwinWaitExpiry s.dev
    · rw [cnt_devTwinWaitExpiry, store_devTwinWaitExpiry, length_filter_old]
    · rfl

end Sys2Proof.Machine
end

section
/-! SUPPORT. The boot phases (18 R511 to R516): which outcome ends which phase, the copies that cannot be read, the cleared memories, the end of training, and retraining in FORMING. -/

set_option autoImplicit false

namespace Sys2Proof.Machine

variable {d : Dev}

/-! ### The outcome of the phase under way (18 R513) -/

section
variable (fz : Fuses) (fl : List Host.Cell) (hboot : d.code = stBoot)
include hboot

theorem bootComplete_rom (a b s x : Bool) : devBootPhaseComplete (.rom a b s x) fz fl d = if fld d Reg.BOOT_STATUS 3 0 = 0 then bootRom a b s x d else d := if_pos hboot

theorem bootComplete_flash (ok : Bool) : devBootPhaseComplete (.flash ok) fz fl d = if fld d Reg.BOOT_STATUS 3 0 = 1 then bootFlash ok d else d := if_pos hboot

theorem bootComplete_verify (a b : Bool) : devBootPhaseComplete (.verify a b) fz fl d = if fld d Reg.BOOT_STATUS 3 0 = 2 then bootVerify fz fl a b d else d := if_pos hboot

theorem bootComplete_settings :
    devBootPhaseComplete .settings fz fl d = if fld d Reg.BOOT_STATUS 3 0 = 3 then phase (serrefAbsent (loadSettings d d.boot.image)) 4 else d := if_pos hboot

theorem bootComplete_clear : devBootPhaseComplete .clear fz fl d = if fld d Reg.BOOT_STATUS 3 0 = 4 then bootClear d else d := if_pos hboot

theorem bootComplete_selftest (sites : List (Fin 288)) (seams : List (Fin 4)) :
    devBootPhaseComplete (.selftest sites seams) fz fl d = if fld d Reg.BOOT_STATUS 3 0 = 5 then bootSelftest sites seams d else d := if_pos hboot

/-- The outcomes of TRAIN end nothing in BOOT. -/
theorem bootComplete_memtrain_early (fails : List (Fin 12 × Fin 32)) : devBootPhaseComplete (.memtrain fails) fz fl d = d := if_pos hboot

theorem bootComplete_ringtrain_early : devBootPhaseComplete .ringtrain fz fl d = d := if_pos hboot

end

section
variable (fz : Fuses) (fl : List Host.Cell) (htrain : d.code = stTrain)
include htrain

theorem bootComplete_memtrain (fails : List (Fin 12 × Fin 32)) :
    devBootPhaseComplete (.memtrain fails) fz fl d = if fld d Reg.BOOT_STATUS 3 0 = 6 ∧ d.boot.memDone = false then bootMemtrain fails d else d :=
  (if_neg (by rw [htrain]; decide)).trans (if_pos htrain)

theorem bootComplete_ringtrain : devBootPhaseComplete .ringtrain fz fl d = endTrain d :=
  (if_neg (by rw [htrain]; decide)).trans (if_pos htrain)

end

theorem fld_phase (d : Dev) {n : Nat} (h : n < 16) : fld (phase d n) Reg.BOOT_STATUS 3 0 = n := by
  rw [phase, fld_setFld_same d _ 3 0 n (by decide) (by decide)]
  exact Nat.mod_eq_of_lt h

/-! ### ROM and FLASH -/

theorem bootRom_good : bootRom true true true true d = phase { d with pwr := { d.pwr with sysref := true, xt32k := true } } 1 := by
  simp only [bootRom, Bool.not_true, Bool.and_self, Bool.false_eq_true, if_false, if_true]

theorem bootRom_noSysref (x : Bool) : bootRom true true false x d = enterLost d.wdn.active 6 false { d with pwr := { d.pwr with sysref := false, xt32k := x } } := by
  simp only [bootRom, Bool.not_true, Bool.not_false, Bool.and_self, Bool.false_eq_true, if_false, if_true]

theorem bootRom_noWarden (y x : Bool) :
    bootRom false false y x d = enterLost 0 2 false { d with pwr := { d.pwr with sysref := y, xt32k := x }, wdn := { d.wdn with standby := 2 } } := by
  simp only [bootRom, Bool.not_false, Bool.and_self, if_true]

theorem bootFlash_test (ok : Bool) (h : (fld d Reg.BOOT_STATUS 20 16).testBit 4 = true) : bootFlash ok d = bootFailed d := if_pos h

theorem bootFlash_good (htest : (fld d Reg.BOOT_STATUS 20 16).testBit 4 = false) (hslot : fld d Reg.BOOT_STATUS 20 16 % 4 ≠ 3) : bootFlash true d = phase d 2 := by
  simp only [bootFlash, htest, hslot, Bool.false_eq_true, Bool.not_true, or_self, if_false]

theorem bootFlash_unreadable (htest : (fld d Reg.BOOT_STATUS 20 16).testBit 4 = false) : bootFlash false d = bootFailed (rejectCopy (rejectCopy d 0 2) 1 2) := by
  simp only [bootFlash, htest, Bool.false_eq_true, Bool.not_false, true_or, if_false, if_true]

/-! ### VERIFY with copies that cannot be read (18 Table BOOT-9) -/

theorem rd_rejectCopy_ne (d : Dev) (k reason : Nat) {a : Nat} (hcopy : a ≠ Reg.BOOT_COPY k) (he : a ≠ Reg.ELOG_EVT) (ha : a ≠ Reg.MGT_ALERT) :
    rd (rejectCopy d k reason) a = rd d a := by
  rw [rejectCopy, rd_elog_ne _ _ _ _ _ _ he ha, rd_setFld_ne _ _ _ _ hcopy]

theorem tryCopy_unread (fz : Fuses) (fl : List Host.Cell) {read : List Bool} {k : Nat} (hnone : fld d Reg.BOOT_STATUS 27 26 = 0) (hread : read.getD k false = false) :
    tryCopy fz fl read d k = rejectCopy d k 2 := by
  simp only [tryCopy, hnone, hread, checkCopy, Bool.not_false, if_true, ne_eq, not_true_eq_false, if_false]
  rfl

theorem rd_bootFailed_ne (d : Dev) {a : Nat} (hs : a ≠ Reg.BOOT_STATUS) (he : a ≠ Reg.ELOG_EVT) (ha : a ≠ Reg.MGT_ALERT) (ht : a ≠ Reg.DET_EVT) : rd (bootFailed d) a = rd d a := by
  rw [bootFailed, rd_elog_ne _ _ _ _ _ _ he ha, rd_setCode_ne _ _ ha ht, phase, rd_setFld_ne _ _ _ _ hs]

@[simp] theorem bootFailed_code (d : Dev) : (bootFailed d).code = stBootFailed := by
  rw [bootFailed, elog_code, setCode_code]

/-- With no copy that can be read, VERIFY rejects both for that reason and ends in BOOT_FAILED. -/
theorem bootVerify_unread (fz : Fuses) (fl : List Host.Cell) (h : fld d Reg.BOOT_STATUS 27 26 = 0) :
    bootVerify fz fl false false d = bootFailed (rejectCopy (rejectCopy d 0 2) 1 2) := by
  have hafter (e : Dev) (k : Nat) (he : fld e Reg.BOOT_STATUS 27 26 = 0) (hk : k < 2) : fld (rejectCopy e k 2) Reg.BOOT_STATUS 27 26 = 0 := by
    rw [fld_congr 27 26 (rd_rejectCopy_ne e k 2 (by show 0x300000 ≠ 0x300010 + 16 * k; omega) (by decide) (by decide)), he]
  have hfirst := hafter d 0 h (by decide)
  have hsecond := hafter _ 1 hfirst (by decide)
  simp only [bootVerify, Bool.false_and, Bool.false_eq_true, if_false, List.foldl_cons, List.foldl_nil]
  rw [tryCopy_unread fz fl h rfl, tryCopy_unread fz fl hfirst rfl, if_pos hsecond]

theorem fld_bootFailed_copy (d : Dev) (k : Nat) : fld (bootFailed d) (Reg.BOOT_COPY k) 31 24 = fld d (Reg.BOOT_COPY k) 31 24 := by
  refine fld_congr 31 24 (rd_bootFailed_ne d ?_ ?_ ?_ ?_)
  · show 0x300010 + 16 * k ≠ 0x300000
    omega
  · show 0x300010 + 16 * k ≠ 0xb0004
    omega
  · show 0x300010 + 16 * k ≠ 0x14
    omega
  · show 0x300010 + 16 * k ≠ 0xa0008
    omega

theorem fld_rejectCopy_same (d : Dev) (k : Nat) : fld (rejectCopy d k 2) (Reg.BOOT_COPY k) 31 24 = 2 := by
  have hlog : rd (rejectCopy d k 2) (Reg.BOOT_COPY k) = rd (setFld d (Reg.BOOT_COPY k) 31 24 2) (Reg.BOOT_COPY k) := by
    refine rd_elog_ne _ _ _ _ _ _ ?_ ?_
    · show 0x300010 + 16 * k ≠ 0xb0004
      omega
    · show 0x300010 + 16 * k ≠ 0x14
      omega
  rw [fld_congr 31 24 hlog, fld_setFld_same d _ 31 24 2 (by decide) (by decide)]
  rfl

/-! ### CLEAR -/

/-- The core that serves a canonical index started with its hank skein alone. -/
def startCore (d : Dev) (c : Nat) : Dev :=
  match servingSite d c with
  | some s => setCore d s { skeins := [(63, hankSkeinDef d c)] }
  | none => d

theorem startCore_mem (d : Dev) (c : Nat) : (startCore d c).mem = d.mem := by
  rw [startCore]
  split <;> rfl

theorem bootClear_eq (d : Dev) : bootClear d = phase ((List.range 256).foldl startCore { d with mem := { d.mem with spad := [], cls := [], err := [] } }) 5 := rfl

theorem phase_mem (d : Dev) (n : Nat) : (phase d n).mem = d.mem := rfl

/-- CLEAR empties the slices, their classes and their errors, and leaves the external memory. -/
theorem bootClear_mem (d : Dev) : (bootClear d).mem = { d.mem with spad := [], cls := [], err := [] } := by
  rw [bootClear_eq, phase_mem]
  exact foldl_keeps (f := fun b : Dev => b.mem) startCore_mem (List.range 256) _

/-! ### SELFTEST without a failure -/

/-- A seam that passed its self-test. -/
def seamPassed (d : Dev) (k : Fin 4) : Dev := setSeam d k.val { seamAt d k.val with st := .up }

theorem bootSelftest_good (h : d.code ≠ stLost) : bootSelftest [] [] d = endBoot ((List.finRange 4).foldl seamPassed d) := by
  have hcode : ((List.finRange 4).foldl seamPassed d).code = d.code := foldl_keeps (f := fun b : Dev => b.code) (g := seamPassed) (fun _ _ => rfl) _ _
  have hfails : ((List.finRange 4).foldl seamPassed d).code ≠ stLost := by rwa [hcode]
  simp only [bootSelftest, List.filter_nil, List.foldl_nil, List.find?_nil, List.filterMap_none, List.contains_nil, Bool.false_eq_true, if_false]
  exact if_neg hfails

/-! ### The end of TRAIN (18 R515) -/

theorem endTrain_done (hcode : d.code = stTrain) (hmem : d.boot.memDone = true) (hports : ∀ p ∈ d.ports, p.st = 3 ∨ p.st = 4) :
    ∃ e, endTrain d = setCode (phase e 8) stForming ∧ e.core = d.core ∧ e.mem = d.mem := by
  have hall : d.ports.all (fun p => decide (p.st = 3) || decide (p.st = 4)) = true := by simpa [List.all_eq_true] using hports
  rw [endTrain, if_pos ⟨hcode, hmem, hall⟩]
  refine ⟨_, rfl, ?_, ?_⟩
  all_goals split <;> rfl

theorem endTrain_memory (hmem : d.boot.memDone = false) : endTrain d = d := if_neg fun h => by simp [hmem] at h

/-! ### Retraining in FORMING (18 R516) -/

theorem devFormingRetrain_other (h : d.code ≠ stForming) : devFormingRetrain d = d := if_neg h

theorem devFormingRetrain_first {e : Dev} (hcode : d.code = stForming) (hdown : (portAt d 0).st = 4) (hclock : d.pwr.optref.getD 0 true = true) (he : retrain d 0 = e)
    (hother : (portAt e 1).st ≠ 4) : devFormingRetrain d = e := by
  have hrange : List.range 2 = [0, 1] := rfl
  have hfirst : (if (portAt d 0).st = 4 ∧ d.pwr.optref.getD 0 true = true then retrain d 0 else d) = e := (if_pos ⟨hdown, hclock⟩).trans he
  rw [devFormingRetrain, if_pos hcode, hrange, List.foldl_cons, List.foldl_cons, List.foldl_nil, hfirst, if_neg fun h => hother h.1]

end Sys2Proof.Machine
end

section
/-! SUPPORT. The statement on the boot phases settled (18 R511 to R516). -/

set_option autoImplicit false

namespace Sys2Proof.Machine

/-- Settles O53: the outcome of each phase, and the copies, memories and codes that it leaves. -/
theorem bootPhases : Obligations.BootPhases := by
  refine ⟨fun s hboot hlive => ?_, fun s htrain hlive => ?_, fun s hlive hforming hdown hclock hother => ?_, fun s hlive hcode => ?_⟩
  · simp only [exec_bootPhaseComplete, onDev_live hlive]
    refine ⟨fun o h => ?_, fun h => ⟨?_, fun x => ?_, fun y x => ?_⟩, fun h => ⟨fun htest ok => ?_, fun htest hslot => ?_, fun htest => ?_⟩, fun h => ⟨fun a b => ?_, fun hnone => ?_⟩,
      fun h => ?_, fun h => ?_, fun h => ?_⟩
    · have hstays : devBootPhaseComplete o s.fuse s.flash s.dev = s.dev := by
        cases o with
        | rom a b sysref x => exact (bootComplete_rom _ _ hboot a b sysref x).trans (if_neg h)
        | flash ok => exact (bootComplete_flash _ _ hboot ok).trans (if_neg h)
        | verify a b => exact (bootComplete_verify _ _ hboot a b).trans (if_neg h)
        | settings => exact (bootComplete_settings _ _ hboot).trans (if_neg h)
        | clear => exact (bootComplete_clear _ _ hboot).trans (if_neg h)
        | selftest sites seams => exact (bootComplete_selftest _ _ hboot sites seams).trans (if_neg h)
        | memtrain fails => exact bootComplete_memtrain_early _ _ hboot fails
        | ringtrain => exact bootComplete_ringtrain_early _ _ hboot
      rw [hstays]
    · rw [bootComplete_rom _ _ hboot, if_pos h, bootRom_good]
    · rw [bootComplete_rom _ _ hboot, if_pos h, bootRom_noSysref]
    · rw [bootComplete_rom _ _ hboot, if_pos h, bootRom_noWarden]
    · rw [bootComplete_flash _ _ hboot, if_pos h, bootFlash_test ok htest]
    · rw [bootComplete_flash _ _ hboot, if_pos h, bootFlash_good htest hslot]
    · rw [bootComplete_flash _ _ hboot, if_pos h, bootFlash_unreadable htest]
    · rw [bootComplete_verify _ _ hboot, if_pos h]
    · rw [bootComplete_verify _ _ hboot, if_pos h, bootVerify_unread _ _ hnone]
      refine ⟨_, rfl, bootFailed_code _, ?_, ?_⟩
      · rw [fld_bootFailed_copy, fld_congr 31 24 (rd_rejectCopy_ne _ 1 2 (by decide) (by decide) (by decide)), fld_rejectCopy_same]
      · rw [fld_bootFailed_copy, fld_rejectCopy_same]
    · rw [bootComplete_settings _ _ hboot, if_pos h]
    · rw [bootComplete_clear _ _ hboot, if_pos h]
      refine ⟨_, rfl, ?_, ?_, ?_, ?_, ?_⟩
      · rw [bootClear_mem]
      · rw [bootClear_mem]
      · rw [bootClear_mem]
      · rw [bootClear_eq]
        exact fld_phase _ (by decide)
      · rw [bootClear_mem]
    · rw [bootComplete_selftest _ _ hboot, if_pos h, bootSelftest_good (by rw [hboot]; decide)]
      rfl
  · simp only [exec_bootPhaseComplete, onDev_live hlive]
    refine ⟨fun f h hmem => ?_, fun hmem hports => ?_, fun hmem => ?_⟩
    · rw [bootComplete_memtrain _ _ htrain, if_pos ⟨h, hmem⟩]
    · obtain ⟨e, hend, hcore, he⟩ := endTrain_done htrain hmem hports
      rw [bootComplete_ringtrain _ _ htrain, hend]
      refine ⟨_, rfl, setCode_code _ _, ?_, (setCode_core _ _).trans hcore, ?_⟩
      · rw [fld_congr 3 0 (rd_setCode_ne _ _ (by decide) (by decide)), fld_phase _ (by decide)]
      · obtain ⟨r, a, t, m, hset⟩ := setCode_eq (phase e 8) stForming
        rw [hset, ← he]
        rfl
    · rw [bootComplete_ringtrain _ _ htrain, endTrain_memory hmem]
  · refine ⟨_, rfl, fun hstill => ?_⟩
    rw [exec_formingRetrain, onDev_live hlive, devFormingRetrain_first hforming hdown hclock rfl hstill]
  · rw [exec_formingRetrain, onDev_live hlive, devFormingRetrain_other hcode]

end Sys2Proof.Machine
end

section
/-! SUPPORT. The flow context store (14 R397 to R412): the message at the head of the queue, what each kind of message does, write-backs, claims and expiry. -/

set_option autoImplicit false

namespace Sys2Proof.Machine

variable {d : Dev}

/-! ### The message at the head -/

/-- The package with other messages on their way. -/
def withMsgs (d : Dev) (ms : List FlowMsg) : Dev := { d with fcs := { d.fcs with msgs := ms } }

theorem takeMsg_head {m : FlowMsg} {rest : List FlowMsg} {mine want : FlowMsg → Bool} (h : d.fcs.msgs = m :: rest) (hmine : mine m = true) (hwant : want m = true) :
    takeMsg d mine want = some (m, withMsgs d rest) := by
  simp only [takeMsg, h, List.find?_cons_of_pos hmine, hwant, if_true, List.erase_cons_head, withMsgs]

section
variable {c : Fin 256} {e : Nat} {rest : List FlowMsg}

/-- LEAVING of the holder makes its entry EVICTING. -/
theorem devLeaving_head {t : Nat} (h : d.fcs.msgs = .leaving c.val e t :: rest) :
    devLeaving c d = if (entAt (withMsgs d rest) e).st = .held c.val then setEnt (withMsgs d rest) e { entAt (withMsgs d rest) e with st := .evicting c.val t } else withMsgs d rest := by
  simp only [devLeaving, takeMsg_head h, toDir, decide_true]

/-- NOTICE of the eviction under way, of an entry not dropped for good. -/
theorem devNotice_head {t : Nat} {y : Dev} (h : d.fcs.msgs = .notice c.val e t :: rest) (hst : (entAt (withMsgs d rest) e).st = .evicting c.val t)
    (hdrop : (entAt (withMsgs d rest) e).dropMark = false) (hy : setEnt (withMsgs d rest) e { entAt (withMsgs d rest) e with st := .inMemory, etag := t } = y) :
    devNotice c d = releaseWaits (if (entAt (withMsgs d rest) e).failMark then
      evt (fcnt (setEnt y e { entAt y e with lost := true, failMark := false }) 7 1) Reg.FCS_EVT 0 else y) e := by
  simp only [devNotice, takeMsg_head h, toDir, decide_true]
  rw [if_pos hst, if_neg (by rw [hdrop]; decide), hy]

section
variable {r spad slot : Nat}

/-- A SNOOP of a copy that has left is answered RETRY. -/
theorem devSnoop_gone (h : d.fcs.msgs = .snoop c.val e r spad slot none :: rest) (hheld : heldOf (withMsgs d rest) (siteFor (withMsgs d rest) c.val) e = none) :
    devSnoop c d = fcnt (flowSend (withMsgs d rest) (.retry r e (leavingTag (withMsgs d rest) c.val e) spad slot)) 6 1 := by
  simp only [devSnoop, takeMsg_head h, toHolder, decide_true, hheld]

/-- A SNOOP of a copy at its holder: RETRY when it is leaving, its words when the requester still waits. -/
theorem devSnoop_held {x : HeldCtx} (h : d.fcs.msgs = .snoop c.val e r spad slot none :: rest) (hheld : heldOf (withMsgs d rest) (siteFor (withMsgs d rest) c.val) e = some x) :
    devSnoop c d =
      if x.leaving.isSome then fcnt (flowSend (withMsgs d rest) (.retry r e (leavingTag (withMsgs d rest) c.val e) spad slot)) 6 1
      else if !awaits (withMsgs d rest) (siteFor (withMsgs d rest) r) slot e then withMsgs d rest
      else snoopDone (copyWords (siteFor (withMsgs d rest) c.val) x.spad x.words (withMsgs d rest)).2 (siteFor (withMsgs d rest) c.val) (siteFor (withMsgs d rest) r) slot e spad
        (copyWords (siteFor (withMsgs d rest) c.val) x.spad x.words (withMsgs d rest)).1 := by
  simp only [devSnoop, takeMsg_head h, toHolder, decide_true, hheld]

/-- A SNOOP whose words were taken ahead. -/
theorem devSnoop_taken {bs : List Byte} (h : d.fcs.msgs = .snoop c.val e r spad slot (some bs) :: rest) :
    devSnoop c d =
      if awaits (withMsgs d rest) (siteFor (withMsgs d rest) r) slot e then
        snoopDone (withMsgs d rest) (siteFor (withMsgs d rest) c.val) (siteFor (withMsgs d rest) r) slot e spad (if bs.isEmpty then none else some bs)
      else setEnt (withMsgs d rest) e { entAt (withMsgs d rest) e with st := .inMemory } := by
  simp only [devSnoop, takeMsg_head h, toHolder, decide_true]

/-- RETRY: the requester that still waits reads the home once the tag is reached. -/
theorem devRetry_head {t : Nat} (h : d.fcs.msgs = .retry c.val e t spad slot :: rest) :
    devRetry c d =
      if !awaits (withMsgs d rest) (siteFor (withMsgs d rest) c.val) slot e then withMsgs d rest
      else if (entAt (withMsgs d rest) e).st = .inMemory ∧ tagReached (entAt (withMsgs d rest) e).etag t = true then ctxGo (siteFor (withMsgs d rest) c.val) (withMsgs d rest)
      else { withMsgs d rest with fcs := { (withMsgs d rest).fcs with waits := (withMsgs d rest).fcs.waits ++ [{ core := c.val, slot := slot, entry := e, t := t }] } } := by
  simp only [devRetry, takeMsg_head h, decide_true]

end

theorem devDrop_gone (h : d.fcs.msgs = .drop c.val e :: rest) (hheld : heldOf (withMsgs d rest) (siteFor (withMsgs d rest) c.val) e = none) : devDrop c d = withMsgs d rest := by
  simp only [devDrop, takeMsg_head h, toHolder, decide_true, hheld]

theorem devDrop_held {x : HeldCtx} (h : d.fcs.msgs = .drop c.val e :: rest) (hheld : heldOf (withMsgs d rest) (siteFor (withMsgs d rest) c.val) e = some x)
    (hdrop : (entAt (withMsgs d rest) e).dropMark = false) : devDrop c d = startEvict (withMsgs d rest) (siteFor (withMsgs d rest) c.val) x := by
  simp only [devDrop, takeMsg_head h, toHolder, decide_true, hheld, hdrop, Bool.false_eq_true, if_false]

end

/-! ### A copy delivered -/

/-- The words of a snooped copy placed at the requester. -/
theorem snoopDone_words {q : Dev} {i j slot e spad : Nat} {bs : List Byte} {z : QCmd}
    (hq : fcnt (place (fillCopy j spad (clsWords (entAt d e).cls) bs (countNet (dropCopies d e) i j true true (clsWords (entAt d e).cls))) j slot e spad (clsWords (entAt d e).cls) (attrOf (entAt d e))) 3 1 = q)
    (hz : (coreAt q j).ctx.head? = some z) : snoopDone d i j slot e spad (some bs) = ctxGo j (pump (setHead q j 6 { z with done := true, wait := 7 })) := by
  simp only [snoopDone, hq, hz]

/-! ### Write-backs -/

section
variable {c : Fin 256} {e : Fin 65536} {x : HeldCtx} (hheld : heldOf d (siteFor d c.val) e.val = some x)
include hheld

theorem writebackComplete_staying (h : x.leaving = none) : devEvictionWritebackComplete c e d = d := by
  simp only [devEvictionWritebackComplete, hheld, h]

theorem writebackComplete_home {t : Nat} {y : Dev} (h : x.leaving = some t) (hstore : storeHome d (siteFor d c.val) e.val x = (.ok (), y)) (hdrop : (entAt d e.val).dropMark = false) :
    devEvictionWritebackComplete c e d =
      ctxGo (siteFor d c.val) (flowSend (modCore y (siteFor d c.val) (fun co => { co with held := co.held.filter (fun k => decide (k.entry ≠ e.val)) })) (.notice c.val e.val t)) := by
  simp only [devEvictionWritebackComplete, hheld, h, hdrop, Bool.false_eq_true, if_false, hstore]

end

/-! ### Claims and expiry -/

theorem claimGrant_granted {e : Fin 65536} (h : (entAt d e.val).granted = true) : devClaimGrant e d = d := if_pos h

/-- The first claim of an entry is granted and its wait counted. -/
theorem claimGrant_first {e : Fin 65536} {h : Nat} {r : Req} {l : List Nat} (hgranted : (entAt d e.val).granted = false) (hclaims : (entAt d e.val).claims = h :: l) (hreq : reqAt d h = some r) :
    devClaimGrant e d = ctxAll (fcnt (setEnt d e.val { entAt d e.val with granted := true }) 13 (d.now - r.claimFrom)) := by
  simp only [devClaimGrant, hgranted, Bool.false_eq_true, if_false, hclaims, hreq]

theorem flowExpiry_kept {e : Fin 65536} (h : unclaimed (entAt d e.val) = false ∨ d.now ≤ (entAt d e.val).lastEnd + fld d Reg.FCS_CFG 31 16 * 10 ^ 9) : devFlowExpiry e d = d :=
  if_pos (h.elim (fun hclaimed => .inr (.inl hclaimed)) fun hyoung => .inr (.inr (.inr hyoung)))

theorem dropFlow_inMemory {e : Nat} (hst : (entAt d e).st = .inMemory) (hclaims : (entAt d e).claims = []) : dropFlow d e = setEnt d e {} := by
  simp only [dropFlow, hst, dropDone, hclaims, List.isEmpty_nil, if_true]

/-- An idle entry in memory becomes free. -/
theorem flowExpiry_idle {e : Fin 65536} (hst : (entAt d e.val).st = .inMemory) (hclaims : (entAt d e.val).claims = []) (hdrop : (entAt d e.val).dropMark = false)
    (hidle : (entAt d e.val).lastEnd + fld d Reg.FCS_CFG 31 16 * 10 ^ 9 < d.now) : devFlowExpiry e d = setEnt (fcnt d 10 1) e.val {} := by
  have hopen : ¬ ((entAt d e.val).st = .free ∨ unclaimed (entAt d e.val) = false ∨ (entAt d e.val).dropMark = true ∨ d.now ≤ (entAt d e.val).lastEnd + fld d Reg.FCS_CFG 31 16 * 10 ^ 9) := by
    simp only [hst, unclaimed, hclaims, List.isEmpty_nil, hdrop, reduceCtorEq, Bool.true_eq_false, Bool.false_eq_true, false_or, Nat.not_le]
    exact hidle
  exact (if_neg hopen).trans (dropFlow_inMemory hst hclaims)

end Sys2Proof.Machine
end

section
/-! SUPPORT. The statement on the flow context store settled (14 R397 to R412). -/

set_option autoImplicit false

namespace Sys2Proof.Machine

/-- Settles O38: what each message at the head of the queue does, the delivery of a copy, write-backs, claims and expiry. -/
theorem flowStore : Obligations.FlowStore := by
  refine ⟨fun s e hlive => ?_, fun s c m rest d hawake hmsgs hd => ?_, fun d q i j slot e spad bs z hq hz => snoopDone_words hq hz, fun s c e h t hawake hheld => ?_, fun s e hlive => ?_⟩
  · rw [exec_claimGrant, onDev_live hlive]
    refine ⟨fun h => ?_, fun h r l hgranted hclaims hreq => ?_⟩
    · rw [claimGrant_granted h]
    · rw [claimGrant_first hgranted hclaims hreq]
  · obtain rfl : d = withMsgs s.dev rest := hd
    rw [exec_leaving, exec_notice, exec_snoop, exec_retry, exec_drop]
    simp only [onAwake_awake hawake]
    refine ⟨?_, ?_, ?_, ?_, ?_, ?_, ?_⟩
    · rintro e t rfl
      rw [devLeaving_head hmsgs]
      exact ⟨fun hst => by rw [if_pos hst], fun hst => by rw [if_neg hst]⟩
    · rintro e t rfl hst hdrop
      rw [devNotice_head hmsgs hst hdrop rfl]
      exact ⟨fun hfail => by rw [if_neg (by rw [hfail]; decide)], fun hfail => by rw [if_pos hfail]⟩
    · rintro e r spad slot rfl
      refine ⟨fun hheld => by rw [devSnoop_gone hmsgs hheld], fun h hheld => ?_⟩
      rw [devSnoop_held hmsgs hheld]
      refine ⟨fun hleaving => ?_, fun hstays hgone => ?_, fun ws b hstays hwaits hcopy => ?_⟩
      · rw [if_pos hleaving]
      · rw [hstays, hgone, Option.isSome_none, if_neg Bool.false_ne_true, Bool.not_false, if_pos rfl]
      · rw [hstays, hwaits, hcopy, Option.isSome_none, if_neg Bool.false_ne_true, Bool.not_true, if_neg Bool.false_ne_true]
    · rintro e r spad slot bs rfl
      rw [devSnoop_taken hmsgs]
      exact ⟨fun hwaits => by rw [if_pos hwaits], fun hgone => by rw [if_neg (by rw [hgone]; decide)]⟩
    · rintro e t spad slot rfl
      rw [devRetry_head hmsgs]
      refine ⟨fun hgone => ?_, fun hwaits hst htag => ?_, fun hwaits htag => ?_⟩
      · rw [hgone, Bool.not_false, if_pos rfl]
      · rw [hwaits, Bool.not_true, if_neg Bool.false_ne_true, if_pos ⟨hst, htag⟩]
      · rw [hwaits, Bool.not_true, if_neg Bool.false_ne_true, if_neg (by simp [htag])]
    · rintro e h rfl hheld hdrop
      rw [devDrop_held hmsgs hheld hdrop]
    · rintro e rfl hheld
      rw [devDrop_gone hmsgs hheld]
  · rw [exec_evictionWritebackComplete, onAwake_awake hawake]
    exact ⟨fun hstays => by rw [writebackComplete_staying hheld hstays], fun d hleaving hstore hdrop => by rw [writebackComplete_home hheld hleaving hstore hdrop]⟩
  · rw [exec_flowExpiry, onDev_live hlive]
    exact ⟨fun hst hclaims _ hdrop hidle => by rw [flowExpiry_idle hst hclaims hdrop hidle], fun hkept => by rw [flowExpiry_kept hkept]⟩

end Sys2Proof.Machine
end

section
/-! SUPPORT. The timers (15 R427 to R434): the count that gives an event, captures, starts, stops and loads of 0, and global starts. -/

set_option autoImplicit false

namespace Sys2Proof.Machine

variable {d : Dev} {n y : Nat}

/-! ### What a count event gives (15 R427, R428) -/

theorem countEvent_wraps {t : Timer} (hself : t.selfReset = false) (htop : t.count + 1 = 2 ^ tmWidth d n) :
    countEvent d n t = ({ copyPreloads d n t with count := 0 }, (List.range 4).filter (fun x => decide (t.cmp.getD x 0 = 0)) ++ [4]) := by
  simp only [countEvent, hself, Bool.false_eq_true, if_false, htop, if_true]

theorem countEvent_steps {t : Timer} (hself : t.selfReset = false) (htop : t.count + 1 ≠ 2 ^ tmWidth d n) :
    countEvent d n t = ({ t with count := t.count + 1 }, (List.range 4).filter (fun x => decide (t.cmp.getD x 0 = t.count + 1))) := by
  simp only [countEvent, hself, Bool.false_eq_true, if_false, htop, List.append_nil]

/-- The count that gives an event: 0 for the overflow, 4, and the compare's value for a match. -/
def eventCount (y : Nat) (t : Timer) : Nat := if y = 4 then 0 else t.cmp.getD y 0

/-- The count before the one that gives an event. -/
def countBefore (d : Dev) (n y : Nat) (t : Timer) : Nat := if eventCount y t = 0 then 2 ^ tmWidth d n - 1 else eventCount y t - 1

theorem countBefore_of_wrap {t : Timer} (htop : t.count + 1 = 2 ^ tmWidth d n) (h : y ∈ (List.range 4).filter (fun x => decide (t.cmp.getD x 0 = 0)) ++ [4]) :
    countBefore d n y t = t.count := by
  have hzero : eventCount y t = 0 := by
    simp only [List.mem_append, List.mem_filter, decide_eq_true_eq, List.mem_singleton] at h
    rw [eventCount]
    split
    · rfl
    · exact h.elim (fun hmatch => hmatch.2) (fun hovf => absurd hovf ‹_›)
  rw [countBefore, if_pos hzero]
  omega

theorem countBefore_of_step {t : Timer} (h : y ∈ (List.range 4).filter (fun x => decide (t.cmp.getD x 0 = t.count + 1))) : countBefore d n y t = t.count := by
  simp only [List.mem_filter, List.mem_range, decide_eq_true_eq] at h
  obtain ⟨hlow, hcmp⟩ := h
  have hcount : eventCount y t = t.count + 1 := (if_neg (by omega)).trans hcmp
  rw [countBefore, hcount, if_neg (Nat.succ_ne_zero _)]
  rfl

/-- The next count of a timer gives an event only from the count before it. -/
theorem countBefore_of_event {t : Timer} (hself : t.selfReset = false) (h : y ∈ (countEvent d n t).2) : countBefore d n y t = t.count := by
  by_cases htop : t.count + 1 = 2 ^ tmWidth d n
  · rw [countEvent_wraps hself htop] at h
    exact countBefore_of_wrap htop h
  · rw [countEvent_steps hself htop] at h
    exact countBefore_of_step h

/-! ### Timers that a pin times -/

/-- Whether a pin's edges up to the one that gives an event give no other. -/
def nearEvent (d : Dev) (n y : Nat) (t : Timer) : Bool :=
  !t.selfReset && decide (t.count ≤ countBefore d n y t) &&
    (List.range 4).all (fun x => !(decide (t.count < t.cmp.getD x 0) && decide (t.cmp.getD x 0 ≤ countBefore d n y t)))

/-- A timer with the edges before an event counted. -/
def skipTo (d : Dev) (n y : Nat) (t : Timer) : Timer := if nearEvent d n y t then { t with count := countBefore d n y t } else t

/-- A timer whose next count gives the event skips no edge. -/
theorem skipTo_of_event {t : Timer} (h : y ∈ (countEvent d n t).2) : skipTo d n y t = t := by
  rw [skipTo]
  split
  · next hnear =>
    have hself : t.selfReset = false := by
      simp only [nearEvent, Bool.and_eq_true, Bool.not_eq_true'] at hnear
      exact hnear.1.1
    rw [countBefore_of_event hself h]
  · rfl

/-- The counts up to a compare are passed over when no other compare lies between. -/
theorem skipTo_of_gap {t : Timer} {k : Nat} (hy : y < 4) (hself : t.selfReset = false) (hcmp : t.cmp.getD y 0 = k + 1) (hcount : t.count ≤ k)
    (hgap : ∀ x, x < 4 → t.cmp.getD x 0 ≤ t.count ∨ k < t.cmp.getD x 0) : skipTo d n y t = { t with count := k } := by
  have hevent : eventCount y t = k + 1 := (if_neg (by omega)).trans hcmp
  have hbefore : countBefore d n y t = k := by rw [countBefore, hevent, if_neg (Nat.succ_ne_zero k), Nat.add_sub_cancel]
  have hall : (List.range 4).all (fun x => !(decide (t.count < t.cmp.getD x 0) && decide (t.cmp.getD x 0 ≤ k))) = true := by
    simp only [List.all_eq_true, List.mem_range, Bool.not_eq_true', Bool.and_eq_false_iff, decide_eq_false_iff_not, Nat.not_lt, Nat.not_le]
    exact hgap
  rw [skipTo, nearEvent, hbefore, hself, hall, decide_eq_true hcount, Bool.not_false, Bool.and_true, Bool.and_true, if_pos rfl]

/-- The count up to a compare gives its match. -/
theorem match_at {t u : Timer} {k : Nat} {evs : List Nat} (hy : y < 4) (hself : t.selfReset = false) (hcmp : t.cmp.getD y 0 = k + 1) (htop : k + 1 < 2 ^ tmWidth d n)
    (hev : countEvent d n { t with count := k } = (u, evs)) : y ∈ evs := by
  have hsteps := countEvent_steps (d := d) (n := n) (t := { t with count := k }) hself (Nat.ne_of_lt htop)
  obtain ⟨-, rfl⟩ := Prod.mk.inj (hev.symm.trans hsteps)
  exact List.mem_filter.mpr ⟨List.mem_range.mpr hy, decide_eq_true hcmp⟩

/-- A timer after a count event: its SELF actions, then the outward actions of the events. -/
def counted (d : Dev) (n : Nat) (t : Timer) (evs : List Nat) : Dev :=
  outwards true (setTimer d n (selfActions d n evs { t with ovf := t.ovf || evs.contains 4 })) n evs

theorem countTo_eq (n y : Nat) (d : Dev) :
    countTo n y d =
      if !(timerAt d n).running || tmFrozen d n then d
      else if (countEvent d n (skipTo d n y (timerAt d n))).2.contains y && decide (d.code ≠ stSleep) then
        counted d n (countEvent d n (skipTo d n y (timerAt d n))).1 (countEvent d n (skipTo d n y (timerAt d n))).2
      else d := rfl

theorem countTo_event {t : Timer} {evs : List Nat} (hrun : (timerAt d n).running = true) (hfrozen : tmFrozen d n = false) (hcode : d.code ≠ stSleep)
    (hev : countEvent d n (skipTo d n y (timerAt d n)) = (t, evs)) (hy : y ∈ evs) : countTo n y d = counted d n t evs := by
  have hcounts : (evs.contains y && decide (d.code ≠ stSleep)) = true := by simp [hy, hcode]
  rw [countTo_eq, hrun, hfrozen, hev]
  exact if_pos hcounts

theorem countTo_stopped (h : (timerAt d n).running = false ∨ tmFrozen d n = true) : countTo n y d = d :=
  if_pos (by simpa using h)

theorem countTo_asleep (h : d.code = stSleep) : countTo n y d = d := by
  simp only [countTo, h, ne_eq, not_true_eq_false, decide_false, Bool.and_false, Bool.false_eq_true, if_false, ite_self]

/-! ### The commands of an event -/

theorem timerRow_pin (h : pinTimed d n = true) : timerRow n y d = countTo n y d := if_pos h

theorem timerRow_own (h : pinTimed d n = false) (hcode : d.code ≠ stSleep) : timerRow n y d = if y ∈ nextEvents d n then timeTick d else d := by
  simp only [timerRow, h, Bool.false_eq_true, if_false, decide_eq_true hcode, Bool.true_and, List.contains_iff_mem]

/-- A timer that is stopped, frozen or asleep does not count. -/
theorem timerRow_stopped (h : (timerAt d n).running = false ∨ tmFrozen d n = true ∨ d.code = stSleep) : timerRow n y d = d := by
  by_cases hcode : d.code = stSleep
  · by_cases hpin : pinTimed d n = true
    · rw [timerRow_pin hpin, countTo_asleep hcode]
    · simp only [timerRow, hpin, hcode, ne_eq, not_true_eq_false, decide_false, Bool.false_and, Bool.false_eq_true, if_false]
  · have hstill : (timerAt d n).running = false ∨ tmFrozen d n = true := by tauto
    cases hpin : pinTimed d n with
    | true => rw [timerRow_pin hpin, countTo_stopped hstill]
    | false =>
      have hnone : nextEvents d n = [] := by
        obtain hrun | hfrozen := hstill
        · simp [nextEvents, hrun]
        · simp [nextEvents, hfrozen]
      rw [timerRow_own hpin hcode, hnone, if_neg (List.not_mem_nil)]

/-! ### Captures (15 R431) -/

/-- A package whose timer has captured, with CAP_EVT set. -/
def captured (d : Dev) (n k : Nat) : Dev :=
  evt (setTimer d n { timerAt d n with cap := setAt (timerAt d n).cap k (timerAt d n).count }) (Reg.TIM_STATUS n) (8 + k)

theorem capture_eq (n k : Nat) (d : Dev) :
    capture n k d = if (rd d (Reg.TIM_STATUS n)).getLsbD (8 + k) then evt (captured d n k) (Reg.TIM_STATUS n) (10 + k) else captured d n k := rfl

theorem timerAt_evt (d : Dev) (a bit m : Nat) : timerAt (evt d a bit) m = timerAt d m := rfl

theorem timerAt_capture (d : Dev) (n k m : Nat) :
    timerAt (capture n k d) m = timerAt (setTimer d n { timerAt d n with cap := setAt (timerAt d n).cap k (timerAt d n).count }) m := by
  rw [capture_eq]
  split <;> rfl

theorem captured_event (d : Dev) (n : Nat) {k : Nat} (h : k < 2) : (rd (captured d n k) (Reg.TIM_STATUS n)).getLsbD (8 + k) = true := evt_getLsbD _ _ _ (by omega)

theorem capture_event (d : Dev) (n : Nat) {k : Nat} (h : k < 2) : (rd (capture n k d) (Reg.TIM_STATUS n)).getLsbD (8 + k) = true := by
  rw [capture_eq]
  split
  · rw [evt_getLsbD_ne _ _ (by omega), captured_event d n h]
  · exact captured_event d n h

theorem capture_overrun (n : Nat) {k : Nat} (h : k < 2) (hset : (rd d (Reg.TIM_STATUS n)).getLsbD (8 + k) = true) : (rd (capture n k d) (Reg.TIM_STATUS n)).getLsbD (10 + k) = true := by
  rw [capture_eq, if_pos hset]
  exact evt_getLsbD _ _ _ (by omega)

theorem capture_frame (d : Dev) (n k : Nat) : (capture n k d).now = d.now ∧ (capture n k d).core = d.core := by
  rw [capture_eq]
  split <;> exact ⟨rfl, rfl⟩

theorem devTimerCapture_triggered {n : Fin 32} {k : Fin 2} (hlow : 1 ≤ fld d (Reg.TIM_CAP_CFG n.val) (4 * k.val + 3) (4 * k.val))
    (hhigh : fld d (Reg.TIM_CAP_CFG n.val) (4 * k.val + 3) (4 * k.val) ≤ 9) : devTimerCapture n k d = capture n.val k.val d := if_pos ⟨hlow, hhigh⟩

/-! ### Management writes of a timer -/

/-- A write that changes nothing leaves the machine, whether the port is open or not. -/
theorem onDev_byWrite_same {f : Dev → Dev} {s : State} (hlive : live s.dev = true) (h : f s.dev = s.dev) : onDev (byWrite f) s = .next s := by
  cases hopen : mgmtOpen s.dev with
  | true => rw [onDev_byWrite_open hlive hopen, h]
  | false => exact onDev_byWrite_shut hlive hopen

theorem loadZero_cmp (d : Dev) (n : Nat) (t : Timer) {x : Nat} (h : x < 4) : (loadZero d n t).cmp.getD x 0 = if tmPreload d n x then t.pre.getD x 0 else t.cmp.getD x 0 := by
  show ((List.range 4).map (fun x => if tmPreload d n x then t.pre.getD x 0 else t.cmp.getD x 0)).getD x 0 = _
  rw [List.getD_eq_getElem _ _ (by simpa using h)]
  simp

/-! ### Global starts (15 R432) -/

theorem gstartGo_odd (res : Bool) (h : (rdn d Reg.TIM_GSTART_AT_LO + 2 ^ 32 * rdn d Reg.TIM_GSTART_AT_HI) % 2 = 1) : devGstartGo false res d = d := by
  simp only [devGstartGo, h, decide_true, Bool.not_false, Bool.and_self, if_true]

theorem gstartGo_arms {imm : Bool} (res : Bool) (h : imm = true ∨ (rdn d Reg.TIM_GSTART_AT_LO + 2 ^ 32 * rdn d Reg.TIM_GSTART_AT_HI) % 2 = 0) :
    devGstartGo imm res d =
      { d with tim := { d.tim with gstart := some { at_ := rdn d Reg.TIM_GSTART_AT_LO + 2 ^ 32 * rdn d Reg.TIM_GSTART_AT_HI, immediate := imm, reset := res } } } := by
  refine if_neg ?_
  obtain rfl | heven := h
  · simp
  · rw [heven]
    simp

theorem globalStart_armed {g : GStart} (hg : d.tim.gstart = some g) (hcode : d.code ≠ stSleep) : devGlobalStart d = if gstartDue g (d.now + 2) then timeTick d else d := by
  simp only [devGlobalStart, hg, decide_eq_true hcode, Bool.and_true]

end Sys2Proof.Machine
end

section
/-! SUPPORT. The statement on the timers settled (15 R427 to R434). -/

set_option autoImplicit false

namespace Sys2Proof.Machine

/-- Settles O39: the count that gives an event, captures, the writes of a timer, and global starts. -/
theorem timerCommands : Obligations.TimerCommands := by
  refine ⟨fun s n y hlive => ?_, fun s n k c hlive hc => ?_, fun d n k hk => ?_, fun s n hlive => ?_, fun d n t => ⟨rfl, rfl, rfl, fun x hx => loadZero_cmp d n t hx⟩, fun s hlive => ?_⟩
  · rw [exec_timerCompareMatch, exec_timerOverflow, onDev_live hlive, onDev_live hlive, devTimerCompareMatch, devTimerOverflow]
    refine ⟨fun h => ?_, fun hpin hcode => ?_, fun t evs hpin hcode hrun hfrozen hev => ⟨fun hy => ?_, fun hy => ?_⟩, fun t evs k hpin hcode hrun hfrozen hself hcmp htop hcount hgap hev => ?_⟩
    · rw [timerRow_stopped h, timerRow_stopped h]
      exact ⟨rfl, rfl⟩
    · rw [timerRow_own hpin hcode, timerRow_own hpin hcode]
      exact ⟨fun h => by rw [if_pos h], fun h => by rw [if_neg h], fun h => by rw [if_pos h], fun h => by rw [if_neg h]⟩
    · rw [timerRow_pin hpin, countTo_event hrun hfrozen hcode (by rw [skipTo_of_event (by rw [hev]; exact hy), hev]) hy, counted]
    · rw [timerRow_pin hpin, countTo_event hrun hfrozen hcode (by rw [skipTo_of_event (by rw [hev]; exact hy), hev]) hy, counted]
    · have hskip := skipTo_of_gap (d := s.dev) (n := n.val) y.isLt hself hcmp hcount hgap
      rw [timerRow_pin hpin, countTo_event hrun hfrozen hcode (by rw [hskip, hev]) (match_at y.isLt hself hcmp htop hev), counted]
  · obtain ⟨hk, rfl, hopen⟩ | ⟨hk, rfl, hopen⟩ | ⟨rfl, hlow, hhigh⟩ := hc
    · rw [exec_swcap0, onDev_byWrite_open hlive hopen, hk, devSwcap0]
    · rw [exec_swcap1, onDev_byWrite_open hlive hopen, hk, devSwcap1]
    · rw [exec_timerCapture, onDev_live hlive, devTimerCapture_triggered hlow hhigh]
  · refine ⟨?_, capture_event d n hk, capture_overrun n hk, fun m hm => ?_, capture_frame d n k⟩
    · rw [timerAt_capture, timerAt_setTimer_same]
    · rw [timerAt_capture, timerAt_setTimer_ne d _ hm]
  · rw [exec_timerStart, exec_timerStop, exec_timerReset]
    refine ⟨fun hopen hlock => ?_, fun hlock => ?_⟩
    · simp only [onDev_byWrite_open hlive hopen, devTimerStart, devTimerStop, devTimerReset, hlock, Bool.false_eq_true, if_false, and_self]
    · exact ⟨onDev_byWrite_same hlive (if_pos hlock), onDev_byWrite_same hlive (if_pos hlock), onDev_byWrite_same hlive (if_pos hlock)⟩
  · simp only [exec_gstartGo, exec_globalStart, exec_pulseWidthExpiry]
    refine ⟨fun imm res a ha => ⟨fun hopen h => ?_, fun himm hodd => ?_⟩, fun g hg hcode => ?_, fun p => onDev_live hlive⟩
    · subst ha
      rw [onDev_byWrite_open hlive hopen, gstartGo_arms res h]
    · subst ha himm
      exact onDev_byWrite_same hlive (gstartGo_odd res hodd)
    · rw [onDev_live hlive, globalStart_armed hg hcode]
      refine ⟨fun hdue => ?_, fun himm hlater => ?_⟩
      · rw [if_pos (by simpa [gstartDue] using hdue)]
      · rw [if_neg (by simp [gstartDue, himm, hlater])]

end Sys2Proof.Machine
end

section
/-! SUPPORT. The time base (15 R416 to R423): PPS edges, the loss of the current reference, commit, cancel and requalification, and what they leave alone. -/

set_option autoImplicit false

namespace Sys2Proof.Machine

variable {d : Dev}

/-! ### PPS edges (15 Table TIME-2) -/

/-- The package with a PPS edge captured. -/
def ppsCaptured (d : Dev) : Dev := { cntSet d Reg.TBS_PPS_CAP_LO (BitVec.ofNat 64 d.now) with tim := { d.tim with ppsLast := some d.now } }

theorem devPpsEdge_onTime {t : Nat} (h : d.tim.ppsLast = some t) (hlow : t + 1000000000 ≤ d.now + ppsTol d) (hhigh : d.now ≤ t + 1000000000 + ppsTol d) :
    devPpsEdge d = noteOffset (refUp (ppsCaptured d) 2) 3 (ppsOffset d.now) := by
  simp only [devPpsEdge, h, hlow, hhigh, decide_true, Bool.and_self, if_true]
  rfl

theorem devPpsEdge_off (h : ∀ t, d.tim.ppsLast = some t → d.now + ppsTol d < t + 1000000000 ∨ t + 1000000000 + ppsTol d < d.now) : devPpsEdge d = refDown (ppsCaptured d) 2 := by
  cases hlast : d.tim.ppsLast with
  | none =>
    simp only [devPpsEdge, hlast, Bool.false_eq_true, if_false]
    rfl
  | some t =>
    have hoff : (decide (t + 1000000000 ≤ d.now + ppsTol d) && decide (d.now ≤ t + 1000000000 + ppsTol d)) = false := by
      simp only [Bool.and_eq_false_iff, decide_eq_false_iff_not, Nat.not_le]
      exact h t hlast
    simp only [devPpsEdge, hlast, hoff, Bool.false_eq_true, if_false]
    rfl

/-! ### Loss (15 R420) -/

/-- The package in HOLDOVER after the loss of its current reference. -/
def refLost (d : Dev) : Dev := { d with tim := { d.tim with current := 0, lost := some d.tim.current, lostFrom := d.now, phase := 3, requal := none } }

theorem devReferenceLoss_valid (h : codeValid d d.tim.current = true) : devReferenceLoss d = d := if_pos (.inr (.inr h))

theorem devReferenceLoss_lost (hholdover : d.tim.current ≠ 0) (hsleep : d.tim.current ≠ 4) (h : codeValid d d.tim.current = false) :
    devReferenceLoss d = elog 1 12 0x0C01 0 d.tim.current (steer (cntInc (evt (refLost d) Reg.TBS_EVT 2) (Reg.TBS_CNT_LO 2))) :=
  if_neg (by simp [hholdover, hsleep, h])

/-! ### Commit, cancel and requalification (15 R420 to R422) -/

/-- The package with another current reference and none lost. -/
def refTaken (d : Dev) (c : Nat) : Dev := { d with tim := { d.tim with current := c, lost := none, first := false } }

/-- The package with its commit counted. -/
def committed (d : Dev) : Dev := cntInc (evt (refTaken d (commitRef d)) Reg.TBS_EVT 0) (Reg.TBS_CNT_LO 0)

theorem devReferenceCommit_due (off : Int) (hcode : d.code ≠ stSleep) (h : commitDue d = true) :
    devReferenceCommit off d = refCheck (removeOffset (if commitRef d = 0 then evt (committed d) Reg.TBS_EVT 3 else committed d) off) :=
  if_neg (by simp [hcode, h])

theorem devReferenceCommit_early (off : Int) (h : d.code = stSleep ∨ commitDue d = false) : devReferenceCommit off d = d := if_pos h

theorem devReferenceCancel_valid (off : Int) {c : Nat} (hlost : d.tim.lost = some c) (hphase : d.tim.phase = 3) (hdue : commitDue d = false) (h : codeValid d c = true) :
    devReferenceCancel off d = refCheck (removeOffset (cntInc (evt { d with tim := { d.tim with current := c, lost := none } } Reg.TBS_EVT 1) (Reg.TBS_CNT_LO 1)) off) := by
  simp only [devReferenceCancel, hlost, hphase, h, hdue, and_self, if_true]

theorem devReferenceCancel_kept (off : Int) {c : Nat} (hlost : d.tim.lost = some c) (h : codeValid d c = false ∨ commitDue d = true) : devReferenceCancel off d = d := by
  have hkept : ¬ (d.tim.phase = 3 ∧ codeValid d c = true ∧ commitDue d = false) := by
    rintro ⟨-, hvalid, hdue⟩
    simp [hvalid, hdue] at h
  simp only [devReferenceCancel, hlost, if_neg hkept]

theorem devRequalCommit_due (off : Int) {r : Nat} (hr : d.tim.requal = some r) (h : d.tim.requalFrom + requalTime d ≤ d.now) :
    devRequalCommit off d = refCheck (removeOffset (cntInc (evt { d with tim := { d.tim with current := r, requal := none } } Reg.TBS_EVT 6) (Reg.TBS_CNT_LO 4)) off) := by
  simp only [devRequalCommit, hr, if_neg (Nat.not_lt.mpr h)]

theorem devRequalCommit_early (off : Int) {r : Nat} (hr : d.tim.requal = some r) (h : d.now < d.tim.requalFrom + requalTime d) : devRequalCommit off d = d := by
  simp only [devRequalCommit, hr, if_pos h]

theorem devRequalCommit_none (off : Int) (hr : d.tim.requal = none) : devRequalCommit off d = d := by
  simp only [devRequalCommit, hr]

/-! ### Lock (15 R423) -/

theorem devSlewLocked_reference (off : Fin 39) (hphase : d.tim.phase = 2) (h : d.tim.current ≠ 0) :
    devSlewLocked off d = steer { d with tim := { d.tim with phase := 1, offset := (off.val : Int) - 19 } } :=
  (if_pos hphase).trans (if_neg h)

theorem devSlewLocked_holdover (off : Fin 39) (hphase : d.tim.phase = 2) (h : d.tim.current = 0) : devSlewLocked off d = { d with tim := { d.tim with phase := 1 } } :=
  (if_pos hphase).trans (if_pos h)

theorem devSlewLocked_other (off : Fin 39) (h : d.tim.phase ≠ 2) : devSlewLocked off d = d := if_neg h

/-! ### What a reference that goes, and the removal of an offset, leave alone -/

theorem refCheck_timers (d : Dev) : (refCheck d).tim.timers = d.tim.timers := by
  simp only [refCheck]
  split
  · rfl
  · split
    · split <;> rfl
    · rfl

theorem refDown_timers (d : Dev) (r : Nat) : (refDown d r).tim.timers = d.tim.timers := by
  rw [refDown]
  split
  · exact refCheck_timers _
  · rfl

/-- What the removal of an offset does not touch: the current reference, the lost one and the first acquisition, the cores and the memories. -/
def refView (d : Dev) : Nat × Option Nat × Bool × SMap Core × Mem := (d.tim.current, d.tim.lost, d.tim.first, d.core, d.mem)

theorem refView_steer (d : Dev) : refView (steer d) = refView d := rfl

theorem refView_farOffset (d : Dev) (off : Int) : refView (farOffset d off) = refView d := by
  rw [farOffset]
  split
  · simp only [refView, elog_tim, elog_core, elog_mem, alert_tim, alert_core, alert_mem]
    rfl
  · rfl

theorem refView_stepTime (d : Dev) (off : Int) : refView (stepTime d off) = refView d := rfl

theorem refView_removeOffset (d : Dev) (off : Int) : refView (removeOffset d off) = refView d := by
  simp only [removeOffset]
  split
  · rfl
  · split
    · rw [refView_steer, refView_stepTime]
      rfl
    · rw [refView_farOffset, refView_steer]
      rfl

theorem refView_refCheck (d : Dev) : refView (refCheck d) = refView d := by
  simp only [refCheck]
  split
  · rfl
  · split
    · split <;> rfl
    · rfl

/-! ### The reference that a commit takes -/

theorem codeValid_first {l : List Nat} {p : Nat → Bool} (h : ∀ c, p c = true → codeValid d c = true) : codeValid d ((l.find? p).getD 0) = true := by
  cases hfind : l.find? p with
  | none => rfl
  | some c => exact h c (List.find?_some hfind)

theorem commitRef_qualifying (h : d.tim.phase = 3) : commitRef d = ((refOrder d).find? (fun c => decide (some c ≠ d.tim.lost) && codeValid d c)).getD 0 := if_pos h

theorem commitRef_best (h : d.tim.phase ≠ 3) : commitRef d = bestRef d := if_neg h

theorem codeValid_commitRef (d : Dev) : codeValid d (commitRef d) = true := by
  by_cases h : d.tim.phase = 3
  · rw [commitRef_qualifying h]
    exact codeValid_first fun c hc => (Bool.and_eq_true_iff.mp hc).2
  · rw [commitRef_best h]
    exact codeValid_first fun _ hc => hc

/-- A commit after a loss never takes the lost reference. -/
theorem commitRef_not_lost (h : d.tim.phase = 3) : commitRef d = 0 ∨ d.tim.lost ≠ some (commitRef d) := by
  rw [commitRef_qualifying h]
  cases hfind : (refOrder d).find? (fun c => decide (some c ≠ d.tim.lost) && codeValid d c) with
  | none => exact .inl rfl
  | some c =>
    have htaken : (decide (some c ≠ d.tim.lost) && codeValid d c) = true := List.find?_some (p := fun c => decide (some c ≠ d.tim.lost) && codeValid d c) hfind
    have hother : some c ≠ d.tim.lost := of_decide_eq_true (Bool.and_eq_true_iff.mp htaken).1
    exact .inr hother.symm

end Sys2Proof.Machine
end

section
/-! SUPPORT. The statement on the references of the time base settled (15 R416 to R423). -/

set_option autoImplicit false

namespace Sys2Proof.Machine

/-- Settles O40: each command of the time base by its case, and the frames of what they share. -/
theorem timeReferences : Obligations.TimeReferences := by
  refine ⟨fun s hlive => ?_, fun d r => ?_, fun d off => ?_, fun d => ⟨codeValid_commitRef d, commitRef_best, commitRef_not_lost⟩⟩
  · simp only [exec_ppsEdge, exec_ppsTimeout, exec_ptpSyncLoss, exec_referenceLoss, exec_referenceCommit, exec_referenceCancel, exec_requalCommit, exec_slewLocked, onDev_live hlive]
    refine ⟨fun d hd => ⟨fun t hlast hlow hhigh => ?_, fun hoff => ?_⟩, rfl, fun n => rfl, fun hholdover hsleep => ⟨fun h => ?_, fun h => ?_⟩,
      fun off d hd => ⟨fun hcode hdue hc => ?_, fun hcode hdue hc => ?_, fun h => ?_⟩, fun off c hlost hphase hdue => ⟨fun h => ?_, fun h => ?_⟩, fun off c hlost hdue => ?_,
      fun off r hr => ⟨fun h => ?_, fun h => ?_⟩, fun off hr => ?_, fun off => ⟨fun hphase h => ?_, fun hphase h => ?_, fun h => ?_⟩⟩
    · rw [devPpsEdge_onTime hlast hlow hhigh, hd, ppsCaptured]
    · rw [devPpsEdge_off hoff, hd, ppsCaptured]
    · rw [devReferenceLoss_valid h]
    · rw [devReferenceLoss_lost hholdover hsleep h, refLost]
    · rw [devReferenceCommit_due off hcode hdue, if_neg hc, committed, refTaken, hd]
    · rw [devReferenceCommit_due off hcode hdue, if_pos hc, committed, refTaken, hd]
    · rw [devReferenceCommit_early off h]
    · rw [devReferenceCancel_valid off hlost hphase hdue h]
    · rw [devReferenceCancel_kept off hlost (.inl h)]
    · rw [devReferenceCancel_kept off hlost (.inr hdue)]
    · rw [devRequalCommit_due off hr h]
    · rw [devRequalCommit_early off hr h]
    · rw [devRequalCommit_none off hr]
    · rw [devSlewLocked_reference off hphase h]
    · rw [devSlewLocked_holdover off hphase h]
    · rw [devSlewLocked_other off h]
  · obtain ⟨t, ht, -, -⟩ := refDown_eq d r
    exact ⟨valid_refDown d r, by rw [ht], by rw [ht], refDown_timers d r⟩
  · have hview : refView (refCheck (removeOffset d off)) = refView d := (refView_refCheck _).trans (refView_removeOffset d off)
    simpa only [refView, Prod.mk.injEq] using hview

end Sys2Proof.Machine
end
